-- ==== Sys2Proof/Word.lean ====
section
/-! DEFINITION. The word types of the model: bytes, step words and bodies, rail and Yuley slots, timing messages. -/

namespace Sys2Proof

/-- A byte of any memory of the module (R4). -/
abbrev Byte := BitVec 8

/-- A step: one 128-bit scheduled operation (R217). -/
abbrev StepWord := BitVec 128

/-- The body of a step, bits [79:0] of its word (R217). -/
abbrev Body := BitVec 80

/-- A slot of 64 bytes of a rail or Yuley packet (R250, R378), byte 0 in bits [7:0]. -/
abbrev Slot := BitVec 512

/-- A timing message (R25) or a Sill control word (R178). -/
abbrev Word128 := BitVec 128

/-- A rail control word (R256). -/
abbrev Word256 := BitVec 256

end Sys2Proof
end

