-- ==== Sys2Proof/Syntax.lean ====
section
/-! DEFINITION. The commands of the block: one constructor of `Instr` for each row of spec/opcode_table.json.
An operand carries what the outside world, or the analog part that the spec leaves to measurement, supplies with the
event: a received word, a sensor reading, a pattern of bit errors (log entry 12). -/

namespace Sys2Proof

/-- A physical tiller: its die and its number on the die (R45, R86). -/
structure TillerId where
  die : Fin 8
  phys : Fin 288
deriving DecidableEq, Repr

/-- A command in progress, as its reply names it (R378). -/
structure CmdRef where
  /-- port on which the command came (R377). -/
  port : Nat := 0
  /-- channel (R375). -/
  channel : Nat := 0
  /-- tag echoed in the reply (R378). -/
  tag : Nat := 0
  /-- opcode echoed in the reply (R378). -/
  opcode : Nat := 0
  /-- quiet: no reply on success (R379). -/
  quiet : Bool := false
  /-- protocol generation of the session (R381). -/
  gen : Nat := 0
deriving DecidableEq, Repr

/-- A command packet as delivered by a port: its header and its payload (R378). -/
structure CmdPkt where
  /-- port on which it came. -/
  port : Nat := 0
  /-- the 32-byte header. -/
  hdr : BitVec 256 := 0
  /-- the payload. -/
  payload : List (BitVec 8) := []
deriving DecidableEq, Repr

/-- A word error that a crib read meets: a single bit, which the code corrects, or an error it can only detect, with the
data bits that read flipped (R113). -/
structure CribUpset where
  row : Fin 57344
  word : Fin 32
  multi : Bool
  flip : BitVec 64
deriving DecidableEq, Repr

/-- Noise on one row transfer over a dowel group, at a row-cycle of its move: for each of its first transmissions the
active lanes that arrive flipped, and the lanes in error that a scan on the immediate path finds (R116 to R118). -/
structure DowelFail where
  group : Fin 8
  cycle : Nat
  flips : List (BitVec 2336)
  lanes : List (Fin 2372)
deriving DecidableEq, Repr

/-- What noise does to a crib move or the crib side of a stream (log entry 15). -/
structure CribNoise where
  upsets : List CribUpset := []
  fails : List DowelFail := []
deriving DecidableEq, Repr

/-- Errors in the stored code word of a burst or on its bus: the burst, and the bits that flip, lane i in bits
[8i + 7:8i] with beat b at bit b (R196, log entry 15). -/
structure HbmUpset where
  burst : Nat
  flip : BitVec 272
deriving DecidableEq, Repr

/-- Where a ring stands (R276). -/
inductive RingPlace where
  /-- a transmit ring (`rx` false) or a receive ring of a Sill port of a site (R156). -/
  | port (site : BitVec 8) (port : Fin 32) (rx : Bool)
  /-- a transmit ring or a receive ring of rail 0 to 25, or of Yuley port Y0 (26) or Y1 (27), on its fibre (R273). -/
  | fibre (link : Fin 28) (rx : Bool)
  /-- a ring of a peg, numbered as R162 does. -/
  | peg (n : Fin 8192)
  /-- a ring of a site on its control waveguides, in one direction (R179, R292). -/
  | control (site : BitVec 8) (rx : Bool)
  /-- a ring of the control relay at crossing x(p,g), number 8g + p (R179). -/
  | relay (n : Fin 32)
  /-- the reference ring of a comb. -/
  | comb (c : Fin 8)
deriving DecidableEq, Repr

/-- A ring: its place and its wavelength (R276). -/
structure RingId where
  place : RingPlace
  wave : Fin 47
deriving DecidableEq, Repr

/-- What the calibration of a ring measures: h_cal, t_cal, S, rho in percent, P_off, k_ff, the fabrication offset o in pm
and the monitored power once it holds its line (R277, R278, R286). -/
structure RingCal where
  hcal : BitVec 16
  tcal : Fin 4096
  spacing : BitVec 16
  rho : Fin 101
  poff : BitVec 8
  kff : BitVec 32 := 0
  offset : BitVec 16 := 0
  power : BitVec 8 := 0
deriving DecidableEq, Repr

/-- The calibrations of some rings. -/
abbrev RingCals := List (RingId × RingCal)

/-- What a processor's firmware does in the handler that acknowledges, of which the table has no row of its own
(log entry 26). -/
structure ProcAct where
  /-- 0 the handler goes on, 1 it ends, 2 it ends and the processor waits for an interrupt (R408). -/
  after : Fin 3 := 0
  /-- mailboxes of which one message is read, by sender (R400, R404). -/
  reads : List (Fin 16) := []
  /-- PROC.STATE is written, with its heartbeat (R403, R412). -/
  beat : Bool := false
  /-- new enable bits (R413). -/
  enable : Option (BitVec 64) := none
  /-- the local timer is set to expire at this grain (R404). -/
  timer : Option (BitVec 64) := none
deriving DecidableEq, Repr

/-- What the tests of one tiller find: its self-test, the highest bin that passes, the active clock dowel if one passes,
and the lanes of its dowel groups that show an error (R122, R123, R426, R463). -/
structure TillerTest where
  tiller : TillerId
  pass : Bool := true
  maxBin : Fin 11 := 10
  clock : Option (Fin 4) := some 0
  bad : List (Fin 8 × Fin 2372) := []
deriving DecidableEq, Repr

/-- What the calibrations and tests of a bring-up or a recovery find; a unit that is not listed passes (R202, R295, R426,
R461). -/
structure BringTest where
  /-- combs that do not light. -/
  combs : List (Fin 8) := []
  /-- stacks whose training fails. -/
  hbm : List (Fin 32) := []
  /-- lanes that lane repair replaced, by stack. -/
  repaired : List (Fin 32 × Fin 64) := []
  tillers : List TillerTest := []
  /-- highest bin of a mesh panel, by die; 10 where not listed. -/
  meshes : List (Fin 8 × Fin 11) := []
  /-- Sill lanes that the lane calibration of step 5 or of recovery finds failing (R182, R295). -/
  lanes : List (Fin 1064960) := []
  /-- calibrations of the rings of the Sill (R295). -/
  rings : RingCals := []
  /-- mean line power of the combs, in 0.25 dBm (R278, R297). -/
  power : List (Fin 8 × BitVec 8) := []
deriving DecidableEq, Repr

/-- A reading of a temperature sensor: its kind in the order of R434, the unit that holds it (a die, a bay, a bank, a site or
a comb), its number there, and the value in 1/16 degree, signed; none where it fails to answer (R434). -/
structure SensorReading where
  kind : Fin 7
  unit : Nat := 0
  index : Nat := 0
  value : Option (BitVec 16) := none
deriving DecidableEq, Repr

/-- What the module measures at a fleet sheaf boundary: the input's voltage in 0.05 V, current in 0.1 A and power in W, the
power of each stack and of its crib in W, and the temperature sensors. A stack that is not listed draws nothing, and a
sensor that is not listed reads no more than the listed ones of its kind (R125, R126, R430, R434, log entry 12). -/
structure SheafReadings where
  volts : BitVec 12 := 1440
  amps : BitVec 12 := 0
  watts : BitVec 16 := 0
  stackPower : List (Fin 8 × BitVec 12 × BitVec 11) := []
  sensors : List SensorReading := []
deriving DecidableEq, Repr
/-- The commands, one for each row of the opcode table, in the table's order. -/
inductive Instr where
  /-- FLEET_SHEAF_BOUNDARY: The sheaf strobe marks a grain whose low 12 bits are zero, and every per-sheaf action of the module is taken at it. (R34) -/
  | fleetSheafBoundary (r : SheafReadings)
  /-- TIME_MARK: A time mark from the control node is received, checked against the local counter, and accepted or rejected. (R30) -/
  | timeMark (port : Fin 2) (msg : Word128) (frac : Fin 64)
  /-- TIME_MARK_MISSING: No mark arrives within 2 grains of the fleet sheaf boundary it should mark, so it counts as rejected. (R30) -/
  | timeMarkMissing (port : Fin 2)
  /-- DELAY_RESPONSE: A delay response is received and its round trip minus residence is recorded. (R28) -/
  | delayResponse (port : Fin 2) (msg : Word128) (frac : Fin 64)
  /-- TIME_FREQ_RECOVERED: A port recovers frequency from its timing wavelength, and the time state goes from unset to locking. (R32) -/
  | timeFreqRecovered (port : Fin 2)
  /-- TIME_FREQ_LOST: Every port loses frequency, and the time state returns to unset. (R32) -/
  | timeFreqLost
  /-- HOLDOVER_TO_DRIFT: The growing error estimate exceeds 1 grain in holdover, and the state becomes drift. (R32) -/
  | holdoverToDrift
  /-- REFCLK_ABSENT: REFCLK is judged absent after 100 ns without an edge or a ratio outside 100 ppm, and holdover passes to drift. (R517) -/
  | refclkAbsent
  /-- SLEW_DONE: Slewing or retarding brings the counter offset within 1 grain, and the time state becomes locked. (R31) -/
  | slewDone
  /-- RUN_START_GRAIN: The start or resume grain is reached, B is set, and the state goes from armed to running. (R38) -/
  | runStartGrain
  /-- STEP_ISSUE: The head step of a queue issues once its due grain has passed, its wait tokens are satisfied and its unit is free. (R42) -/
  | stepIssue (eng : BitVec 16)
  /-- OVERRUN_PACED: Once 1,024 schedule sheaves have passed since the last OVERRUN, the collected overruns raise one OVERRUN. (R46) -/
  | overrunPaced
  /-- TILLER_FLAG_PACED: Once 1,024 schedule sheaves have passed since the last TILLER_FLAG, the collected flag changes raise one TILLER_FLAG. (R89) -/
  | tillerFlagPaced
  /-- TOKEN_POST: A post arrives at its counter and adds 1, together with its cause mask and error bit. (R40) -/
  | tokenPost (eng : BitVec 16) (counter : Fin 64) (flip : Word128)
  /-- STEP_COMPLETE: An issued step completes with a status and posts once through its route-table entry. (R57) -/
  | stepComplete (eng : BitVec 16) (unit : Fin 6)
  /-- IDLE_SHEAF_INSERT: The throttle accumulator reaches 100, and the fleet sheaf that begins is inserted idle. (R437) -/
  | idleSheafInsert
  /-- MMA: Multiply-accumulate one 96 x 64 tile into a bin bank, optionally clearing the bank and setting its anchor. (R63) -/
  | mma (t : TillerId) (body : Body)
  /-- MOUT: Round a bin bank to an output format, write it to local store and OR its sticky flags into TIL.FLAGS. (R66) -/
  | mout (t : TillerId) (body : Body)
  /-- BEXP: Export a bin bank as a raw record to local store. (R68) -/
  | bexp (t : TillerId) (body : Body)
  /-- BADD: Add a raw bin record into a bank, or load it, checking that the anchors are equal. (R69) -/
  | badd (t : TillerId) (body : Body)
  /-- VBIN: Perform an elementwise binary vector operation. (R71) -/
  | vbin (t : TillerId) (body : Body)
  /-- VFMA: Perform a vector fused multiply-add with one rounding. (R71) -/
  | vfma (t : TillerId) (body : Body)
  /-- VFUN: Apply a unary function or conversion, correctly rounded. (R110) -/
  | vfun (t : TillerId) (body : Body)
  /-- VRED: Perform a segmented reduction: an ordered-tree or bin sum, maximum, minimum or argmax. (R73) -/
  | vred (t : TillerId) (body : Body)
  /-- VPACK: Convert row-major FP32/BF16 data to matrix operand layout, with MX scales. (R75) -/
  | vpack (t : TillerId) (body : Body)
  /-- VUNPACK: Convert matrix operand layout to row-major FP32/BF16 data. (R75) -/
  | vunpack (t : TillerId) (body : Body)
  /-- VRNG: Draw Philox4x32-10 random numbers and advance the RNG counter. (R82) -/
  | vrng (t : TillerId) (body : Body)
  /-- VSETSEL: Load a selector register with min(value, 255). (R76) -/
  | vsetsel (t : TillerId) (body : Body)
  /-- VPOS: Write a ramp of positions as position elements or as FP32 values. (R85) -/
  | vpos (t : TillerId) (body : Body)
  /-- CLOAD: Copy crib rows into local store. (R78) -/
  | cload (t : TillerId) (body : Body) (noise : CribNoise)
  /-- CSTORE: Copy local-store rows into crib rows. (R78) -/
  | cstore (t : TillerId) (body : Body) (noise : CribNoise)
  /-- MSEND: Send local-store granules over the mesh to one tiller, or to a logical row or column of tillers. (R80) -/
  | msend (t : TillerId) (body : Body)
  /-- CRIB_WRITEBACK: A corrected row is written back in the next cycle in which its bank has no granted access. (R114) -/
  | cribWriteback (t : TillerId) (row : Fin 57344)
  /-- LANE_SCAN: After a CRC failure the group runs a lane scan in 8 idle cycles and counts faults per lane. (R118) -/
  | laneScan (t : TillerId) (group : Fin 8) (lanes : List (Fin 2372))
  /-- DOWEL_REPAIR_APPLY: At the next fleet sheaf boundary a pending dowel repair takes effect, and a partition whose group fell to half width is marked degraded. (R120) -/
  | dowelRepairApply (t : TillerId)
  /-- STACK_CEILING_LOWER: At the next boundary the stack frequency ceiling falls one bin, and STACK_POWER_LIMIT is raised at most once per 1,024 sheaves. (R125) -/
  | stackCeilingLower (die : Fin 8)
  /-- STACK_CEILING_RAISE: After 256 consecutive sheaves more than 40 W below the cap, the stack ceiling rises one bin. (R125) -/
  | stackCeilingRaise (die : Fin 8)
  /-- MESH_CONTROL_FLIT: A control flit is consumed at its destination node as a post, an acknowledgement, a staging request or grant, or a fill. (R136) -/
  | meshControlFlit (die : Fin 8) (flit : Nat)
  /-- MESH_DATA_FLIT: A data flit is consumed by a mesh-in port, or by a staging slot that copies it on to the next leg. (R136) -/
  | meshDataFlit (die : Fin 8) (flit : Nat)
  /-- MESH_CREDIT_RETURN: A buffer slot's credit returns to the output port of the upstream node. (R143) -/
  | meshCreditReturn (die : Fin 8) (node : Fin 289) (port : Fin 17) (channel : Fin 3)
  /-- FLIT_DIVERT: A head flit that has waited 32 mesh cycles without a grant moves to the escape channel. (R146) -/
  | flitDivert (die : Fin 8) (flit : Nat)
  /-- STAGING_GRANT: A multicast member grants 16 staging slots to the lowest requesting source once 16 slots are free. (R149) -/
  | stagingGrant (die : Fin 8) (node : Fin 289)
  /-- MESH_FLIP_REQUEST: The die sequencer writes new route tables into the idle version and requests an epoch flip. (R142) -/
  | meshFlipRequest (die : Fin 8)
  /-- MESH_EPOCH_FLIP: At the next fleet sheaf boundary every node of the die changes its injection epoch. (R142) -/
  | meshEpochFlip (die : Fin 8)
  /-- MESH_DRAIN_ZERO: The count of old-epoch flits reaches 0, and the old tables become writable and disabled routers power down. (R142) -/
  | meshDrainZero (die : Fin 8)
  /-- MESH_DRAIN_TIMEOUT: The old-epoch count is not 0 within 100 us, and the die's run halts as a hardware fault. (R142) -/
  | meshDrainTimeout (die : Fin 8)
  /-- PEGSET: The Sill sequencer fetches a peg plan into its free plan buffer. (R164) -/
  | pegset (noise : List HbmUpset)
  /-- PEG_PLAN_EFFECT: A fetched plan takes effect at a schedule sheaf boundary, with changes to held pegs deferred. (R166) -/
  | pegPlanEffect
  /-- SMREAD: A stream step reads HBM3E into a crib partition. (R173) -/
  | smread (eng : BitVec 16) (noise : List HbmUpset) (crib : CribNoise) (waited : Fin 4)
  /-- SMWRITE: A stream step writes a crib partition to HBM3E. (R173) -/
  | smwrite (eng : BitVec 16) (crib : CribNoise) (waited : Fin 4)
  /-- SSEND: The sending side of a crib-to-crib stream between dies. (R174) -/
  | ssend (eng : BitVec 16) (crib : CribNoise)
  /-- SRECV: The receiving side of a crib-to-crib stream between dies. (R174) -/
  | srecv (eng : BitVec 16) (crib : CribNoise)
  /-- SLOUT: A stream step copies a crib to a rail-site buffer. (R173) -/
  | slout (eng : BitVec 16) (crib : CribNoise)
  /-- SLIN: A stream step copies a rail-site buffer to a crib. (R173) -/
  | slin (eng : BitVec 16) (crib : CribNoise)
  /-- STREAM_OPEN: A stream opens once all its matched steps have issued and its held pegs have settled, and unequal counts are refused. (R174) -/
  | streamOpen (eng : BitVec 16)
  /-- STREAM_UNMATCHED: An issued SSEND or SRECV whose match has not opened within 2^20 grains completes with error. (R174) -/
  | streamUnmatched (eng : BitVec 16)
  /-- SILL_FRAME_RECEIVE: A lane receives a Sill frame, checks it, and writes it or requests a retry. (R180) -/
  | sillFrameReceive (site : BitVec 8) (port : Fin 25) (wl : Fin 45) (tag : BitVec 16) (seq : BitVec 24) (frame : BitVec 2240) (hops : Fin 4)
  /-- SILL_RETRY_REQUEST: A retry request reaches the sender, which resends the frame on the next lane of the entry, or records it as lost. (R180) -/
  | sillRetryRequest (site : BitVec 8) (port : Fin 25) (wl : Fin 45) (tag : BitVec 16) (seq : BitVec 24) (link : Option (Fin 64)) (flip : Word128)
  /-- CONTROL_WORD_OPEN: An open or accept control word for a stream reaches its engine. (R178) -/
  | controlWordOpen (word : Word128)
  /-- CONTROL_WORD_CLOSE: A close control word carries a stream's final status to its partner. (R178) -/
  | controlWordClose (word : Word128)
  /-- CONTROL_WORD_ABORT: An abort control word ends a stream, and each engine completes aborted. (R185) -/
  | controlWordAbort (word : Word128)
  /-- CONTROL_WORD_REPEAT: 16 grains after a control word fails its check, the sender repeats it. (R179) -/
  | controlWordRepeat (word : Word128)
  /-- REFRESH_SLOT: At its fixed fleet grain each pseudo-channel issues one per-bank refresh. (R200) -/
  | refreshSlot (stack : Fin 32) (pc : Fin 32)
  /-- REFRESH_END: A bank leaves refresh, and accesses that waited on it proceed with the refresh flag. (R201) -/
  | refreshEnd (stack : Fin 32) (pc : Fin 32) (bank : Fin 48)
  /-- REFRESH_MODE_CHANGE: At a fleet sheaf boundary a stack changes between 1x and 2x refresh, and MEM_REFRESH_2X is raised on a change to 2x. (R200) -/
  | refreshModeChange (stack : Fin 32)
  /-- SCRUB_BURST: While no run or transfer is active, a port engine scrubs the next burst and writes back corrected data. (R199) -/
  | scrubBurst (noise : List HbmUpset)
  /-- MEM_TRAINING_LOST: A stack's interface loses training in service, the stack is marked failed and MEM_STACK_FAILED is raised. (R205) -/
  | memTrainingLost (stack : Fin 32)
  /-- WAITG: Advance the sheaf cursor by a long field and mark a scheduled point. (R221) -/
  | waitg (eng : BitVec 16)
  /-- WAIT: Wait on any counters of the engine named by a 64-bit mask. (R222) -/
  | waitStep (eng : BitVec 16)
  /-- BARRIER: A participant sends its barrier arrival to the counting point. (R224) -/
  | barrier (eng : BitVec 16)
  /-- BARRIER_ARRIVAL: The counting point counts an arrival and releases the barrier when the count is reached. (R224) -/
  | barrierArrival (eng : BitVec 16) (flip : Word128)
  /-- BARRIER_TIMEOUT: A participant not released within 2^24 grains completes with error and its arrival is withdrawn. (R224) -/
  | barrierTimeout (eng : BitVec 16)
  /-- SELECT: A select group issues as one step, reads a selector register and runs one member. (R81) -/
  | selectStep (eng : BitVec 16)
  /-- STREAM_SELECT: A stream-engine select group reads a tiller's selector register over the stream network and opens one member. (R227) -/
  | streamSelect (eng : BitVec 16)
  /-- CKPT: A checkpoint mark step issues once every unit of its engine is idle. (R228) -/
  | ckpt (eng : BitVec 16)
  /-- END: The last step of a queue completes once its engine's units are idle. (R230) -/
  | endStep (eng : BitVec 16)
  /-- RUN_PAUSE: Every CKPT of the requested mark has issued and no post is in flight, so the run pauses at the mark. (R229) -/
  | runPause
  /-- RUN_END: Every END has completed and no post is in flight, so the run ends and RUN_END is raised. (R230) -/
  | runEnd
  /-- QUEUE_REFILL: A sequencer fetches steps and refills a queue once 8 or more of its entries are free. (R237) -/
  | queueRefill (eng : BitVec 16) (noise : List HbmUpset)
  /-- LOAD_COMPLETE: The digest and segment checks finish, and the load ends in loaded or in a rejection code. (R231) -/
  | loadComplete (noise : List HbmUpset)
  /-- RAIL_FRAME_RECEIVE: A rail data, idle or training frame is decoded, checked and delivered, or sent back with a negative acknowledgement. (R249) -/
  | railFrameReceive (rail : Fin 26) (lane : Fin 34) (wave : Fin 34) (frame : BitVec 5140) (due : Option (BitVec 16)) (codes : List (Fin 545))
  /-- RAIL_CONTROL_LOCK_LOST: The control channel loses codeword lock for 64 consecutive codewords, and the rail goes DOWN. (R262) -/
  | railControlLockLost (rail : Fin 26)
  /-- RAIL_ACK: An ACK word frees the replay buffer and triggers the resend of a frame named by a negative acknowledgement. (R253) -/
  | railAck (rail : Fin 26) (word : BitVec 256)
  /-- RAIL_CREDIT: A CREDIT word updates the freed-slot counts per virtual channel. (R255) -/
  | railCredit (rail : Fin 26) (word : BitVec 256)
  /-- RAIL_TRAIN_WORD: A TRAIN word is checked in LINK, and a plane mismatch fails the rail with RAIL_MISWIRED. (R260) -/
  | railTrainWord (rail : Fin 26) (word : BitVec 256)
  /-- RAIL_TRAIN_STEP_DONE: The work of the OPTICAL, LOCK or QUALIFY state of a rail completes, and the rail moves to its next state. (R259) -/
  | railTrainStepDone (link : Fin 28) (tx : BitVec 34) (rx : BitVec 34) (cals : RingCals)
  /-- RAIL_TRAIN_TIMEOUT: A training state overruns its limit, the attempt ends, and the third failure makes the rail FAILED. (R259) -/
  | railTrainTimeout (link : Fin 28)
  /-- RAIL_SUBSTITUTE: At a fleet sheaf boundary, a logical rail without an ACTIVE physical rail is given a STANDBY rail, and RAIL_SPARED is raised. (R264) -/
  | railSubstitute
  /-- RAIL_ESCAPE_MOVE: A packet that has lacked credit for 4,096 grains moves to the escape channel. (R266) -/
  | railEscapeMove (rail : Fin 26) (channel : Fin 3)
  /-- RAIL_FLIP_WRITE: A write of RAIL.FLIP schedules an epoch flip at fleet sheaf F, or is rejected. (R267) -/
  | railFlipWrite (p : CmdPkt)
  /-- RAIL_MAP_WRITE: A write to a rail-map entry is accepted only into the version not in use. (R267) -/
  | railMapWrite (p : CmdPkt)
  /-- EPOCH_CONTRIBUTE: At fleet sheaf F - 32, Joiner contributes EPOCH with ready = 1. (R267) -/
  | epochContribute
  /-- EPOCH_RESULT: A combined EPOCH result word arrives for the flip key. (R258) -/
  | epochResult (rail : Fin 26) (word : BitVec 256)
  /-- RAIL_EPOCH_FLIP: At the boundary that begins F the module flips if the EPOCH result arrived, and otherwise raises RAIL_FLIP_FAILED. (R267) -/
  | railEpochFlip
  /-- RAIL_DRAIN_ZERO: The old-epoch packet count reaches 0, and flip_pending clears. (R268) -/
  | railDrainZero
  /-- RAIL_DRAIN_TIMEOUT: The drain has not ended within 2^20 grains of the flip, and the remaining packets are treated as undelivered. (R268) -/
  | railDrainTimeout
  /-- TALLY_RESULT: A TALLY result arrives and is stored for application at F + 4. (R436) -/
  | tallyResult (rail : Fin 26) (word : BitVec 256)
  /-- TIMECHK_RESULT: A TIMECHK result arrives, and a spread of 2 sheaves or more raises RAIL_TIME_MISMATCH. (R258) -/
  | timechkResult (rail : Fin 26) (word : BitVec 256)
  /-- BARRIER_RESULT: A stook BARRIER result word arrives and releases the waiting participants. (R224) -/
  | barrierResult (rail : Fin 26) (word : BitVec 256)
  /-- TALLY_MISS: No TALLY result for F has arrived by F + 4, so the module applies its own v and raises PWR_TALLY_MISSED. (R436) -/
  | tallyMiss
  /-- STRAY_COMBINED_WORD: A combined word with result 0, or for another stook, is discarded and counted. (R258) -/
  | strayCombinedWord (rail : Fin 26) (word : BitVec 256)
  /-- COMB_FAIL: A comb's power falls by 6 dB or its lines leave tolerance, and the survivor boosts, or the pair goes dark. (R275) -/
  | combFail (comb : Fin 8)
  /-- RING_LOOP_TICK: Every 2 us a ring's loop updates its feedforward, dither and trim. (R279) -/
  | ringLoopTick (ring : RingId) (tbank : BitVec 16) (hi : BitVec 8) (lo : BitVec 8)
  /-- RING_LOCKED: After 16 consecutive loop periods with |err| at most 4, a ring is locked. (R280) -/
  | ringLocked (ring : RingId)
  /-- RING_UNLOCKED: A ring's power falls below a quarter for 4 integrations, and it starts re-acquisition. (R280) -/
  | ringUnlocked (ring : RingId)
  /-- RING_REACQUIRED: A sweep and loop placement complete the re-acquisition of a ring. (R280) -/
  | ringReacquired (ring : RingId) (trim : BitVec 16) (power : BitVec 8)
  /-- IDENT_SEND: Every 64 codewords each end sends an IDENT word with its identity observations. (R284) -/
  | identSend (rail : Fin 26)
  /-- IDENT: An IDENT word is received, completing handovers and detecting wrong locks at the transmitter. (R284) -/
  | identWord (rail : Fin 26) (word : BitVec 256)
  /-- ROTATION_SLOT_END: A calibration slot of 2^16 codewords ends, is judged, and the next channel rotates onto the spare. (R288) -/
  | rotationSlotEnd (rail : Fin 26) (dir : Fin 2) (uncorrectable : BitVec 32) (errors : BitVec 32) (cal : RingCal) (combs : BitVec 16)
  /-- RING_SLIP_RECOVERY_DONE: The backwards sweep and re-acquisition of a slipped ring complete, and the wavelength becomes the spare. (R291) -/
  | ringSlipRecoveryDone (ring : RingId)
  /-- RING_RECOVERY_TIMEOUT: A slipped ring not recovered within 200 us is failed, and its wavelength is retired. (R291) -/
  | ringRecoveryTimeout (ring : RingId)
  /-- BATCH_START: An SLOUT that wrote granule 0 of a request area completes, and the remote-access engine starts the batch. (R304) -/
  | batchStart (eng : Fin 64)
  /-- REMOTE_RECORD_ISSUE: The next batch record issues once earlier fences are done and the windows allow it. (R304) -/
  | remoteRecordIssue (eng : Fin 64)
  /-- FENCE: A FENCE record completes once done reaches the seq recorded for each destination concerned. (R318) -/
  | fabFence (eng : Fin 64)
  /-- REMOTE_REQUEST_ADMIT: A request packet arrives, is checked against the stream table, and is admitted, held, answered or discarded. (R315) -/
  | remoteRequestAdmit (rail : Fin 27)
  /-- LOAD_OP: The line arbiter applies a remote LOAD and returns the bytes. (R309) -/
  | fabLoad (stack : Fin 32) (entry : Fin 4096) (noise : List HbmUpset)
  /-- STORE: The line arbiter applies a remote STORE in seq order and admits stores held behind it. (R316) -/
  | fabStore (stack : Fin 32) (entry : Fin 4096) (noise : List HbmUpset)
  /-- ADD: Apply a wrapping atomic add to a line. (R309) -/
  | fabAdd (stack : Fin 32) (entry : Fin 4096) (noise : List HbmUpset)
  /-- SMIN: Apply a signed atomic minimum to a line. (R309) -/
  | fabSmin (stack : Fin 32) (entry : Fin 4096) (noise : List HbmUpset)
  /-- SMAX: Apply a signed atomic maximum to a line. (R309) -/
  | fabSmax (stack : Fin 32) (entry : Fin 4096) (noise : List HbmUpset)
  /-- UMIN: Apply an unsigned atomic minimum to a line. (R309) -/
  | fabUmin (stack : Fin 32) (entry : Fin 4096) (noise : List HbmUpset)
  /-- UMAX: Apply an unsigned atomic maximum to a line. (R309) -/
  | fabUmax (stack : Fin 32) (entry : Fin 4096) (noise : List HbmUpset)
  /-- SWAP: Atomically replace a line value with operand1. (R309) -/
  | fabSwap (stack : Fin 32) (entry : Fin 4096) (noise : List HbmUpset)
  /-- CAS: Atomically compare a line value with operand2 and swap in operand1. (R309) -/
  | fabCas (stack : Fin 32) (entry : Fin 4096) (noise : List HbmUpset)
  /-- FADD32: Apply an atomic FP32 add, rounded once. (R310) -/
  | fabFadd32 (stack : Fin 32) (entry : Fin 4096) (noise : List HbmUpset)
  /-- REMOTE_RESPONSE: A response retires its seq, updates done and the window, and the last one completes the batch. (R319) -/
  | remoteResponse (rail : Fin 27)
  /-- REMOTE_UNDELIVERED: A request returned undelivered is resent with the same seq. (R320) -/
  | remoteUndelivered (eng : Fin 64) (dest : Fin 4096) (seq : BitVec 24)
  /-- REMOTE_BUSY_RESEND: 512 grains after a BUSY response the engine resends the request. (R320) -/
  | remoteBusyResend (eng : Fin 64) (dest : Fin 4096) (seq : BitVec 24)
  /-- REMOTE_RESPONSE_TIMEOUT: No response arrives within 2^18 grains of the last send, so the request is resent. (R320) -/
  | remoteResponseTimeout (eng : Fin 64) (dest : Fin 4096) (seq : BitVec 24)
  /-- FAB_TIMEOUT: A request without a final status 2^22 grains after its first send takes status 0x0463. (R320) -/
  | fabTimeout (eng : Fin 64) (dest : Fin 4096) (seq : BitVec 24)
  /-- STREAM_RECORD_FREE: A stream record with nothing queued and no arrival for 2^23 grains is freed. (R315) -/
  | streamRecordFree (src : Fin 4096) (flow : BitVec 8)
  /-- CALLRED: All-reduce over the fixed rank tree. (R337) -/
  | callred (site : Fin 26) (body : BitVec 80) (delayed : Bool)
  /-- CRSCAT: Reduce-scatter, writing this rank's share. (R337) -/
  | crscat (site : Fin 26) (body : BitVec 80) (delayed : Bool)
  /-- CAGATH: All-gather of every rank's block. (R337) -/
  | cagath (site : Fin 26) (body : BitVec 80) (delayed : Bool)
  /-- CBCAST: Broadcast from a root rank. (R337) -/
  | cbcast (site : Fin 26) (body : BitVec 80) (delayed : Bool)
  /-- CPOST: Post a token to an engine of another rank by TOKEN words on every ACTIVE rail. (R345) -/
  | cpost (site : Fin 26) (body : BitVec 80)
  /-- TOKEN_WORD_RECEIVE: A TOKEN word arrives, its first copy is applied to its counter, and later copies are discarded. (R346) -/
  | tokenWordReceive (rail : Fin 26) (word : BitVec 256)
  /-- COLLECTIVE_DATA_RECEIVE: A collective data packet is staged, written, held in the early store, acknowledged or discarded by its tag. (R341) -/
  | collectiveDataReceive (rail : Fin 26)
  /-- COLLECTIVE_ACK_RECEIVE: An ack covers sent packets, and the last one completes the step. (R342) -/
  | collectiveAckReceive (rail : Fin 26)
  /-- COLLECTIVE_GROUP_ACK_TIMER: 4,096 grains after a group's first arrival, the receiver acks the packets present. (R341) -/
  | collectiveGroupAckTimer (site : Fin 26) (srank : Fin 1024) (phase : Fin 2) (share : Fin 1024) (group : Fin 4096)
  /-- COLLECTIVE_RESEND: A packet returned undelivered, or not acked within 2^17 grains, is resent. (R342) -/
  | collectiveResend (site : Fin 26) (dest : Fin 1024) (phase : Fin 2) (share : Fin 1024) (index : BitVec 18)
  /-- COL_TIMEOUT: A collective step not complete 2^24 grains after issue completes with error. (R343) -/
  | colTimeout (site : Fin 26)
  /-- YULEY_FRAME_RECEIVE: A Yuley data or idle frame is received, sequenced and delivered into the command byte stream. (R372) -/
  | yuleyFrameReceive (port : Fin 2) (lane : Fin 4) (frame : BitVec 4160) (due : Option (BitVec 16)) (codes : List (Fin 545))
  /-- COMMAND_OVER_CREDIT: A packet that arrives beyond credit is discarded without reply and counted. (R376) -/
  | commandOverCredit (p : CmdPkt)
  /-- COMMAND_UNASSIGNED: A command with an unassigned opcode is answered 0x0101. (R384) -/
  | commandUnassigned (p : CmdPkt)
  /-- HELLO: Open or renew the session and negotiate the protocol generation. (R381) -/
  | hello (p : CmdPkt)
  /-- PING: Echo a value with TIME.NOW. (R384) -/
  | ping (p : CmdPkt)
  /-- PARAM_READ: Read 1 to 32 parameters in list order, clearing RS fields that are returned. (R386) -/
  | paramRead (p : CmdPkt)
  /-- PARAM_WRITE: Write a parameter that has no row of its own, atomically and after range and state checks. (R386) -/
  | paramWrite (p : CmdPkt)
  /-- MEM_WRITE: Write data to mapped memory in ascending address order. (R388) -/
  | memWrite (p : CmdPkt) (noise : List HbmUpset)
  /-- MEM_READ: Read mapped memory and deliver it in address order. (R388) -/
  | memRead (p : CmdPkt) (noise : List HbmUpset)
  /-- MEM_FILL: Fill a range with an 8-byte pattern. (R388) -/
  | memFill (p : CmdPkt) (noise : List HbmUpset)
  /-- LOAD: Accept a cut-list image address, unload any list, and begin loading. (R231) -/
  | loadList (p : CmdPkt)
  /-- START: Arm a loaded run at a start grain with a run seed. (R389) -/
  | startRun (p : CmdPkt)
  /-- PAUSE: Request a pause at the next checkpoint mark. (R390) -/
  | pauseRun (p : CmdPkt)
  /-- RESUME: Arm a paused run at a resume grain. (R367) -/
  | resumeRun (p : CmdPkt)
  /-- SAVE: Write a checkpoint image of a paused run to HBM3E. (R363) -/
  | saveImage (p : CmdPkt)
  /-- RESTORE: Check and load a checkpoint image into a loaded module, leaving it paused at the mark. (R366) -/
  | restoreImage (p : CmdPkt)
  /-- BLOCK_RESET_COMPUTE_STACK: Block-reset a compute stack with its logic die and crib. (R451) -/
  | blockResetComputeStack (p : CmdPkt)
  /-- BLOCK_RESET_CRIB: A block reset naming a crib alone is refused with 0x0107. (R128) -/
  | blockResetCrib (p : CmdPkt)
  /-- BLOCK_RESET_HBM_SITE: Block-reset an HBM site, keeping its contents through self-refresh. (R204) -/
  | blockResetHbmSite (p : CmdPkt)
  /-- BLOCK_RESET_RAIL_SITE: Block-reset a rail site and retrain its rail. (R451) -/
  | blockResetRailSite (p : CmdPkt)
  /-- BLOCK_RESET_SILL_PATH: Block-reset the Sill path block of a bay and recalibrate its rings. (R184) -/
  | blockResetSillPath (p : CmdPkt)
  /-- BLOCK_RESET_SILL_SEQUENCER: Block-reset the Sill sequencer, halting the run. (R451) -/
  | blockResetSillSequencer (p : CmdPkt)
  /-- BLOCK_IDLE: A quiescing block reports idle, and its reset is asserted. (R450) -/
  | blockIdle (kind : Fin 8) (index : Fin 32)
  /-- BLOCK_QUIESCE_TIMEOUT: The quiesce timeout ends, and the block reset is made regardless. (R450) -/
  | blockQuiesceTimeout (kind : Fin 8) (index : Fin 32)
  /-- BLOCK_READY: A reset block reports ready, and BLOCK_RESET completes. (R451) -/
  | blockReady (kind : Fin 8) (index : Fin 32) (fixed : Fin 64) (cals : RingCals)
  /-- BLOCK_READY_TIMEOUT: A block has not reported ready within its bound, so it is failed and BLOCK_RESET completes with 0x0501. (R451) -/
  | blockReadyTimeout (kind : Fin 8) (index : Fin 32)
  /-- CALIBRATE_SILL_LANES: CALIBRATE action 1 runs Sill lane calibration. (R182) -/
  | calibrateSillLanes (p : CmdPkt)
  /-- CALIBRATE_RETRAIN_RAIL: CALIBRATE action 2 retrains a rail from DOWN or FAILED. (R392) -/
  | calibrateRetrainRail (p : CmdPkt)
  /-- CALIBRATE_HOLD_DOWN: CALIBRATE action 3 holds a rail DOWN. (R392) -/
  | calibrateHoldDown (p : CmdPkt)
  /-- CALIBRATE_REMEASURE_DELAY: CALIBRATE action 4 re-measures a Yuley port's delay. (R392) -/
  | calibrateRemeasureDelay (p : CmdPkt)
  /-- RECOVER: Run recovery: a level-2 reset, calibrations, self-test, floor-plan rebuild and retraining. (R470) -/
  | recover (p : CmdPkt)
  /-- ATTEST: Return a signed attestation report for a nonce. (R484) -/
  | attest (p : CmdPkt)
  /-- IDENTITY: Return the identity public key with Foquin's signature. (R483) -/
  | identity (p : CmdPkt)
  /-- FW_STAGE: Write firmware bytes into the inactive bundle slot. (R481) -/
  | fwStage (p : CmdPkt)
  /-- FW_COMMIT: Judge the inactive slot and write its commit record. (R481) -/
  | fwCommit (p : CmdPkt)
  /-- DEBUG_UNLOCK: Verify a debug token and put its scopes in force. (R486) -/
  | debugUnlock (p : CmdPkt)
  /-- DEBUG_LOCK: End any debug unlock and replace the nonce. (R486) -/
  | debugLock (p : CmdPkt)
  /-- DEBUG_EXPIRE: The unlock lifetime expires, the scopes end and DEBUG_LOCKED is raised. (R486) -/
  | debugExpire
  /-- EVT_SUBSCRIBE: Replace the subscription mask and channel of an event group. (R394) -/
  | evtSubscribe (p : CmdPkt)
  /-- EVT_QUERY: Return the subscription of an event group. (R384) -/
  | evtQuery (p : CmdPkt)
  /-- DIAG_CATALOG: List the OBS leaves or the diagnostic pages. (R507) -/
  | diagCatalog (p : CmdPkt)
  /-- TRACE_READ: Return the entries of a trace buffer, oldest first. (R507) -/
  | traceRead (p : CmdPkt)
  /-- EVENT_RECORD: Scribe receives a raised event, assigns its eseq, logs it and queues it if subscribed. (R529) -/
  | eventRecord (raiser : Fin 16)
  /-- EVENT_SEND: The event at the head of the queue is sent as an EVENT packet on its subscribed channel. (R395) -/
  | eventSend
  /-- REPLY_RELEASE: A reply held while neither port was ACTIVE is sent once a port becomes ACTIVE. (R377) -/
  | replyRelease (port : Fin 2) (channel : Fin 8)
  /-- MAILBOX_SEND: A processor sends a message to a mailbox, which takes it or refuses it when full or unpowered. (R400) -/
  | mailboxSend (src dst : Fin 16) (msg : BitVec 512)
  /-- MAILBOX_RETRY: After the next interrupt or 1,000 grains, a sender retries a refused send. (R400) -/
  | mailboxRetry (src dst : Fin 16)
  /-- PROC_FAULT: A processor faults, stops and raises PROC_FAULT, and is then restarted or halted. (R403) -/
  | procFault (proc : Fin 16) (cause : Fin 3) (address data : BitVec 32)
  /-- WATCHDOG_EXPIRE: A running processor has not written PROC.STATE for 2^24 grains, so it faults. (R403) -/
  | watchdogExpire (proc : Fin 16) (address : BitVec 32)
  /-- WATCHDOG_WARNING: At half of the watchdog time, source 50 becomes active. (R404) -/
  | watchdogWarning (proc : Fin 16)
  /-- PROC_RESTART: A faulted processor restarts from its verified image, and commands in progress are answered 0x0501. (R403) -/
  | procRestart (proc : Fin 16)
  /-- IRQ_SOURCE_EDGE: An edge count seen by the controller sets a pending bit or records an overrun. (R406) -/
  | irqSourceEdge (proc : Fin 16) (source : Fin 64) (edges : Fin 3) (high : Bool)
  /-- IRQ_DELIVER: The controller interrupts the processor when a deliverable source meets the moderation rules. (R408) -/
  | irqDeliver (proc : Fin 16)
  /-- IRQ_ACKNOWLEDGE: The processor writes 1 to a pending bit to clear it. (R407) -/
  | irqAcknowledge (proc : Fin 16) (bits : BitVec 64) (act : ProcAct)
  /-- IRQ_OVERRUN_CLEAR: The processor writes 1 to clear an overrun bit. (R407) -/
  | irqOverrunClear (proc : Fin 16) (bits : BitVec 64)
  /-- IRQ_STUCK: A source line stays high past the stuck threshold, its stuck bit is set and PROC_IRQ_STUCK is raised. (R409) -/
  | irqStuck (proc : Fin 16) (source : Fin 64)
  /-- IRQ_STUCK_CLEAR: The processor writes 1 to clear a stuck bit. (R409) -/
  | irqStuckClear (proc : Fin 16) (bits : BitVec 64)
  /-- LOCAL_TIMER: A processor's local timer expires, and source 49 becomes active. (R404) -/
  | localTimer (proc : Fin 16)
  /-- PROC_SLEEP: An idle processor retains its controller state and stops its clocks at a grain boundary. (R410) -/
  | procSleep (proc : Fin 16)
  /-- PROC_WAKE: A latch, the timer or the reset controller wakes a processor, and retained state and latches are merged. (R411) -/
  | procWake (proc : Fin 16) (ordered : Bool)
  /-- PANEL_MARGIN_LOW: A replica margin falls below 10 %, and the next period is stretched. (R416) -/
  | panelMarginLow (panel : BitVec 17) (need : Fin 6) (since : Nat)
  /-- STRETCH_CEILING_LOWER: At the next boundary after an excess, the supervisor lowers the stack ceiling by one bin. (R416) -/
  | stretchCeilingLower (die : Fin 8)
  /-- REGULATOR_LOWER: 200 grains after a down-switch, the regulator lowers its set point. (R419) -/
  | regulatorLower (panel : BitVec 17)
  /-- BIN_SWITCH_UP: At the first boundary after the regulator has settled, the panel switches up to its new bin. (R419) -/
  | binSwitchUp (panel : BitVec 17)
  /-- PANEL_ALIGN: At the alignment grain, released panels leave reset and load the grain counter, and crossings leave reset empty. (R423) -/
  | panelAlign
  /-- MODULE_CEILING_LOWER: At the next boundary the module ceiling falls one bin, and PWR_LIMIT is raised at most once per 1,024 sheaves. (R430) -/
  | moduleCeilingLower
  /-- MODULE_CEILING_RAISE: After 256 sheaves well under the limits, the module ceiling rises one bin. (R430) -/
  | moduleCeilingRaise
  /-- ALERT_N_FALL: ALERT_N falls, and the alert limit applies from the next fleet sheaf boundary. (R430) -/
  | alertNFall
  /-- PWR_INPUT_RANGE: The input enters a marginal band, range is set and PWR_INPUT_RANGE is raised once per episode. (R429) -/
  | pwrInputRange (volts : BitVec 12)
  /-- INPUT_LOCKOUT: An under- or overvoltage lockout of 10 us or more turns every stage off and asserts power-on detection. (R429) -/
  | inputLockout
  /-- SUPPLY_STAGE_FAULT: A stage-1 or stage-2 converter fault turns every stage off as a loss of power. (R432) -/
  | supplyStageFault
  /-- PWR_REG_FAULT: A stage-3 regulator fault turns its domain off, raises PWR_REG_FAULT and halts a run that uses it. (R432) -/
  | pwrRegFault (kind : Fin 4) (index : BitVec 16)
  /-- THERMAL_COOLDOWN: After 256 sheaves with T_j and T_h below 95 C, the thermal-policy bin returns and stop clears. (R439) -/
  | thermalCooldown
  /-- THERMAL_TRIP: A hardware comparator fires, the trip latch drives THERM_TRIP_N low and turns off stage-3 domains. (R440) -/
  | thermalTrip
  /-- RESET_N_ASSERT: RESET_N has been low for 1 us, asserting its fused reset level. (R446) -/
  | resetNAssert
  /-- RESET_N_RELEASE: RESET_N has been high for 1 us, releasing the pin source. (R446) -/
  | resetNRelease
  /-- POWER_ON_DETECT_ASSERT: The always-on supply, the input lockout or PWR_OK asserts power-on detection at level 3. (R446) -/
  | powerOnDetectAssert (cause : Fin 3)
  /-- POWER_ON_DETECT_RELEASE: All power-on conditions have been clear for 10 ms, releasing power-on detection. (R446) -/
  | powerOnDetectRelease
  /-- RESET_EPISODE_END: Both sources have released, so the effective level's blocks are released and bring-up starts. (R447) -/
  | resetEpisodeEnd
  /-- BRINGUP_STEP_DONE: A step of cold bring-up ends, and the next step starts. (R460) -/
  | bringupStepDone (test : BringTest)
  /-- BRINGUP_STEP_TIMEOUT: A cold bring-up step overruns its limit, is handled as its outcome states, and BRINGUP_FAIL is raised. (R461) -/
  | bringupStepTimeout (test : BringTest)
  /-- FW_SLOT_REJUDGE: With no bootable slot, Square judges the slots again every 10 s. (R480) -/
  | fwSlotRejudge
  /-- CFG_COMMIT: A write of 1 to CFG.COMMIT starts writing a new configuration copy. (R459) -/
  | cfgCommit (p : CmdPkt)
  /-- CFG_COMMIT_DONE: The flash write of a commit completes, and the new copy becomes selected, or write_failed is set. (R459) -/
  | cfgCommitDone (ok : Bool)
  /-- SUP_HEARTBEAT: The holding supervisor writes the interlock heartbeat register. (R490) -/
  | supHeartbeat
  /-- HEARTBEAT_TIMEOUT: 10 ms pass without a heartbeat, the hold is released and B is powered if A was released. (R490) -/
  | heartbeatTimeout
  /-- SUP_FAILOVER: Supervisor B chooses a saved-state record, takes the hold and resumes policy. (R494) -/
  | supFailover
  /-- HEADLESS_TIMEOUT: B has not taken the hold within 500 ms of the release. (R496) -/
  | headlessTimeout
  /-- SUP_HEADLESS: At the next boundary the module becomes headless, stops compute at a safe point and sets ceilings to bin 0. (R496) -/
  | supHeadless
  /-- SAVED_STATE_WRITE: At the first boundary after a change, or every 1,024 sheaves, the supervisor writes a retained saved-state record. (R493) -/
  | savedStateWrite
  /-- SAVED_STATE_FLASH_WRITE: Every 10 s, and after a commit, a saved-state record is written to flash. (R493) -/
  | savedStateFlashWrite (ok : Bool)
  /-- FAULT_MIRROR_WRITE: Within 100 ms of a change, the fault table is written to the older flash mirror slot. (R531) -/
  | faultMirrorWrite
  /-- ERR_ACK: A write to ERR.ACK acknowledges log records up to the given eseq. (R532) -/
  | errAck (p : CmdPkt)
  /-- FAULT_ACK: A write of 1 to pending acknowledges an ERR.FAULT or ERR.PREV entry. (R533) -/
  | faultAck (p : CmdPkt)
  /-- ERR_RATE_WINDOW: A 2^30-grain window begins, and the class-1 counts per group restart. (R535) -/
  | errRateWindow
  /-- TRST_N_ASSERT: TRST_N resets the TAP to Test-Logic-Reset asynchronously. (R501) -/
  | trstNAssert
  /-- EXTEST: Drive THERM_TRIP_N, SUP_HOLD and OBS from the boundary register. (R503) -/
  | jtagExtest (shift : BitVec 22)
  /-- IDCODE: Select the 32-bit IDCODE register. (R501) -/
  | jtagIdcode
  /-- SAMPLE_PRELOAD: Sample and preload the boundary register. (R501) -/
  | jtagSamplePreload (shift : BitVec 22)
  /-- BYPASS: Select the 1-bit bypass register, also for refused instructions. (R501) -/
  | jtagBypass (code : BitVec 8)
  /-- JTAG_FLASH: Read, write or erase the bundle slots through the FLASH data register. (R502) -/
  | jtagFlash (address : BitVec 24) (command : BitVec 8) (data : BitVec 64)
  /-- INTSCAN: Stop a panel's clock and scan it, leaving it in reset. (R502) -/
  | jtagIntscan (panel : BitVec 16)
  /-- DBG_CNT_WRITE: A write sets an OBS counter, and an edge in the same grain is counted after it. (R505) -/
  | dbgCntWrite (p : CmdPkt)
  /-- DBG_TRACE_WRITE: A write to a trace buffer's mode clears the buffer and sets capture. (R506) -/
  | dbgTraceWrite (p : CmdPkt)
  /-- I3C_DYNAMIC_ADDRESS: ENTDAA or SETDASA assigns the I3C target's dynamic address. (R508) -/
  | i3cDynamicAddress (address : BitVec 7)
  /-- I3C_OFFSET_WRITE: A one-byte I3C write sets the read offset, and longer writes are NACKed. (R508) -/
  | i3cOffsetWrite (data : List (BitVec 8))
  /-- I3C_READ: An I3C read returns snapshot bytes from the last offset, auto-incrementing. (R508) -/
  | i3cRead (count : Nat)
  /-- REFCLK_RETURN: REFCLK edges return within the ratio tolerance, so err_est in drift grows at TIME.HOLD.RATE again and a later loss of timing leads to holdover, not drift. (R517) -/
  | refclkReturn
  /-- STUCK_EPISODE_END: A stuck interrupt source line falls, ending the stuck episode so that the source can deliver and be judged stuck again. (R409) -/
  | stuckEpisodeEnd (proc : Fin 16) (source : Fin 64)
  /-- TEST_EN_CHANGE: TEST_EN changes level during reset or step 1 of cold bring-up, putting all three scopes in force or removing them, and setting was_unlocked when high. (R499) -/
  | testEnChange (high : Bool)
  /-- ALERT_N_RISE: ALERT_N returns high, and from the next boundary the power limit in force reverts to PWR.LIMIT.limit. (R430) -/
  | alertNRise
  /-- SAVE_COMPLETE: The checkpoint image and its digest are fully written, the SAVE command completes with the image length, and its region is no longer a save in progress. (R363) -/
  | saveComplete (port : Fin 2) (channel : Fin 8) (noise : List HbmUpset)
  /-- RESTORE_COMPLETE: Every section of the image has been written and queues refilled, so the state becomes paused at the image's mark and RESTORE completes. (R366) -/
  | restoreComplete (noise : List HbmUpset)
  /-- RECOVERY_COMPLETE: The last stage of recovery ends, the ready state is reported, CFG.STATE leaves recovering, and RECOVER completes. (R470) -/
  | recoveryComplete (test : BringTest)
  /-- WARM_BRINGUP_COMPLETE: The warm fast path ends, the ready state is re-evaluated, and CFG.STATE leaves warm bring-up. (R469) -/
  | warmBringupComplete
  /-- FW_COMMIT_COMPLETE: Judging of the inactive slot and the commit-record write finish, FW_COMMIT replies, and FW_STAGE and FW_COMMIT are no longer refused as during a commit. (R481) -/
  | fwCommitComplete
  /-- MEM_TRANSFER_COMPLETE: A memory transfer applies or delivers its last byte, replies, and stops being in progress, so scrub may resume. (R388) -/
  | memTransferComplete (port : Fin 2) (channel : Fin 8)
  /-- SILL_LANE_CALIBRATION_DONE: Sill lane calibration finishes, unparks spared lanes, clears fault counts and completes CALIBRATE action 1. (R182) -/
  | sillLaneCalibrationDone (failing : List (Fin 1064960)) (cals : RingCals)
  /-- AUX_1V8_OVERCURRENT: The AUX_1V8 load exceeds 150 mA, and its limiter turns the supply off until the next power-on detection. (R514) -/
  | aux1v8Overcurrent
deriving DecidableEq, Repr

end Sys2Proof
end

