-- ==== Sys2Proof/Decode.lean ====
section
/-! DEFINITION. Words as commands. No row of spec/opcode_table.json gives bits, so no word spells a command (log
entry 19). The words that the spec does encode, command packets, rail frames, control words and steps of a cut list, are
operands of their rows and are decoded by the meanings. -/

namespace Sys2Proof

/-- The command that a word spells by the table's bits: none (log entry 19). -/
def decodeTableWord (_nbits _w : Nat) : Option Instr := none

end Sys2Proof
end

