-- ==== Sys2Proof/Config.lean ====
section
/-! DEFINITION. What one part fixes (fuses, latencies, factory contents) and the values the spec leaves open.
Each is a constant without a body: nothing can be proved of its value, so a claim holds for every value of it. -/

namespace Sys2Proof.Config

/-- A value that the spec leaves open, one for each number of the state's counter (log entry 8). -/
opaque free : Nat → Nat

/-- Module serial number, MOD.ID bits [63:32], from fuses (R23, log entry 5). -/
opaque serial : BitVec 32

/-- Fused internal latency k of each Yuley port, in 1/64 grain (R28, log entry 5). -/
opaque portLatency : Nat → Nat

/-- Uncertainty of a lock, in attoseconds, for each lock made (R31, log entry 18). -/
opaque lockUncertainty : Nat → Nat

/-- Enabled tillers of each die as fused (R463, log entry 5). -/
opaque fusedTillers : Nat → List Nat

/-- A rail site is fused bad, and left out of training (R464, log entry 5). -/
opaque railFusedBad : Nat → Bool

/-- Reset level that the RESET_N pin asserts, from fuses (R446, log entry 5). -/
opaque pinLevel : Nat

/-- What a byte of the serial flash reads as when nothing has written it (R455, log entry 6). -/
opaque erasedByte : BitVec 8

/-- Maximum latency Lt of a post to another module, from the switches and the fibre of its path (R345, R347, log
entry 5). -/
opaque postLatency : Nat

/-- The processor that raises an event whose raiser the spec does not name (R528, log entry 20). -/
opaque raiser : Nat → Nat

/-- The choices that make the rotation of a pseudo-channel over its banks: stack, pseudo-channel and place (R200, log entry
9). -/
opaque refreshBank : Nat → Nat → Nat → Nat

/-- The registers that the diagnostic pages of this part mirror, and their widths (R507, log entry 24). -/
opaque diagWidth : Nat → Option Nat

/-- The records of DIAG_CATALOG: 0 leaves, 1 pages (R507, log entry 24). -/
opaque diagCatalog : Nat → List (BitVec 8)

/-- Falcon-1024 verification: public key read as one number, message, signature (R474, log entry 7). -/
opaque falconVerify : Nat → List (BitVec 8) → List (BitVec 8) → Bool

/-- Falcon-1024 signing with the identity key: message, number of the signing (R482, log entry 7). -/
opaque falconSign : List (BitVec 8) → Nat → List (BitVec 8)

/-- Opening of the identity blob by AES-256-GCM under the device key succeeds: blob and value of MOD.ID (R482, log
entry 7). -/
opaque identityOpens : List (BitVec 8) → Nat → Bool

/-- Fused digests of the firmware public keys and of the debug public keys, by slot (R474, log entry 5). -/
opaque fwKeyDigest : Nat → Nat
opaque dbgKeyDigest : Nat → Nat

/-- The vendor sections of the factory baseline, as Square's ROM holds them, and how many they are (R458, log
entry 5). -/
opaque romSections : List (BitVec 8)
opaque romCount : Nat

/-- Fused trim records, as target block * 65536 + register and value (R453, log entry 5). -/
opaque fusedTrims : List (Nat × Nat)

/-- The range fused for a trim's target; none where the target does not exist (R453, log entry 5). -/
opaque trimRange : Nat → Option (Nat × Nat)

/-- The references whose nearest sensor is a given one (kind, unit, index), and the compensation table of each: the
correction in parts per billion at every 2 degrees from 0 to 120 (R441, log entry 61). -/
opaque refsNear : Nat × Nat × Nat → List Nat
opaque compPoint : Nat → Nat → Int

/-- sleep_ok of a processor, from its own configuration section, whose layout the spec does not give (R413, log
entry 5). -/
opaque sleepOk : Nat → Bool

/-- Level of an OBS leaf that the common list does not name: tree * 4096 + leaf, and grain (R504, log entry 24). -/
opaque leafLevel : Nat → Nat → Bool

/-- Contents of a panel's internal scan chain: panel and scan number (R501, log entry 24). -/
opaque scanBits : Nat → Nat → Nat

/-- Level of SUP_HOLD as it begins to toggle, by the grain of the release (R491, log entry 24). -/
opaque holdPhase : Nat → Bool

end Sys2Proof.Config
end

