-- ==== Sys2Proof/Machine/State.lean ====
section
/-! DEFINITION. The state of the module as plain data, its reset value, and the reasons a command can stop.
Every structure is written from the rules its docstrings cite; INVENTORY.md lists the same fields.
Every field's default value is its reset value, so that `State.reset` is the state of all defaults (log entry 3). -/

namespace Sys2Proof.Machine

/-- The time states (R32); their codes are given by `TimeState.code`. -/
inductive TimeState where
  | unset | locking | locked | holdover | drift | slewing
deriving DecidableEq, Repr

/-- The states of a run (R238); their codes are given by `RunState.code`. -/
inductive RunState where
  | empty | loading | loaded | armed | running | paused | ended | halted
deriving DecidableEq, Repr

/-- What a flit carries (R136). -/
inductive FlitKind where
  | data | post | ack | stagingReq | grant | fill | barrier
deriving DecidableEq, Repr

/-- Why the machine stops with a fault. -/
inductive Fault where
  /-- Raised by a command whose operand names a unit that the spec says does not occur (a reserved engine kind of R45,
  a processor ID of R398 that no processor has); safe: no such event can happen on the module. -/
  | absentUnit
deriving DecidableEq, Repr

/-- Why the machine refuses a command. -/
inductive Refusal where
  /-- A row of the opcode table that has no meaning in this model yet; safe. -/
  | notModelled (mnemonic : String)
deriving DecidableEq, Repr

/-- One Yuley port's timing (R28, R30, R33). -/
structure TimePort where
  /-- frequency recovered from the port's timing wavelength; 1 bit; R32; reset DESIGN CHOICE false (log entry 4). -/
  freq : Bool := false
  /-- TIME.STATUS.p0_valid or p1_valid, the port's marks are valid; 1 bit; R33; reset 0. -/
  valid : Bool := false
  /-- consecutive rejected marks; count 0 to 8; R30; reset DESIGN CHOICE 0 (log entry 4). -/
  rejRun : Nat := 0
  /-- TIME.DELAY one-way delay d in 1/64 grain; 32 bits; R36; reset 0 (never locked). -/
  delay : Nat := 0
  /-- local arrival of the last accepted mark minus (G + d + k); signed 1/64 grain; R28; reset DESIGN CHOICE 0 (log entry 4). -/
  markOff : Int := 0
  /-- grain field of the last accepted mark; 64 bits; R28; reset none accepted yet. -/
  lastMark : Option Nat := none
  /-- fleet sheaf whose mark has been received or counted missing; 52 bits; R30; reset none yet. -/
  markSheaf : Option Nat := none
deriving DecidableEq, Repr

/-- A lock or re-measurement in progress (R28). -/
structure LockJob where
  /-- the port being measured; 0 or 1; R28; reset -. -/
  port : Nat := 0
  /-- consecutive valid marks 4,096 apart; 0 to 2; R28; reset -. -/
  marks : Nat := 0
  /-- grain field of the last mark of the pair; 64 bits; R28; reset -. -/
  prev : Option Nat := none
  /-- delay requests sent; 0 to 64; R28; reset -. -/
  sent : Nat := 0
  /-- requests not yet answered; seq and t1; R28; reset -. -/
  isOpen : List (Nat × Nat) := []
  /-- round trips minus residence, in order of arrival; 1/64 grain; R28; reset -. -/
  trips : List Int := []
  /-- a delay measurement alone, by CALIBRATE action 4 or recovery; 1 bit; R392; reset -. -/
  only : Bool := false
  /-- the CALIBRATE command to answer; -; R392; reset -. -/
  cmd : Option CmdRef := none
deriving DecidableEq, Repr

/-- The time base (02_fleet_time.md). -/
structure Time where
  /-- TIME.NOW, the grain counter; 64 bits; R34; reset 0. -/
  now : BitVec 64 := 0
  /-- TIME.STATUS.state; 3 bits; R32; reset 0 unset. -/
  st : TimeState := .unset
  /-- TIME.STATUS.source; 1 bit; R33; reset 0. -/
  source : Nat := 0
  /-- timing of port 0; record; R30; reset as TimePort. -/
  p0 : TimePort := {}
  /-- timing of port 1; record; R30; reset as TimePort. -/
  p1 : TimePort := {}
  /-- TIME.STATUS.lost_tol (RS); 1 bit; R33; reset 0. -/
  lostTol : Bool := false
  /-- TIME.STATUS.rejected; 8 bits; R33; reset 0. -/
  rejected : Nat := 0
  /-- err_est kept exactly; TIME.STATUS.err_est shows it in 1/64 grain; attoseconds; R31; reset 0. -/
  errAs : Nat := 0
  /-- counter minus fleet time as last measured and not yet removed; signed 1/64 grain; R31; reset DESIGN CHOICE 0 (log entry 4). -/
  offset : Int := 0
  /-- the counter is being retarded; 1 bit; R31; reset DESIGN CHOICE false (log entry 4). -/
  retard : Bool := false
  /-- grains since the counter last kept its value; 0 to 16; R31; reset DESIGN CHOICE 0 (log entry 4). -/
  retardPhase : Nat := 0
  /-- REFCLK judged present; 1 bit; R517; reset DESIGN CHOICE true (log entry 4). -/
  refclk : Bool := true
  /-- TIME.HOLD.RATE; 16 bits; R36; reset DESIGN CHOICE 20, the baseline of R458 until step 3 loads it (log entry 4). -/
  holdRate : Nat := 20
  /-- the delay measurement in progress on each port; a record a port; R28; reset none. -/
  locks : List (Nat × LockJob) := []
  /-- measurements that wait for the one in progress on their port; -; R392; reset none. -/
  jobs : List LockJob := []
  /-- grain at which port 1 was measured while the module, still locking, waits for port 0; 64 bits; R28; reset none. -/
  wait0 : Option Nat := none
  /-- seq of the next delay request; 8 bits; R25; reset DESIGN CHOICE 0 (log entry 4). -/
  reqSeq : Nat := 0
  /-- delay requests sent, port and message; list; R25; reset MODEL output, empty. -/
  sentReq : List (Nat × BitVec 128) := []
  /-- the last message on each port's timing wavelength, first half-bit lowest; 288 half-bits a port; R374; reset MODEL output, empty. -/
  lines : List (Nat × BitVec 288) := []
  /-- spans of fleet grains, first and past the last, that forward steps passed over; their refresh slots are still to be issued; spans of grains; R31; reset none. -/
  refreshDue : List (Nat × Nat) := []
  /-- grain of the last sheaf strobe served; 64 bits; R34; reset none. -/
  strobed : Option Nat := none
deriving DecidableEq, Repr

/-- One token counter (R40, R43). -/
structure Token where
  /-- the count; 16 bits; R40; reset 0 when a list loads; reset 0. -/
  count : Nat := 0
  /-- cause mask, bit 0 refresh, bit 1 retry, bit 2 other; 3 bits; R43; reset 0. -/
  mask : Nat := 0
  /-- error bit; 1 bit; R56; reset 0. -/
  err : Bool := false
  /-- grain of the post that last raised the count from 0; 64 bits; R43; reset 0. -/
  since : Nat := 0
deriving DecidableEq, Repr

/-- A post in flight (R40, R41). -/
structure Post where
  /-- physical engine ID of the destination; 16 bits; R45; reset -. -/
  dest : Nat := 0
  /-- destination counter; 6 bits; R40; reset -. -/
  counter : Nat := 0
  /-- cause mask carried; 3 bits; R43; reset -. -/
  mask : Nat := 0
  /-- error bit carried; 1 bit; R56; reset -. -/
  err : Bool := false
  /-- the control word that carries it, if it goes over the control waveguides; 128 bits; R178; reset -. -/
  word : Option (BitVec 128) := none
deriving DecidableEq, Repr

/-- A step in a queue (R217, R219). -/
structure QStep where
  /-- step index in its queue; 28 bits; R214; reset -. -/
  idx : Nat := 0
  /-- schedule sheaf, the cursor after its advance; 48 bits; R36; reset -. -/
  sheaf : Nat := 0
  /-- the step word; 128 bits; R217; reset -. -/
  word : BitVec 128 := 0
deriving DecidableEq, Repr

/-- A step that has issued and not yet completed (R42, R53). -/
structure Flight where
  /-- the unit it runs on; 0 matrix, 1 vector, 2 move, 3 mesh, 4 the engine itself; R53; reset -. -/
  unit : Nat := 0
  /-- the step; record; R217; reset -. -/
  step : QStep := {}
  /-- fleet grain of issue; 64 bits; R506; reset -. -/
  issued : Nat := 0
  /-- lateness; grains; R42; reset -. -/
  late : Nat := 0
  /-- cause mask; 3 bits; R43; reset -. -/
  mask : Nat := 0
  /-- status error so far; 1 bit; R56; reset -. -/
  err : Bool := false
  /-- status aborted; 1 bit; R185; reset -. -/
  aborted : Bool := false
  /-- its effect has taken place; 1 bit; R55; reset -. -/
  done : Bool := false
  /-- issued in an active run; 1 bit; R506; reset -. -/
  active : Bool := false
  /-- cycle count of the step under R65 to R85; cycles; R65; reset -. -/
  cycles : Nat := 0
  /-- a crib move that ran rows at two cycles; 1 bit; R79; reset -. -/
  moved : Bool := false
deriving DecidableEq, Repr

/-- An engine with a queue (R45, R211). -/
structure Engine where
  /-- the engine has a queue in the loaded image; 1 bit; R211; reset 0. -/
  present : Bool := false
  /-- the step queue; at most 64 entries; R237; reset empty. -/
  queue : List QStep := []
  /-- index of the next step to fetch; 28 bits; R237; reset 0. -/
  next : Nat := 0
  /-- index of the next step to join the queue; 28 bits; R237; reset 0. -/
  filled : Nat := 0
  /-- steps that have arrived before one that precedes them; list; R237; reset empty. -/
  early : List QStep := []
  /-- steps in the queue of the image; 28 bits; R211; reset 0. -/
  total : Nat := 0
  /-- local address of the step array; 41 bits; R211; reset 0. -/
  array : Nat := 0
  /-- sheaf cursor of the last fetched step; 48 bits; R219; reset 0. -/
  fetchCursor : Nat := 0
  /-- token route table, destinations translated to physical engines; 64 entries of 32 bits; R212; reset empty. -/
  route : List (BitVec 32) := []
  /-- token counters; 64 counters; R40; reset all 0. -/
  tokens : List (Nat × Token) := []
  /-- sheaf cursor; 48 bits; R36; reset 0. -/
  cursor : Nat := 0
  /-- steps issued and not completed; one a unit; R53; reset empty. -/
  flight : List Flight := []
  /-- cause mask of the previous step of each unit; 3 bits a unit; R43; reset 0. -/
  prevMask : List (Nat × Nat) := []
  /-- issues nothing after its CKPT of the pausing mark; 1 bit; R229; reset false. -/
  stopped : Bool := false
  /-- step index of each CKPT issued; mark and step index; R228; reset empty. -/
  ckpts : List (Nat × Nat) := []
  /-- its END has completed; 1 bit; R230; reset false. -/
  ended : Bool := false
  /-- the queue was empty when the head step fell due; 1 bit; R43; reset false. -/
  ranEmpty : Bool := false
  /-- cause mask that the step issued last took at issue; 3 bits; R43; reset 0. -/
  lastMask : Nat := 0
  /-- grain at which the previous step of the queue issued; 64 bits; R43; reset 0. -/
  lastIssue : Nat := 0
  /-- grain at which the previous step of each unit completed; 64 bits a unit; R43; reset empty. -/
  freedAt : List (Nat × Nat) := []
deriving DecidableEq, Repr

/-- A bin bank (R98). -/
structure Bank where
  /-- the bins, unlisted 0; 6,144 bins of 192 bits; R98; reset all 0. -/
  bins : List (Nat × BitVec 192) := []
  /-- TIL.BIN.ANCHOR of the bank; 16 bits; R90; reset 0. -/
  anchor : BitVec 16 := 0
  /-- sticky low loss; 1 bit; R101; reset 0. -/
  low : Bool := false
  /-- sticky high clamp; 1 bit; R101; reset 0. -/
  high : Bool := false
deriving DecidableEq, Repr

/-- One tiller (R86 to R90). -/
structure Tiller where
  /-- TIL.STATUS.logical; 9 bits; R88; reset 0x1FF (none). -/
  logical : Option Nat := none
  /-- TIL.FLAGS.low_loss (RS); 1 bit; R89; reset 0. -/
  lowLoss : Bool := false
  /-- TIL.FLAGS.high_clamp (RS); 1 bit; R89; reset 0. -/
  highClamp : Bool := false
  /-- TIL.FLAGS.anchor_mismatch (RS); 1 bit; R89; reset 0. -/
  anchorMis : Bool := false
  /-- TIL.FLAGS.sel_range (RS); 1 bit; R89; reset 0. -/
  selRange : Bool := false
  /-- TIL.FLAGS.data_error (RS); 1 bit; R89; reset 0. -/
  dataError : Bool := false
  /-- TIL.FLAGS.invalid (RS); 1 bit; R89; reset 0. -/
  invalid : Bool := false
  /-- TIL.SEL selector registers, unlisted 0; 8 registers of 8 bits; R90; reset 0. -/
  sel : List (Nat × Nat) := []
  /-- TIL.RNG; 64 bits; R90; reset 0. -/
  rng : BitVec 64 := 0
  /-- bin bank 0; record; R90; reset 0. -/
  bank0 : Bank := {}
  /-- bin bank 1; record; R90; reset 0. -/
  bank1 : Bank := {}
deriving DecidableEq, Repr

/-- The floor plan of one die (R24, R463). -/
structure DieFloor where
  /-- enabled physical tillers; 288 bits, as a rising list; R24; reset PRESUMED none until built (log entry 4). -/
  enabled : List Nat := []
  /-- enabled tillers marked degraded; 288 bits, as a rising list; R24; reset none until built. -/
  degraded : List Nat := []
  /-- MOD.FLOOR.DIE below_grade; 1 bit; R24; reset 0 until built. -/
  belowGrade : Bool := false
  /-- MESH.STATUS.max_hops; 6 bits; R153; reset 0 until built. -/
  maxHops : Nat := 0
  /-- MESH.STATUS.max_turns; 3 bits; R153; reset 0 until built. -/
  maxTurns : Nat := 0
  /-- the die has a hardware fault; 1 bit; R463; reset 0. -/
  fault : Bool := false
deriving DecidableEq, Repr

/-- A dowel group (R116 to R121). -/
structure Group where
  /-- CRB.PART.half_width bit; 1 bit; R129; reset 0 until calibrated (meas). -/
  half : Bool := false
  /-- CRB.PART.failed bit; 1 bit; R129; reset 0 until calibrated (meas). -/
  failed : Bool := false
  /-- failed lanes of half 0; lanes; R119; reset none until calibrated. -/
  bad0 : List Nat := []
  /-- failed lanes of half 1; lanes; R119; reset none until calibrated. -/
  bad1 : List Nat := []
  /-- fault counts since the group was last calibrated; count a lane; R118; reset all 0. -/
  faults : List (Nat × Nat) := []
  /-- CRC failures whose lane scan has not yet run; count; R118; reset 0. -/
  scans : Nat := 0
  /-- lanes declared failed whose repair waits for the next boundary; lanes; R119; reset none. -/
  repair : List Nat := []
  /-- grain at which the waiting repair was declared; 64 bits; R119; reset 0. -/
  declared : Nat := 0
  /-- command lanes of the last row transfer: position, write, retransmission; 16 bits; R116; reset DESIGN CHOICE 0 (log entry 4). -/
  command : BitVec 16 := 0
deriving DecidableEq, Repr

/-- A crib partition (R112 to R129). -/
structure Partition where
  /-- the dowel groups; 8 records; R116; reset as Group. -/
  groups : List (Nat × Group) := []
  /-- CRB.PART.clock_dowel; 2 bits; R129; reset 0 until calibrated (meas). -/
  clockDowel : Nat := 0
  /-- CRB.ECC.corrected; 16 bits; R129; reset 0. -/
  corrected : Nat := 0
  /-- CRB.ECC.uncorrectable; 8 bits; R129; reset 0. -/
  uncorrectable : Nat := 0
  /-- CRB.DOWEL.retries; 16 bits; R129; reset 0. -/
  retries : Nat := 0
  /-- CRB.DOWEL.lanes_failed; 8 bits; R129; reset 0. -/
  lanesFailed : Nat := 0
  /-- CRB.DOWEL.repaired (RS); 1 bit; R129; reset 0. -/
  repaired : Bool := false
  /-- grain at which a group fell to half width, until the partition is marked degraded; 64 bits; R120; reset none. -/
  fellAt : Option Nat := none
  /-- the partition was degraded in the floor plan when the list loaded; 1 bit; R79; reset false. -/
  degradedAtLoad : Bool := false
deriving DecidableEq, Repr

/-- The word errors of one crib row (R113). -/
structure RowErr where
  /-- words with one bit in error; words 0 to 31; R113; reset -. -/
  single : List Nat := []
  /-- words with an error the code cannot correct; words 0 to 31; R113; reset -. -/
  multi : List Nat := []
deriving DecidableEq, Repr

/-- Power and ceiling of a compute stack (R125, R126, R130). -/
structure Stack where
  /-- stack power, newest first; last 16 sheaves, W; R125; reset empty. -/
  power : List Nat := []
  /-- crib power, newest first; last 16 sheaves, W; R130; reset empty. -/
  crib : List Nat := []
  /-- STK.CAP; 10 bits; R130; reset DESIGN CHOICE 960, the baseline of R458 until step 3 (log entry 4). -/
  cap : Nat := 960
  /-- STK.CLOCK.bin; 4 bits; R130; reset 0 until measured (meas). -/
  bin : Nat := 0
  /-- STK.CLOCK.ceiling; 4 bits; R130; reset DESIGN CHOICE 10, the baseline of R458 until step 3 (log entry 4). -/
  ceiling : Nat := 10
  /-- STK.CLOCK.limited (RS); 1 bit; R130; reset 0. -/
  limited : Bool := false
  /-- STK.CLOCK.idle_req (RS); 1 bit; R130; reset 0. -/
  idleReq : Bool := false
  /-- fleet sheaf of the last change of the ceiling; fleet sheaf; R125; reset none. -/
  changed : Option Nat := none
  /-- grain at which a lowering was decided; 64 bits; R125; reset none. -/
  lowerDue : Option Nat := none
  /-- grain at which a raising was decided; 64 bits; R125; reset none. -/
  raiseDue : Option Nat := none
  /-- consecutive sheaves with the mean under the cap by more than 40 W; 0 to 256; R125; reset 0. -/
  under : Nat := 0
  /-- consecutive sheaves over the cap with the ceiling at bin 0; 0 to 16; R126; reset 0. -/
  overZero : Nat := 0
  /-- the stack's excess in the throttle request; units; R126; reset 0. -/
  excess : Nat := 0
  /-- fleet sheaf of the last STACK_POWER_LIMIT; fleet sheaf; R126; reset none. -/
  raisedAt : Option Nat := none
  /-- grain of a stretch excess whose lowering waits; 64 bits; R416; reset none. -/
  stretchDue : Option Nat := none
  /-- sheaves since the last stretch excess; 0 to 256; R416; reset DESIGN CHOICE 256 (log entry 4). -/
  calm : Nat := 256
deriving DecidableEq, Repr

/-- A flit in a die mesh (R134). -/
structure Flit where
  /-- what it carries; -; R136; reset -. -/
  kind : FlitKind := .post
  /-- source node; 0 to 288; R134; reset -. -/
  src : Nat := 0
  /-- destination node; 0 to 288; R134; reset -. -/
  dst : Nat := 0
  /-- injection epoch; 1 bit; R141; reset -. -/
  epoch : Bool := false
  /-- diverted to the escape channel; 1 bit; R146; reset -. -/
  escape : Bool := false
  /-- destination granule of a data flit; 15 bits; R134; reset -. -/
  gran : Nat := 0
  /-- granule of a data flit; 64 bytes; R134; reset -. -/
  data : List (BitVec 8) := []
  /-- the MSEND it belongs to; -; R149; reset -. -/
  msend : Nat := 0
  /-- a post carried; record; R136; reset -. -/
  post : Post := {}
  /-- a step of a step-queue fill; record; R136; reset -. -/
  step : QStep := {}
  /-- the node it stands at; 0 to 288; R134; reset -. -/
  pos : Nat := 0
  /-- the input port whose buffer holds it; 0 the local port, 5 the staging buffer, 17 the crossing of its node's local port, 18 its writer; 0 to 18; R131; reset -. -/
  port : Nat := 0
deriving DecidableEq, Repr

/-- What a node forwards of one multicast MSEND (R149). -/
structure Leg where
  /-- the MSEND; -; R149; reset -. -/
  msend : Nat := 0
  /-- the node that sends the leg; 0 to 288; R149; reset -. -/
  node : Nat := 0
  /-- members still to be visited, next first; nodes; R149; reset -. -/
  rest : List Nat := []
  /-- flits staged and not yet sent; granules; R149; reset -. -/
  wait : List (Nat × List (BitVec 8)) := []
  /-- slots granted and unused; 0 to 16; R149; reset -. -/
  granted : Nat := 0
  /-- a staging request is outstanding; 1 bit; R149; reset -. -/
  asked : Bool := false
  /-- granules of the MSEND not yet sent on the leg; granules; R149; reset -. -/
  togo : Nat := 0
deriving DecidableEq, Repr

/-- An MSEND in progress (R80, R149). -/
structure Msend where
  /-- model's own number of it; -; R80; reset -. -/
  id : Nat := 0
  /-- sending node; node; R80; reset -. -/
  src : Nat := 0
  /-- receiving nodes; nodes; R148; reset -. -/
  members : List Nat := []
  /-- granules each member has still to write; granules a member; R149; reset -. -/
  left : List (Nat × Nat) := []
  /-- cast 1 or 2; 1 bit; R148; reset -. -/
  multi : Bool := false
  /-- acknowledgements still awaited; count; R149; reset -. -/
  acks : Nat := 0
deriving DecidableEq, Repr

/-- The mesh of one die (06_die_mesh.md). -/
structure Mesh where
  /-- MESH.STATUS.epoch; 1 bit; R153; reset 0. -/
  epoch : Bool := false
  /-- MESH.STATUS.flip_pending; 1 bit; R153; reset 0. -/
  flipPending : Bool := false
  /-- MESH.STATUS.drain_timeout (RS); 1 bit; R153; reset 0. -/
  drainTimeout : Bool := false
  /-- MESH.DIVERT; 32 bits; R153; reset 0. -/
  divert : Nat := 0
  /-- enabled set from which table version 0 was computed; 288 bits, as a rising list; R137; reset empty until built. -/
  plan0 : List Nat := []
  /-- enabled set from which table version 1 was computed; 288 bits, as a rising list; R137; reset empty until built. -/
  plan1 : List Nat := []
  /-- grain of a flip request that waits for the boundary; 64 bits; R142; reset none. -/
  request : Option Nat := none
  /-- grain of the boundary of the flip that drains; 64 bits; R142; reset none. -/
  flippedAt : Option Nat := none
  /-- routers with power; 288 bits, as a rising list; R142; reset empty until built. -/
  powered : List Nat := []
  /-- flits injected and not consumed; list; R134; reset empty. -/
  flits : List Flit := []
  /-- buffer slots in use downstream of (node, port, channel); slots; R143; reset 0. -/
  used : List (Nat × Nat) := []
  /-- staging requests pending at each node; 289 bits a node; R136; reset empty. -/
  stagingReq : List (Nat × List Nat) := []
  /-- staging slots in use or granted at each node; 0 to 32 a node; R149; reset 0. -/
  stagingUsed : List (Nat × Nat) := []
  /-- multicast legs under way; list; R149; reset empty. -/
  legs : List Leg := []
  /-- MSEND steps under way; list; R80; reset empty. -/
  msends : List Msend := []
  /-- the drain timeout of the flip that drains has run; 1 bit; R142; reset false. -/
  timedOut : Bool := false
  /-- grants of each output port in the grain of its last grant; grain and count an output; R144; reset none. -/
  grants : List (Nat × Nat × Nat) := []
  /-- number of the next MSEND; -; R80; reset DESIGN CHOICE 0, the model's own. -/
  nextId : Nat := 0
deriving DecidableEq, Repr

/-- A stream between engines (R166, R173, R174). -/
structure Stream where
  /-- stream tag; 16 bits; R174; reset -. -/
  tag : Nat := 0
  /-- descriptor kind of the owning side; 1 to 6; R169; reset -. -/
  kind : Nat := 1
  /-- engine ID of the stream engine that owns it; 16 bits; R168; reset -. -/
  owner : Nat := 0
  /-- descriptor index; 10 bits; R173; reset -. -/
  desc : Nat := 0
  /-- body of the owning step; 80 bits; R173; reset -. -/
  body : BitVec 80 := 0
  /-- engines of the matched receiving steps; engine IDs; R174; reset -. -/
  peers : List Nat := []
  /-- grain of issue of the owning step; 64 bits; R174; reset -. -/
  issued : Nat := 0
  /-- grain of its open; 64 bits; R174; reset -. -/
  opened : Option Nat := none
  /-- frames of 256 bytes; frames; R159; reset -. -/
  total : Nat := 0
  /-- frames received and written; frames; R180; reset -. -/
  heldSeq : List Nat := []
  /-- frames lost after four failed sends; frames; R180; reset -. -/
  lost : List Nat := []
  /-- failed sends of each frame; 0 to 4; R180; reset -. -/
  sends : List (Nat × Nat) := []
  /-- a frame carried refresh; 1 bit; R176; reset -. -/
  refresh : Bool := false
  /-- a frame was resent; 1 bit; R176; reset -. -/
  retry : Bool := false
  /-- a frame carried uncorr; 1 bit; R176; reset -. -/
  uncorr : Bool := false
  /-- cause mask gained while waiting to open; 3 bits; R166; reset -. -/
  waitMask : Nat := 0
  /-- lane of the next send of each frame that is sent again; 11 bits a frame; R180; reset -. -/
  nextLane : List (Nat × Nat) := []
  /-- grain of the last send of each frame that was sent again; 64 bits a frame; R180; reset -. -/
  sentAt : List (Nat × Nat) := []
  /-- cause of an abort that ends the stream at the end of this grain; 6 bits; R186; reset -. -/
  abortAt : Option Nat := none
  /-- status 0 ok, 1 error, 2 aborted once it has ended; 2 bits; R178; reset -. -/
  closed : Option Nat := none
  /-- partners whose close word has come; engine IDs; R178; reset -. -/
  acked : List Nat := []
  /-- its transfer has taken place; 1 bit; R173; reset -. -/
  done : Bool := false
deriving DecidableEq, Repr

/-- A Sill lane (R181, R189). -/
structure Lane where
  /-- failed sends since the last calibration; 0 to 16; R181; reset 0. -/
  faults : Nat := 0
  /-- parked; 1 bit; R189; reset 0 until calibrated (meas). -/
  parked : Bool := false
  /-- spare wavelengths that it has taken; it is mapped to the last; 45 or 46; R182; reset 0 until calibrated (meas). -/
  spares : List Nat := []
  /-- consecutive frames that failed the wl check; 0 to 4; R292; reset 0. -/
  wlFails : Nat := 0
  /-- consecutive frames sent that drew retry requests; 0 to 4; R292; reset 0. -/
  asked : Nat := 0
deriving DecidableEq, Repr

/-- The Sill fabric (07_sill_fabric.md). -/
structure Sill where
  /-- plan buffer 0, the pegs that are on; 8,192 bits, as a rising list; R163; reset rest plan. -/
  plan0 : List Nat := []
  /-- plan buffer 1; 8,192 bits, as a rising list; R163; reset rest plan. -/
  plan1 : List Nat := []
  /-- SILL.PEG.EPOCH.epoch; 1 bit; R188; reset 0. -/
  epoch : Bool := false
  /-- SILL.PEG.EPOCH.pending; 1 bit; R188; reset 0. -/
  pending : Bool := false
  /-- the pending plan set a service bit; 1 bit; R163; reset 0. -/
  pendingErr : Bool := false
  /-- plan field of the pending PEGSET; 31 bits; R164; reset 0. -/
  pendingAddr : Nat := 0
  /-- the pending plan's fetch stalled past its boundary; 1 bit; R167; reset false. -/
  late : Bool := false
  /-- SILL.PEG.EPOCH.late_plan (RS); 1 bit; R188; reset 0. -/
  latePlan : Bool := false
  /-- SILL.PEG.EPOCH.held (RS); 1 bit; R188; reset 0. -/
  heldFlag : Bool := false
  /-- SILL.PEG.ADDR; 31 bits; R188; reset 0. -/
  addr : Nat := 0
  /-- pegs that stand on; 8,192 bits, as a rising list; R165; reset all off. -/
  pegs : List Nat := []
  /-- grain of the last change of each peg; 64 bits a peg; R165; reset none. -/
  changed : List (Nat × Nat) := []
  /-- held pegs whose change is deferred; pegs; R166; reset none. -/
  deferred : List Nat := []
  /-- streams whose hold deferred the last change of a peg, with their cause masks; peg, engine, 3 bits; R166; reset none. -/
  delays : List (Nat × Nat × Nat) := []
  /-- grain at which the plan in effect took effect, if it was late; 64 bits; R167; reset none. -/
  lateEffect : Option Nat := none
  /-- streams issued or open; list; R174; reset empty. -/
  streams : List Stream := []
  /-- SILL.STREAMS.aborted; 16 bits; R188; reset 0. -/
  aborted : Nat := 0
  /-- SILL.STREAMS.errors; 16 bits; R188; reset 0. -/
  errors : Nat := 0
  /-- SILL.STREAMS.retx; 32 bits; R188; reset 0. -/
  retx : Nat := 0
  /-- lanes by site * 4096 + direction * 2048 + lane number; record a lane; R189; reset as Lane. -/
  lanes : List (Nat × Lane) := []
  /-- SILL.LANES.link_failed; 3 bits a site; R189; reset 0 until calibrated (meas). -/
  linkFailed : List (Nat × Nat) := []
  /-- control words discarded for a failed check; count; R179; reset DESIGN CHOICE 0 (log entry 4). -/
  badWords : Nat := 0
  /-- control words whose repeat is due; grain and word; R179; reset empty. -/
  repeats : List (Nat × BitVec 128) := []
  /-- control words sent; list; R178; reset MODEL output, empty. -/
  words : List (BitVec 128) := []
  /-- Sill lane calibration in progress; -; R182; reset none. -/
  calibrating : List CmdRef := []
  /-- a Sill lane calibration runs; 1 bit; R182; reset false. -/
  calibOn : Bool := false
  /-- consecutive control words that failed their check, sent by a site (2 * site) and received by it (2 * site + 1); count a site and direction; R292; reset 0. -/
  ctlFails : List (Nat × Nat) := []
  /-- columns whose control waveguides have lost both combs; columns; R274; reset empty. -/
  ctlDark : List Nat := []
  /-- sites whose combs have both failed, every lane of which is parked; site IDs; R275; reset empty. -/
  dark : List Nat := []
deriving DecidableEq, Repr

/-- One HBM3E stack (R208). -/
structure MemStack where
  /-- MEM.STACK.STATE.state; 2 bits; R208; reset 0 off. -/
  state : Nat := 0
  /-- MEM.STACK.STATE.mode_2x; 1 bit; R208; reset 0. -/
  mode2x : Bool := false
  /-- MEM.STACK.STATE.temp; 8 bits; R208; reset 0. -/
  temp : Nat := 0
  /-- temperature reading of the stack, in full; 1/16 degree; R200; reset as the temp field, 0. -/
  temp16 : Int := 0
  /-- MEM.STACK.STATE.lanes_repaired; 6 bits; R208; reset 0 until trained (meas). -/
  repaired : Nat := 0
  /-- MEM.STACK.ECC.corrected; 16 bits; R208; reset 0. -/
  corrected : Nat := 0
  /-- MEM.STACK.ECC.uncorrectable; 8 bits; R208; reset 0. -/
  uncorrectable : Nat := 0
  /-- MEM.STACK.REFRESH.held; 16 bits; R208; reset 0. -/
  held : Nat := 0
  /-- MEM.STACK.REFRESH.max_hold; 8 bits; R208; reset 0. -/
  maxHold : Nat := 0
  /-- the stack is in self-refresh; 1 bit; R204; reset 0. -/
  selfRefresh : Bool := false
deriving DecidableEq, Repr

/-- A bank in refresh (R201). -/
structure Refresh where
  /-- the stack; 5 bits; R200; reset -. -/
  stack : Nat := 0
  /-- the pseudo-channel; 5 bits; R200; reset -. -/
  pc : Nat := 0
  /-- the bank; 6 bits; R200; reset -. -/
  bank : Nat := 0
  /-- grain of the slot; 64 bits; R200; reset -. -/
  atGrain : Nat := 0
  /-- grain at which the first frame began to wait behind it; 64-bit grain; R201; reset -. -/
  since : Option Nat := none
deriving DecidableEq, Repr

/-- A memory transfer in progress (R388). -/
structure Xfer where
  /-- the command; record; R388; reset -. -/
  cmd : CmdRef := {}
  /-- a read; 1 bit; R388; reset -. -/
  read : Bool := false
  /-- tag of its stream on the service waveguides; 16 bits; R174; reset -. -/
  tag : Nat := 0
  /-- first byte of its range; 41 bits; R388; reset -. -/
  addr : Nat := 0
  /-- bytes of its range; 64 bits; R388; reset -. -/
  len : Nat := 0
  /-- bytes of a read to deliver; bytes; R388; reset -. -/
  data : List (BitVec 8) := []
  /-- bytes applied by a write; 64 bits; R388; reset -. -/
  applied : Nat := 0
  /-- final status; 16 bits; R388; reset -. -/
  status : Nat := 0
deriving DecidableEq, Repr

/-- Memory (08_memory.md). -/
structure Hbm where
  /-- the mapped bytes as stored; 1,152 GiB; R193; reset 0 after training (R202); unlisted reads 0. -/
  mem : List Host.Cell := []
  /-- difference between the stored code word of a burst and the one its data would carry, check symbols included; 34 symbols of 8 bits a burst; R196; reset none. -/
  errs : List (Nat × BitVec 272) := []
  /-- MEM.SIZE; 41 bits; R207; reset 0 until trained (meas). -/
  size : Nat := 0
  /-- MEM.STATUS.scrub; 1 bit; R207; reset 0. -/
  scrub : Bool := false
  /-- burst at which the next scrub resumes; 36 bits; R199; reset DESIGN CHOICE 0 (log entry 4). -/
  scrubAt : Nat := 0
  /-- MEM.STATUS.ue (RS); 1 bit; R207; reset 0. -/
  ue : Bool := false
  /-- MEM.UE.LAST.burst; 36 bits; R207; reset 0. -/
  ueBurst : Nat := 0
  /-- MEM.UE.LAST.requester; 8 bits; R207; reset 0. -/
  ueReq : Nat := 0
  /-- MEM.UE.LAST.grain; 64 bits; R207; reset 0. -/
  ueGrain : Nat := 0
  /-- the stacks; 32 records; R208; reset as MemStack. -/
  mstacks : List (Nat × MemStack) := []
  /-- banks in refresh; list; R201; reset empty. -/
  inRefresh : List Refresh := []
  /-- refresh slots issued by each pseudo-channel, for its rotation; count a pseudo-channel; R200; reset 0. -/
  slots : List (Nat × Nat) := []
  /-- grain of the last slot that each pseudo-channel issued in its time; grain a pseudo-channel; R200; reset 0. -/
  lastSlot : List (Nat × Nat) := []
  /-- last passed-over slot that each pseudo-channel has issued; grain a pseudo-channel; R31; reset 0. -/
  caught : List (Nat × Nat) := []
  /-- memory transfers in progress; list; R388; reset empty. -/
  xfers : List Xfer := []
deriving DecidableEq, Repr

/-- An overrun record (R44). -/
structure Overrun where
  /-- schedule sheaf of the late step; 48 bits; R44; reset 0. -/
  sheaf : Nat := 0
  /-- start offset; 12 bits; R44; reset 0. -/
  offset : Nat := 0
  /-- refresh, retry and other; 3 bits; R44; reset 0. -/
  mask : Nat := 0
  /-- the lateness came through a token or a busy engine; 1 bit; R44; reset 0. -/
  inherited : Bool := false
  /-- lateness, saturating; 16 bits; R44; reset 0. -/
  late : Nat := 0
  /-- engine ID; 16 bits; R44; reset 0. -/
  engine : Nat := 0
deriving DecidableEq, Repr

/-- A stream descriptor copied at load (R169). -/
structure Desc where
  /-- kind 1 to 6; 8 bits; R169; reset -. -/
  kind : Nat := 0
  /-- owning compute site; 8 bits; R169; reset -. -/
  site : Nat := 0
  /-- pegs named, which must be on; up to 64; R169; reset -. -/
  pegs : List Nat := []
  /-- lane entries; up to 64; R170; reset -. -/
  lanes : List (BitVec 32) := []
  /-- derived pegs of the held set that must be off; pegs; R166; reset -. -/
  off : List Nat := []
deriving DecidableEq, Repr

/-- Arrivals of one barrier (R224). -/
structure BarrierCount where
  /-- 0 die, 1 module, 2 stook; 2 bits; R223; reset -. -/
  scope : Nat := 0
  /-- barrier number; 16 bits; R223; reset -. -/
  number : Nat := 0
  /-- die of a die-scope barrier, else 0; 3 bits; R224; reset -. -/
  die : Nat := 0
  /-- participants on this module; 1 to 1,024; R223; reset -. -/
  count : Nat := 0
  /-- participants that have arrived (R389); engine IDs; R224; reset -. -/
  arrived : List Nat := []
  /-- the BARRIER contribution of the stook is outstanding; 1 bit; R224; reset -. -/
  sent : Bool := false
deriving DecidableEq, Repr

/-- A save in progress (R363). -/
structure SaveJob where
  /-- the command; record; R363; reset -. -/
  cmd : CmdRef := {}
  /-- image address; 41 bits; R363; reset -. -/
  addr : Nat := 0
  /-- image length; 64 bits; R365; reset -. -/
  len : Nat := 0
deriving DecidableEq, Repr

/-- The cut list and the run (09_cut_lists.md, 02_fleet_time.md). -/
structure Cut where
  /-- CUT.STATE.state; 3 bits; R238; reset 0 empty. -/
  state : RunState := .empty
  /-- CUT.STATE.kind; 1 bit; R241; reset 0. -/
  kind : Nat := 0
  /-- mark of the pending pause request; 16 bits; R229; reset 0 (pause_pending). -/
  pauseMark : Option Nat := none
  /-- PAUSE commands that wait; list; R390; reset none. -/
  pauseCmds : List CmdRef := []
  /-- CUT.STATE.pause_pending; 1 bit; R241; reset 0. -/
  pausePend : Bool := false
  /-- CUT.STATE.protected; 1 bit; R241; reset 0. -/
  prot : Bool := false
  /-- CUT.STATE.last_mark; 16 bits; R241; reset 0xFFFF. -/
  lastMark : Nat := 0xFFFF
  /-- CUT.LOAD.code; 8 bits; R241; reset 0. -/
  loadCode : Nat := 0
  /-- CUT.LOAD.segment; 8 bits; R241; reset 0. -/
  loadSegment : Nat := 0
  /-- CUT.LOAD.queue; 16 bits; R241; reset 0. -/
  loadQueue : Nat := 0
  /-- CUT.LOAD.step; 28 bits; R241; reset 0. -/
  loadStep : Nat := 0
  /-- CUT.BASE; 41 bits; R242; reset 0. -/
  base : Nat := 0
  /-- length of the loaded image; 64 bits; R209; reset 0. -/
  len : Nat := 0
  /-- CUT.DIGEST; 512 bits; R242; reset 0. -/
  digest : BitVec 512 := 0
  /-- CUT.FLOOR; 256 bits; R242; reset 0 until measured (meas). -/
  floorDigest : BitVec 256 := 0
  /-- N, ranks of the loaded list; 11 bits; R209; reset DESIGN CHOICE 1 (log entry 4). -/
  ranks : Nat := 1
  /-- span of the loaded list; 48 bits; R209; reset 0. -/
  span : Nat := 0
  /-- schedule sheaves of the marks; 48 bits each; R213; reset empty. -/
  marks : List Nat := []
  /-- descriptors copied at load; up to 1,024; R169; reset empty. -/
  descs : List (Nat × Desc) := []
  /-- physical tillers of each die in logical order; 9 bits each; R236; reset empty. -/
  logMap : List (Nat × List Nat) := []
  /-- ranks named by CPOST steps; 10 bits each; R345; reset empty. -/
  cpostRanks : List Nat := []
  /-- the LOAD in progress; -; R389; reset none. -/
  loadCmd : Option CmdRef := none
  /-- the RESTORE in progress; -; R366; reset none. -/
  restore : Option SaveJob := none
  /-- saves in progress; list; R363; reset none. -/
  saves : List SaveJob := []
  /-- TIME.RUN.BASE, B; 64 bits; R36; reset 0. -/
  runBase : BitVec 64 := 0
  /-- TIME.RUN.SHEAF; 48 bits; R36; reset 0. -/
  sheaf : Nat := 0
  /-- TIME.RUN.IDLE; 32 bits; R36; reset 0. -/
  idle : Nat := 0
  /-- schedule sheaf before which each idle sheaf was inserted since the start or resume; 48 bits each; R38; reset empty. -/
  idles : List Nat := []
  /-- idle sheaves inserted before the last resume; 32 bits; R367; reset 0. -/
  idleBase : Nat := 0
  /-- the fleet sheaf under way is an inserted idle sheaf; 1 bit; R39; reset false. -/
  idleNow : Bool := false
  /-- the accumulator has reached 100 and this boundary inserts an idle sheaf; 1 bit; R437; reset false. -/
  idleDue : Bool := false
  /-- start or resume grain of the armed run; 64 bits; R37; reset none. -/
  startAt : Option Nat := none
  /-- mark at which the run is paused, or from which it resumes; 16 bits; R367; reset none. -/
  resumeMark : Option Nat := none
  /-- run seed; 64 bits; R389; reset DESIGN CHOICE 0 (log entry 4). -/
  seed : BitVec 64 := 0
  /-- TIME.OVR.TOTAL; 32 bits; R46; reset 0. -/
  ovrTotal : Nat := 0
  /-- TIME.OVR.OTHER; 32 bits; R46; reset 0. -/
  ovrOther : Nat := 0
  /-- TIME.OVR.FIRST; 128 bits; R44; reset 0. -/
  ovrFirst : Option Overrun := none
  /-- TIME.OVR.LAST; 128 bits; R44; reset 0. -/
  ovrLast : Option Overrun := none
  /-- fleet grain of the first overrun, for overruns that fall together; 64 bits; R44; reset DESIGN CHOICE 0 (log entry 4). -/
  ovrGrain : Nat := 0
  /-- schedule sheaf of the previous OVERRUN; 48 bits; R46; reset none. -/
  ovrEvent : Option Nat := none
  /-- an overrun has fallen since the previous OVERRUN; 1 bit; R46; reset false. -/
  ovrNew : Bool := false
  /-- schedule sheaf of the previous TILLER_FLAG; 48 bits; R89; reset none. -/
  flagEvent : Option Nat := none
  /-- first flag change collected since; engine and bit; R89; reset none. -/
  flagNew : Option (Nat × Nat) := none
  /-- posts in flight; list; R40; reset empty. -/
  posts : List Post := []
  /-- barrier counts; list; R224; reset empty. -/
  barriers : List BarrierCount := []
  /-- grains until which CPOST posts are in flight; grains; R345; reset empty. -/
  cposts : List Nat := []
  /-- headless compute stop has begun, no step issues; 1 bit; R496; reset false. -/
  safeStop : Bool := false
  /-- headless compute stop waits for the next schedule sheaf boundary; 1 bit; R496; reset false. -/
  safeDue : Bool := false
  /-- fleet grain of the last overrun, for overruns that fall together; 64 bits; R44; reset DESIGN CHOICE 0 (log entry 4). -/
  ovrLastGrain : Nat := 0
deriving DecidableEq, Repr

/-- REPRO.RUN (R360). -/
structure Repro where
  /-- a list has loaded since the last level-1 reset, so bits_held may read 1; 1 bit; R360; reset 0. -/
  loaded : Bool := false
  /-- step_error; 1 bit; R360; reset 0. -/
  stepError : Bool := false
  /-- bin_sat; 1 bit; R360; reset 0. -/
  binSat : Bool := false
  /-- transfer; 1 bit; R360; reset 0. -/
  transfer : Bool := false
  /-- time_tol; 1 bit; R360; reset 0. -/
  timeTol : Bool := false
  /-- ceiling; 1 bit; R360; reset 0. -/
  ceiling : Bool := false
  /-- half_width; 1 bit; R360; reset 0. -/
  halfWidth : Bool := false
  /-- resumed; 1 bit; R360; reset 0. -/
  resumed : Bool := false
  /-- remote_in; 1 bit; R360; reset 0. -/
  remoteIn : Bool := false
  /-- fadd; 1 bit; R360; reset 0. -/
  fadd : Bool := false
  /-- narrow; 1 bit; R360; reset 0. -/
  narrow : Bool := false
  /-- remote_delay; 1 bit; R360; reset 0. -/
  remoteDelay : Bool := false
  /-- tally_miss; 1 bit; R360; reset 0. -/
  tallyMiss : Bool := false
deriving DecidableEq, Repr

/-- A rail packet as its slots (R250). -/
structure Packet where
  /-- the slots, slot 0 first; 1 to 8 slots; R250; reset -. -/
  slots : List (BitVec 512) := []
  /-- returned and sent again, so not counted in RAIL.DRAIN again; 1 bit; R321; reset -. -/
  again : Bool := false
  /-- it came in a frame that was resent, or was held behind one; 1 bit; R254; reset -. -/
  late : Bool := false
  /-- rail on which the request came that a response answers, 27 for none; 5 bits; R313; reset -. -/
  via : Nat := 27
  /-- grain of its arrival; 64 bits; R323; reset -. -/
  came : Nat := 0
  /-- it came over a ring, and its slots have been freed at the rail site that received it; 1 bit; R302; reset -. -/
  rung : Bool := false
deriving DecidableEq, Repr

/-- A packet on the edge ring or the collective ring (R302, R333). -/
structure BusPkt where
  /-- ring stop at which it is, or which it has left; 0 to 25; R302; reset -. -/
  stop : Nat := 0
  /-- rail site for which it is bound; 5 bits; R302; reset -. -/
  dst : Nat := 0
  /-- it travels clockwise; 1 bit; R302; reset -. -/
  fwd : Bool := true
  /-- grains until the next stop, 0 where it waits at its stop; 0 to 4; R302; reset -. -/
  left : Nat := 0
  /-- through-traffic of its stop; else it waits for injection; 1 bit; R302; reset -. -/
  through : Bool := false
  /-- on the collective ring; 1 bit; R333; reset -. -/
  col : Bool := false
  /-- bound for the rail of its site; else for an engine there; 1 bit; R302; reset -. -/
  out : Bool := false
  /-- the packet; record; R302; reset -. -/
  pkt : Packet := {}
deriving DecidableEq, Repr

/-- A frame in a replay buffer (R253). -/
structure TxFrame where
  /-- fseq; 16 bits; R252; reset -. -/
  seq : Nat := 0
  /-- packets it carries; list; R250; reset -. -/
  packets : List Packet := []
  /-- times it was rejected; 0 to 8; R253; reset -. -/
  rejects : Nat := 0
  /-- lane of the last send; 5 bits; R253; reset -. -/
  lane : Nat := 0
deriving DecidableEq, Repr

/-- What a receiver holds of one wavelength (R246, R247, R261). -/
structure LaneRx where
  /-- codewords in a row that decoded; 0 to 8; R246; reset DESIGN CHOICE 0 (log entry 4). -/
  good : Nat := 0
  /-- codewords in a row that could not be corrected; 0 to 3; R246; reset DESIGN CHOICE 0 (log entry 4). -/
  bad : Nat := 0
  /-- locked to codeword boundaries; 1 bit; R246; reset DESIGN CHOICE false (log entry 4). -/
  locked : Bool := false
  /-- the last codeword could not be corrected; 1 bit; R249; reset DESIGN CHOICE false (log entry 4). -/
  lost : Bool := false
  /-- nor could the one before it; 1 bit; R249; reset DESIGN CHOICE false (log entry 4). -/
  lostBefore : Bool := false
  /-- codewords since the last frame with sf_start; codewords; R247; reset DESIGN CHOICE none (log entry 4). -/
  gap : Option Nat := none
  /-- superframe lock; 1 bit; R247; reset DESIGN CHOICE false (log entry 4). -/
  framed : Bool := false
  /-- number in its superframe of the next frame; 0 to 256; R247; reset DESIGN CHOICE 0 (log entry 4). -/
  frame : Nat := 0
  /-- the last frame was a training frame; 1 bit; R288; reset DESIGN CHOICE false (log entry 4). -/
  training : Bool := false
  /-- codewords measured; up to 2^20; R261; reset DESIGN CHOICE 0 (log entry 4). -/
  words : Nat := 0
  /-- of them, those that could not be corrected; count; R261; reset DESIGN CHOICE 0 (log entry 4). -/
  unc : Nat := 0
  /-- symbol errors in them; count; R261; reset DESIGN CHOICE 0 (log entry 4). -/
  errs : Nat := 0
deriving DecidableEq, Repr

/-- What a transmitter holds of one lane (R247, R248, R283). -/
structure LaneTx where
  /-- number in its superframe of the next frame; 0 to 256; R247; reset DESIGN CHOICE 0 (log entry 4). -/
  frame : Nat := 0
  /-- PRBS31 of its idle and training frames; 31 bits; R283; reset DESIGN CHOICE all ones (log entry 57). -/
  prbs : BitVec 31 := 0x7FFFFFFF
  /-- the frame last put on the line; 4,160 bits; R248; reset DESIGN CHOICE 0 (log entry 4). -/
  line : BitVec 4160 := 0
  /-- data frames since its last idle frame; 0 to 31; R372; reset DESIGN CHOICE 0 (log entry 4). -/
  data : Nat := 0
deriving DecidableEq, Repr

/-- One physical rail (10_rail_links.md). -/
structure Rail where
  /-- RAIL.STATE.state, code of R259; 3 bits; R271; reset 0 DOWN. -/
  state : Nat := 0
  /-- RAIL.STATE.logical; 5 bits; R271; reset 0x1F until assigned (meas). -/
  logical : Option Nat := none
  /-- qualified data lanes; 32 bits; R261; reset 0 until qualified (meas). -/
  lanes : BitVec 32 := 0
  /-- parked data lanes; 32 bits; R262; reset 0. -/
  parked : BitVec 32 := 0
  /-- suspended channels; channels 0 to 32; R290; reset none. -/
  suspended : List Nat := []
  /-- RAIL.STATE.control_ok; 1 bit; R271; reset 0 until qualified (meas). -/
  controlOk : Bool := false
  /-- RAIL.STATE.attempts; 2 bits; R271; reset 0. -/
  attempts : Nat := 0
  /-- RAIL.ERR.corrected; 24 bits; R271; reset 0. -/
  corrected : Nat := 0
  /-- RAIL.ERR.uncorrectable; 12 bits; R271; reset 0. -/
  uncorrectable : Nat := 0
  /-- RAIL.ERR.resent; 16 bits; R271; reset 0. -/
  resent : Nat := 0
  /-- RAIL.ERR.bad_packet; 8 bits; R271; reset 0. -/
  badPacket : Nat := 0
  /-- control words discarded, and idle frames rejected; count; R256; reset DESIGN CHOICE 0 (log entry 4). -/
  badWords : Nat := 0
  /-- rejected frames a lane since qualification; 0 to 16 a lane; R262; reset 0. -/
  laneRej : List (Nat × Nat) := []
  /-- grains of recent uncorrectable codewords a lane; grains; R262; reset empty. -/
  laneUnc : List (Nat × List Nat) := []
  /-- fseq of the next data frame; 16 bits; R252; reset 0. -/
  txSeq : Nat := 0
  /-- lane to which the last frame was dealt; 5 bits; R252; reset DESIGN CHOICE 31, so that lane 0 is dealt first (log entry 4). -/
  txLane : Nat := 31
  /-- replay buffer; up to 2,048; R253; reset empty. -/
  replay : List TxFrame := []
  /-- fseq expected next; 16 bits; R252; reset 0. -/
  rxNext : Nat := 0
  /-- times each frame was rejected at this end; 0 to 8 a frame; R253; reset 0. -/
  rxRejects : List (Nat × Nat) := []
  /-- frames held for order, with their slots; up to 2,048; R252; reset empty. -/
  reorder : List (Nat × List (BitVec 512)) := []
  /-- fseq of frames to be named in negative acknowledgements; 16 bits each; R253; reset empty. -/
  naks : List Nat := []
  /-- slots sent a virtual channel; 32 bits a channel; R255; reset 0. -/
  sentSlots : List (Nat × Nat) := []
  /-- slots the far end has freed, cumulative; 32 bits a channel; R255; reset 0. -/
  freed : List (Nat × Nat) := []
  /-- slots the far end advertises; 16 bits a channel; R255; reset 0 until TRAIN. -/
  limits : List (Nat × Nat) := []
  /-- slots this module has freed, cumulative; 32 bits a channel; R255; reset 0. -/
  rxFreed : List (Nat × Nat) := []
  /-- transmit queue, each packet with the grain since which it has lacked credit at the head of its channel; list; R266; reset empty. -/
  queue : List (Packet × Option Nat) := []
  /-- held DOWN by CALIBRATE action 3; 1 bit; R262; reset false. -/
  heldDown : Bool := false
  /-- CALIBRATE action 2 in progress on it; -; R392; reset none. -/
  calib : Option CmdRef := none
  /-- the last TRAIN word received; 256 bits; R260; reset DESIGN CHOICE 0 (log entry 4). -/
  trainRx : BitVec 256 := 0
  /-- lanes that rejoin at the next boundary; 32 bits; R288; reset 0. -/
  trainMask : BitVec 32 := 0
  /-- grain at which the state was entered; 64 bits; R259; reset DESIGN CHOICE 0 (log entry 4). -/
  stateSince : Nat := 0
  /-- its site is in block reset; 1 bit; R451; reset false. -/
  reset : Bool := false
  /-- fseq of the held frames that were resent or stood behind a gap; 16 bits each; R254; reset empty. -/
  late : List Nat := []
  /-- reserved buffer of the responses owed to escape requests; 512 slots; R266; reset empty. -/
  escape : List (Packet × Option Nat) := []
  /-- wavelengths of the receive fibre that locked in OPTICAL; 34 bits; R259; reset DESIGN CHOICE 0 (log entry 4). -/
  rxWaves : BitVec 34 := 0
  /-- receivers by wavelength; 34 records; R246; reset as LaneRx. -/
  rx : List (Nat × LaneRx) := []
  /-- transmitters by logical channel, 33 for the spare; 33 records; R248; reset as LaneTx. -/
  tx : List (Nat × LaneTx) := []
  /-- control words of decoded codewords, not yet consumed; list; R256; reset empty. -/
  rxWords : List (BitVec 256) := []
  /-- codeword counters of the last 16 control codewords; 14 bits each; R287; reset empty. -/
  rxTaken : List Nat := []
  /-- control words that wait for a place in a codeword; list; R256; reset empty. -/
  ctlWait : List (BitVec 256) := []
  /-- codeword counter of the next control codeword; 14 bits; R256; reset DESIGN CHOICE 0 (log entry 57). -/
  ctlCount : Nat := 0
  /-- the control codeword last put on the line; 5,440 bits; R256; reset DESIGN CHOICE 0 (log entry 4). -/
  ctlCode : BitVec 5440 := 0
deriving DecidableEq, Repr

/-- A combined word contributed and not yet answered (R258). -/
structure Contribution where
  /-- 0x20 BARRIER, 0x21 TALLY, 0x22 TIMECHK, 0x23 EPOCH; 8 bits; R257; reset -. -/
  kind : Nat := 0
  /-- barrier number or sheaf; 52 bits; R258; reset -. -/
  key : Nat := 0
deriving DecidableEq, Repr

/-- What all rails share (R264 to R272). -/
structure RailTop where
  /-- RAIL.MAP by version * 4096 + destination; 8,192 entries of 29 bits; R272; reset DESIGN CHOICE mask 0xFF_FFFF, escape 0, the baseline of R458 for unlisted entries (log entry 4). -/
  map : List (Nat × BitVec 32) := []
  /-- RAIL.SUMMARY.epoch; 1 bit; R270; reset 0. -/
  epoch : Bool := false
  /-- RAIL.SUMMARY.flip_pending; 1 bit; R270; reset 0. -/
  flipPending : Bool := false
  /-- RAIL.SUMMARY.drain_timeout (RS); 1 bit; R270; reset 0. -/
  drainTimeout : Bool := false
  /-- the drain timeout of the flip that drains has run; 1 bit; R268; reset false. -/
  timedOut : Bool := false
  /-- RAIL.FLIP.sheaf; 52 bits; R270; reset 0. -/
  flipSheaf : Nat := 0
  /-- RAIL.FLIP.epoch; 1 bit; R270; reset 0. -/
  flipEpoch : Bool := false
  /-- EPOCH contributed for the pending flip; 1 bit; R267; reset false. -/
  contributed : Bool := false
  /-- ready of the EPOCH result for the pending flip; 1 bit; R267; reset none. -/
  result : Option Bool := none
  /-- grain of the flip that drains; 64 bits; R268; reset none. -/
  flippedAt : Option Nat := none
  /-- contributions outstanding; list; R258; reset empty. -/
  outstanding : List Contribution := []
  /-- control words sent, with the physical rail; list; R257; reset MODEL output, empty. -/
  words : List (Nat × BitVec 256) := []
  /-- packets put on rails, with the physical rail; list; R252; reset MODEL output, empty. -/
  frames : List (Nat × Packet) := []
  /-- the assignment of step 11 has been made; 1 bit; R244; reset false. -/
  assigned : Bool := false
  /-- packets delivered to the rail sites and not yet taken by their engines, with the physical rail, 26 for the module itself; list; R254; reset empty. -/
  arrived : List (Nat × Packet) := []
  /-- responses and acks that wait for a rail, with the rail they answer; list; R313; reset empty. -/
  waiting : List (Nat × Packet) := []
  /-- packets on the edge ring and the collective ring; list; R302; reset empty. -/
  bus : List BusPkt := []
  /-- logical rails that had an ACTIVE physical rail when U was last formed; 24 bits, as a rising list; R265; reset empty. -/
  formed : List Nat := []
deriving DecidableEq, Repr

/-- A comb laser (R297). -/
structure Comb where
  /-- OPT.COMB.state; 2 bits; R297; reset 0 off. -/
  state : Nat := 0
  /-- OPT.COMB.boost; 1 bit; R297; reset 0. -/
  boost : Bool := false
  /-- OPT.COMB.power; 8 bits; R297; reset 0 until measured (meas). -/
  power : Nat := 0
  /-- OPT.COMB.temp; 8 bits; R297; reset 0. -/
  temp : Nat := 0
deriving DecidableEq, Repr

/-- A ring resonator and its loop (R276 to R280). -/
structure Ring where
  /-- h_cal; 16 bits; R277; reset 0 until calibrated. -/
  hcal : Int := 0
  /-- k_ff; signed; R277; reset 0 until calibrated. -/
  kff : Int := 0
  /-- t_cal; 1/16 degree; R277; reset 0 until calibrated. -/
  tcal : Int := 0
  /-- S; codes; R277; reset DESIGN CHOICE 8,348, the spec's example, until calibrated (log entry 4). -/
  spacing : Int := 8348
  /-- target ratio of a transmit ring; percent; R276; reset DESIGN CHOICE 50 until calibrated (log entry 4). -/
  rho : Nat := 50
  /-- P_off; 8 bits; R279; reset 0 until calibrated. -/
  poff : Nat := 0
  /-- trim; 32 bits; R279; reset 0. -/
  trim : Int := 0
  /-- heater code h; 16 bits; R279; reset 0. -/
  heater : Nat := 0
  /-- locked; 1 bit; R280; reset false. -/
  locked : Bool := false
  /-- consecutive loop periods with err within 4; 0 to 16; R280; reset 0. -/
  quiet : Nat := 0
  /-- consecutive integrations below a quarter of the locked power; 0 to 4; R280; reset 0. -/
  weak : Nat := 0
  /-- monitored power when it locked; 8 bits; R280; reset 0. -/
  lockedPower : Nat := 0
  /-- monitored power at the last loop period; 8 bits; R279; reset DESIGN CHOICE 0 (log entry 4). -/
  power : Nat := 0
  /-- grain at which it was declared slipped; 64 bits; R291; reset none. -/
  slipped : Option Nat := none
  /-- failed, its wavelength retired; 1 bit; R291; reset false. -/
  failed : Bool := false
  /-- grain of its last declaration; 64 bits; R296; reset DESIGN CHOICE 0 (log entry 4). -/
  declared : Nat := 0
  /-- o, the fabrication offset; pm; R277; reset 0 until calibrated. -/
  offset : Int := 0
deriving DecidableEq, Repr

/-- One fibre of a rail (R284 to R298). -/
structure FibreMap where
  /-- OPT.RAIL.MAP.map; 34 values of 6 bits; R298; reset 0x3F each until measured (meas). -/
  map : List (Nat × Nat) := []
  /-- OPT.RAIL.MAP.spare; 6 bits; R298; reset 0x3F until measured (meas). -/
  spare : Option Nat := none
  /-- OPT.RAIL.MAP.rotating; 1 bit; R298; reset 0. -/
  rotating : Bool := false
  /-- OPT.RAIL.MAP.slot; 6 bits; R298; reset 0. -/
  slot : Nat := 0
  /-- the spare wavelength is retired; 1 bit; R288; reset false. -/
  retired : Bool := false
  /-- handover in progress; channel, from, to; R287; reset none. -/
  moving : Option (Nat × Nat × Nat) := none
  /-- consecutive IDENT reports on the spare of a handover: of its channel, and at 64 on of another; count a wavelength; R287; reset empty. -/
  reports : List (Nat × Nat) := []
  /-- consecutive IDENT words or observations that differ; count a wavelength; R289; reset empty. -/
  mismatch : List (Nat × Nat) := []
  /-- consecutive codewords that could not be corrected; count a wavelength; R289; reset empty. -/
  bad : List (Nat × Nat) := []
  /-- requalification of a parked channel; wavelength and codewords; R288; reset none. -/
  requal : Option (Nat × Nat) := none
  /-- wavelength whose slipped ring is being recovered; wavelength; R291; reset none. -/
  recovering : Option Nat := none
  /-- identity observations on each wavelength of a receive fibre; 8 observations a wavelength; R284; reset empty. -/
  ident : List (Nat × List Nat) := []
  /-- retired wavelengths; wavelengths; R288; reset none. -/
  dead : List Nat := []
deriving DecidableEq, Repr

/-- Lasers and rings (11_optical_control.md). -/
structure Opt where
  /-- combs; 8 records; R297; reset as Comb. -/
  combs : List (Nat × Comb) := []
  /-- OPT.STATUS.slope (RS); 1 bit; R296; reset 0. -/
  slope : Bool := false
  /-- OPT.STATUS.slip (RS); 1 bit; R296; reset 0. -/
  slip : Bool := false
  /-- OPT.STATUS.spare_lost (RS); 1 bit; R296; reset 0. -/
  spareLost : Bool := false
  /-- OPT.SLIP.LAST.site; 8 bits; R296; reset 0. -/
  slipSite : Nat := 0
  /-- OPT.SLIP.LAST.port; 5 bits; R296; reset 0. -/
  slipPort : Nat := 0
  /-- OPT.SLIP.LAST.wavelength; 6 bits; R296; reset 0. -/
  slipWave : Nat := 0
  /-- OPT.SLIP.LAST.direction; 1 bit; R296; reset 0. -/
  slipDir : Nat := 0
  /-- OPT.SLIP.LAST.recovered; 1 bit; R296; reset 0. -/
  slipRec : Bool := false
  /-- OPT.SLIP.LAST.lines; 8 bits signed; R296; reset 0. -/
  slipLines : Int := 0
  /-- OPT.SLIP.LAST.grain; 64 bits; R296; reset 0. -/
  slipGrain : Nat := 0
  /-- rings by key of their port or peg and wavelength; record a ring; R276; reset as Ring. -/
  rings : List (Nat × Ring) := []
  /-- last temperature reading of each ring bank, with its grain; 1/16 degree, grain; R276; reset DESIGN CHOICE none (log entry 4). -/
  banks : List (Nat × Int × Nat) := []
  /-- fibres by 2 * rail + direction; 52 records; R298; reset as FibreMap. -/
  fibres : List (Nat × FibreMap) := []
  /-- OPT.RAIL.CNT.slips; 12 bits a rail; R298; reset 0. -/
  slips : List (Nat × Nat) := []
  /-- OPT.RAIL.CNT.cycles; 12 bits a rail; R298; reset 0. -/
  cycles : List (Nat × Nat) := []
  /-- fleet sheaf of the last RING_SLIP of each fibre; 52 bits a fibre; R291; reset empty. -/
  slipSheaf : List (Nat × Nat) := []
deriving DecidableEq, Repr

/-- A remote request outstanding at its engine (R303, R314, R320). -/
structure Outreq where
  /-- record of the batch; 2,047 when a reset has stopped its batch; 11 bits; R306; reset -. -/
  recNo : Nat := 0
  /-- destination module; 12 bits; R299; reset -. -/
  dest : Nat := 0
  /-- sequence number; 24 bits; R314; reset -. -/
  seq : Nat := 0
  /-- the request packet; record; R312; reset -. -/
  pkt : Packet := {}
  /-- grain of the first send; 64 bits; R320; reset -. -/
  first : Nat := 0
  /-- grain of the last send; 64 bits; R320; reset -. -/
  last : Nat := 0
  /-- grain of a BUSY response that waits for its resend; 64 bits; R320; reset -. -/
  busyAt : Option Nat := none
  /-- it has been resent; 1 bit; R307; reset -. -/
  resent : Bool := false
  /-- it has met BUSY; 1 bit; R307; reset -. -/
  busy : Bool := false
  /-- a response carried a congestion mark; 1 bit; R307; reset -. -/
  marked : Bool := false
  /-- returned undelivered and waiting for its resend; 1 bit; R320; reset -. -/
  unsent : Bool := false
deriving DecidableEq, Repr

/-- A batch in progress (R304 to R308). -/
structure Batch where
  /-- records; 11 bits; R305; reset -. -/
  count : Nat := 0
  /-- completion post; engine and counter; R305; reset -. -/
  post : Option (Nat × Nat) := none
  /-- next record to issue; 11 bits; R304; reset -. -/
  next : Nat := 0
  /-- results so far; record, status, marked, old; R307; reset -. -/
  status : List (Nat × Nat × Bool × Nat) := []
  /-- LOAD data to write; doff and bytes; R307; reset -. -/
  data : List (Nat × List (BitVec 8)) := []
  /-- a FENCE that waits, with what it waits for; destination and seq; R318; reset -. -/
  fence : Option (List (Nat × Nat)) := none
  /-- record of that FENCE; 11 bits; R318; reset -. -/
  fenceRec : Nat := 0
  /-- a request was resent; 1 bit; R307; reset -. -/
  resent : Bool := false
  /-- a request met BUSY; 1 bit; R307; reset -. -/
  busy : Bool := false
deriving DecidableEq, Repr

/-- What an engine keeps of one destination (R314, R325). -/
structure DestState where
  /-- next seq; 24 bits; R314; reset 0. -/
  next : Nat := 0
  /-- seqs at or above done that have a final status; seqs; R314; reset empty. -/
  final : List Nat := []
  /-- done(m); 24 bits; R314; reset 0. -/
  done : Nat := 0
  /-- W(m); 1 to 1,024; R325; reset 64. -/
  window : Nat := 64
  /-- grain of the last halving; 64 bits; R325; reset none. -/
  halved : Option Nat := none
  /-- consecutive unmarked responses; 0 to 63; R325; reset 0. -/
  clean : Nat := 0
  /-- seq of the previous STORE; 24 bits; R316; reset none. -/
  lastStore : Option Nat := none
deriving DecidableEq, Repr

/-- A remote-access engine (R330). -/
structure FabEng where
  /-- FAB.ENG.spelt; 1 bit; R330; reset DESIGN CHOICE 0, the baseline of R458 until step 3 (log entry 4). -/
  spelt : Bool := false
  /-- the batch in progress; record; R330; reset 0. -/
  batch : Option Batch := none
  /-- an SLOUT that wrote granule 0 of the request area has completed; 1 bit; R304; reset false. -/
  armed : Bool := false
  /-- FAB.ENG.bad_batch (RS); 1 bit; R330; reset 0. -/
  badBatch : Bool := false
  /-- FAB.ENG.timeout (RS); 1 bit; R330; reset 0. -/
  timeout : Bool := false
  /-- FAB.ENG.sent; 32 bits; R330; reset 0. -/
  sent : Nat := 0
  /-- outstanding requests; up to 1,024; R303; reset empty. -/
  out : List Outreq := []
  /-- sequence state by destination; record a module; R314; reset as DestState. -/
  dests : List (Nat × DestState) := []
deriving DecidableEq, Repr

/-- A record of the stream table of the destination (R315). -/
structure StreamRec where
  /-- the stream's done; 24 bits; R315; reset -. -/
  done : Nat := 0
  /-- seq of the last store applied; 24 bits; R315; reset -. -/
  lastStore : Option Nat := none
  /-- completed seqs of the window with cached status and old value; seq, status, old; R315; reset -. -/
  complete : List (Nat × Nat × Nat) := []
  /-- stores applied and not yet below done; seqs; R316; reset -. -/
  stores : List Nat := []
  /-- seqs queued or held; seqs; R315; reset -. -/
  queued : List Nat := []
  /-- grain of the last arrival; 64 bits; R315; reset -. -/
  last : Nat := 0
deriving DecidableEq, Repr

/-- A request in a line arbiter or the hold pool (R316, R323). -/
structure LineReq where
  /-- source module; 12 bits; R250; reset -. -/
  src : Nat := 0
  /-- engine of the source; 8 bits; R312; reset -. -/
  flow : Nat := 0
  /-- the request packet; record; R312; reset -. -/
  pkt : Packet := {}
  /-- physical rail of arrival, 26 for the module itself; 5 bits; R313; reset -. -/
  rail : Nat := 0
  /-- congestion mark of its response; 1 bit; R325; reset -. -/
  marked : Bool := false
  /-- occupancy at admission over 16; 8 bits; R313; reset -. -/
  qfill : Nat := 0
deriving DecidableEq, Repr

/-- A line arbiter (R323, R330). -/
structure FabPort where
  /-- admitted requests, in order of admission; up to 4,096; R323; reset empty. -/
  queue : List LineReq := []
  /-- FAB.PORT.peak; 13 bits; R330; reset 0. -/
  peak : Nat := 0
  /-- FAB.PORT.over_half (RS); 1 bit; R330; reset 0. -/
  overHalf : Bool := false
deriving DecidableEq, Repr

/-- Remote loads, stores and atomics (12_memory_fabric.md). -/
structure Fab where
  /-- FAB.MODULE; 12 bits; R329; reset DESIGN CHOICE 0, the baseline of R458 until step 3 (log entry 4). -/
  module : Nat := 0
  /-- FAB.SOURCES; 13 bits; R329; reset DESIGN CHOICE 4,096, the baseline of R458 until step 3 (log entry 4). -/
  sources : Nat := 4096
  /-- FAB.STATUS.busy; 16 bits; R329; reset 0. -/
  busy : Nat := 0
  /-- FAB.STATUS.duplicates; 16 bits; R329; reset 0. -/
  duplicates : Nat := 0
  /-- FAB.STATUS.undelivered; 16 bits; R329; reset 0. -/
  undelivered : Nat := 0
  /-- FAB.STATUS.streams_full (RS); 1 bit; R329; reset 0. -/
  streamsFull : Bool := false
  /-- remote-access engines; 64 records; R330; reset as FabEng. -/
  engs : List (Nat × FabEng) := []
  /-- line arbiters; 32 records; R330; reset as FabPort. -/
  ports : List (Nat × FabPort) := []
  /-- stream table by source module * 256 + flow; up to 65,536; R315; reset empty. -/
  table : List (Nat × StreamRec) := []
  /-- stores held for their dependence; up to 8,192; R316; reset empty. -/
  holdPool : List LineReq := []
  /-- remote windows of the rail-site buffers; 26 x 512 KiB; R301; reset 0 (level 3 clears); unlisted reads 0. -/
  window : List Host.Cell := []
  /-- grain before which no remote request is sent; 64 bits; R322; reset DESIGN CHOICE 0 (log entry 4). -/
  silentTo : Nat := 0
deriving DecidableEq, Repr

/-- A collective data packet waiting at its sender (R342). -/
structure ColPkt where
  /-- destination rank; 10 bits; R339; reset -. -/
  dest : Nat := 0
  /-- phase; 1 bit; R339; reset -. -/
  phase : Nat := 0
  /-- share or block; 10 bits; R339; reset -. -/
  share : Nat := 0
  /-- packet index; 18 bits; R339; reset -. -/
  index : Nat := 0
  /-- epoch of the packet; 1 bit; R342; reset -. -/
  epoch : Bool := false
  /-- grain of the last send; 64 bits; R342; reset -. -/
  last : Nat := 0
  /-- returned undelivered, to be resent at the next boundary; 1 bit; R342; reset -. -/
  undelivered : Bool := false
  /-- not sent yet: it waits in its engine for a rail; 1 bit; R264; reset -. -/
  waits : Bool := false
deriving DecidableEq, Repr

/-- A collective step in progress (R337 to R343). -/
structure ColJob where
  /-- opcode 0x80 to 0x83; 8 bits; R334; reset -. -/
  op : Nat := 0
  /-- body of the step; 80 bits; R335; reset -. -/
  body : BitVec 80 := 0
  /-- grain of issue; 64 bits; R343; reset -. -/
  issued : Nat := 0
  /-- contributions staged for the own share; rank, share, index, bytes; R341; reset -. -/
  staged : List (Nat × Nat × Nat × List (BitVec 8)) := []
  /-- phase 1 packets written; share and index; R341; reset -. -/
  written : List (Nat × Nat) := []
  /-- packets sent and not acknowledged; list; R342; reset -. -/
  unacked : List ColPkt := []
  /-- the own share, reduced; bytes; R340; reset -. -/
  result : List (BitVec 8) := []
  /-- the own share is complete; 1 bit; R340; reset -. -/
  reduced : Bool := false
  /-- grain of the first arrival of each group not yet acknowledged whole; grain a group; R341; reset -. -/
  groups : List (Nat × Nat) := []
  /-- groups whose timed ack has been sent; groups; R341; reset -. -/
  timed : List Nat := []
  /-- a packet was resent or returned undelivered; 1 bit; R343; reset -. -/
  resent : Bool := false
  /-- a contribution carried uncorr; 1 bit; R343; reset -. -/
  uncorr : Bool := false
  /-- it meets a delay other than a resend; 1 bit; R343; reset -. -/
  delayed : Bool := false
deriving DecidableEq, Repr

/-- A collective engine (R351). -/
structure ColEng where
  /-- the step in progress; record; R351; reset 0 (busy). -/
  job : Option ColJob := none
  /-- COL.ENG.tag; 16 bits; R351; reset 0. -/
  tag : Nat := 0
  /-- early store, each packet with its rail of arrival; up to 1,024; R351; reset empty. -/
  early : List (Packet × Nat) := []
  /-- COL.ENG.timeout (RS); 1 bit; R351; reset 0. -/
  timeout : Bool := false
  /-- COL.ENG.early_full (RS); 1 bit; R351; reset 0. -/
  earlyFull : Bool := false
  /-- COL.ENG.resent; 16 bits; R351; reset 0. -/
  resent : Nat := 0
  /-- COL.ENG.stray; 16 bits; R351; reset 0. -/
  stray : Nat := 0
  /-- tags of the last 16 completed steps; 16 tags; R341; reset empty. -/
  recent : List Nat := []
  /-- units of the collective area last written by an uncorrectable frame of an SLOUT; 64-byte units; R343; reset empty. -/
  uncorrArea : List Nat := []
deriving DecidableEq, Repr

/-- Collectives (13_collectives.md). -/
structure Col where
  /-- COL.CONFIG.rank; 10 bits; R350; reset DESIGN CHOICE 0, the baseline of R458 until step 3 (log entry 4). -/
  rank : Nat := 0
  /-- COL.CONFIG.stook; 16 bits; R350; reset DESIGN CHOICE 0, the baseline of R458 until step 3 (log entry 4). -/
  stook : Nat := 0
  /-- COL.PEER; 12 bits a rank; R350; reset DESIGN CHOICE entry j holds j, the baseline of R458 for unlisted entries (log entry 4). -/
  peers : List (Nat × Nat) := []
  /-- collective engines; 26 records; R351; reset as ColEng. -/
  engs : List (Nat × ColEng) := []
  /-- collective areas; 26 x 16 MiB; R332; reset 0 (level 3 clears); unlisted reads 0. -/
  area : List Host.Cell := []
  /-- TOKEN words applied within 8,192 grains; src, engine, counter, grain; R346; reset empty. -/
  seen : List (Nat × Nat × Nat × Nat) := []
deriving DecidableEq, Repr

/-- A data frame in the replay buffer of a Yuley port (R253, R372). -/
structure YFrame where
  /-- fseq; 16 bits; R252; reset -. -/
  seq : Nat := 0
  /-- lane on which it was sent last; 2 bits; R252; reset -. -/
  lane : Nat := 0
  /-- times it was rejected; 0 to 8; R253; reset -. -/
  rejects : Nat := 0
  /-- it is to be sent again; 1 bit; R253; reset -. -/
  again : Bool := false
  /-- its slots; 8 slots; R378; reset -. -/
  slots : List (BitVec 512) := []
deriving DecidableEq, Repr

/-- A Yuley port (R371 to R373, R397). -/
structure RxPort where
  /-- CMD.PORT.state; 3 bits; R397; reset 0 DOWN. -/
  state : Nat := 0
  /-- CMD.PORT.lanes; 4 bits; R397; reset 0 until trained (meas). -/
  lanes : Nat := 0
  /-- CMD.PORT.resent; 16 bits; R397; reset 0. -/
  resent : Nat := 0
  /-- CMD.PORT.rejected; 16 bits; R397; reset 0. -/
  rejected : Nat := 0
  /-- failed training attempts; 2 bits; R373; reset 0. -/
  attempts : Nat := 0
  /-- rejections of each frame; 0 to 8 a frame; R373; reset 0. -/
  laneRej : List (Nat × Nat) := []
  /-- fseq expected next; 16 bits; R252; reset 0. -/
  rxNext : Nat := 0
  /-- frames held for order; list; R252; reset empty. -/
  reorder : List (Nat × List (BitVec 512)) := []
  /-- frames to be named in negative acknowledgements; 16 bits each; R253; reset empty. -/
  naks : List Nat := []
  /-- delivered slots not yet parsed into packets; list; R378; reset empty. -/
  slots : List (BitVec 512) := []
  /-- grain at which the state was entered; 64 bits; R259; reset DESIGN CHOICE 0 (log entry 4). -/
  stateSince : Nat := 0
  /-- wavelengths that locked in OPTICAL; 34 bits; R373; reset DESIGN CHOICE 0 (log entry 4). -/
  rxWaves : BitVec 34 := 0
  /-- receivers by wavelength; 4 records; R372; reset as LaneRx. -/
  rx : List (Nat × LaneRx) := []
  /-- transmitters by lane; 4 records; R372; reset as LaneTx. -/
  tx : List (Nat × LaneTx) := []
  /-- frames whose negative acknowledgement waits for an idle frame; 16 bits each; R253; reset empty. -/
  asks : List Nat := []
  /-- fseq of the next data frame; 16 bits; R252; reset 0. -/
  txSeq : Nat := 0
  /-- slots of the byte stream sent that are in no frame yet; list; R378; reset empty. -/
  txSlots : List (BitVec 512) := []
  /-- replay buffer; up to 2,048; R253; reset empty. -/
  replay : List YFrame := []
deriving DecidableEq, Repr

/-- A packet the module sends (R378). -/
structure YPacket where
  /-- port it leaves on; 1 bit; R377; reset -. -/
  port : Nat := 0
  /-- channel; 3 bits; R378; reset -. -/
  channel : Nat := 0
  /-- 1 reply, 2 event; 2 bits; R378; reset -. -/
  ptype : Nat := 1
  /-- opcode echoed, or 0x710; 12 bits; R378; reset -. -/
  opcode : Nat := 0
  /-- tag echoed; 16 bits; R378; reset -. -/
  tag : Nat := 0
  /-- status; 16 bits; R378; reset -. -/
  status : Nat := 0
  /-- last; 1 bit; R378; reset -. -/
  last : Bool := true
  /-- overflow; 1 bit; R378; reset -. -/
  overflow : Bool := false
  /-- payload; bytes; R378; reset -. -/
  payload : List (BitVec 8) := []
deriving DecidableEq, Repr

/-- The subscription of one event group (R394). -/
structure Sub where
  /-- codes subscribed; 256 bits; R394; reset 0 (starts empty). -/
  mask : BitVec 256 := 0
  /-- channel; 3 bits; R394; reset 0. -/
  channel : Nat := 0
  /-- enabled; 1 bit; R394; reset 0. -/
  enabled : Bool := false
deriving DecidableEq, Repr

/-- An error record (R528). -/
structure Record where
  /-- code; 16 bits; R528; reset 0. -/
  code : Nat := 0
  /-- class; 3 bits; R528; reset 0. -/
  cls : Nat := 0
  /-- pending; 1 bit; R528; reset 0. -/
  pend : Bool := false
  /-- eseq; 32 bits; R528; reset 0. -/
  eseq : Nat := 0
  /-- grain; 64 bits; R528; reset 0. -/
  grain : Nat := 0
  /-- engine; 16 bits; R528; reset 0. -/
  engine : Nat := 0
  /-- raising processor; 8 bits; R528; reset 0. -/
  raiser : Nat := 0
  /-- detail word 0; 64 bits; R528; reset 0. -/
  w0 : Nat := 0
  /-- detail word 1; 64 bits; R528; reset 0. -/
  w1 : Nat := 0
  /-- detail word 2; 64 bits; R528; reset 0. -/
  w2 : Nat := 0
  /-- detail word 3; 64 bits; R528; reset 0. -/
  w3 : Nat := 0
deriving DecidableEq, Repr

/-- Error records (24_faults.md). -/
structure Err where
  /-- events raised and still with their raisers; list; R529; reset empty. -/
  raised : List Record := []
  /-- ERR.LOG by slot; 4,096 records; R530; reset free. -/
  log : List (Nat × Record) := []
  /-- ERR.STATUS.overwritten; 16 bits; R537; reset 0. -/
  overwritten : Nat := 0
  /-- window of the last ERR_OVERWRITE; window; R530; reset none. -/
  owWindow : Option Nat := none
  /-- ERR.FAULT; 64 records; R531; reset free. -/
  fault : List (Nat × Record) := []
  /-- ERR.PREV; 64 records; R534; reset free. -/
  prev : List (Nat × Record) := []
  /-- ERR.STATUS.fault_full (RS); 1 bit; R537; reset 0. -/
  faultFull : Bool := false
  /-- ERR.ACK; 32 bits; R537; reset 0. -/
  ackReg : Nat := 0
  /-- ERR.THRESH.threshold; 16 bits a group; R537; reset DESIGN CHOICE 64, the baseline of R458 for unlisted groups (log entry 4). -/
  thresh : List (Nat × Nat) := []
  /-- ERR.THRESH.count; 16 bits a group; R537; reset 0. -/
  counts : List (Nat × Nat) := []
  /-- groups whose ERR_RATE has been raised in this window; groups; R535; reset empty. -/
  rateDone : List Nat := []
  /-- number of the current window; 34 bits; R535; reset 0. -/
  window : Nat := 0
  /-- grain of the first change of the fault table not yet mirrored; 64 bits; R531; reset none. -/
  dirty : Option Nat := none
  /-- ERR.PREV has been filled since the last level-3 reset; 1 bit; R534; reset false. -/
  prevCopied : Bool := false
deriving DecidableEq, Repr

/-- A mailbox message (R400). -/
structure Msg where
  /-- the message; 64 bytes; R400; reset -. -/
  data : List (BitVec 8) := []
deriving DecidableEq, Repr

/-- Retention registers of a sleeping processor (R410). -/
structure Retained where
  /-- pending; 64 bits; R410; reset -. -/
  pend : BitVec 64 := 0
  /-- overrun; 64 bits; R410; reset -. -/
  ovr : BitVec 64 := 0
  /-- enable; 64 bits; R410; reset -. -/
  enable : BitVec 64 := 0
  /-- stuck; 64 bits; R410; reset -. -/
  stuck : BitVec 64 := 0
  /-- hold timer remainder; grains; R410; reset -. -/
  left : Nat := 0
  /-- PROC.IRQ.CFG.hold; 16 bits; R410; reset -. -/
  hold : Nat := 0
  /-- PROC.IRQ.CFG.count; 6 bits; R410; reset -. -/
  count : Nat := 0
  /-- PROC.IRQ.CFG.stuck; 10 bits; R410; reset -. -/
  stuckTh : Nat := 0
  /-- sleep_ok; 1 bit; R413; reset -. -/
  sleepOk : Bool := false
  /-- edge counts, in Gray code; 2 bits a source; R410; reset -. -/
  gray : List (Nat × BitVec 2) := []
deriving DecidableEq, Repr

/-- The last edges of a source line at a controller, for what falls in the same grain (R5, R407). -/
structure EdgeRec where
  /-- grain of the edges; 64 bits; R407; reset none. -/
  grain : Option Nat := none
  /-- rising edges in that grain; count; R406; reset 0. -/
  k : Nat := 0
  /-- pending before them; 1 bit; R407; reset 0. -/
  pend : Bool := false
  /-- overrun before them; 1 bit; R407; reset 0. -/
  ovr : Bool := false
deriving DecidableEq, Repr

/-- A processor and its interrupt controller (R412, R413). -/
structure Proc where
  /-- PROC.STATE.state; 3 bits; R412; reset 0 off. -/
  state : Nat := 0
  /-- grains of its faults within 10 s; grains; R412; reset empty. -/
  faults : List Nat := []
  /-- PROC.STATE.restarted (RS); 1 bit; R412; reset 0. -/
  restarted : Bool := false
  /-- PROC.STATE.heartbeat; 16 bits; R412; reset 0. -/
  heartbeat : Nat := 0
  /-- grain of the last write of PROC.STATE by the processor; 64 bits; R403; reset DESIGN CHOICE 0 (log entry 4). -/
  written : Nat := 0
  /-- PROC.IRQ.CFG.hold; 16 bits; R412; reset DESIGN CHOICE 0, the baseline of R458 until step 3 (log entry 4). -/
  hold : Nat := 0
  /-- PROC.IRQ.CFG.count; 6 bits; R412; reset DESIGN CHOICE 1, the baseline of R458 until step 3 (log entry 4). -/
  count : Nat := 1
  /-- PROC.IRQ.CFG.stuck; 10 bits; R412; reset DESIGN CHOICE 0, the baseline of R458 until step 3 (log entry 4). -/
  stuckTh : Nat := 0
  /-- sleep_ok; 1 bit; R413; reset DESIGN CHOICE false (log entry 4). -/
  sleepOk : Bool := false
  /-- PROC.IRQ.PEND; 64 bits; R413; reset 0. -/
  pend : BitVec 64 := 0
  /-- PROC.IRQ.ENABLE; 64 bits; R413; reset 0. -/
  enable : BitVec 64 := 0
  /-- PROC.IRQ.OVR; 64 bits; R413; reset 0. -/
  ovr : BitVec 64 := 0
  /-- PROC.IRQ.STUCK; 64 bits; R413; reset 0. -/
  stuck : BitVec 64 := 0
  /-- sources in a stuck episode; 64 bits; R409; reset 0. -/
  episode : BitVec 64 := 0
  /-- PROC.IRQ.LATCH; 2 bits a source; R413; reset 0. -/
  latch : List (Nat × Nat) := []
  /-- source lines that are high; 64 bits; R406; reset DESIGN CHOICE 0 (log entry 4). -/
  line : BitVec 64 := 0
  /-- grain at which each pending bit was last cleared with its line high; 64 bits a source; R409; reset empty. -/
  cleared : List (Nat × Nat) := []
  /-- grain of the last delivery; 64 bits; R408; reset none. -/
  delivered : Option Nat := none
  /-- deliveries made; count; R408; reset MODEL output, 0. -/
  deliveries : Nat := 0
  /-- sources presented by the last delivery; 64 bits; R408; reset MODEL output, 0. -/
  presented : BitVec 64 := 0
  /-- grain at which the local timer expires; 64 bits; R404; reset none. -/
  timerAt : Option Nat := none
  /-- retention registers; record; R410; reset none. -/
  retained : Option Retained := none
  /-- edge counts of the source clock domains, in Gray code, as the controller saw them last; 2 bits a source; R406; reset DESIGN CHOICE 0 (log entry 4). -/
  gray : List (Nat × BitVec 2) := []
  /-- the last edges of each source; a record a source; R407; reset none. -/
  edges : List (Nat × EdgeRec) := []
  /-- the watchdog half-time warning has been given since PROC.STATE was last written; 1; R404; reset DESIGN CHOICE 0 (log entry 20). -/
  warned : Bool := false
deriving DecidableEq, Repr

/-- A panel's clock (R427). -/
structure Panel where
  /-- CLK.PANEL.bin; 4 bits; R427; reset 0. -/
  bin : Nat := 0
  /-- CLK.PANEL.max_bin; 4 bits; R427; reset 0 until measured (meas). -/
  maxBin : Nat := 0
  /-- stretched periods since the last read; the field shows units of 1,024; 26 bits; R427; reset 0. -/
  stretched : Nat := 0
  /-- CLK.PANEL.warn (RS); 1 bit; R427; reset 0. -/
  warn : Bool := false
  /-- CLK.PANEL.stretch_over (RS); 1 bit; R427; reset 0. -/
  overFlag : Bool := false
  /-- CLK.PANEL.changing; 1 bit; R427; reset 0. -/
  changing : Bool := false
  /-- bin being changed to; 4 bits; R419; reset DESIGN CHOICE 0 (log entry 4). -/
  target : Nat := 0
  /-- grain at which a down-switch was made and the regulator has still to lower; 64 bits; R419; reset none. -/
  lowerAt : Option Nat := none
  /-- boundary at which the up-change under way was computed; 64 bits; R419; reset none. -/
  decided : Option Nat := none
  /-- the regulator reports its set point settled; 1 bit; R419; reset DESIGN CHOICE true (log entry 4). -/
  settled : Bool := true
  /-- bin whose trained set point the regulator holds; bin; R419; reset DESIGN CHOICE 0 (log entry 4). -/
  setPoint : Nat := 0
  /-- stretch steps, newest first; steps of the last 64 periods; R416; reset empty. -/
  recent : List Nat := []
  /-- left in reset by INTSCAN; 1 bit; R502; reset false. -/
  stopped : Bool := false
  /-- local reset asserted; 1 bit; R423; reset true, held in reset. -/
  inReset : Bool := true
  /-- alignment grain A; 64 bits; R423; reset none. -/
  align : Option Nat := none
  /-- the panel's own bits [63:16] of the grain counter; 48 bits; R34; reset DESIGN CHOICE 0 until loaded at alignment (log entry 4). -/
  high : BitVec 48 := 0
deriving DecidableEq, Repr

/-- An asynchronous FIFO of 16 entries between two panels (R420, R421). -/
structure Crossing where
  /-- write pointer, Gray-coded; 5 bits; R421; reset 0 (R423). -/
  wr : BitVec 5 := 0
  /-- write pointer after the first synchronising stage of the reader; 5 bits; R421; reset 0 (R423). -/
  wr1 : BitVec 5 := 0
  /-- the reader's view of the write pointer; 5 bits; R421; reset 0 (R423). -/
  wr2 : BitVec 5 := 0
  /-- read pointer, Gray-coded; 5 bits; R421; reset 0 (R423). -/
  rd : BitVec 5 := 0
  /-- read pointer after the first synchronising stage of the writer; 5 bits; R421; reset 0 (R423). -/
  rd1 : BitVec 5 := 0
  /-- the writer's view of the read pointer; 5 bits; R421; reset 0 (R423). -/
  rd2 : BitVec 5 := 0
deriving DecidableEq, Repr

/-- Panels (17_clocking.md). -/
structure Clk where
  /-- panels by die * 512 + p, or 65536 + site; record a panel; R427; reset as Panel. -/
  panels : List (Nat × Panel) := []
  /-- CLK.TARGET; 4 bits a die; R428; reset DESIGN CHOICE 8, the baseline of R458 for unlisted dies (log entry 4). -/
  targets : List (Nat × Nat) := []
  /-- crossings by kind * 2^17 + place; record a crossing; R420; reset empty, with both pointers at 0 (R423). -/
  crossings : List (Nat × Crossing) := []
  /-- temperature corrections in force, by reference; signed, parts per billion; R441; reset DESIGN CHOICE empty, no correction (log entries 4, 61). -/
  comp : List (Nat × Int) := []
  /-- fleet sheaf of the last CLK_STRETCH_EXCESS; fleet sheaf; R416; reset none. -/
  excessAt : Option Nat := none
  /-- fleet sheaf of the last CLK_MARGIN_WARN; fleet sheaf; R417; reset none. -/
  warnAt : Option Nat := none
deriving DecidableEq, Repr

/-- Power and temperature (18_power_thermal.md). -/
structure Power where
  /-- input voltage, newest first; 16 sheaves, 0.05 V; R442; reset empty (meas). -/
  volts : List Nat := []
  /-- input current, newest first; 16 sheaves, 0.1 A; R442; reset empty (meas). -/
  amps : List Nat := []
  /-- input power, newest first; 16 sheaves, W; R442; reset empty (meas). -/
  watts : List Nat := []
  /-- level of ALERT_N; 1 bit; R442; reset 0 alert (high). -/
  alertN : Bool := true
  /-- the alert limit applies since the last boundary; 1 bit; R430; reset false. -/
  alertInForce : Bool := false
  /-- PWR.INPUT.range (RS); 1 bit; R442; reset 0. -/
  range : Bool := false
  /-- in a marginal-band episode; 1 bit; R429; reset false. -/
  rangeEpisode : Bool := false
  /-- PWR.INPUT.ceiling; 4 bits; R442; reset 0xA. -/
  ceiling : Nat := 10
  /-- PWR.LIMIT.limit; 14 bits; R442; reset DESIGN CHOICE 12,000, the baseline of R458 until step 3 (log entry 4). -/
  limit : Nat := 12000
  /-- PWR.LIMIT.alert_limit; 14 bits; R442; reset DESIGN CHOICE 6,000, the baseline of R458 until step 3 (log entry 4). -/
  alertLimit : Nat := 6000
  /-- fleet sheaf of the last change of the module ceiling; fleet sheaf; R430; reset none. -/
  changed : Option Nat := none
  /-- grain at which a lowering was decided; 64 bits; R430; reset none. -/
  lowerDue : Option Nat := none
  /-- grain at which a raising was decided; 64 bits; R430; reset none. -/
  raiseDue : Option Nat := none
  /-- consecutive sheaves well under both limits; 0 to 256; R430; reset 0. -/
  under : Nat := 0
  /-- consecutive sheaves over a limit with the ceiling at bin 0; 0 to 16; R430; reset 0. -/
  overZero : Nat := 0
  /-- input excess; units; R430; reset 0. -/
  excess : Nat := 0
  /-- fleet sheaf of the last PWR_LIMIT; fleet sheaf; R430; reset none. -/
  raisedAt : Option Nat := none
  /-- the thermal-policy bin is 0; 1 bit; R439; reset false. -/
  policyZero : Bool := false
  /-- consecutive sheaves with T_j and T_h below 95 degrees; 0 to 256; R439; reset 0. -/
  cool : Nat := 0
  /-- PWR.THROTTLE.request; 8 bits; R443; reset 0. -/
  request : Nat := 0
  /-- PWR.THROTTLE.result; 8 bits; R443; reset 0. -/
  result : Nat := 0
  /-- PWR.THROTTLE.acc; 7 bits; R443; reset 0. -/
  acc : Nat := 0
  /-- PWR.THROTTLE.tally_miss (RS); 1 bit; R443; reset 0. -/
  tallyMiss : Bool := false
  /-- PWR.THROTTLE.stop; 2 bits; R443; reset 0. -/
  stop : Nat := 0
  /-- T_j has reached 110 degrees in the active run, and the decision is repeated; 1 bit; R438; reset false. -/
  hotJ : Bool := false
  /-- T_h has reached 105 degrees in the active run; 1 bit; R438; reset false. -/
  hotH : Bool := false
  /-- PWR.THROTTLE.idle; 32 bits; R443; reset 0. -/
  idleTotal : Nat := 0
  /-- own v of the last fleet sheaves; v a sheaf; R436; reset empty. -/
  own : List (Nat × Nat) := []
  /-- TALLY results waiting for their boundary; result a sheaf; R436; reset empty. -/
  results : List (Nat × Nat) := []
  /-- sheaves whose TALLY was contributed and whose result is still to be applied; fleet sheaves; R436; reset empty. -/
  tallied : List Nat := []
  /-- T_j in 1/16 degree; 12 bits; R443; reset 0. -/
  tj : Int := 0
  /-- PWR.TEMP.kind; 2 bits; R443; reset 0. -/
  tjKind : Nat := 0
  /-- PWR.TEMP.where; 8 bits; R443; reset 0. -/
  tjWhere : Nat := 0
  /-- T_h; 1/16 degree; R443; reset 0. -/
  th : Int := 0
  /-- T_j of the last fleet sheaves, newest first; last 65 sheaves; R438; reset empty. -/
  tjHist : List Int := []
  /-- T_h of the last fleet sheaves, newest first; last 65 sheaves; R438; reset empty. -/
  thHist : List Int := []
  /-- PWR.DIE.logic; 12 bits a die; R444; reset 0. -/
  dieLogic : List (Nat × Int) := []
  /-- PWR.DIE.crib; 12 bits a die; R444; reset 0. -/
  dieCrib : List (Nat × Int) := []
  /-- failed sensors; kind, die, index; R434; reset empty. -/
  failedSensors : List (Nat × Nat × Nat) := []
  /-- stage-3 domains turned off by a fault; domain and index; R432; reset empty. -/
  regFaults : List (Nat × Nat) := []
  /-- trip latch; 1 bit; R440; reset false. -/
  trip : Bool := false
  /-- stage-3 domains outside the always-on domain are off; 1 bit; R433; reset true, before start-up. -/
  domainsOff : Bool := true
  /-- conversion stages off; 1 bit; R429; reset true, before start-up. -/
  stagesOff : Bool := true
  /-- the input is in lockout; 1 bit; R429; reset false. -/
  lockout : Bool := false
  /-- AUX_1V8 is on; 1 bit; R514; reset DESIGN CHOICE true (log entry 4). -/
  aux : Bool := true
deriving DecidableEq, Repr

/-- A reset episode (R447). -/
structure Episode where
  /-- effective level so far; 1 to 3; R447; reset -. -/
  level : Nat := 0
  /-- RESET_N is asserted; 1 bit; R447; reset -. -/
  pin : Bool := false
  /-- power-on detection is asserted; 1 bit; R447; reset -. -/
  por : Bool := false
  /-- RESET_N was asserted in it; 1 bit; R472; reset -. -/
  sawPin : Bool := false
  /-- power-on detection was asserted in it; 1 bit; R472; reset -. -/
  sawPor : Bool := false
deriving DecidableEq, Repr

/-- A block reset (R450, R451). -/
structure BlockJob where
  /-- block kind; 1, 3, 4, 5 or 6; R391; reset -. -/
  kind : Nat := 0
  /-- block index; 8 bits; R391; reset -. -/
  index : Nat := 0
  /-- phase; 0 quiesce, 1 restoring; R450; reset -. -/
  phase : Nat := 0
  /-- grain of the start; 64 bits; R450; reset -. -/
  start : Nat := 0
  /-- quiesce timeout; grains; R450; reset -. -/
  limit : Nat := 0
  /-- grain of the release; 64 bits; R451; reset -. -/
  since : Nat := 0
  /-- the timeout expired first; 1 bit; R391; reset -. -/
  forced : Bool := false
  /-- commands to answer; list; R391; reset -. -/
  cmds : List CmdRef := []
deriving DecidableEq, Repr

/-- Results of the tests of one die (R463). -/
structure FloorTest where
  /-- tillers whose test failed, for any cause of step 2; tillers; R463; reset -. -/
  bad : List Nat := []
deriving DecidableEq, Repr

/-- Reset, configuration and bring-up (19_reset_and_bringup.md). -/
structure Rst where
  /-- CFG.STATE.state; 4 bits; R472; reset 0 reset. -/
  state : Nat := 0
  /-- CFG.STATE.step; 4 bits; R472; reset 0. -/
  step : Nat := 0
  /-- CFG.STATE.below_grade; 1 bit; R472; reset 0. -/
  belowGrade : Bool := false
  /-- CFG.STATE.rails_short; 1 bit; R472; reset 0. -/
  railsShort : Bool := false
  /-- CFG.STATE.yuley_short; 1 bit; R472; reset 0. -/
  yuleyShort : Bool := false
  /-- CFG.STATE.time_unlocked; 1 bit; R472; reset 0. -/
  timeUnlocked : Bool := false
  /-- CFG.STATE.comb_single; 1 bit; R472; reset 0. -/
  combSingle : Bool := false
  /-- CFG.STATE.hbm_failed; 1 bit; R472; reset 0. -/
  hbmFailed : Bool := false
  /-- CFG.STATE.die_fault; 1 bit; R472; reset 0. -/
  dieFault : Bool := false
  /-- CFG.STATE.proc_halted; 1 bit; R472; reset 0. -/
  procHalted : Bool := false
  /-- CFG.STATE.fail_step; 4 bits; R472; reset 0. -/
  failStep : Nat := 0
  /-- grain at which the bring-up step started; 64 bits; R461; reset DESIGN CHOICE 0 (log entry 4). -/
  stepSince : Nat := 0
  /-- CFG.RESET.last_level; 2 bits; R472; reset 0. -/
  lastLevel : Nat := 0
  /-- CFG.RESET.last_source; 2 bits; R472; reset 0. -/
  lastSource : Nat := 0
  /-- CFG.RESET.episodes; 16 bits; R472; reset 1, the power-on episode under way (log entry 3). -/
  episodes : Nat := 1
  /-- the episode under way; record; R446; reset power-on detection asserted (log entry 3). -/
  episode : Option Episode := (some { level := 3, por := true, sawPor := true })
  /-- RESET_N as judged, true when released; 1 bit; R515; reset DESIGN CHOICE high (log entry 4). -/
  resetN : Bool := true
  /-- level of PWR_OK; 1 bit; R515; reset DESIGN CHOICE low (log entry 3). -/
  pwrOk : Bool := false
  /-- block resets under way; list; R450; reset empty. -/
  blocks : List BlockJob := []
  /-- a floor plan has been built and is stored; 1 bit; R465; reset false. -/
  built : Bool := false
  /-- partitions a dowel group of which has failed in service, whose tillers the next self-test disables; partitions; R121; reset none. -/
  dowelFailed : List Nat := []
  /-- test failures collected for the floor plan; record a die; R463; reset empty. -/
  tests : List (Nat × FloorTest) := []
  /-- the RECOVER in progress; -; R470; reset none. -/
  recovery : Option CmdRef := none
  /-- recovery runs; 1 bit; R470; reset false. -/
  recovering : Bool := false
  /-- the warm fast path runs; 1 bit; R469; reset false. -/
  warm : Bool := false
  /-- CFG.STORE.copy0_valid; 1 bit; R473; reset 0 until measured (meas). -/
  copy0Valid : Bool := false
  /-- CFG.STORE.copy1_valid; 1 bit; R473; reset 0 until measured (meas). -/
  copy1Valid : Bool := false
  /-- CFG.STORE.selected; 1 bit; R473; reset 0 until measured (meas). -/
  selected : Nat := 0
  /-- CFG.STORE.baseline; 1 bit; R473; reset 0 until measured (meas). -/
  baseline : Bool := false
  /-- CFG.STORE.conflict (RS); 1 bit; R473; reset 0. -/
  conflict : Bool := false
  /-- CFG.STORE.busy; 1 bit; R473; reset 0. -/
  busy : Bool := false
  /-- CFG.STORE.write_failed (RS); 1 bit; R473; reset 0. -/
  writeFailed : Bool := false
  /-- CFG.STORE.seq; 32 bits; R473; reset 0 until measured (meas). -/
  seq : Nat := 0
  /-- seq of copy 0; 32 bits; R458; reset 0. -/
  seq0 : Nat := 0
  /-- seq of copy 1; 32 bits; R458; reset 0. -/
  seq1 : Nat := 0
  /-- digest field of the copy selected at the last cold bring-up; 512 bits; R484; reset 0 until measured. -/
  cfgDigest : BitVec 512 := 0
  /-- commit in progress; copy, seq, bytes; R459; reset 0 (CFG.COMMIT). -/
  commit : Option (Nat × Nat × List (BitVec 8)) := none
  /-- CFG.TRIM.records; 12 bits; R473; reset 0. -/
  trimRecords : Nat := 0
  /-- CFG.TRIM.restarts; 8 bits; R473; reset 0. -/
  trimRestarts : Nat := 0
  /-- CFG.TRIM.baseline; 1 bit; R473; reset 0. -/
  trimBaseline : Bool := false
  /-- live trim registers by target block * 65536 + register; 64 bits a target; R453; reset empty. -/
  trims : List (Nat × Nat) := []
  /-- shadow copies; 64 bits a target; R453; reset empty. -/
  shadow : List (Nat × Nat) := []
  /-- CFG.FLOOR.fuse_only; 16 bits; R473; reset 0 until measured (meas). -/
  fuseOnly : Nat := 0
  /-- CFG.FLOOR.test_only; 16 bits; R473; reset 0 until measured (meas). -/
  testOnly : Nat := 0
  /-- CFG.FLOOR.mesh_disabled; 16 bits; R473; reset 0 until measured (meas). -/
  meshDisabled : Nat := 0
  /-- the serial flash, an unlisted byte reads as erased; 28 MiB; R455; reset no reset value; DESIGN CHOICE every byte erased (log entry 6). -/
  flash : List Host.Cell := []
deriving DecidableEq, Repr

/-- Square's security state (20_security.md). -/
structure Sec where
  /-- SEC.STATUS.slot; 1 bit; R488; reset 0 until booted (meas). -/
  slot : Nat := 0
  /-- anti-rollback counter, blown bits; 7 bits; R488; reset fuse; DESIGN CHOICE 0 blown (log entry 5). -/
  counter : Nat := 0
  /-- firmware key revoke fuses; 4 bits; R474; reset fuse; DESIGN CHOICE 0 (log entry 5). -/
  revokeFw : Nat := 0
  /-- debug key revoke fuses; 2 bits; R474; reset fuse; DESIGN CHOICE 0 (log entry 5). -/
  revokeDbg : Nat := 0
  /-- SEC.STATUS.svn; 7 bits; R488; reset 0 until booted (meas). -/
  svn : Nat := 0
  /-- SEC.STATUS.identity_ok; 1 bit; R488; reset 0 until unwrapped (meas). -/
  identityOk : Bool := false
  /-- SEC.STATUS.unlocked; 1 bit; R488; reset 0. -/
  unlocked : Bool := false
  /-- SEC.STATUS.scopes of the token in force; 3 bits; R488; reset 0. -/
  scopes : Nat := 0
  /-- SEC.STATUS.was_unlocked; 1 bit; R488; reset 0. -/
  wasUnlocked : Bool := false
  /-- SEC.STATUS.staged; 1 bit; R488; reset 0. -/
  staged : Bool := false
  /-- grain at which the unlock ends; SEC.STATUS.remaining shows the seconds left; 64 bits; R488; reset 0. -/
  expiry : Nat := 0
  /-- SEC.NONCE; 256 bits; R488; reset meas, random; DESIGN CHOICE 0 before the first boot (log entry 8). -/
  nonce : BitVec 256 := 0
  /-- SEC.FW.MEAS; 512 bits; R488; reset 0 until booted (meas). -/
  meas : BitVec 512 := 0
  /-- seq of the booted slot; 32 bits; R481; reset 0 until booted. -/
  bootSeq : Nat := 0
  /-- FW_COMMIT in progress; -; R481; reset none. -/
  committing : Option CmdRef := none
  /-- a bundle has booted; 1 bit; R479; reset false. -/
  booted : Bool := false
  /-- verified images held in the Sill; image a processor; R479; reset empty. -/
  images : List (Nat × List (BitVec 8)) := []
  /-- firmware-policy body in force; 128 bits; R487; reset baseline of R487. -/
  policy : BitVec 128 := 0x15180000F
  /-- an unlock was ended by a level-3 reset, DEBUG_LOCKED is still to be recorded; 1 bit; R536; reset false. -/
  lockedEvent : Bool := false
  /-- grain at which the slots are judged again; 64 bits; R480; reset DESIGN CHOICE 0 (log entry 4). -/
  nextJudge : Nat := 0
deriving DecidableEq, Repr

/-- A saved-state record (R492). -/
structure Saved where
  /-- sequence number; 32 bits; R492; reset 0. -/
  seq : Nat := 0
  /-- grain written; 64 bits; R492; reset 0. -/
  grain : Nat := 0
  /-- module ceiling; 4 bits; R492; reset 0. -/
  ceiling : Nat := 0
  /-- input limiter's counters; the limiter's counters; R492; reset empty. -/
  counters : List Nat := []
  /-- stack ceilings and limiter counters; die, ceiling, counters; R492; reset empty. -/
  stackStates : List (Nat × Nat × List Nat) := []
  /-- thermal-policy bin is 0; 1 bit; R492; reset false. -/
  policyZero : Bool := false
  /-- throttle request; 8 bits; R492; reset 0. -/
  request : Nat := 0
  /-- PWR.THROTTLE.stop; 2 bits; R492; reset 0. -/
  stop : Nat := 0
  /-- failed sensors; list; R492; reset empty. -/
  sensors : List (Nat × Nat × Nat) := []
  /-- stage-3 regulator faults; list; R492; reset empty. -/
  regFaults : List (Nat × Nat) := []
  /-- fault counts and halts; ID, faults, state; R492; reset empty. -/
  procs : List (Nat × Nat × Nat) := []
  /-- BLOCK_RESET in progress; list; R492; reset empty. -/
  blocks : List BlockJob := []
  /-- RECOVER in progress; -; R492; reset none. -/
  recovery : Option CmdRef := none
  /-- selected copy; 1 bit; R492; reset 0. -/
  selected : Nat := 0
  /-- factory baseline in use; 1 bit; R492; reset false. -/
  baseline : Bool := false
  /-- its magic and digest check; 1 bit; R492; reset -. -/
  valid : Bool := true
deriving DecidableEq, Repr

/-- Supervisor fail-over (21_supervisor_failover.md). -/
structure Sup where
  /-- SUP.STATE.hold; 2 bits; R498; reset 0 neither. -/
  hold : Nat := 0
  /-- SUP.STATE.phase; 2 bits; R498; reset 0 normal. -/
  phase : Nat := 0
  /-- SUP.STATE.b_booted; 1 bit; R498; reset 0. -/
  bBooted : Bool := false
  /-- SUP.STATE.failover (RS); 1 bit; R498; reset 0. -/
  failover : Bool := false
  /-- SUP.STATE.source; 2 bits; R498; reset 0. -/
  source : Nat := 0
  /-- SUP.STATE.takeover; 10 bits; R498; reset 0. -/
  takeover : Nat := 0
  /-- grain of the last heartbeat; 64 bits; R490; reset DESIGN CHOICE 0 (log entry 4). -/
  beat : Nat := 0
  /-- grain of the release; 64 bits; R490; reset none. -/
  released : Option Nat := none
  /-- A's hold has been released since the last level-3 reset; 1 bit; R489; reset false. -/
  aReleased : Bool := false
  /-- grain at which headless was decided; 64 bits; R496; reset none. -/
  headlessDue : Option Nat := none
  /-- SUP.SAVE.seq; 32 bits; R498; reset 0. -/
  saveSeq : Nat := 0
  /-- SUP.SAVE.flash_writes; 16 bits; R498; reset 0. -/
  flashWrites : Nat := 0
  /-- SUP.SAVE.flash_ok; 1 bit; R498; reset 0. -/
  flashOk : Bool := false
  /-- retained saved-state records, newest first; 2 slots; R493; reset empty. -/
  retained : List Saved := []
  /-- flash saved-state records, newest first; 2 slots; R493; reset empty. -/
  flashRecs : List Saved := []
  /-- grain of the last retained record; 64 bits; R493; reset DESIGN CHOICE 0 (log entry 4). -/
  savedAt : Nat := 0
  /-- grain of the last flash record; 64 bits; R493; reset DESIGN CHOICE 0 (log entry 4). -/
  flashAt : Nat := 0
deriving DecidableEq, Repr

/-- A trace buffer (R506, R510). -/
structure Trace where
  /-- DBG.TRACE.mode; 2 bits; R510; reset 0. -/
  mode : Nat := 0
  /-- capture runs; 1 bit; R506; reset false. -/
  capture : Bool := false
  /-- entries, oldest first; up to 4,096; R506; reset empty. -/
  entries : List (BitVec 128) := []
  /-- DBG.TRACE.full (RS); 1 bit; R510; reset 0. -/
  full : Bool := false
  /-- DBG.TRACE.dropped; 16 bits; R510; reset 0. -/
  dropped : Nat := 0
  /-- grain of the last entry; 64 bits; R506; reset 0. -/
  grain : Nat := 0
  /-- entries taken in that grain; 0 to 8; R506; reset 0. -/
  inGrain : Nat := 0
deriving DecidableEq, Repr

/-- An OBS output and its counter (R504, R505, R510). -/
structure Obs where
  /-- DBG.OBS.SEL.select; 12 bits; R510; reset 0. -/
  sel : Nat := 0
  /-- DBG.OBS.SEL.enable; 1 bit; R510; reset 0. -/
  enable : Bool := false
  /-- selection in effect; 12 bits; R504; reset 0. -/
  live : Nat := 0
  /-- DBG.CNT; 48 bits; R510; reset 0. -/
  count : BitVec 48 := 0
  /-- level of the leaf at the last grain; 1 bit; R505; reset 0. -/
  level : Bool := false
  /-- boundary at which the selection took effect; 64 bits; R505; reset 0. -/
  since : Nat := 0
  /-- an edge was counted in the last grain; 1 bit; R505; reset 0. -/
  edge : Bool := false
  /-- level of the pin, as resampled at the last grain; 1 bit; R504; reset 0. -/
  pin : Bool := false
deriving DecidableEq, Repr

/-- Debug and test access (22_debug_access.md). -/
structure Dbg where
  /-- level of TEST_EN; 1 bit; R499; reset DESIGN CHOICE low (log entry 4). -/
  testEn : Bool := false
  /-- DBG.STATE.test_en; 1 bit; R510; reset 0. -/
  testSeen : Bool := false
  /-- DBG.STATE.tap_active; 1 bit; R510; reset 0. -/
  tapActive : Bool := false
  /-- DBG.STATE.refused (RS); 1 bit; R510; reset 0. -/
  refused : Bool := false
  /-- JTAG instruction in force; 8 bits; R501; reset 0x01 IDCODE, as Test-Logic-Reset selects. -/
  ir : Nat := 1
  /-- data register last selected or captured; width of the register; R501; reset DESIGN CHOICE IDCODE (log entry 4). -/
  dr : Nat := 0x172327AB
  /-- boundary register; 22 bits; R501; reset DESIGN CHOICE 0 (log entry 4). -/
  boundary : BitVec 22 := 0
  /-- EXTEST is in force; 1 bit; R503; reset false. -/
  extest : Bool := false
  /-- panels scanned by INTSCAN; panel and length; R502; reset empty. -/
  scanned : List (Nat × Nat) := []
  /-- OBS outputs and counters; 16 records; R510; reset as Obs. -/
  obs : List (Nat × Obs) := []
  /-- trace buffers; 9 records; R510; reset as Trace. -/
  trace : List (Nat × Trace) := []
  /-- I3C address in use; 7 bits; R508; reset 0x5A, the static address. -/
  i3cAddr : Nat := 0x5A
  /-- I3C read offset; 8 bits; R508; reset DESIGN CHOICE 0 (log entry 4). -/
  i3cOffset : Nat := 0
  /-- snapshot of the I3C readout; 48 bytes; R508; reset empty until the first boundary (log entry 4). -/
  snapshot : List (BitVec 8) := []
  /-- bytes read by I3C; list; R508; reset MODEL output, empty. -/
  i3cOut : List (BitVec 8) := []
  /-- in-band interrupts raised, mandatory bytes; list; R508; reset MODEL output, empty. -/
  ibi : List Nat := []
  /-- I3C write transfers NACKed; count; R508; reset MODEL output, 0. -/
  nacks : Nat := 0
deriving DecidableEq, Repr

/-- Round-robin pointers (R47, R48). -/
structure Arbiters where
  /-- round-robin pointers, unlisted 0; pointer an arbiter; R48; reset 0 at every fleet sheaf boundary. -/
  pointers : List (Nat × Nat) := []
deriving DecidableEq, Repr

/-- A command channel of a port (R375 to R377). -/
structure Chan where
  /-- receive-buffer slots in use; 0 to 4,096; R376; reset 0. -/
  used : Nat := 0
  /-- cumulative freed slots advertised in YCREDIT; 28 bits; R372; reset 0. -/
  freed : Nat := 0
  /-- packets received and not started, each with the grain at which its last byte arrived (R389); list; R375; reset empty. -/
  queue : List (CmdPkt × Nat) := []
  /-- command in progress; -; R375; reset none. -/
  busy : Option CmdRef := none
  /-- replies held because no port was ACTIVE; list; R377; reset empty. -/
  held : List YPacket := []
deriving DecidableEq, Repr

/-- The Yuley ports and the session (15_commands.md). -/
structure Yuley where
  /-- CMD.SESSION.open; 1 bit; R397; reset 0. -/
  isOpen : Bool := false
  /-- CMD.SESSION.gen; 2 bits; R397; reset 0. -/
  gen : Nat := 0
  /-- CMD.SESSION.headless; 1 bit; R397; reset 0. -/
  headless : Bool := false
  /-- ports; 2 records; R397; reset as RxPort. -/
  ports : List (Nat × RxPort) := []
  /-- channels by 8 * port + channel; 16 records; R375; reset as Chan. -/
  chans : List (Nat × Chan) := []
  /-- event queue; up to 1,024; R395; reset empty. -/
  events : List Record := []
  /-- CMD.EVENTS.lost; 16 bits; R397; reset 0. -/
  lost : Nat := 0
  /-- subscribed events dropped since the previous EVENT packet; 16 bits; R395; reset 0. -/
  dropped : Nat := 0
  /-- CMD.EVENTS.next; 32 bits; R397; reset 0. -/
  nextSeq : Nat := 0
  /-- subscriptions by group; 256 records; R394; reset empty. -/
  subs : List (Nat × Sub) := []
  /-- packets sent, oldest first; list; R378; reset MODEL output, empty. -/
  sent : List YPacket := []
  /-- packets of `sent` whose slots have joined a byte stream; count; R378; reset MODEL index, 0. -/
  framed : Nat := 0
deriving DecidableEq, Repr

/-- The whole module. -/
structure State where
  /-- commands waiting, first in, first out (the model's own field); queue; R375; reset empty. -/
  pending : List Instr := []
  /-- counter of free values taken; counter; R31; reset DESIGN CHOICE 0, the model's own (log entry 8). -/
  free : Nat := 0
  /-- time base; record; R33; reset as Time. -/
  time : Time := {}
  /-- cut list and run; record; R241; reset as Cut. -/
  cut : Cut := {}
  /-- REPRO.RUN; record; R360; reset as Repro. -/
  repro : Repro := {}
  /-- engines by physical engine ID; record an engine; R45; reset as Engine. -/
  engines : List (Nat × Engine) := []
  /-- tillers by die * 288 + p; 2,304 records; R86; reset as Tiller. -/
  tillers : List (Nat × Tiller) := []
  /-- local stores; 2,304 x 1.5 MiB; R58; reset 0; unlisted reads 0. -/
  localStore : List Host.Cell := []
  /-- crib partitions; 2,304 x 14 MiB; R112; reset 0; unlisted reads 0. -/
  crib : List Host.Cell := []
  /-- word errors by (die * 288 + p) * 57344 + row; record a row; R113; reset none. -/
  cribErr : List (Nat × RowErr) := []
  /-- corrected rows to be written back; row keys; R114; reset empty. -/
  writeback : List Nat := []
  /-- partitions by die * 288 + p; 2,304 records; R129; reset as Partition. -/
  parts : List (Nat × Partition) := []
  /-- stored floor plan by die; 8 records; R24; reset as DieFloor. -/
  floor : List (Nat × DieFloor) := []
  /-- compute stacks by die; 8 records; R130; reset as Stack. -/
  cstacks : List (Nat × Stack) := []
  /-- meshes by die; 8 records; R153; reset as Mesh. -/
  meshes : List (Nat × Mesh) := []
  /-- Sill fabric; record; R188; reset as Sill. -/
  sill : Sill := {}
  /-- HBM3E memory; record; R207; reset as Hbm. -/
  hbm : Hbm := {}
  /-- rails by rail site; 26 records; R271; reset as Rail. -/
  rails : List (Nat × Rail) := []
  /-- what the rails share; record; R270; reset as RailTop. -/
  railTop : RailTop := {}
  /-- lasers and rings; record; R296; reset as Opt. -/
  opt : Opt := {}
  /-- remote operations; record; R329; reset as Fab. -/
  fab : Fab := {}
  /-- collectives; record; R350; reset as Col. -/
  col : Col := {}
  /-- Yuley ports and session; record; R397; reset as Yuley. -/
  yuley : Yuley := {}
  /-- processors by ID; 14 records; R412; reset as Proc. -/
  procs : List (Nat × Proc) := []
  /-- mailboxes by sender * 16 + receiver; 16 messages each; R400; reset empty. -/
  boxes : List (Nat × List Msg) := []
  /-- messages whose send failed on a full mailbox: box, grain, message; list; R400; reset empty. -/
  resend : List (Nat × Nat × Msg) := []
  /-- panels; record; R427; reset as Clk. -/
  clk : Clk := {}
  /-- power and temperature; record; R442; reset as Power. -/
  pwr : Power := {}
  /-- reset and configuration; record; R472; reset as Rst. -/
  rst : Rst := {}
  /-- security; record; R488; reset as Sec. -/
  sec : Sec := {}
  /-- supervisors; record; R498; reset as Sup. -/
  sup : Sup := {}
  /-- debug; record; R510; reset as Dbg. -/
  dbg : Dbg := {}
  /-- error records; record; R537; reset as Err. -/
  err : Err := {}
  /-- round-robin pointers; record; R48; reset as Arbiters. -/
  arb : Arbiters := {}
deriving DecidableEq, Repr

/-- The machine right after power-on: every field at the reset value its docstring names, the power-on reset episode
under way (R446, R447, log entry 3), and no command waiting. -/
def State.reset : State := {}

end Sys2Proof.Machine
end

