-- ==== Sys2Proof/Machine/Ops.lean ====
section
/-! DEFINITION. The operations that every family shares: tables by key, byte memories in canonical form, bit fields and
byte order, cyclic checks, events, replies and posts, and the halt of a run. -/

namespace Sys2Proof.Machine

/-! ### Tables by key -/

/-- The record at a key, if listed. -/
def tabFind {α : Type} : List (Nat × α) → Nat → Option α
  | [], _ => none
  | (i, v) :: r, k => if i = k then some v else tabFind r k

/-- The record at a key, or the given reset record. -/
def tabGet {α : Type} (t : List (Nat × α)) (k : Nat) (d : α) : α := (tabFind t k).getD d

/-- The table with one record replaced; keys rise. -/
def tabPut {α : Type} : List (Nat × α) → Nat → α → List (Nat × α)
  | [], k, v => [(k, v)]
  | (i, w) :: r, k, v =>
    if k < i then (k, v) :: (i, w) :: r
    else if k = i then (k, v) :: r
    else (i, w) :: tabPut r k v

/-- The table without a key. -/
def tabDel {α : Type} (t : List (Nat × α)) (k : Nat) : List (Nat × α) := t.filter (fun p => p.1 != k)

/-- The table with one record changed, from its reset record where it is not listed. -/
def tabMod {α : Type} (t : List (Nat × α)) (k : Nat) (d : α) (f : α → α) : List (Nat × α) :=
  tabPut t k (f (tabGet t k d))

/-- Insert a number in a rising list without repeats. -/
def setIns : List Nat → Nat → List Nat
  | [], k => [k]
  | i :: r, k => if k < i then k :: i :: r else if k = i then i :: r else i :: setIns r k

/-- Remove a number from a list. -/
def setDel (l : List Nat) (k : Nat) : List Nat := l.filter (· != k)

/-- A rising list without repeats of the same numbers. -/
def setOf (l : List Nat) : List Nat := l.foldl setIns []

/-! ### Bits, bytes and byte order (R4) -/

/-- The unsigned field of `len` bits from bit `lo` (R9). -/
def bits (v lo len : Nat) : Nat := (v >>> lo) % 2 ^ len

/-- One bit. -/
def bit (v i : Nat) : Bool := v.testBit i

/-- A flag as a number. -/
def b2n (b : Bool) : Nat := if b then 1 else 0

/-- The `n` low bytes of a number, least significant first. -/
def toBytes : Nat → Nat → List (BitVec 8)
  | 0, _ => []
  | n + 1, v => BitVec.ofNat 8 v :: toBytes n (v / 256)

/-- Bytes read as one little-endian number. -/
def ofBytes : List (BitVec 8) → Nat
  | [] => 0
  | b :: r => b.toNat + 256 * ofBytes r

/-- Little-endian field of a byte list: `n` bytes from byte `i`. -/
def le (b : List (BitVec 8)) (i n : Nat) : Nat := ofBytes ((b.drop i).take n)

/-- The value of an `n`-bit two's-complement field. -/
def signed (v n : Nat) : Int := if v % 2 ^ n < 2 ^ (n - 1) then (v % 2 ^ n : Nat) else (v % 2 ^ n : Nat) - (2 ^ n : Nat)

/-- The low `n` bits of the two's-complement form of a number (R9). -/
def wrap (v : Int) (n : Nat) : Nat := (v % (2 ^ n : Nat)).toNat

/-- A counter that saturates. -/
def satAdd (v d top : Nat) : Nat := min (v + d) top

/-- Ceiling division. -/
def cdiv (a b : Nat) : Nat := (a + b - 1) / b

/-- The bits of a number as flags, least significant first. -/
def bitsOf : Nat → Nat → List Bool
  | 0, _ => []
  | n + 1, v => v.testBit 0 :: bitsOf n (v / 2)

/-- The indices of the bits that are set in the `n` low bits. -/
def setBits (n v : Nat) : List Nat := (List.range n).filter (fun i => v.testBit i)

/-- The number whose set bits are the listed ones. -/
def maskOf (l : List Nat) : Nat := (setOf l).foldl (fun a i => a + 2 ^ i) 0

/-! ### Cyclic checks -/

/-- One bit of a shift-register CRC of width `w`, most significant bit first. -/
def crcBit (w poly c : Nat) (b : Bool) : Nat :=
  let c2 := (c * 2) % 2 ^ w
  if c.testBit (w - 1) != b then c2 ^^^ poly else c2

/-- CRC over bits in the order given, without inversion. -/
def crcBits (w poly init : Nat) (l : List Bool) : Nat := l.foldl (crcBit w poly) init

/-- One bit of the reflected form. -/
def crcBitR (poly c : Nat) (b : Bool) : Nat :=
  if c.testBit 0 != b then (c / 2) ^^^ poly else c / 2

/-- Reflected CRC over bits in the order given. -/
def crcBitsR (poly init : Nat) (l : List Bool) : Nat := l.foldl (crcBitR poly) init

/-! ### Byte memories

A memory is a list of (address, byte) in rising order of address, with no byte equal to what an unlisted address
reads as. -/

/-- The byte at an address; `d` is what an unlisted address reads as. -/
def memRead (d : BitVec 8) : List Host.Cell → Nat → BitVec 8
  | [], _ => d
  | (k, v) :: r, a => if k = a then v else memRead d r a

/-- The memory with one byte written, still in canonical form. -/
def memWrite (d : BitVec 8) : List Host.Cell → Nat → BitVec 8 → List Host.Cell
  | [], a, b => if b = d then [] else [(a, b)]
  | (k, v) :: r, a, b =>
    if a < k then (if b = d then (k, v) :: r else (a, b) :: (k, v) :: r)
    else if a = k then (if b = d then r else (a, b) :: r)
    else (k, v) :: memWrite d r a b

/-- `n` bytes from an address. -/
def memBytes (d : BitVec 8) (m : List Host.Cell) (a n : Nat) : List (BitVec 8) :=
  (List.range n).map (fun i => memRead d m (a + i))

/-- Write bytes from an address upwards. -/
def memStore (d : BitVec 8) (m : List Host.Cell) (a : Nat) : List (BitVec 8) → List Host.Cell
  | [] => m
  | b :: r => memStore d (memWrite d m a b) (a + 1) r

/-- Bytes lo to hi - 1 read as unlisted again. -/
def memClear (m : List Host.Cell) (lo hi : Nat) : List Host.Cell :=
  m.filter (fun c => c.1 < lo || hi ≤ c.1)

/-- The canonical form: addresses strictly rising, and no byte equal to what an unlisted address reads as. -/
def memWf (d : BitVec 8) : List Host.Cell → Bool
  | [] => true
  | [(_, v)] => v != d
  | (k, v) :: (k2, v2) :: r => v != d && decide (k < k2) && memWf d ((k2, v2) :: r)

/-- The granule, row or field of `n` bytes at an address as a little-endian number, unlisted bytes 0. -/
def memNat (m : List Host.Cell) (a n : Nat) : Nat := ofBytes (memBytes 0 m a n)

/-! ### Time -/

/-- The grain counter as a number (R34). -/
def State.now (s : State) : Nat := s.time.now.toNat

/-- The fleet sheaf under way. -/
def State.fleetSheaf (s : State) : Nat := s.now / 4096

/-- The counter stands at a fleet sheaf boundary (R34). -/
def State.atBoundary (s : State) : Bool := s.now % 4096 == 0

/-- A free value of `w` bits, and the state with its counter advanced (log entry 8). -/
def State.takeFree (s : State) : Nat × State := (Config.free s.free, { s with free := s.free + 1 })

/-! ### Records by key -/

/-- The engine ID of a physical tiller (R45). -/
def tEng (t : TillerId) : Nat := 0x1000 + t.die.val * 512 + t.phys.val

/-- The key of a tiller's records: die * 288 + p. -/
def tKey (t : TillerId) : Nat := t.die.val * 288 + t.phys.val

/-- The key of the tiller with an engine ID. -/
def tillerKey (engine : Nat) : Nat := bits engine 9 3 * 288 + bits engine 0 9

/-- The engine ID of the tiller with a key. -/
def tillerEngine (key : Nat) : Nat := 0x1000 + key / 288 * 512 + key % 288

def State.engine (s : State) (e : Nat) : Engine := tabGet s.engines e {}
def State.setEngine (s : State) (e : Nat) (v : Engine) : State := { s with engines := tabPut s.engines e v }
def State.modEngine (s : State) (e : Nat) (f : Engine → Engine) : State := s.setEngine e (f (s.engine e))
def State.tiller (s : State) (k : Nat) : Tiller := tabGet s.tillers k {}
def State.modTiller (s : State) (k : Nat) (f : Tiller → Tiller) : State :=
  { s with tillers := tabMod s.tillers k {} f }
def State.part (s : State) (k : Nat) : Partition := tabGet s.parts k {}
def State.modPart (s : State) (k : Nat) (f : Partition → Partition) : State :=
  { s with parts := tabMod s.parts k {} f }
def State.dieFloor (s : State) (d : Nat) : DieFloor := tabGet s.floor d {}
def State.modFloor (s : State) (d : Nat) (f : DieFloor → DieFloor) : State :=
  { s with floor := tabMod s.floor d {} f }
def State.cstack (s : State) (d : Nat) : Stack := tabGet s.cstacks d {}
def State.modStack (s : State) (d : Nat) (f : Stack → Stack) : State :=
  { s with cstacks := tabMod s.cstacks d {} f }
def State.mesh (s : State) (d : Nat) : Mesh := tabGet s.meshes d {}
def State.modMesh (s : State) (d : Nat) (f : Mesh → Mesh) : State :=
  { s with meshes := tabMod s.meshes d {} f }
def State.mstack (s : State) (k : Nat) : MemStack := tabGet s.hbm.mstacks k {}
def State.modMem (s : State) (k : Nat) (f : MemStack → MemStack) : State :=
  { s with hbm := { s.hbm with mstacks := tabMod s.hbm.mstacks k {} f } }
def State.rail (s : State) (r : Nat) : Rail := tabGet s.rails r {}
def State.modRail (s : State) (r : Nat) (f : Rail → Rail) : State :=
  { s with rails := tabMod s.rails r {} f }
def State.proc (s : State) (p : Nat) : Proc := tabGet s.procs p {}
def State.modProc (s : State) (p : Nat) (f : Proc → Proc) : State :=
  { s with procs := tabMod s.procs p {} f }
/-- The processor is neither faulted nor halted (R403, R412). -/
def State.procUp (s : State) (p : Nat) : Bool := (s.proc p).state != 5 && (s.proc p).state != 6
def State.yport (s : State) (p : Nat) : RxPort := tabGet s.yuley.ports p {}
def State.modPort (s : State) (p : Nat) (f : RxPort → RxPort) : State :=
  { s with yuley := { s.yuley with ports := tabMod s.yuley.ports p {} f } }
def State.chan (s : State) (c : Nat) : Chan := tabGet s.yuley.chans c {}
def State.modChan (s : State) (c : Nat) (f : Chan → Chan) : State :=
  { s with yuley := { s.yuley with chans := tabMod s.yuley.chans c {} f } }
def State.panel (s : State) (k : Nat) : Panel := tabGet s.clk.panels k {}
def State.modPanel (s : State) (k : Nat) (f : Panel → Panel) : State :=
  { s with clk := { s.clk with panels := tabMod s.clk.panels k {} f } }
def State.fabEng (s : State) (e : Nat) : FabEng := tabGet s.fab.engs e {}
def State.modFab (s : State) (e : Nat) (f : FabEng → FabEng) : State :=
  { s with fab := { s.fab with engs := tabMod s.fab.engs e {} f } }
def State.colEng (s : State) (r : Nat) : ColEng := tabGet s.col.engs r {}
def State.modCol (s : State) (r : Nat) (f : ColEng → ColEng) : State :=
  { s with col := { s.col with engs := tabMod s.col.engs r {} f } }
def State.ring (s : State) (k : Nat) : Ring := tabGet s.opt.rings k {}
def State.modRing (s : State) (k : Nat) (f : Ring → Ring) : State :=
  { s with opt := { s.opt with rings := tabMod s.opt.rings k {} f } }
def State.fibre (s : State) (k : Nat) : FibreMap := tabGet s.opt.fibres k {}
def State.modFibre (s : State) (k : Nat) (f : FibreMap → FibreMap) : State :=
  { s with opt := { s.opt with fibres := tabMod s.opt.fibres k {} f } }
def State.lane (s : State) (k : Nat) : Lane := tabGet s.sill.lanes k {}
def State.modLane (s : State) (k : Nat) (f : Lane → Lane) : State :=
  { s with sill := { s.sill with lanes := tabMod s.sill.lanes k {} f } }

/-- The data lanes to which a rail deals frames: qualified, not parked and not suspended (R261, R262, R290). -/
def Rail.dealt (r : Rail) : List Nat :=
  (setBits 32 (r.lanes &&& ~~~r.parked).toNat).filter (fun c => !r.suspended.contains c)

/-- Data lanes in use on a rail (R261, R262, R290). -/
def Rail.width (r : Rail) : Nat := r.dealt.length

/-- The physical rail that is ACTIVE for a logical rail (R244, R264). -/
def State.activeRail (s : State) (l : Nat) : Option Nat :=
  (s.rails.find? (fun p => p.2.state == 5 && p.2.logical == some l)).map (·.1)

/-! ### Events (R525 to R529) -/

/-- The class of an event code (R525, R536). -/
def evClass (code : Nat) : Nat :=
  if code ∈ [0x0203, 0x0304, 0x0603, 0x0604, 0x0605, 0x0701, 0x0704, 0x0705] then 1
  else if code ∈ [0x0103, 0x0202, 0x0303, 0x0305, 0x0401, 0x0501, 0x0607, 0x0801, 0x0803, 0x0804] then 2
  else if code ∈ [0x0301, 0x0504, 0x0A06, 0x0A07] then 3
  else if code ∈ [0x0204, 0x0206, 0x0403, 0x0602, 0x0901, 0x0A03, 0x0C02, 0x0D01] then 4
  else if code ∈ [0x0702, 0x0B04, 0x0D02] then 5
  else 0

/-- The supervisor that holds the hold, or supervisor A where none does (R398, R401). -/
def State.holder (s : State) : Nat := if s.sup.hold = 2 then 2 else 1

/-- The processor that raises an event, as far as R399 decides it; for the others a constant of the part
(log entry 20). -/
def raiserOf (s : State) (code engine : Nat) : Nat :=
  let g := code / 256
  if g = 0x01 then (if code = 0x0101 then 4 else if engine / 4096 = 1 then 8 + bits engine 9 3 else 5)
  else if code = 0x0201 ∨ code = 0x0202 then 8 + bits engine 9 3
  else if g = 0x02 ∨ g = 0x0A ∨ g = 0x0B ∨ g = 0x0D then s.holder
  else if code = 0x0302 ∨ code = 0x0303 ∨ code = 0x0305 then 5
  else if g = 0x06 ∨ g = 0x07 then 4
  else if g = 0x0C then 0
  else if g = 0x0E then 3
  else Config.raiser code

/-- An event is raised: it is with its raiser until Scribe receives it (R529). -/
def raise (code : Nat) (engine w0 w1 w2 w3 : Nat) (s : State) : State :=
  { s with err := { s.err with raised := s.err.raised ++
      [{ code := code, cls := evClass code, pend := true, grain := s.now, engine := engine,
         raiser := raiserOf s code engine, w0 := w0 % 2 ^ 64, w1 := w1 % 2 ^ 64, w2 := w2 % 2 ^ 64,
         w3 := w3 % 2 ^ 64 }] } }

/-- The first entry of the fault table that satisfies a condition. -/
def faultSlot (t : List (Nat × Record)) (ok : Record → Bool) : Option Nat :=
  (List.range 64).find? (fun k => ok (tabGet t k {}))

/-- The entry of the lowest eseq among those that are not pending (R531). -/
def faultOldest (t : List (Nat × Record)) : Option Nat :=
  ((List.range 64).filter (fun k => !(tabGet t k {}).pend)).foldl
    (fun b k => match b with
      | none => some k
      | some j => if (tabGet t k {}).eseq < (tabGet t j {}).eseq then some k else some j) none

/-- A record of class 3 to 5 enters the fault table (R531). -/
def faultEnter (r : Record) (s : State) : State :=
  let t := s.err.fault
  let slot := (faultSlot t (fun x => x.code == 0)).orElse (fun _ => faultOldest t)
  match slot with
  | some k => { s with err := { s.err with fault := tabPut t k r,
                                           dirty := s.err.dirty.orElse (fun _ => some s.now) } }
  | none => raise 0x0E03 0 0 0 0 0 { s with err := { s.err with faultFull := true } }

/-- A class-1 event counts towards its group's rate (R535). -/
def rateCount (r : Record) (s : State) : State :=
  let g := r.code / 256
  let n := satAdd (tabGet s.err.counts g 0) 1 0xFFFF
  let s := { s with err := { s.err with counts := tabPut s.err.counts g n } }
  let th := tabGet s.err.thresh g 64
  if th ≠ 0 ∧ th ≤ n ∧ g ∉ s.err.rateDone then
    raise 0x0E01 0 g n 0 0 { s with err := { s.err with rateDone := setIns s.err.rateDone g } }
  else s

/-- The log slot of a record is taken, whatever it held (R530). -/
def logEnter (r : Record) (s : State) : State :=
  let k := r.eseq % 4096
  let old := tabGet s.err.log k {}
  let s := { s with err := { s.err with log := tabPut s.err.log k r } }
  if old.code ≠ 0 ∧ old.pend then
    let w := s.now / 2 ^ 30
    let s := { s with err := { s.err with overwritten := satAdd s.err.overwritten 1 0xFFFF } }
    if s.err.owWindow = some w then s
    else raise 0x0E02 0 s.err.overwritten 0 0 0 { s with err := { s.err with owWindow := some w } }
  else s

/-- A subscribed event enters the queue of 1,024 entries, or is dropped and counted (R394, R395). -/
def queueEvent (r : Record) (s : State) : State :=
  let sub := tabGet s.yuley.subs (r.code / 256) {}
  if sub.enabled && sub.mask.toNat.testBit (r.code % 256) then
    if s.yuley.events.length < 1024 then
      { s with yuley := { s.yuley with events := s.yuley.events ++ [r] } }
    else { s with yuley := { s.yuley with lost := satAdd s.yuley.lost 1 0xFFFF,
                                          dropped := satAdd s.yuley.dropped 1 0xFFFF } }
  else s

/-- Scribe receives one raised event: eseq, log, fault table, rate and queue (R529 to R535). -/
def recordEvent (r : Record) (s : State) : State :=
  let r := { r with eseq := s.yuley.nextSeq }
  let s := { s with yuley := { s.yuley with nextSeq := (s.yuley.nextSeq + 1) % 2 ^ 32 } }
  let s := logEnter r s
  let s := if 3 ≤ r.cls then faultEnter r s else s
  let s := if r.cls = 1 then rateCount r s else s
  queueEvent r s

/-- Every event that is still with its raiser is recorded, in raising order (R527, R529). -/
def recordAll (s : State) : State :=
  s.err.raised.foldl (fun s r => recordEvent r s) { s with err := { s.err with raised := [] } }

/-! ### Commands and replies (R375 to R380) -/

/-- A Yuley port is ACTIVE (R259, R373). -/
def State.portActive (s : State) (p : Nat) : Bool := (s.yport p).state == 5

/-- The reply or event leaves on a port that is ACTIVE, the port of arrival first (R377, R395). -/
def State.portFor (s : State) (p : Nat) : Option Nat :=
  if s.portActive p then some p else if s.portActive (1 - p) then some (1 - p) else none

/-- Send one reply packet of a command, or hold it while no port is ACTIVE (R377, R380). A reply that carries 0x0501
leaves after the events of its fault have been recorded (R527). -/
def sendReply (c : CmdRef) (status : Nat) (last : Bool) (payload : List (BitVec 8)) (s : State) : State :=
  let s := if status = 0x0501 then recordAll s else s
  let p : YPacket := { port := c.port, channel := c.channel, ptype := 1, opcode := c.opcode, tag := c.tag,
                       status := status, last := last, payload := payload }
  match s.portFor c.port with
  | some q => { s with yuley := { s.yuley with sent := s.yuley.sent ++ [{ p with port := q }] } }
  | none => s.modChan (8 * c.port + c.channel) (fun h => { h with held := h.held ++ [p] })

/-- The command completes: its last reply is sent unless it is quiet, and its channel is free (R375, R378, R379). A
command that is no longer in progress on its channel, since Scribe's restart has answered it, gets no second reply
(R403). -/
def finish (c : CmdRef) (status : Nat) (payload : List (BitVec 8)) (s : State) : State :=
  if (s.chan (8 * c.port + c.channel)).busy = some c then
    let s := if c.quiet && status == 0 && payload.isEmpty then s else sendReply c status true payload s
    s.modChan (8 * c.port + c.channel) (fun h => { h with busy := none })
  else s

/-- Complete each of several commands with the same status. -/
def finishAll (cs : List CmdRef) (status : Nat) (s : State) : State :=
  cs.foldl (fun s c => finish c status [] s) s

/-- Complete a command, if there is one. -/
def finishOpt (c : Option CmdRef) (status : Nat) (s : State) : State :=
  match c with
  | some c => finish c status [] s
  | none => s

/-! ### The run (R36 to R46, R238) -/

/-- Idle sheaves inserted before schedule sheaf `k` began (R38). -/
def State.idleBefore (s : State) (k : Nat) : Nat := s.cut.idleBase + (s.cut.idles.filter (· ≤ k)).length

/-- The fleet grain of the scheduled point k:o (R38). -/
def State.dueGrain (s : State) (k o : Nat) : Nat :=
  (s.cut.runBase.toNat + 4096 * (k + s.idleBefore k) + o) % 2 ^ 64

/-- The run is active: armed from its start grain, and running (R31, R238). -/
def State.runActive (s : State) : Bool :=
  s.cut.state == .running ||
    (s.cut.state == .armed && (match s.cut.startAt with | some g => decide (g ≤ s.now) | none => false))

/-- The code of a run state (R238). -/
def RunState.code : RunState → Nat
  | .empty => 0 | .loading => 1 | .loaded => 2 | .armed => 3
  | .running => 4 | .paused => 5 | .ended => 6 | .halted => 7

/-- The code of a time state (R32). -/
def TimeState.code : TimeState → Nat
  | .unset => 0 | .locking => 1 | .locked => 2 | .holdover => 3 | .drift => 4 | .slewing => 5

/-- An overrun record as TIME.OVR.FIRST and TIME.OVR.LAST show it (R44). -/
def Overrun.word (o : Option Overrun) : Nat :=
  match o with
  | none => 0
  | some o => o.sheaf + o.offset * 2 ^ 48 + o.mask * 2 ^ 60 + b2n o.inherited * 2 ^ 63
      + min o.late 0xFFFF * 2 ^ 64 + o.engine * 2 ^ 80

/-- OVERRUN is raised for the engine of the last overrun, with the counts at this time: the spec says `at the time it is
sent` and the model takes the moment of raising (R46, R528, log entries 20 and 51). -/
def raiseOverrun (s : State) : State :=
  let w := Overrun.word s.cut.ovrLast
  let e := match s.cut.ovrLast with | some o => o.engine | none => 0
  let s := raise 0x0102 e s.cut.ovrTotal s.cut.ovrOther (w % 2 ^ 64) (w / 2 ^ 64) s
  { s with cut := { s.cut with ovrNew := false, ovrEvent := some s.cut.sheaf } }

/-- TILLER_FLAG is raised for the first change collected (R89). -/
def raiseFlag (s : State) : State :=
  match s.cut.flagNew with
  | none => s
  | some (e, b) =>
    let s := raise 0x0201 e b 0 0 0 s
    { s with cut := { s.cut with flagNew := none, flagEvent := some s.cut.sheaf } }

/-- At the end, pause or halt of a run, what has been collected is raised (R46, R89). -/
def flushRun (s : State) : State :=
  let s := if s.cut.ovrNew then raiseOverrun s else s
  raiseFlag s

/-- Change a field of TIL.FLAGS; a change from 0 to 1 raises TILLER_FLAG or is collected (R89). -/
def setFlag (key b : Nat) (s : State) : State :=
  let t := s.tiller key
  let old := match b with
    | 0 => t.lowLoss | 1 => t.highClamp | 2 => t.anchorMis | 3 => t.selRange | 4 => t.dataError | _ => t.invalid
  if old then s else
  let s := s.modTiller key (fun t => match b with
    | 0 => { t with lowLoss := true } | 1 => { t with highClamp := true } | 2 => { t with anchorMis := true }
    | 3 => { t with selRange := true } | 4 => { t with dataError := true } | _ => { t with invalid := true })
  match s.cut.flagEvent, s.cut.flagNew with
  | none, none =>
    let s := raise 0x0201 (tillerEngine key) b 0 0 0 s
    { s with cut := { s.cut with flagEvent := some s.cut.sheaf } }
  | some _, none => { s with cut := { s.cut with flagNew := some (tillerEngine key, b) } }
  | _, some _ => s

/-- The protection of the image ends (R235). -/
def unprotect (s : State) : State := { s with cut := { s.cut with prot := false } }

/-- A level-1 event of the run's end: what waits for a pause completes with a status (R390). -/
def endPauses (status : Nat) (s : State) : State :=
  let cs := s.cut.pauseCmds
  let s := { s with cut := { s.cut with pauseCmds := [], pauseMark := none, pausePend := false } }
  finishAll cs status s

/-- The scopes in force: bit 0 diag, bit 1 obs, bit 2 jtag (R499). -/
def State.scopesNow (s : State) : Nat :=
  let early := (match s.rst.episode with | some ep => ep.level == 3 | none => false)
    || (s.rst.state == 1 && decide (s.rst.step ≤ 1))
  if early then (if s.dbg.testEn then 7 else 0) else s.sec.scopes

/-- The time state breaks the timing promise at a grain of an active run (R360). -/
def checkTol (s : State) : State :=
  if s.runActive && (s.time.st == .unset || s.time.st == .locking || s.time.st == .drift || s.time.st == .slewing)
  then { s with repro := { s.repro with timeTol := true } } else s

/-- The first element that satisfies a condition, changed. -/
def modFirst {α : Type} (p : α → Bool) (f : α → α) : List α → List α
  | [] => []
  | x :: r => if p x then f x :: r else x :: modFirst p f r

/-- The list without its first element that satisfies a condition. -/
def delFirst {α : Type} (p : α → Bool) : List α → List α
  | [] => []
  | x :: r => if p x then r else x :: delFirst p r

/-- A scrub pass stops between two bursts (R199). -/
def stopScrub (s : State) : State := { s with hbm := { s.hbm with scrub := false } }

end Sys2Proof.Machine
end

