-- ==== Sys2Proof/Machine/Keccak.lean ====
section
/-! DEFINITION. SHAKE256, the digest of images, records and bundles (R215, R216, R531). -/

namespace Sys2Proof.Machine

def rotl64 (x n : Nat) : Nat := ((x <<< n) % 2 ^ 64) ||| (x >>> (64 - n))

/-- Lane of a sponge state, lane x + 5 y. -/
def kLane (a : List Nat) (x y : Nat) : Nat := a.getD (x % 5 + 5 * (y % 5)) 0

def kTheta (a : List Nat) : List Nat :=
  let c := (List.range 5).map (fun x => kLane a x 0 ^^^ kLane a x 1 ^^^ kLane a x 2 ^^^ kLane a x 3 ^^^ kLane a x 4)
  let d := (List.range 5).map (fun x => c.getD ((x + 4) % 5) 0 ^^^ rotl64 (c.getD ((x + 1) % 5) 0) 1)
  (List.range 25).map (fun i => a.getD i 0 ^^^ d.getD (i % 5) 0)

/-- Rotation of each lane, lane x + 5 y. -/
def kRot : List Nat := [0, 1, 62, 28, 27, 36, 44, 6, 55, 20, 3, 10, 43, 25, 39, 41, 45, 15, 21, 8, 18, 2, 61, 56, 14]

/-- Rotations and the permutation of lanes: lane (x, y) moves to (y, 2x + 3y). -/
def kRhoPi (a : List Nat) : List Nat :=
  (List.range 25).map (fun i =>
    let x := i % 5
    let y := i / 5
    let j := (x + 3 * y) % 5 + 5 * x
    rotl64 (a.getD j 0) (kRot.getD j 0))

def kChi (a : List Nat) : List Nat :=
  (List.range 25).map (fun i =>
    let x := i % 5
    let y := i / 5
    kLane a x y ^^^ ((2 ^ 64 - 1 - kLane a (x + 1) y) &&& kLane a (x + 2) y))

/-- Round constants. -/
def kConst : List Nat :=
  [0x1, 0x8082, 0x800000000000808A, 0x8000000080008000, 0x808B, 0x80000001, 0x8000000080008081, 0x8000000000008009,
   0x8A, 0x88, 0x80008009, 0x8000000A, 0x8000808B, 0x800000000000008B, 0x8000000000008089, 0x8000000000008003,
   0x8000000000008002, 0x8000000000000080, 0x800A, 0x800000008000000A, 0x8000000080008081, 0x8000000000008080,
   0x80000001, 0x8000000080008008]

def kRound (a : List Nat) (rc : Nat) : List Nat :=
  let b := kChi (kRhoPi (kTheta a))
  match b with
  | [] => []
  | x :: r => (x ^^^ rc) :: r

/-- The permutation of 24 rounds. -/
def keccakF (a : List Nat) : List Nat := kConst.foldl kRound a

/-- One block of 136 bytes is absorbed. -/
def kAbsorb (a : List Nat) (block : List (BitVec 8)) : List Nat :=
  keccakF ((List.range 25).map (fun i => a.getD i 0 ^^^ (if i < 17 then le block (8 * i) 8 else 0)))

/-- The last block: the message's rest, the domain byte, zeros and the final bit. -/
def kPad (r : List (BitVec 8)) : List (BitVec 8) :=
  if r.length = 135 then r ++ [0x9F] else r ++ [0x1F] ++ List.replicate (134 - r.length) 0 ++ [0x80]

def kAbsorbAll : Nat → List Nat → List (BitVec 8) → List Nat
  | 0, a, m => kAbsorb a (kPad m)
  | n + 1, a, m => kAbsorbAll n (kAbsorb a (m.take 136)) (m.drop 136)

/-- SHAKE256 with an output of at most 136 bytes. -/
def shake256 (m : List (BitVec 8)) (n : Nat) : List (BitVec 8) :=
  ((kAbsorbAll (m.length / 136) (List.replicate 25 0) m).flatMap (toBytes 8)).take n

/-- The digest of `n` bytes as a little-endian number. -/
def shakeNat (m : List (BitVec 8)) (n : Nat) : Nat := ofBytes (shake256 m n)

end Sys2Proof.Machine
end

