-- ==== Sys2Proof/Machine/Operands.lean ====
section
/-! DEFINITION. The fields of steps, bodies and image records, the addresses that operands name, and cycle counts. -/

namespace Sys2Proof.Machine

/-! ### The step header (R217) -/

def stOpcode (w : StepWord) : Nat := bits w.toNat 120 8
def stGen (w : StepWord) : Nat := bits w.toNat 118 2
def stOffset (w : StepWord) : Nat := bits w.toNat 106 12
def stAdvance (w : StepWord) : Nat := bits w.toNat 98 8
def stWait (w : StepWord) : Nat := bits w.toNat 90 8
def stPost (w : StepWord) : Nat := bits w.toNat 84 6
def stMember (w : StepWord) : Bool := bit w.toNat 80
def stCkpt (w : StepWord) : Bool := bit w.toNat 81
def stEnd (w : StepWord) : Bool := bit w.toNat 82
def stReserved (w : StepWord) : Bool := bit w.toNat 83
def stBody (w : StepWord) : Body := BitVec.ofNat 80 w.toNat

/-- The counters a step waits on: its header's bank, or the whole mask of a WAIT (R40, R222). -/
def stWaits (w : StepWord) : List Nat :=
  if stOpcode w = 0x02 then setBits 64 (bits w.toNat 0 64)
  else (setBits 8 (stWait w)).map (· + 8 * (stPost w / 8))

/-- How far a step advances the cursor: its header's advance, and the long field of a WAITG (R219, R221). -/
def stStride (w : StepWord) : Nat := stAdvance w + (if stOpcode w = 0x01 then bits w.toNat 0 48 else 0)

/-- The unit of its engine that an opcode uses: 0 matrix, 1 vector, 2 move, 3 mesh, 4 the engine itself, 5 none
(R53, R62, R220). -/
def unitOf (op : Nat) : Nat :=
  if op < 0x10 then 5
  else if op < 0x20 then 0
  else if op < 0x30 then 1
  else if op < 0x40 then 2
  else if op < 0x60 then 3
  else 4

/-! ### Engine IDs (R45) -/

def engKind (e : Nat) : Nat := e / 4096
def seqEngine (d : Nat) : Nat := 0x2000 + d
def sillSeq : Nat := 0x3000
def streamEngine (d e : Nat) : Nat := 0x4000 + 16 * d + e
def colEngine (r : Nat) : Nat := 0x5000 + r

/-- An engine ID that the spec says occurs (R45, R168). -/
def engValid (e : Nat) : Bool :=
  match engKind e with
  | 1 => bits e 0 9 < 288
  | 2 => bits e 0 12 < 8
  | 3 => bits e 0 12 == 0
  | 4 => bits e 0 12 < 128
  | 5 => bits e 0 12 < 26
  | _ => false

/-- The die of an engine that belongs to one (R45, R168). -/
def engDie (e : Nat) : Option Nat :=
  match engKind e with
  | 1 => some (bits e 9 3)
  | 2 => some (bits e 0 3)
  | 4 => some (bits e 4 3)
  | _ => none

/-! ### Operand fields of tiller bodies (R63 to R85) -/

def fld (b : Body) (lo len : Nat) : Nat := bits b.toNat lo len

/-- Element width in bits of a format code (R59). -/
def fmtBits (f : Nat) : Nat :=
  if f ≤ 3 then 8 else if f ≤ 5 then 6 else if f = 6 then 4 else if f ≤ 8 then 8 else if f = 9 then 16 else 32

/-- The format has block scales (R59). -/
def fmtMx (f : Nat) : Bool := decide (2 ≤ f ∧ f ≤ 7)

/-- Class N, with two products a cycle (R59, R65). -/
def fmtN (f : Nat) : Bool := decide (4 ≤ f ∧ f ≤ 6)

/-- Size in bytes of a matrix operand (R60). -/
def opndBytes (r kb f : Nat) : Nat := (kb + 1) * r * (4 * fmtBits f + b2n (fmtMx f))

/-- Size in bytes of a result tile (R61). -/
def tileBytes (f : Nat) : Nat := 6144 * fmtBits f / 8 + (if fmtMx f then 192 else 0)

/-- Element size in bytes of a vector format bit. -/
def vecBytes (f : Nat) : Nat := if f = 0 then 4 else 2

/-! ### Cycle counts (R65 to R80) -/

def mmaCycles (b : Body) : Nat :=
  let kb := fld b 30 8; let fa := fld b 38 4; let fb := fld b 42 4
  let s := (if fmtMx fa then 96 * (kb + 1) else 0) + (if fmtMx fb then 64 * (kb + 1) else 0)
  let p := if fld b 47 1 = 1 ∧ fld b 48 1 = 0 then cdiv s 256 else 0
  let c := if fmtN fa && fmtN fb then 16 else if fa = 9 then 64 else 32
  20 + p + c * (kb + 1)

def vfunCycles (b : Body) : Nat :=
  let v := cdiv (fld b 30 16 + 1) 64
  match fld b 46 4 with
  | 1 => 24 + 4 * v | 2 => 24 + 4 * v | 3 => 20 + 2 * v | 4 => 20 + 2 * v
  | 5 => 28 + 6 * v | 6 => 32 + 8 * v | _ => 12 + v

def vredCycles (b : Body) : Nat :=
  let l := cdiv (fld b 30 16 + 1) 64
  let nseg := fld b 46 8 + 1
  if fld b 54 2 = 0 ∧ fld b 56 1 = 1 ∧ fld b 59 1 = 0 then 16 + nseg * (2 * l + 8) else 16 + nseg * (l + 8)

def vpackCycles (b : Body) : Nat :=
  let e := cdiv ((fld b 30 7 + 1) * 32 * (fld b 37 8 + 1)) 64
  if fmtMx (fld b 45 4) then 16 + 2 * e else 16 + e

/-- The cycle count of a tiller step; `h` is 2 for a degraded partition, else 1 (R65 to R85, R79). -/
def stepCycles (op : Nat) (b : Body) (h : Nat) : Nat :=
  match op with
  | 0x10 => mmaCycles b
  | 0x11 => if fmtMx (fld b 15 4) then 116 else 108
  | 0x12 => 584
  | 0x13 => 584
  | 0x20 => 12 + cdiv (fld b 45 16 + 1) 64
  | 0x21 => 14 + cdiv (fld b 60 16 + 1) 64
  | 0x22 => vfunCycles b
  | 0x23 => vredCycles b
  | 0x24 => vpackCycles b
  | 0x25 => 16 + cdiv ((fld b 30 7 + 1) * 32 * (fld b 37 8 + 1)) 64
  | 0x26 => 16 + 2 * cdiv (fld b 15 16 + 1) 64
  | 0x27 => 8
  | 0x28 => 12 + cdiv (fld b 15 16 + 1) 64
  | 0x30 => 12 + h * cdiv (fld b 29 13 + 1) 8
  | 0x31 => 12 + h * cdiv (fld b 29 13 + 1) 8
  | 0x40 => 16 + cdiv (fld b 30 16 + 1) 4
  | _ => 0

/-! ### Token route entries (R212) -/

def rtDest (e : BitVec 32) : Nat := bits e.toNat 0 16
def rtCounter (e : BitVec 32) : Nat := bits e.toNat 16 6
def rtValid (e : BitVec 32) : Bool := bit e.toNat 22

end Sys2Proof.Machine
end

