-- ==== Sys2Proof/Machine/Cross.lean ====
section
/-! DEFINITION. The crossings between panels, and the flits that wait in those of a mesh (R133, R135, R420 to R424). -/

namespace Sys2Proof.Machine

/-! ### The FIFO (R421) -/

/-- The Gray code of a pointer (R421). -/
def gray (n : BitVec 5) : BitVec 5 := n ^^^ (n >>> 1)

/-- The pointer that a Gray code stands for. -/
def ungray (g : BitVec 5) : BitVec 5 := g ^^^ (g >>> 1) ^^^ (g >>> 2) ^^^ (g >>> 3) ^^^ (g >>> 4)

/-- A Gray-coded pointer moves on by a number of entries (R421). -/
def grayPlus (g : BitVec 5) (n : Nat) : BitVec 5 := gray (ungray g + BitVec.ofNat 5 n)

/-- The writer's view shows no free entry: its pointer is 16 ahead of the read pointer that it sees, which in Gray code
changes the two top bits (R421). -/
def Crossing.full (c : Crossing) : Bool := c.wr == c.rd2 ^^^ 0b11000#5

/-- The reader's view shows no entry to read (R421). -/
def Crossing.void (c : Crossing) : Bool := c.rd == c.wr2

/-- The writer writes an entry. -/
def Crossing.put (c : Crossing) : Crossing := { c with wr := grayPlus c.wr 1 }

/-- The reader reads an entry. -/
def Crossing.take (c : Crossing) : Crossing := { c with rd := grayPlus c.rd 1 }

/-- Both pointers pass one synchronising stage of the other side (R421). -/
def Crossing.sync (c : Crossing) : Crossing := { c with wr1 := c.wr, wr2 := c.wr1, rd1 := c.rd, rd2 := c.rd1 }

/-- No entry waits in a crossing (R450). -/
def Crossing.idle (c : Crossing) : Bool := c.wr == c.rd

/-- Entries that have been written, read, and seen to be so on both sides (R421, R422). -/
def Crossing.through (n : Nat) (c : Crossing) : Crossing :=
  let w := grayPlus c.wr n
  { wr := w, wr1 := w, wr2 := w, rd := w, rd1 := w, rd2 := w }

/-! ### The crossings of the module (R420) -/

/-- The kinds of crossing, by direction (R420): from a local port or the die sequencer into the mesh 0 and back 1, from a
crib port to its compute site 2 and back 3, from a Sill panel towards the relays of the time base 4 and back 5. -/
def crossKey (kind place : Nat) : Nat := kind * 2 ^ 17 + place

/-- The panel of a mesh node's local port; node 288 is the die sequencer in the time base (R420, R427). -/
def nodePlace (d n : Nat) : Nat := d * 512 + n

/-- The panel of a site (R427). -/
def sitePlace (site : Nat) : Nat := 65536 + site

def State.crossing (s : State) (k : Nat) : Crossing := tabGet s.clk.crossings k {}
def State.modCrossing (s : State) (k : Nat) (f : Crossing → Crossing) : State :=
  { s with clk := { s.clk with crossings := tabMod s.clk.crossings k {} f } }

/-- A panel is held in reset (R423). -/
def panelHeld (s : State) (k : Nat) : Bool := match tabFind s.clk.panels k with | some x => x.inReset | none => false

/-- The panels that a crossing joins, by its kind and place; the time base is none (R420). -/
def crossPanels (k : Nat) : List Nat :=
  let kind := k / 2 ^ 17
  let place := k % 2 ^ 17
  if kind ≤ 1 then (if place % 512 = 288 then [place] else [place, nodePlace (place / 512) 288])
  else if kind ≤ 3 then [place, sitePlace (place / 512)]
  else [place]

/-- A crossing is held in reset as long as a panel that it touches is (R423). -/
def crossHeld (s : State) (k : Nat) : Bool := (crossPanels k).any (panelHeld s)

/-- Entries go through a crossing within the command that moves them (R421, R422, log entry 10). -/
def throughCross (kind place n : Nat) (s : State) : State :=
  s.modCrossing (crossKey kind place) (Crossing.through n)

/-- The crossings that touch a panel of a reset are empty, with both pointers at 0 on both sides (R423, R424). -/
def clearCrossings (p : Nat → Bool) (s : State) : State :=
  { s with clk := { s.clk with crossings := s.clk.crossings.filter (fun c => !(crossPanels c.1).any p) } }

/-- Nothing travels on the meshes, and the crossings of their local ports are empty (R142, R153, R231). -/
def quietMeshes (s : State) : State :=
  let quiet := fun (m : Mesh) =>
    { m with flits := [], legs := [], msends := [], used := [], stagingReq := [], stagingUsed := [], grants := [] }
  { s with meshes := s.meshes.map (fun m => (m.1, quiet m.2)),
           clk := { s.clk with crossings := s.clk.crossings.filter (fun c => 1 < c.1 / 2 ^ 17) } }

/-! ### Flits at the local ports (R133, R135, R143) -/

/-- The channel whose buffer holds a flit (R135). -/
def Flit.channel (f : Flit) : Nat := if f.escape then 2 else if f.kind = .data then 1 else 0

/-- Slots of a channel's buffer (R135). -/
def chanSlots (c : Nat) : Nat := if c = 1 then 8 else 4

/-- The place of a flit that has been written into the crossing of its source node, and of one that its writer, stalled,
still holds (R421, R422). -/
def inFifo : Nat := 17
def atWriter : Nat := 18

/-- Flits in an input buffer. -/
def Mesh.held (m : Mesh) (node port c : Nat) : Nat :=
  (m.flits.filter (fun f => f.pos == node && f.port == port && f.channel == c)).length

/-- The first flit at a place of a node, if there is one. -/
def Mesh.firstAt (m : Mesh) (node port : Nat) : Option Flit := m.flits.find? (fun f => f.pos == node && f.port == port)

/-- The first flit at a place of a node moves to another place. -/
def Mesh.shift (m : Mesh) (node port dest : Nat) : Mesh :=
  { m with flits := modFirst (fun f => f.pos == node && f.port == port) (fun f => { f with port := dest }) m.flits }

/-- The writer of a node's crossing writes its next flit if it sees a free entry (R421, R422). -/
def writeFlit (d n : Nat) (s : State) : State :=
  let k := crossKey 0 (nodePlace d n)
  if crossHeld s k || (s.crossing k).full || ((s.mesh d).firstAt n atWriter).isNone then s
  else (s.modCrossing k Crossing.put).modMesh d (fun m => m.shift n atWriter inFifo)

/-- The router's local port reads the next flit of its crossing if it sees one and the channel's buffer has a free slot
(R135, R143, R421). -/
def readFlit (d n : Nat) (s : State) : State :=
  let k := crossKey 0 (nodePlace d n)
  match (s.mesh d).firstAt n inFifo with
  | none => s
  | some f =>
    if crossHeld s k || (s.crossing k).void || decide (chanSlots f.channel ≤ (s.mesh d).held n 0 f.channel) then s
    else (s.modCrossing k Crossing.take).modMesh d (fun m => m.shift n inFifo 0)

/-- A flit enters the mesh of a die at its source node, with the epoch in force: a staged one in the staging buffer, any
other through the crossing of the node's local port (R134, R141, R149, R420). -/
def injectFlit (d : Nat) (f : Flit) (s : State) : State :=
  writeFlit d f.src (s.modMesh d (fun m => { m with flits := m.flits ++
    [{ f with epoch := m.epoch, pos := f.src, port := if f.port = 5 then 5 else atWriter }] }))

/-- One grain at a crossing into a mesh: the pointers pass a stage, the router reads and the writer writes (R421). -/
def pumpCross (s : State) (k : Nat) : State :=
  let place := k % 2 ^ 17
  let s := s.modCrossing k Crossing.sync
  if k / 2 ^ 17 = 0 then
    (List.range 16).foldl (fun s _ => writeFlit (place / 512) (place % 512) (readFlit (place / 512) (place % 512) s)) s
  else s

/-- One grain at every crossing (R421, R422). -/
def pumpCrossings (s : State) : State := (s.clk.crossings.map (·.1)).foldl pumpCross s

end Sys2Proof.Machine
end

