-- ==== Sys2Proof/Machine/Wave.lean ====
section
/-! DEFINITION. The words that travel on the control waveguides of the Sill (R178, R179, R420). -/

namespace Sys2Proof.Machine

/-- CRC-8 over bits [119:0], from bit 119 down to bit 0 (R25, log entry 21). -/
def crc8 (m : Nat) : Nat := crcBits 8 0x07 0 (bitsOf 120 m).reverse

/-- The check of a timing message or a control word holds (R25, R178). -/
def checkOk (m : Word128) : Bool := bits m.toNat 120 8 == crc8 m.toNat

/-- A word of 120 bits with its check (R25, R178). -/
def withCheck (v : Nat) : Word128 := BitVec.ofNat 128 (v % 2 ^ 120 + crc8 v * 2 ^ 120)

/-- A control word (R178). -/
def controlWord (type src dst engine payload : Nat) : Word128 :=
  withCheck (type % 16 + src % 256 * 2 ^ 4 + dst % 256 * 2 ^ 12 + engine % 2 ^ 16 * 2 ^ 20 + payload % 2 ^ 64 * 2 ^ 36)

def cwType (w : Word128) : Nat := bits w.toNat 0 4
def cwSrc (w : Word128) : Nat := bits w.toNat 4 8
def cwDst (w : Word128) : Nat := bits w.toNat 12 8
def cwEngine (w : Word128) : Nat := bits w.toNat 20 16
def cwTag (w : Word128) : Nat := bits w.toNat 36 16

/-- The reserved fields of a control word are 0 (R178). -/
def cwReservedOk (w : Word128) : Bool := bits w.toNat 100 20 == 0

/-- A word for a site, or for every site on the bus (R178). -/
def cwFor (w : Word128) (site : Nat) : Bool := cwDst w == site || cwDst w == 0xFF

/-- The Sill sequencer's site (R154). -/
def seqSite : Nat := 0x70

/-- A word passes between the panel of a site and the relays of the time base; the Sill sequencer stands in the time base
itself (R414, R420). -/
def siteCross (kind site : Nat) (s : State) : State := if site = seqSite then s else throughCross kind (sitePlace site) 1 s

/-- A site sends a control word (R178, R179, R420). -/
def sendWord (w : Word128) (s : State) : State :=
  siteCross 4 (cwSrc w) { s with sill := { s.sill with words := s.sill.words ++ [w] } }

/-- The sender and the receiver of a word count it as failed, or start their counts again (R292). -/
def countWord (w : Word128) (failed : Bool) (s : State) : State :=
  let put := fun (t : List (Nat × Nat)) (k : Nat) =>
    if failed then tabPut t k (min 4 (tabGet t k 0 + 1)) else if (tabFind t k).isSome then tabDel t k else t
  { s with sill := { s.sill with ctlFails := put (put s.sill.ctlFails (2 * cwSrc w)) (2 * cwDst w + 1) } }

/-- A discarded word is counted, and its sender repeats it after 16 grains (R179). -/
def discardWord (sent : Word128) (s : State) : State :=
  let s := countWord sent true s
  { s with sill := { s.sill with badWords := s.sill.badWords + 1, repeats := s.sill.repeats ++ [(s.now + 16, sent)] } }

/-- The bay column of a site: the one beneath it, or the one beside it on its edge; the Sill sequencer has none (R154, R538). -/
def siteColumn (site : Nat) : Option Nat :=
  if site < 8 then some site
  else if 0x10 ≤ site ∧ site < 0x30 then some (site % 16 / 2)
  else if 0x40 ≤ site ∧ site < 0x5A then some (min 7 (((site - 0x40) % 13 * 16 + 8) / 26))
  else if site = 0x60 ∨ site = 0x61 then some 0
  else none

/-- No light reaches a site on its control waveguides: the combs of its column have failed, or, at the Sill sequencer, those of
every column (R274, R275). -/
def ctlUnlit (s : State) (site : Nat) : Bool :=
  if site = seqSite then decide (8 ≤ s.sill.ctlDark.length)
  else match siteColumn site with
    | some c => s.sill.ctlDark.contains c
    | none => false

/-- A word travels in the dark: it does not arrive (R275). -/
def wordUnlit (s : State) (w : Word128) : Bool := ctlUnlit s (cwSrc w) || ctlUnlit s (cwDst w)

/-- A received word with a failed check is discarded, counted and repeated; another is taken (R179). -/
def takeWord (w : Word128) (f : State → State) (s : State) : State :=
  if wordUnlit s w then s
  else if checkOk w then
    (if cwReservedOk w then f (countWord w false (if cwDst w = 0xFF then s else siteCross 5 (cwDst w) s)) else s)
  else discardWord w s

/-- A word that its sender formed arrives with some bits flipped: it is taken, or discarded for the sender to repeat
(R179). -/
def arriveWord (sent flip : Word128) (f : State → State) (s : State) : State :=
  if wordUnlit s sent then s
  else if checkOk (sent ^^^ flip) then f (countWord sent false (siteCross 5 (cwDst sent) s)) else discardWord sent s

/-- A word that was discarded still waits to be repeated (R179). -/
def awaitsRepeat (s : State) (w : Word128) : Bool := s.sill.repeats.any (fun r => r.2 == w)

end Sys2Proof.Machine
end

