-- ==== Sys2Proof/Machine/Issue.lean ====
section
/-! DEFINITION. Tokens, the issue and the completion of steps, overruns, traces, aborts and the halt of a run. -/

namespace Sys2Proof.Machine

/-! ### Token counters (R40) -/

def countOf (e : Engine) (c : Nat) : Token := tabGet e.tokens c {}

/-- Every selected counter holds at least 1 (R40). -/
def waitsMet (e : Engine) (cs : List Nat) : Bool := cs.all (fun c => decide (1 ≤ (countOf e c).count))

/-- Consume one count; a counter that returns to 0 clears its cause mask and error bit (R43, R56). -/
def takeCount (e : Engine) (c : Nat) : Engine :=
  let t := countOf e c
  { e with tokens := tabPut e.tokens c (if t.count ≤ 1 then {} else { t with count := t.count - 1 }) }

def takeCounts (e : Engine) (cs : List Nat) : Engine := cs.foldl takeCount e

/-- The cause masks of the counters that a step consumes (R43). -/
def tokenMask (e : Engine) (cs : List Nat) : Nat := cs.foldl (fun m c => m ||| (countOf e c).mask) 0

/-- A consumed counter carries the error bit (R40, R56). -/
def tokenErr (e : Engine) (cs : List Nat) : Bool := cs.any (fun c => (countOf e c).err)

/-- A post arrives at its counter (R40, R43, R56). -/
def applyPost (p : Post) (s : State) : State :=
  let t := countOf (s.engine p.dest) p.counter
  if t.count ≥ 0xFFFF then
    let t' : Token := { t with mask := t.mask ||| p.mask, err := t.err || p.err }
    let s := s.modEngine p.dest (fun e => { e with tokens := tabPut e.tokens p.counter t' })
    raise 0x0103 p.dest p.counter 0 0 0 { s with repro := { s.repro with stepError := true } }
  else
    let t' : Token := { t with count := t.count + 1, mask := t.mask ||| p.mask, err := t.err || p.err,
                               since := if t.count = 0 then s.now else t.since }
    s.modEngine p.dest (fun e => { e with tokens := tabPut e.tokens p.counter t' })

/-! ### Traces (R506) -/

/-- The trace buffer that records an engine, if any (R506). -/
def traceBuffer (e : Nat) : Option Nat :=
  match engKind e with
  | 1 => some (bits e 9 3)
  | 4 => some (bits e 4 3)
  | 3 => some 8
  | 5 => some 8
  | _ => none

/-- The trace entry of a completed step (R506). -/
def traceEntry (e : Nat) (f : Flight) : BitVec 128 :=
  BitVec.ofNat 128 (f.issued % 2 ^ 48 + e * 2 ^ 48 + f.step.idx % 2 ^ 28 * 2 ^ 64 + min f.late 0xFFFF * 2 ^ 92
    + f.mask % 8 * 2 ^ 108 + (if f.aborted then 2 else b2n f.err) * 2 ^ 111)

/-- Insert an entry among those of its grain, in ascending engine ID (R506). -/
def traceInsert (n : Nat) (x : BitVec 128) (l : List (BitVec 128)) : List (BitVec 128) :=
  let old := l.take (l.length - n)
  let new := l.drop (l.length - n)
  old ++ new.filter (fun y => bits y.toNat 48 16 ≤ bits x.toNat 48 16) ++ [x]
    ++ new.filter (fun y => bits x.toNat 48 16 < bits y.toNat 48 16)

/-- One entry is taken by a capturing buffer (R506, R510). -/
def traceTake (now : Nat) (x : BitVec 128) (t : Trace) : Trace :=
  let n := if t.grain = now then t.inGrain else 0
  if 8 ≤ n then { t with dropped := satAdd t.dropped 1 0xFFFF, grain := now, inGrain := n }
  else
    let l := traceInsert n x t.entries
    let l := if 4096 < l.length then l.drop 1 else l
    { t with entries := l, grain := now, inGrain := n + 1, full := t.full || l.length == 4096,
             capture := !(t.mode == 2 && l.length == 4096) }

/-- A completed step that issued in an active run is traced while scope diag is in force (R500, R506). -/
def traceStep (e : Nat) (f : Flight) (s : State) : State :=
  match traceBuffer e with
  | none => s
  | some b =>
    let t := tabGet s.dbg.trace b {}
    if f.active && t.capture && s.scopesNow.testBit 0 then
      { s with dbg := { s.dbg with trace := tabPut s.dbg.trace b (traceTake s.now (traceEntry e f) t) } }
    else s

/-! ### Completion (R55 to R57, R43) -/

/-- The post of a step through its route-table entry, if it names a destination (R40, R57, R212). -/
def routePost (e : Engine) (f : Flight) : List Post :=
  match e.route[stPost f.step.word]? with
  | some r => if rtValid r then [{ dest := rtDest r, counter := rtCounter r, mask := f.mask,
                                   err := f.err || f.aborted }] else []
  | none => []

/-- The mesh node of a tiller or a die sequencer (R131). -/
def meshNode (e : Nat) : Option Nat :=
  match engKind e with
  | 1 => some (bits e 0 9)
  | 2 => some 288
  | _ => none

/-- The mesh and the nodes that carry a post between two engines of one die (R134, R136). -/
def meshPath (e dest : Nat) : Option (Nat × Nat × Nat) :=
  match meshNode e, meshNode dest with
  | some a, some b => if e ≠ dest ∧ engDie e = engDie dest then some ((engDie e).getD 0, a, b) else none
  | _, _ => none

/-- The site of an engine (R45, R154, R168). -/
def engineSite (e : Nat) : Nat :=
  match engKind e with
  | 3 => seqSite
  | 5 => 0x40 + bits e 0 5
  | _ => (engDie e).getD 0

/-- The control word of a post (R178). -/
def postWord (src : Nat) (p : Post) : Word128 :=
  controlWord 0x1 src (engineSite p.dest) p.dest (p.counter % 64 + b2n p.err * 2 ^ 6 + p.mask % 8 * 2 ^ 7)

/-- A post leaves a site over the control waveguides (R41, R178). -/
def wavePost (src : Nat) (p : Post) (s : State) : State :=
  let w := postWord src p
  let s := sendWord w s
  { s with cut := { s.cut with posts := s.cut.posts ++ [{ p with word := some w }] } }

/-- A post leaves its engine: over the die's mesh between tillers and the die sequencer of one die, to the engine itself
locally, otherwise over the control waveguides (R40, R41, R136). -/
def sendPost (e : Nat) (s : State) (p : Post) : State :=
  match meshPath e p.dest with
  | some (d, a, b) => injectFlit d { kind := .post, src := a, dst := b, post := p } s
  | none =>
    if e = p.dest then { s with cut := { s.cut with posts := s.cut.posts ++ [p] } }
    else wavePost (engineSite e) p s

/-- The step of a stream whose hold deferred the change of a peg has completed with a mask, which a stream that waits for
the peg takes (R43, R166). -/
def noteDelay (e mask : Nat) (s : State) : State :=
  { s with sill := { s.sill with delays := s.sill.delays.map (fun d => if d.2.1 = e then (d.1, e, d.2.2 ||| mask) else d) } }

/-- A step completes with its status: it is traced, its unit is free, and it posts once (R55 to R57, R176). -/
def completeStep (e : Nat) (f : Flight) (s : State) : State :=
  let s := if f.err || f.aborted then { s with repro := { s.repro with stepError := true } } else s
  let s := if f.err && engKind e == 1 then setFlag (tillerKey e) 4 s else s
  let s := traceStep e f s
  let posts := routePost (s.engine e) f
  let s := if f.unit = 4 then noteDelay e f.mask s else s
  let s := if f.unit = 5 then s else s.modEngine e (fun g =>
    { g with prevMask := tabPut g.prevMask f.unit f.mask, freedAt := tabPut g.freedAt f.unit s.now })
  posts.foldl (sendPost e) s

/-- The first step in flight on a unit that satisfies a condition. -/
def flightOf (e : Engine) (u : Nat) (p : Flight → Bool) : Option Flight :=
  e.flight.find? (fun f => f.unit == u && p f)

/-- A step in flight completes (R55). -/
def completeFlight (e u : Nat) (p : Flight → Bool) (s : State) : State :=
  match flightOf (s.engine e) u p with
  | none => s
  | some f =>
    completeStep e f (s.modEngine e (fun g => { g with flight := delFirst (fun f => f.unit == u && p f) g.flight }))

/-- Change the first step in flight on a unit that satisfies a condition. -/
def modFlight (e u : Nat) (p : Flight → Bool) (g : Flight → Flight) (s : State) : State :=
  s.modEngine e (fun x => { x with flight := modFirst (fun f => f.unit == u && p f) g x.flight })

/-- A step with this opcode and body is in flight and has still to take effect. -/
def isStep (op : Nat) (b : Body) (f : Flight) : Bool :=
  stOpcode f.step.word == op && stBody f.step.word == b && !f.done

/-! ### Issue (R42, R43, R53) -/

def unitBusy (e : Engine) (u : Nat) : Bool := e.flight.any (fun f => f.unit == u)

/-- Every unit of the engine is idle (R220, R228). -/
def allIdle (e : Engine) : Bool := e.flight.all (fun f => f.unit == 5)

/-- The physical tiller of a die with a logical index, if one is assigned (R52, R236). A placed list leaves the indices
of disabled tillers without one; the map holds 511 there. -/
def State.physical (s : State) (die logical : Nat) : Option Nat :=
  ((tabGet s.cut.logMap die [])[logical]?).filter (fun p => decide (p < 288))

/-- The tiller whose selector register a SELECT reads (R81, R225, R227). -/
def selTiller (s : State) (e : Nat) (w : StepWord) : Option Nat :=
  if engKind e = 1 then some (tillerKey e)
  else match engDie e with
    | some d => (s.physical d (bits w.toNat 8 9)).map (fun p => d * 288 + p)
    | none => none

/-- The member that executes, and whether the selector was out of range (R81, R227). -/
def selMember (s : State) (e : Nat) (w : StepWord) : Nat × Bool :=
  let n := bits w.toNat 3 4 + 1
  let v := match selTiller s e w with
    | some k => tabGet (s.tiller k).sel (bits w.toNat 0 3) 0
    | none => 0
  if v < n then (v, false) else (n - 1, true)

/-- The units whose being busy delays a head step: its own, those of the executing member of a select group, and for
CKPT and END every unit (R53, R81, R220). -/
def headUnits (s : State) (e : Nat) (q : QStep) (rest : List QStep) : List Nat :=
  let op := stOpcode q.word
  if op = 0x05 ∨ op = 0x06 then [0, 1, 2, 3, 4]
  else if op = 0x04 then
    match rest[(selMember s e q.word).1]? with
    | some m => [unitOf (stOpcode m.word)]
    | none => []
  else if unitOf op = 5 then [] else [unitOf op]

/-- The panel of a tiller's engine is out of reset; other engines have no panel of their own (R423, R432, R502). -/
def panelRuns (s : State) (e : Nat) : Bool :=
  engKind e != 1 || (match tabFind s.clk.panels (e % 4096) with | some x => !x.inReset | none => true)

/-- The grain that an engine's panel sees: its own bits [63:16] above the distributed bits [15:0]; engines without a
panel of their own see the counter (R34, R42). -/
def panelNow (s : State) (e : Nat) : Nat :=
  match if engKind e = 1 then tabFind s.clk.panels (e % 4096) else none with
  | some x => x.high.toNat * 65536 + s.now % 65536
  | none => s.now

/-- At a boundary, RAIL_SUBSTITUTE has something to do: a logical rail has no ACTIVE rail and one stands by, or its rail
is narrow and one of full width stands by (R264). -/
def substituteDue (s : State) : Bool :=
  s.railTop.assigned && (List.range 24).any (fun l =>
    match s.activeRail l with
    | none => s.rails.any (fun p => p.2.state == 6)
    | some r => (s.rail r).width != 32 && s.rails.any (fun p => p.2.state == 6 && p.2.width == 32))

/-- A firmware action that is due at this boundary has not been taken: a flip of a mesh or of the rails, a substitution, a
repair of dowels, a change of a bin or of a ceiling (R22). -/
def firmwareDue (s : State) : Bool :=
  let past := fun (o : Option Nat) => o.any (fun g => decide (g < s.now))
  s.meshes.any (fun m => past m.2.request)
    || (s.railTop.flipPending && s.railTop.flippedAt.isNone && decide (s.railTop.flipSheaf ≤ s.fleetSheaf))
    || substituteDue s
    || s.clk.panels.any (fun p => past p.2.decided && p.2.changing && !p.2.inReset)
    || s.parts.any (fun p => p.2.groups.any (fun g => !g.2.repair.isEmpty && decide (g.2.declared < s.now)))
    || (s.sup.hold != 0 && (past s.pwr.lowerDue || past s.pwr.raiseDue
          || s.cstacks.any (fun k => past k.2.lowerDue || past k.2.raiseDue)))

/-- The head step may issue: the run is running, no idle sheaf is under way, a boundary has had its strobe and the
firmware actions due there, the due grain has passed on the counter and on the panel, its waits are satisfied and its
units are free (R22, R39, R42, R53, R229, R496). -/
def canIssue (s : State) (e : Nat) (g : Engine) (q : QStep) (rest : List QStep) : Bool :=
  s.cut.state == .running && !s.cut.safeStop && !s.cut.idleNow && !s.cut.idleDue && !g.stopped && panelRuns s e
    && (!s.atBoundary || (s.time.strobed == some s.now && !firmwareDue s))
    && decide (s.dueGrain q.sheaf (stOffset q.word) ≤ s.now)
    && decide (s.dueGrain q.sheaf (stOffset q.word) ≤ panelNow s e)
    && waitsMet g (stWaits q.word)
    && (headUnits s e q rest).all (fun u => !unitBusy g u)
    && (stOpcode q.word != 0x04 || decide (bits q.word.toNat 3 4 + 1 ≤ rest.length))

/-- The mask that a step takes over from the one that kept its engine or unit busy: that step's, or other (R43). -/
def heirMask (m : Nat) : Nat := if m = 0 then 4 else m

/-- The cause mask that a step takes at issue, and whether its lateness is inherited. A late step takes the masks of the
counters it consumes; of the steps that kept its units busy past its due grain; of the step before it in the queue where
that one issued after this one fell due; and other for an empty queue, for drift or slewing, and where nothing else was
observed (R43, R53). -/
def issueMask (s : State) (g : Engine) (cs us : List Nat) (due : Nat) : Nat × Bool :=
  let tm := tokenMask g cs
  if s.now ≤ due then (tm, false)
  else
    let busy := us.filter (fun u => decide (due < tabGet g.freedAt u 0))
    let bm := busy.foldl (fun m u => m ||| heirMask (tabGet g.prevMask u 0)) 0
    let behind := decide (due < g.lastIssue)
    let hm := if behind then heirMask g.lastMask else 0
    let own := g.ranEmpty || s.time.st == .drift || s.time.st == .slewing
    let tok := cs.any (fun c => decide (due < (countOf g c).since))
    (heirMask (tm ||| bm ||| hm ||| (if own then 4 else 0)), !busy.isEmpty || behind || tok)

/-- An overrun is counted and recorded, and the first of a run raises OVERRUN at once (R44, R46, R359). -/
def recordOverrun (e : Nat) (q : QStep) (mask : Nat) (inherited : Bool) (late : Nat) (s : State) : State :=
  let o : Overrun := { sheaf := q.sheaf, offset := stOffset q.word, mask := mask, inherited := inherited, late := late,
                       engine := e }
  let c := s.cut
  let first := match c.ovrFirst with
    | none => some o
    | some f => if c.ovrGrain = s.now ∧ e < f.engine then some o else some f
  let last := match c.ovrLast with
    | none => some o
    | some l => if c.ovrLastGrain = s.now ∧ l.engine < e then some l else some o
  let c := { c with ovrTotal := satAdd c.ovrTotal 1 0xFFFFFFFF,
                    ovrOther := if mask.testBit 2 then satAdd c.ovrOther 1 0xFFFFFFFF else c.ovrOther,
                    ovrGrain := if c.ovrFirst = none then s.now else c.ovrGrain,
                    ovrFirst := first, ovrLast := last, ovrLastGrain := s.now }
  let s := { s with cut := c }
  if c.ovrEvent = none then raiseOverrun s else { s with cut := { s.cut with ovrNew := true } }

/-- A CKPT issues: its index is recorded, the pausing engine stops, and the last of a mark sets last_mark
(R228, R229, R241). -/
def ckptIssued (e : Nat) (q : QStep) (s : State) : State :=
  let m := bits q.word.toNat 0 16
  let s := s.modEngine e (fun g => { g with ckpts := g.ckpts ++ [(m, q.idx)],
                                            stopped := g.stopped || s.cut.pauseMark == some m })
  if s.engines.all (fun p => !p.2.present || p.2.ckpts.any (fun c => c.1 == m)) then
    { s with cut := { s.cut with lastMark := m } }
  else s

/-- The cycle count of a step on its engine (R65 to R80). -/
def flightCycles (s : State) (e : Nat) (w : StepWord) : Nat :=
  if engKind e = 1 then
    stepCycles (stOpcode w) (stBody w)
      (if bits e 0 9 ∈ (s.dieFloor (bits e 9 3)).degraded then 2 else 1)
  else 0

/-! ### Streams at issue (R173, R174) -/

/-- A stream opcode: SMREAD to SLIN (R172). -/
def streamOp (op : Nat) : Bool := decide (0x60 ≤ op ∧ op ≤ 0x65)

/-- Granule count of a stream body (R173). -/
def streamGranules (op : Nat) (b : Body) : Nat := (if op ≤ 0x61 then fld b 52 13 else fld b 22 13) + 1

/-- Descriptor index of a stream body (R173). -/
def streamDesc (op : Nat) (b : Body) : Nat := if op ≤ 0x61 then fld b 65 10 else fld b 35 10

/-- Tag of a stream (R174). -/
def streamTag (op e : Nat) (b : Body) : Nat :=
  if op = 0x62 ∨ op = 0x63 then fld b 45 15 else 0x8000 + e % 128

/-- The partner of a lane entry (R170). -/
def lnPartner (e : BitVec 32) : Nat := bits e.toNat 0 8

/-- The distinct partners of a descriptor. -/
def Desc.partners (d : Desc) : List Nat := setOf (d.lanes.map lnPartner)

/-- The open words of a stream, one to the site of each partner (R178, R187). -/
def openWords (st : Stream) (d : Desc) : List Word128 :=
  if st.kind = 4 then []
  else d.partners.map (fun p => controlWord 0x2 (engineSite st.owner) p 0 (st.tag + st.desc * 2 ^ 16))

/-- An issued stream step sends its open words, and waits for its stream to open (R174, R178). -/
def addStream (e : Nat) (w : StepWord) (s : State) : State :=
  let op := stOpcode w
  let b := stBody w
  if streamOp op && engKind e == 4 then
    let st : Stream := { tag := streamTag op e b, kind := op - 0x5F, owner := e, desc := streamDesc op b, body := b,
                         issued := s.now, total := 8 * streamGranules op b }
    (openWords st (tabGet s.cut.descs st.desc {})).foldl (fun s w => sendWord w s)
      { s with sill := { s.sill with streams := s.sill.streams ++ [st] } }
  else s

/-- The stream of an engine whose step has completed is gone (R176). -/
def dropStream (e : Nat) (s : State) : State :=
  { s with sill := { s.sill with streams := s.sill.streams.filter (fun x => !(x.owner == e && x.closed.isSome)) } }

def barNumber (b : Body) : Nat := bits b.toNat 0 16
def barScope (b : Body) : Nat := bits b.toNat 16 2

/-- The control word of an arrival at the counting point of a barrier: the die sequencer at die scope, else the Sill
sequencer (R178, R224). -/
def barrierWord (e : Nat) (b : Body) : Word128 :=
  let d := (engDie e).getD 0
  if barScope b = 0 then controlWord 0x6 (engineSite e) d (0x2000 + d) (barNumber b)
  else controlWord 0x6 (engineSite e) seqSite 0x3000 (barNumber b)

/-- A participant sends its arrival at issue: a tiller on the mesh control channel, which its die sequencer passes on beyond
die scope, another engine by control word (R224). -/
def sendArrival (e : Nat) (q : QStep) (s : State) : State :=
  if engKind e = 1 then injectFlit (bits e 9 3) { kind := .barrier, src := bits e 0 9, dst := 288, step := q } s
  else sendWord (barrierWord e (stBody q.word)) s

/-- A SELECT whose index lies past its list runs the last member and sets the invalid flag of its tiller (R57, R81). -/
def flagSelect (e : Nat) (q : QStep) (past : Bool) (s : State) : State :=
  if stOpcode q.word = 0x04 ∧ past then
    (match selTiller s e q.word with | some k => setFlag k 3 s | none => s)
  else s

/-- The head and the members of its SELECT leave the queue: counts are consumed, lateness and cause are recorded (R42, R43,
R57). -/
def takeHead (e : Nat) (q : QStep) (left : List QStep) (mi : Nat × Bool) (late : Nat) (s : State) : State :=
  let g := takeCounts (s.engine e) (stWaits q.word)
  let g := { g with queue := left, cursor := q.sheaf, ranEmpty := false, lastMask := mi.1, lastIssue := s.now }
  let s := flagSelect e q (selMember s e q.word).2 (s.setEngine e g)
  if late = 0 then s else recordOverrun e q mi.1 mi.2 late s

/-- The step that issues is in flight on its unit or, for a control step other than BARRIER, completes (R53, R220). -/
def launch (e : Nat) (q run : QStep) (f : Flight) (s : State) : State :=
  let op := stOpcode q.word
  let s := if op = 0x05 then ckptIssued e q s else s
  let s := if op = 0x06 then s.modEngine e (fun g => { g with ended := true }) else s
  if op = 0x01 ∨ op = 0x02 ∨ op = 0x05 ∨ op = 0x06 then completeStep e f s
  else
    let s := addStream e run.word (s.modEngine e (fun g => { g with flight := g.flight ++ [f] }))
    if op = 0x03 then sendArrival e run s else s

/-- The head step of a queue issues (R42, R43, R53, R57, R81, R220). -/
def issueHead (e : Nat) (q : QStep) (rest : List QStep) (s : State) : State :=
  let g := s.engine e
  let cs := stWaits q.word
  let due := s.dueGrain q.sheaf (stOffset q.word)
  let late := s.now - due
  let mi := issueMask s g cs (headUnits s e q rest) due
  let sel := stOpcode q.word = 0x04
  let run := if sel then (rest[(selMember s e q.word).1]?).getD q else q
  let left := if sel then rest.drop (bits q.word.toNat 3 4 + 1) else rest
  let t := takeHead e q left mi late s
  let f : Flight := { unit := unitOf (stOpcode run.word), step := run, issued := t.now, late := late, mask := mi.1,
                      err := tokenErr g cs, active := t.runActive, cycles := flightCycles t e run.word }
  launch e q run f t

/-- Issue the head of an engine's queue if it may issue and satisfies a condition on its opcode (R42). -/
def issueIf (e : Nat) (p : Nat → Bool) (s : State) : State :=
  match (s.engine e).queue with
  | [] => s
  | q :: rest =>
    if p (stOpcode q.word) && canIssue s e (s.engine e) q rest then issueHead e q rest s else s

/-! ### Aborts and the halt -/

/-- A step in flight completes aborted, with the error bit and cause other (R185). -/
def abortFlight (e u : Nat) (p : Flight → Bool) (s : State) : State :=
  completeFlight e u p (modFlight e u p (fun f => { f with aborted := true, mask := f.mask ||| 4 }) s)

/-- The step of a stream engine that owns a descriptor body. -/
def ownStep (b : Body) (f : Flight) : Bool := stBody f.step.word == b

/-- The number of a frame of one destination in a stream's lists. -/
def frameNo (i seq : Nat) : Nat := i * 2 ^ 24 + seq

/-- The frame has arrived or is lost (R180). -/
def Stream.has (st : Stream) (i seq : Nat) : Bool :=
  st.heldSeq.contains (frameNo i seq) || st.lost.contains (frameNo i seq)

/-- Every frame of a destination has arrived or is lost (R180). -/
def Stream.whole (st : Stream) (i : Nat) : Bool := (List.range st.total).all (fun q => st.has i q)

/-- A die stream whose frames have all reached its receivers: only their close words are on the way (R177). -/
def Stream.delivered (st : Stream) : Bool :=
  st.kind == 3 && !st.peers.isEmpty && (List.range st.peers.length).all (fun i => st.whole i)

/-- A receiving step of a stream that has not closed (R174). -/
def isPeer (st : Stream) (x : Stream) : Bool :=
  x.kind == 4 && x.tag == st.tag && st.peers.contains x.owner && x.closed.isNone

/-- The abort word that tells the other engines of a stream (R178). -/
def abortWord (cause : Nat) (st : Stream) : Word128 :=
  controlWord 0x8 (engineSite st.owner) 0xFF 0 (st.tag + cause % 16 * 2 ^ 16)

/-- The step of a sender whose frames have all arrived takes effect, as it would with the last close word (R177, R186). -/
def endSender (st : Stream) (s : State) : State :=
  let bad := st.uncorr || !st.lost.isEmpty
  let s := modFlight st.owner 4 (fun f => !f.done)
    (fun f => { f with done := true, err := f.err || bad, mask := f.mask ||| (b2n st.refresh + 2 * b2n st.retry) }) s
  let mine := fun (x : Stream) => x.owner == st.owner && x.closed.isNone
  let l := modFirst mine (fun x => { x with closed := some (b2n bad), done := true }) s.sill.streams
  { s with sill := { s.sill with streams := l, errors := if bad then satAdd s.sill.errors 1 0xFFFF else s.sill.errors } }

/-- Every engine of a stream completes aborted, and the stream is gone (R185). -/
def abortEnds (st : Stream) (s : State) : State :=
  let es := st.owner :: (s.sill.streams.filter (isPeer st)).map (·.owner)
  let l := s.sill.streams.filter (fun x => !((x.owner == st.owner && x.tag == st.tag) || isPeer st x))
  es.foldl (fun s e => abortFlight e 4 (fun _ => true) s) { s with sill := { s.sill with streams := l } }

/-- An aborted stream is counted and reported (R185, R188). -/
def reportAbort (cause : Nat) (st : Stream) (s : State) : State :=
  raise 0x0305 st.owner st.tag cause 0 0 { s with sill := { s.sill with aborted := satAdd s.sill.aborted 1 0xFFFF } }

/-- A stream is aborted: every engine of it completes aborted, and STREAM_ABORTED is raised once, by the sending side
where a receiving step still waits for its match. A die stream whose last frame has arrived completes instead (R185,
R186). -/
def abortStream (cause : Nat) (st : Stream) (s : State) : State :=
  if st.delivered then endSender st s
  else
    let s := abortEnds st (sendWord (abortWord cause st) s)
    if st.kind = 4 then s else reportAbort cause st s

/-- Every stream that satisfies a condition is aborted. -/
def abortStreams (cause : Nat) (p : Stream → Bool) (s : State) : State :=
  (s.sill.streams.filter (fun st => p st && st.closed.isNone)).foldl (fun s st => abortStream cause st s) s

/-- The abort of an open stream stands at the end of the grain, so that its last frame may still arrive in the same grain; a
stream that is not open is aborted at once (R185, R186). -/
def abortSoon (cause : Nat) (st : Stream) (s : State) : State :=
  if st.opened.isNone then abortStream cause st s
  else
    let mine := fun (x : Stream) => x.owner == st.owner && x.tag == st.tag && x.closed.isNone
    let mark := fun (x : Stream) => { x with abortAt := some (x.abortAt.getD cause) }
    { s with sill := { s.sill with streams := modFirst mine mark s.sill.streams } }

/-- At the end of a grain the streams under abort end (R185, R186). -/
def finishAborts (s : State) : State :=
  (s.sill.streams.filter (fun st => st.abortAt.isSome && st.closed.isNone)).foldl
    (fun s st => abortStream (st.abortAt.getD 0) st s) s

/-- A halt for a cause of R526: the streams abort, what is collected is raised, RUN_HALT is raised once, and a PAUSE
that waits completes with 0x0501 (R46, R89, R235, R238, R390, R526). Where several causes fall in one grain, the
lowest is recorded. -/
def haltRun (cause w1 : Nat) (s : State) : State :=
  if s.cut.state == .armed || s.cut.state == .running then
    let s := abortStreams 0x20 (fun _ => true) s
    let s := flushRun s
    let s := { s with cut := { s.cut with state := .halted, prot := false, startAt := none, safeStop := false,
                                          safeDue := false, idleDue := false } }
    let s := raise 0x0504 0 cause w1 0 0 s
    endPauses 0x0501 s
  else if s.cut.state == .halted then
    { s with err := { s.err with raised := s.err.raised.map (fun r =>
        if r.code = 0x0504 ∧ r.grain = s.now ∧ cause < r.w0 then { r with w0 := cause, w1 := w1 % 2 ^ 64 } else r) } }
  else s

/-- The cut list is unloaded with CUT_UNLOADED (R239, R451). -/
def unloadList (s : State) : State :=
  let s := raise 0x0503 0 s.cut.state.code 0 0 0 s
  { s with cut := { s.cut with state := .empty, prot := false, digest := 0, startAt := none } }

end Sys2Proof.Machine
end

