-- ==== Sys2Proof/Machine/Words.lean ====
section
/-! DEFINITION. Control words of the rails: their check, their fields, and the combined words that the module contributes
(R256 to R258). -/

namespace Sys2Proof.Machine

/-- CRC-16 of a control word, bit 0 first (R117, R256). -/
def crc16 (v : Nat) : Nat := crcBits 16 0x1021 0xFFFF (bitsOf 240 v)

/-- A control word passes its check (R256). -/
def ctlOk (w : Word256) : Bool := bits w.toNat 240 16 == crc16 w.toNat

/-- A control word with its check (R256). -/
def ctlWord (v : Nat) : Word256 := BitVec.ofNat 256 (v % 2 ^ 240 + crc16 v * 2 ^ 240)

def ctlKind (w : Word256) : Nat := bits w.toNat 0 8

/-- Field of a control word. -/
def ctl (w : Word256) (lo len : Nat) : Nat := bits w.toNat lo len

/-- The bits of a control word from `lo` up to its check are 0 (R257). -/
def ctlRest (w : Word256) (lo : Nat) : Bool := bits w.toNat lo (240 - lo) == 0

/-- Number of bits that a kind of control word uses, none for an invalid kind (R257). -/
def ctlBits (k : Nat) : Option Nat :=
  match k with
  | 0x00 => some 8 | 0x01 => some 41 | 0x02 => some 136 | 0x03 => some 212 | 0x04 => some 126
  | 0x10 => some 61 | 0x20 => some 41 | 0x21 => some 85 | 0x22 => some 181 | 0x23 => some 79
  | _ => none

/-- A control word is valid: check, kind and reserved bits (R256, R257). -/
def ctlValid (w : Word256) : Bool :=
  ctlOk w && (match ctlBits (ctlKind w) with | some n => ctlRest w n | none => false)

/-- The module puts a control word on a rail: it waits for a free place in a codeword (R256). -/
def putWord (r : Nat) (w : Word256) (s : State) : State :=
  let s := s.modRail r (fun x => { x with ctlWait := x.ctlWait ++ [w] })
  { s with railTop := { s.railTop with words := s.railTop.words ++ [(r, w)] } }

/-- The physical rails that are ACTIVE (R259). -/
def State.activeRails (s : State) : List Nat := (s.rails.filter (fun p => p.2.state == 5)).map (·.1)

/-- A control word on every ACTIVE rail (R258, R345). -/
def putEvery (w : Word256) (s : State) : State := s.activeRails.foldl (fun s r => putWord r w s) s

/-- A combined word is contributed on every ACTIVE rail, and its key is outstanding until a result arrives (R258). -/
def contribute (kind key rest : Nat) (s : State) : State :=
  let o := s.railTop.outstanding ++ [{ kind := kind, key := key }]
  putEvery (ctlWord (kind + s.col.stook % 2 ^ 16 * 2 ^ 8 + rest * 2 ^ 24))
    { s with railTop := { s.railTop with outstanding := o } }

/-- TALLY: fleet sheaf and value (R257, R436). -/
def contributeTally (sheaf v : Nat) (s : State) : State :=
  contribute 0x21 (sheaf % 2 ^ 52) (sheaf % 2 ^ 52 + v % 256 * 2 ^ 52) s

/-- TIMECHK: key sheaf K, lowest and highest (R257, R258). -/
def contributeTimechk (k : Nat) (s : State) : State :=
  let f := s.fleetSheaf
  contribute 0x22 (k % 2 ^ 52) (k % 2 ^ 52 + f % 2 ^ 52 * 2 ^ 52 + f % 2 ^ 52 * 2 ^ 104) s

/-- EPOCH: new epoch, flip sheaf F and ready = 1 (R257, R267). -/
def contributeEpoch (s : State) : State :=
  let f := s.railTop.flipSheaf
  contribute 0x23 f (b2n s.railTop.flipEpoch + f % 2 ^ 52 * 2 + 2 ^ 53) s

/-- BARRIER (R224, R257). -/
def contributeBarrier (n : Nat) (s : State) : State := contribute 0x20 n (n % 2 ^ 16) s

/-- A contribution for this kind and key is outstanding (R258). -/
def isOutstanding (s : State) (kind key : Nat) : Bool := s.railTop.outstanding.contains { kind := kind, key := key }

/-- The key is forgotten (R258). -/
def forget (kind key : Nat) (s : State) : State :=
  let o := delFirst (fun c => c.kind == kind && c.key == key) s.railTop.outstanding
  { s with railTop := { s.railTop with outstanding := o } }

/-- A packet, TOKEN word or combined word is discarded at a rail site (R258, R331, R341, R346, R351). -/
def countStray (r : Nat) (s : State) : State := s.modCol r (fun e => { e with stray := satAdd e.stray 1 0xFFFF })

end Sys2Proof.Machine
end

