-- ==== Sys2Proof/Machine/Line.lean ====
section
/-! DEFINITION. The line layer of the rails and the Yuley ports: codewords, frames, superframes, identity blocks and the
control codeword (R246 to R249, R256, R261, R283, R372). -/

namespace Sys2Proof.Machine

/-! ### RS(544,514) (R246)

The field polynomial, the generator polynomial and the symbol order are those of IEEE 802.3 clause 91, which the spec names
and does not print (log entry 57). -/

/-- Multiplication by the primitive element, modulo x^10 + x^3 + 1. -/
def rsStep (x : Nat) : Nat := if 512 ≤ x then (2 * x) ^^^ 0x409 else 2 * x

/-- The product of two symbols. -/
def rsMul (a b : Nat) : Nat :=
  ((List.range 10).foldl (fun (x : Nat × Nat) i => (if b.testBit i then x.1 ^^^ x.2 else x.1, rsStep x.2)) (0, a)).1

/-- The generator polynomial, the product of x + alpha^j for j from 0 to 29, without its leading coefficient, highest
first. -/
def rsGen : List Nat :=
  (((List.range 30).foldl (fun (x : List Nat × Nat) _ =>
    (List.zipWith (· ^^^ ·) (x.1 ++ [0]) (0 :: x.1.map (rsMul x.2)), rsStep x.2)) ([1], 1)).1).drop 1

/-- The 30 parity symbols of a message of 514 symbols, the first on the line first. -/
def rsParity (m : Nat) : List Nat :=
  (List.range 514).foldl (fun p i =>
    let f := bits m (10 * i) 10 ^^^ p.headD 0
    List.zipWith (· ^^^ ·) (p.drop 1 ++ [0]) (rsGen.map (rsMul f))) (List.replicate 30 0)

/-- The codeword of a message: its bits, then its parity (R246). -/
def rsEncode (m : BitVec 5140) : BitVec 5440 :=
  BitVec.ofNat 5440 (m.toNat + (rsParity m.toNat).zipIdx.foldl (fun a p => a + p.1 * 2 ^ (5140 + 10 * p.2)) 0)

/-- The decoder corrects a codeword with so many symbols in error (R246, log entry 57). -/
def rsDecodes (n : Nat) : Bool := decide (n ≤ 15)

/-! ### Receivers (R246, R247, R249, R261) -/

/-- A codeword has been decoded, with so many symbols in error: lock after 8 good ones, lost after 3 bad ones, and the
measurement of R261 (R246). -/
def LaneRx.code (x : LaneRx) (n : Nat) : LaneRx :=
  let ok := rsDecodes n
  let good := if ok then min 8 (x.good + 1) else 0
  let bad := if ok then 0 else min 3 (x.bad + 1)
  let locked := good == 8 || (x.locked && bad != 3)
  let count := decide (x.words < 2 ^ 20)
  { x with
    good := good, bad := bad, locked := locked, framed := x.framed && locked, lost := !ok, lostBefore := x.lost
    gap := x.gap.map (fun g => min 209 (g + 1)), words := if count then x.words + 1 else x.words
    unc := if count && !ok then x.unc + 1 else x.unc, errs := if count then x.errs + n else x.errs }

/-- The frame that comes next lies in two codewords (R247). -/
def LaneRx.spans (x : LaneRx) : Bool := decide (5140 < 4160 * x.frame % 5140 + 4160)

/-- Every codeword that carries the next frame was decoded (R249). -/
def LaneRx.sound (x : LaneRx) : Bool := x.locked && !x.lost && !(x.framed && x.spans && x.lostBefore)

/-- The lane measurement starts again (R261, R288). -/
def LaneRx.restart (x : LaneRx) : LaneRx := { x with words := 0, unc := 0, errs := 0 }

/-- The next frame has passed: superframe lock where two frames with sf_start whose headers pass the CRC are 208 codewords
apart, and a new measurement where training frames begin (R247, R288). -/
def LaneRx.pass (x : LaneRx) (start train : Bool) : LaneRx :=
  let y := { x with framed := x.framed || (start && x.gap == some 208), gap := if start then some 0 else x.gap
                    frame := if start then 1 else (x.frame + 1) % 257, training := train }
  if train && !x.training then y.restart else y

/-- The next frame was lost, or rejected: it tells nothing (R249). -/
def LaneRx.skip (x : LaneRx) : LaneRx := { x with frame := (x.frame + 1) % 257 }

/-- Codewords decoded one after another: the receiver after them, and how many of them it corrected and lost while it was
locked (R246, R271). -/
def LaneRx.codes (l : List Nat) (x : LaneRx) : LaneRx × Nat × Nat :=
  l.foldl (fun a n => (a.1.code n, if a.1.locked && rsDecodes n && n != 0 then a.2.1 + 1 else a.2.1,
    if a.1.locked && !rsDecodes n then a.2.2 + 1 else a.2.2)) (x, 0, 0)

/-- A lane qualifies: over 2^20 codewords none uncorrectable, and at most 5,704 symbol errors (R261). -/
def LaneRx.qualifies (x : LaneRx) : Bool := x.words == 2 ^ 20 && x.unc == 0 && decide (x.errs ≤ 5704)

/-! ### Frames (R248, R283, R372) -/

/-- The frame CRC of a 520-byte frame: bytes 0 to 515 (R160, R248). -/
def railCrc (f : BitVec 4160) : Nat :=
  crcBits 32 0x1EDC6F41 0xFFFFFFFF ((List.range 516).flatMap (fun k => (bitsOf 8 (bits f.toNat (8 * k) 8)).reverse))

/-- A frame with its check: type 1 data, 2 idle, 3 training (R248). -/
def makeFrame (type chan : Nat) (start : Bool) (seq payload : Nat) : BitVec 4160 :=
  let v := type % 4 + chan % 64 * 2 ^ 2 + b2n start * 2 ^ 8 + seq % 65536 * 2 ^ 9 + payload % 2 ^ 4096 * 2 ^ 32
  BitVec.ofNat 4160 (v + railCrc (BitVec.ofNat 4160 v) * 2 ^ 4128)

/-- The next n bits of PRBS31, x^31 + x^28 + 1, the first lowest, and the register after them (R283). -/
def prbs31 : Nat → BitVec 31 → Nat × BitVec 31
  | 0, x => (0, x)
  | n + 1, x =>
    let b := x.getLsbD 30 != x.getLsbD 27
    let r := prbs31 n (x <<< 1 ||| BitVec.ofNat 31 (b2n b))
    (b2n b + 2 * r.1, r.2)

/-- The identity block of a lane's idle and training frames (R283, R372). -/
def identityBlock (chan wave : Nat) (spare : Bool) (module rail : Nat) : Nat :=
  chan % 64 + wave % 64 * 2 ^ 6 + b2n spare * 2 ^ 12 + module % 4096 * 2 ^ 16 + rail % 32 * 2 ^ 28

/-- A frame goes on the line; the first of a superframe carries sf_start (R247, R248). -/
def LaneTx.put (type chan seq payload : Nat) (x : LaneTx) : LaneTx :=
  { x with frame := (x.frame + 1) % 257, line := makeFrame type chan (x.frame == 0) seq payload
           data := if type = 1 then min 31 (x.data + 1) else 0 }

/-- An idle or training frame goes on the line: its identity block, `words` of 256 bits, and PRBS31 (R283, R372). -/
def LaneTx.fill (type chan ident : Nat) (words : List Word256) (x : LaneTx) : LaneTx :=
  let w := words.zipIdx.foldl (fun a p => a + p.1.toNat * 2 ^ (64 + 256 * p.2)) ident
  let used := 64 + 256 * words.length
  let r := prbs31 (4096 - used) x.prbs
  LaneTx.put type chan 0 (w + r.1 * 2 ^ used) { x with prbs := r.2 }

/-- The payload of a data frame of the given slots, slot 0 first (R248, R378). -/
def slotsPayload (l : List (BitVec 512)) : Nat := l.zipIdx.foldl (fun a p => a + p.1.toNat * 2 ^ (512 * p.2)) 0

/-- The payload of a data frame that carries packets (R248, R250). -/
def framePayloadOf (ps : List Packet) : Nat := slotsPayload (ps.flatMap (·.slots))

/-! ### The control codeword (R256) -/

/-- The message of a control codeword: twenty words, NULL where fewer wait, and the tail (R256). -/
def controlMessage (words : List Word256) (count : Nat) : BitVec 5140 :=
  let l := (List.range 20).map (fun i => (words.getD i (ctlWord 0)).toNat * 2 ^ (256 * i))
  BitVec.ofNat 5140 (l.sum + 32 * 2 ^ 5120 + count % 2 ^ 14 * 2 ^ 5126)

/-- A control codeword goes on the line with the words that wait (R256). -/
def Rail.putCodeword (x : Rail) : Rail :=
  { x with ctlCode := rsEncode (controlMessage x.ctlWait x.ctlCount), ctlWait := x.ctlWait.drop 20
           ctlCount := (x.ctlCount + 1) % 2 ^ 14 }

/-- The words of a control codeword that are due: those of a counter that has come already are duplicates of a handover, and
a word that fails its check or has an invalid kind or a reserved bit set is discarded and counted (R256, R287). -/
def Rail.takeCodeword (v : BitVec 5140) (x : Rail) : Rail :=
  let n := bits v.toNat 5126 14
  if bits v.toNat 5120 6 ≠ 32 ∨ x.rxTaken.contains n then x
  else
    let l : List Word256 := (List.range 20).map (fun i => BitVec.ofNat 256 (v.toNat / 2 ^ (256 * i)))
    { x with rxTaken := (n :: x.rxTaken).take 16
             rxWords := x.rxWords ++ l.filter (fun w => ctlValid w && ctlKind w != 0)
             badWords := x.badWords + (l.filter (fun w => !ctlValid w)).length }

/-! ### What the lanes carry while nothing is sent (R253, R259, R283) -/

/-- Frame times that have passed by a grain: 4,160 bits of the message stream each (R246, R247). -/
def frameTime (t : Nat) : Nat := t * 1125 * 514 / (4160 * 544 * 10)

/-- Codeword times that have passed by a grain (R246). -/
def codeTime (t : Nat) : Nat := t * 1125 / 54400

/-- A frame time of a rail's transmit fibre: every lane whose line is free carries an idle frame in STANDBY and ACTIVE, and
a training frame while the rail trains, on the spare and on a lane under requalification (R247, R253, R259, R283, R288). -/
def Rail.fillLanes (f : FibreMap) (module r : Nat) (x : Rail) : Rail :=
  let fill := fun (t : List (Nat × LaneTx)) (m : Nat × Nat) =>
    let spare := m.2 == 33
    let busy := f.moving.any (fun y => y.2.2 == m.1)
    if m.2 = 32 ∨ 33 < m.2 ∨ busy then t
    else
      let type := if x.state < 5 || spare || f.requal.any (fun q => q.1 == m.1) then 3 else 2
      tabMod t m.2 {} (LaneTx.fill type (if spare then 0 else m.2) (identityBlock m.2 m.1 spare module r) [])
  if 2 ≤ x.state ∧ x.state ≤ 6 then { x with tx := f.map.foldl fill x.tx } else x

/-- The header of a packet that the module sends (R378). -/
def YPacket.header (p : YPacket) : Nat :=
  1 + p.ptype % 4 * 2 ^ 2 + p.channel % 8 * 2 ^ 4 + p.opcode % 2 ^ 12 * 2 ^ 8 + p.tag % 2 ^ 16 * 2 ^ 32
    + p.status % 2 ^ 16 * 2 ^ 48 + p.payload.length % 2 ^ 32 * 2 ^ 64 + b2n p.last * 2 ^ 96 + b2n p.overflow * 2 ^ 98

/-- The slots that a packet fills, its tail padded with zeros (R378). -/
def YPacket.slots (p : YPacket) : List (BitVec 512) :=
  let b := toBytes 32 p.header ++ p.payload
  (List.range (cdiv b.length 64)).map (fun i => BitVec.ofNat 512 (ofBytes ((b.drop (64 * i)).take 64)))

/-- The packets that the module has sent since join the byte stream of their port (R378). -/
def joinSent (s : State) : State :=
  let s := (s.yuley.sent.drop s.yuley.framed).foldl
    (fun s p => s.modPort p.port (fun x => { x with txSlots := x.txSlots ++ p.slots })) s
  { s with yuley := { s.yuley with framed := s.yuley.sent.length } }

/-- The next qualified lane in rotation after a lane (R252, R253, R373). -/
def RxPort.nextLane (x : RxPort) (after : Nat) : Nat :=
  let l := setBits 4 x.lanes
  match l.find? (fun c => decide (after < c)) with
  | some c => c
  | none => l.headD 0

/-- Negative acknowledgements that one idle frame carries (R372, log entry 47). -/
def askRoom : Nat := 6

/-- The link words of a Yuley idle frame: an ACK for each frame asked for again, YCREDIT and NULL (R257, R372). -/
def yuleyWords (s : State) (p : Nat) : List Word256 :=
  let x := s.yport p
  let ack := fun (nak : Nat) => ctlWord (0x01 + (x.rxNext + 65535) % 65536 * 2 ^ 8 + nak)
  let credit := (List.range 8).foldl (fun a c => a + (s.chan (8 * p + c)).freed % 2 ^ 28 * 2 ^ (8 + 28 * c)) 0x05
  let acks := match x.asks.take askRoom with
    | [] => [ack 0]
    | l => l.map (fun q => ack (q % 65536 * 2 ^ 24 + 2 ^ 40))
  (acks ++ [ctlWord credit] ++ List.replicate 7 (ctlWord 0)).take 8

/-- A data frame of the replay buffer goes on a lane (R248, R253, R372). -/
def RxPort.putFrame (l : Nat) (f : YFrame) (x : RxPort) : RxPort :=
  { x with tx := tabMod x.tx l {} (LaneTx.put 1 l f.seq (slotsPayload f.slots)) }

/-- A frame time of one lane of a Yuley port: while the port trains a training frame; an idle frame where 31 data frames have
gone before or nothing waits; else a frame to be sent again on the lane after its last, or the next slots of the byte stream
while the replay buffer has room, padded with slots of zeros (R252, R253, R372, R373, R378). -/
def fillLane (p : Nat) (s : State) (l : Nat) : State :=
  let x := s.yport p
  let ident := identityBlock l (10 + l) false s.fab.module (30 + p)
  let again := x.replay.find? (fun f => f.again && x.nextLane f.lane == l)
  if x.state ≠ 5 then s.modPort p (fun x => { x with tx := tabMod x.tx l {} (LaneTx.fill 3 l ident []) })
  else if !bit x.lanes l || 31 ≤ (tabGet x.tx l {}).data || (again.isNone && (x.txSlots.isEmpty || 2048 ≤ x.replay.length)) then
    s.modPort p (fun x => { x with tx := tabMod x.tx l {} (LaneTx.fill 2 l ident (yuleyWords s p)), asks := x.asks.drop askRoom })
  else
    match again with
    | some f =>
      let g := { f with again := false, lane := l }
      s.modPort p (fun x => RxPort.putFrame l g
        { x with resent := satAdd x.resent 1 0xFFFF, replay := modFirst (fun y => y.seq == f.seq) (fun _ => g) x.replay })
    | none =>
      let f : YFrame := { seq := x.txSeq, lane := l, slots := (x.txSlots.take 8 ++ List.replicate 8 0).take 8 }
      s.modPort p (fun x => RxPort.putFrame l f
        { x with txSeq := (x.txSeq + 1) % 65536, txSlots := x.txSlots.drop 8, replay := x.replay ++ [f] })

/-- A frame time of a Yuley port (R372, R373). -/
def fillPort (s : State) (p : Nat) : State :=
  if 2 ≤ (s.yport p).state ∧ (s.yport p).state ≤ 5 then (List.range 4).foldl (fillLane p) s else s

/-- The lines over one count of the grain counter: at the end of a frame time idle and training frames follow, and at the end
of a codeword time a control codeword (R246, R247, R253, R256). -/
def fillLines (old : Nat) (s : State) : State :=
  let s := if frameTime old = frameTime s.now then s
    else
      let fill := fun (p : Nat × Rail) => (p.1, p.2.fillLanes (s.fibre (2 * p.1)) s.fab.module p.1)
      fillPort (fillPort (joinSent { s with rails := s.rails.map fill }) 0) 1
  if codeTime old = codeTime s.now then s
  else
    let put := fun (p : Nat × Rail) => (p.1, if 2 ≤ p.2.state ∧ p.2.state ≤ 6 then p.2.putCodeword else p.2)
    { s with rails := s.rails.map put }

end Sys2Proof.Machine
end

