-- ==== Sys2Proof/Machine/Arith.lean ====
section
/-! DEFINITION. Number formats, the one rounding, MX blocks, the bin, vector arithmetic and vector functions
(04_arithmetic.md). -/

namespace Sys2Proof.Machine

/-! ### Values -/

/-- A value of any format: NaN, an infinity, or (-1)^neg × m × 2^e (R92). -/
inductive Val where
  | nan
  | inf (neg : Bool)
  | fin (neg : Bool) (m : Nat) (e : Int)
deriving DecidableEq, Repr

/-- A floating-point format (R91, R95): mantissa bits, exponent bits, bias, and the largest finite value nmax × 2^qmax. -/
structure FFmt where
  mw : Nat
  ew : Nat
  bias : Nat
  nmax : Nat
  qmax : Int
deriving DecidableEq, Repr

def fE4M3 : FFmt := { mw := 3, ew := 4, bias := 7, nmax := 14, qmax := 5 }
def fE5M2 : FFmt := { mw := 2, ew := 5, bias := 15, nmax := 7, qmax := 13 }
def fE3M2 : FFmt := { mw := 2, ew := 3, bias := 3, nmax := 7, qmax := 2 }
def fE2M3 : FFmt := { mw := 3, ew := 2, bias := 1, nmax := 15, qmax := -1 }
def fE2M1 : FFmt := { mw := 1, ew := 2, bias := 1, nmax := 3, qmax := 1 }
def fBF16 : FFmt := { mw := 7, ew := 8, bias := 127, nmax := 255, qmax := 120 }
def fFP32 : FFmt := { mw := 23, ew := 8, bias := 127, nmax := 16777215, qmax := 104 }

/-- The floating-point layout of a format code; MXINT8 and INT8 have none (R59, R91). -/
def fmtOf (c : Nat) : FFmt :=
  match c with
  | 0 => fE4M3 | 1 => fE5M2 | 2 => fE4M3 | 3 => fE5M2 | 4 => fE3M2 | 5 => fE2M3 | 6 => fE2M1 | 9 => fBF16 | _ => fFP32

/-- The smallest normal exponent (R95). -/
def FFmt.emin (f : FFmt) : Int := 1 - f.bias

/-- The value of a finite encoding (R92). -/
def FFmt.finite (f : FFmt) (x : Nat) : Val :=
  let s := bit x (f.ew + f.mw)
  let e := bits x f.mw f.ew
  let m := bits x 0 f.mw
  if e = 0 then .fin s m (1 - (f.bias : Int) - f.mw)
  else .fin s (2 ^ f.mw + m) ((e : Int) - f.bias - f.mw)

/-- The value of an element of a format code, its block scale left out (R91 to R93). -/
def decodeElem (c x : Nat) : Val :=
  if c = 0 ∨ c = 2 then (if x % 128 = 127 then .nan else fE4M3.finite x)
  else if c = 1 ∨ c = 3 then
    (if bits x 2 5 = 31 then (if x % 4 = 0 then .inf (bit x 7) else .nan) else fE5M2.finite x)
  else if c = 7 then (let n := signed x 8; .fin (decide (n < 0)) n.natAbs (-6))
  else if c = 8 then (let n := signed x 8; .fin (decide (n < 0)) n.natAbs 0)
  else if c = 9 then
    (if bits x 7 8 = 255 then (if x % 128 = 0 then .inf (bit x 15) else .nan) else fBF16.finite x)
  else if c = 10 then
    (if bits x 23 8 = 255 then (if x % 2 ^ 23 = 0 then .inf (bit x 31) else .nan) else fFP32.finite x)
  else (fmtOf c).finite x

/-- The exponent of an E8M0 scale byte (R93). -/
def scaleExp (b : Nat) : Int := (b : Int) - 127

/-- A value times a power of two, exactly. -/
def Val.scale (v : Val) (k : Int) : Val :=
  match v with
  | .fin s m e => .fin s m (e + k)
  | v => v

def Val.isNan (v : Val) : Bool := v == .nan

def Val.isInf (v : Val) : Bool := match v with | .inf _ => true | _ => false

/-- floor_log2 of the magnitude of a finite value that is not 0. -/
def Val.log2 (v : Val) : Option Int :=
  match v with
  | .fin _ m e => if m = 0 then none else some ((Nat.log2 m : Int) + e)
  | _ => none

/-! ### The one rounding (R95) -/

/-- m × 2^e rounded to a multiple of 2^q, ties to even. -/
def roundAt (m : Nat) (e q : Int) : Nat :=
  if q ≤ e then m * 2 ^ (e - q).toNat
  else
    let k := (q - e).toNat
    let n := m / 2 ^ k
    let r := m % 2 ^ k
    if 2 ^ k < 2 * r ∨ (2 * r = 2 ^ k ∧ n % 2 = 1) then n + 1 else n

/-- The spacing exponent at m × 2^e in a format of mantissa width mw and least exponent emin (R95). -/
def ulpExp (mw : Nat) (emin : Int) (m : Nat) (e : Int) : Int := max ((Nat.log2 m : Int) + e) emin - mw

/-- Encode sign, n and spacing exponent q of a rounded magnitude that is in range. -/
def FFmt.encode (f : FFmt) (s : Bool) (n : Nat) (q : Int) : Nat :=
  let sb := b2n s * 2 ^ (f.ew + f.mw)
  if n < 2 ^ f.mw then sb + n
  else
    let n' := if n = 2 ^ (f.mw + 1) then 2 ^ f.mw else n
    let q' := if n = 2 ^ (f.mw + 1) then q + 1 else q
    sb + (q' + f.mw + f.bias).toNat * 2 ^ f.mw + (n' - 2 ^ f.mw)

/-- A rounded magnitude lies beyond the largest finite value of the format (R95). -/
def FFmt.beyond (f : FFmt) (n : Nat) (q : Int) : Bool :=
  let n' := if n = 2 ^ (f.mw + 1) then 2 ^ f.mw else n
  let q' := if n = 2 ^ (f.mw + 1) then q + 1 else q
  decide (f.qmax < q') || (q' == f.qmax && decide (f.nmax < n'))

/-- The largest finite value, or infinity where the format has one beyond it (R95, R96). -/
def limitCode (c : Nat) (s : Bool) : Nat :=
  let f := fmtOf c
  if c = 9 then b2n s * 2 ^ 15 + 0x7F80
  else if c = 10 then b2n s * 2 ^ 31 + 0x7F800000
  else f.encode s f.nmax f.qmax

/-- round_to: the element code of an exact finite value in a floating-point format (R95). Where the caller's rule does
not give the sign of an exact zero (the conversions of VFUN copy, VPACK and VUNPACK, R106, R109) the model keeps the
operand's sign (log entry 52). -/
def roundFloat (c : Nat) (s : Bool) (m : Nat) (e : Int) : Nat :=
  let f := fmtOf c
  if m = 0 then b2n s * 2 ^ (f.ew + f.mw)
  else
    let q := ulpExp f.mw f.emin m e
    let n := roundAt m e q
    if f.beyond n q then limitCode c s else f.encode s n q

/-- RNE of a finite value, clamped to [-128, 127], as a byte (R95). -/
def roundInt8 (s : Bool) (m : Nat) (e : Int) : Nat :=
  let n := roundAt m e 0
  if s then (256 - min n 128) % 256 else min n 127

/-- The canonical NaN of FP32, BF16, E4M3 and E5M2, and 0 for INT8 (R96). -/
def nanCode (c : Nat) : Nat :=
  match c with
  | 0 => 0x7F | 1 => 0x7E | 8 => 0x00 | 9 => 0x7FC0 | _ => 0x7FC00000

/-- A value in a destination format without block scales (R95, R96). -/
def encodeVal (c : Nat) (v : Val) : Nat :=
  match v with
  | .nan => nanCode c
  | .inf s =>
    if c = 8 then (if s then 0x80 else 0x7F)
    else if c = 1 then b2n s * 2 ^ 7 + 0x7C
    else limitCode c s
  | .fin s m e => if c = 8 then roundInt8 s m e else roundFloat c s m e

/-! ### MX blocks (R93, R97) -/

/-- emax for MX output (R94). -/
def mxEmax (c : Nat) : Int :=
  match c with
  | 2 => 8 | 3 => 15 | 4 => 4 | 5 => 2 | 6 => 2 | _ => 0

/-- An element of an MX block after its scale is taken out (R95, R97). -/
def mxElem (c : Nat) (v : Val) : Nat :=
  match v with
  | .fin s m e => if c = 7 then roundInt8 s m (e + 6) else roundFloat c s m e
  | _ => 0

/-- The scale byte and the element codes of a block of exact values (R97). -/
def mxBlock (c : Nat) (vs : List Val) : Nat × List Nat :=
  if vs.any (fun v => v.isNan || v.isInf) then (0xFF, vs.map (fun _ => 0))
  else
    let l := vs.filterMap Val.log2
    let x : Int := match l with
      | [] => -127
      | a :: r => max (-127) (min 127 (r.foldl max a - mxEmax c))
    ((x + 127).toNat, vs.map (fun v => mxElem c (v.scale (-x))))

/-- 32 element codes of width w as 4w bytes (R60, R61). -/
def packBlock (w : Nat) (codes : List Nat) : List (BitVec 8) :=
  toBytes (4 * w) (codes.foldr (fun c a => c % 2 ^ w + a * 2 ^ w) 0)

/-- One block of a destination format: its element bytes and its scale byte. -/
def blockOut (c : Nat) (vs : List Val) : List (BitVec 8) × Nat :=
  if fmtMx c then (let b := mxBlock c vs; (packBlock (fmtBits c) b.2, b.1))
  else (packBlock (fmtBits c) (vs.map (encodeVal c)), 0)

/-! ### The bin (R98 to R104) -/

def binNan : Int := -(2 ^ 191 : Nat)
def binPinf : Int := (2 ^ 191 - 1 : Nat)
def binNinf : Int := -(2 ^ 191 - 1 : Nat)
def binTop : Int := (2 ^ 191 - 2 ^ 24 : Nat)
def termTop : Int := (2 ^ 167 - 1 : Nat)

/-- The value of a bin as a number, codes included (R98). -/
def binInt (b : BitVec 192) : Int := b.toInt

/-- The exact value of a bin under an anchor (R98, R104). -/
def binVal (b : Int) (k : Int) : Val :=
  if b = binNan then .nan
  else if b = binPinf then .inf false
  else if b = binNinf then .inf true
  else .fin (decide (b < 0)) b.natAbs k

/-- clamp_term, with whether it clamped (R101). -/
def clampTerm (t : Int) : Int × Bool :=
  if termTop < t then (termTop, true) else if t < -termTop then (-termTop, true) else (t, false)

/-- bin_add, with whether a finite sum saturated (R102, R103). -/
def binAdd (x y : Int) : Int × Bool :=
  if x = binNan ∨ y = binNan then (binNan, false)
  else if (x = binPinf ∧ y = binNinf) ∨ (x = binNinf ∧ y = binPinf) then (binNan, false)
  else if x = binPinf ∨ x = binNinf then (x, false)
  else if y = binPinf ∨ y = binNinf then (y, false)
  else
    let z := x + y
    if binTop < z then (binTop, true) else if z < -binTop then (-binTop, true) else (z, false)

/-- The class of a product of two elements: NaN, an infinity, or finite (R101). -/
def productClass (a b : Val) : Val :=
  match a, b with
  | .nan, _ => .nan
  | _, .nan => .nan
  | .inf s, .inf t => .inf (s != t)
  | .inf s, .fin t m _ => if m = 0 then .nan else .inf (s != t)
  | .fin t m _, .inf s => if m = 0 then .nan else .inf (s != t)
  | .fin s m e, .fin t n f => .fin (s != t) (m * n) (e + f)

/-- The integer form of a finite value on grid 2^g (R94). -/
def gridInt (g : Int) (v : Val) : Int :=
  match v with
  | .fin s m e => (if s then -1 else 1) * ((m * 2 ^ (e - g).toNat : Nat) : Int)
  | _ => 0

/-- The grid exponent of a format (R94). -/
def fmtGrid (c : Nat) : Int :=
  match c with
  | 0 => -9 | 2 => -9 | 1 => -16 | 3 => -16 | 4 => -4 | 5 => -3 | 6 => -1 | 7 => -6 | _ => 0

def isE5M2 (c : Nat) : Bool := c == 1 || c == 3

/-- A term: its value or code, whether it lost low bits, and whether it was clamped (R101). -/
structure Term where
  t : Int
  lost : Bool := false
  clamped : Bool := false
deriving DecidableEq, Repr

/-- The sum of a block's products in the cell register, each floored by k bits, and whether a floor lost bits
(R99, R101). -/
def cellSum (k : Nat) (ps : List Int) : Int × Bool :=
  (ps.foldl (fun a p => a + p / (2 ^ k : Nat)) 0, ps.any (fun p => p % (2 ^ k : Nat) != 0))

/-- block_term (R101). -/
def blockTerm (a b : List Val) (fa fb sa sb : Nat) (anchor : Int) : Term :=
  if sa = 0xFF ∨ sb = 0xFF then { t := binNan }
  else
    let q := List.zipWith productClass a b
    let pos := q.any (· == .inf false)
    let neg := q.any (· == .inf true)
    if q.any Val.isNan || (pos && neg) then { t := binNan }
    else if pos then { t := binPinf }
    else if neg then { t := binNinf }
    else
      let k := if isE5M2 fa && isE5M2 fb then 14 else 0
      let c := cellSum k (List.zipWith (fun x y => gridInt (fmtGrid fa) x * gridInt (fmtGrid fb) y) a b)
      let sh := fmtGrid fa + fmtGrid fb + k + scaleExp sa + scaleExp sb - anchor
      let t := if 0 ≤ sh then c.1 * (2 ^ sh.toNat : Nat) else c.1 / (2 ^ (-sh).toNat : Nat)
      let lost := c.2 || (decide (sh < 0) && c.1 % (2 ^ (-sh).toNat : Nat) != 0)
      let ct := clampTerm t
      { t := ct.1, lost := lost, clamped := ct.2 }

/-- bf16_term, for exact values of any vector format (R101, R108). -/
def valTerm (a b : Val) (anchor : Int) : Term :=
  match productClass a b with
  | .nan => { t := binNan }
  | .inf s => { t := if s then binNinf else binPinf }
  | .fin s m e =>
    let k := e - anchor
    let x : Int := (if s then -1 else 1) * (m : Int)
    let t := if 0 ≤ k then x * (2 ^ k.toNat : Nat) else x / (2 ^ (-k).toNat : Nat)
    let exact := decide (0 ≤ k) || x % (2 ^ (-k).toNat : Nat) == 0
    let ct := clampTerm t
    { t := ct.1, lost := !exact && !ct.2, clamped := ct.2 }

/-- A bin and what has happened to it: value, lost, clamped, saturated. -/
structure BinAcc where
  b : Int
  lost : Bool := false
  clamped : Bool := false
  sat : Bool := false
deriving DecidableEq, Repr

/-- One term is added to a bin (R101 to R103). -/
def binTerm (a : BinAcc) (t : Term) : BinAcc :=
  let r := binAdd a.b t.t
  { b := r.1, lost := a.lost || t.lost, clamped := a.clamped || t.clamped || r.2, sat := a.sat || r.2 }

/-! ### Vector arithmetic (R105, R106) -/

def Val.neg (v : Val) : Val :=
  match v with
  | .nan => .nan
  | .inf s => .inf (!s)
  | .fin s m e => .fin (!s) m e

def Val.isNeg (v : Val) : Bool :=
  match v with
  | .nan => false
  | .inf s => s
  | .fin s _ _ => s

/-- The exact sum; an exact zero is +0 unless both addends are -0 (R105). -/
def Val.add (a b : Val) : Val :=
  match a, b with
  | .nan, _ => .nan
  | _, .nan => .nan
  | .inf s, .inf t => if s = t then .inf s else .nan
  | .inf s, .fin _ _ _ => .inf s
  | .fin _ _ _, .inf s => .inf s
  | .fin s m e, .fin t n f =>
    let q := min e f
    let x : Int := (if s then -1 else 1) * ((m * 2 ^ (e - q).toNat : Nat) : Int)
    let y : Int := (if t then -1 else 1) * ((n * 2 ^ (f - q).toNat : Nat) : Int)
    let z := x + y
    if z = 0 then .fin (s && t && m == 0 && n == 0) 0 0 else .fin (decide (z < 0)) z.natAbs q

/-- The exact product (R105). -/
def Val.mul (a b : Val) : Val := productClass a b

/-- Order of two values that are not NaN, -0 below +0: a is less than b (R106). -/
def Val.ltTotal (a b : Val) : Bool :=
  match a, b with
  | .inf s, .inf t => s && !t
  | .inf s, .fin _ _ _ => s
  | .fin _ _ _, .inf t => !t
  | .fin s m e, .fin t n f =>
    let q := min e f
    let x := m * 2 ^ (e - q).toNat
    let y := n * 2 ^ (f - q).toNat
    if s then (if t then decide (y < x) else true) else (if t then false else decide (x < y))
  | _, _ => false

def Val.isZero (v : Val) : Bool := match v with | .fin _ m _ => m == 0 | _ => false

/-- IEEE less-than: any comparison with NaN is false, and -0 equals +0 (R106). -/
def Val.lt (a b : Val) : Bool := !(a.isZero && b.isZero) && a.ltTotal b

/-- IEEE equal (R106). -/
def Val.eqv (a b : Val) : Bool :=
  !a.isNan && !b.isNan && ((a.isZero && b.isZero) || (!a.ltTotal b && !b.ltTotal a))

/-- IEEE 754-2019 minimum and maximum (R106). -/
def Val.minimum (a b : Val) : Val := if a.isNan || b.isNan then .nan else if b.ltTotal a then b else a
def Val.maximum (a b : Val) : Val := if a.isNan || b.isNan then .nan else if a.ltTotal b then b else a

def Val.one : Val := .fin false 1 0
def Val.zero : Val := .fin false 0 0

/-- The exact value of an FP32 or BF16 element (format bit 0 or 1). -/
def vecVal (f x : Nat) : Val := decodeElem (if f = 0 then 10 else 9) x

/-- A value in FP32 or BF16. -/
def vecCode (f : Nat) (v : Val) : Nat := encodeVal (if f = 0 then 10 else 9) v

/-- FP32 addition: the exact sum rounded once (R105, R107). -/
def fp32Add (a b : Val) : Val := vecVal 0 (vecCode 0 (a.add b))

/-- One level of the fixed tree (R107). -/
def pairUp : List Val → List Val
  | a :: b :: r => fp32Add a b :: pairUp r
  | l => l

/-- An addition of one level of the tree is invalid: a NaN sum of operands that hold none (R105, R107). -/
def pairInvalid : List Val → Bool
  | a :: b :: r => (!a.isNan && !b.isNan && (fp32Add a b).isNan) || pairInvalid r
  | _ => false

/-- ordered_sum, with fuel for the number of levels, and whether one of its additions was invalid (R107). -/
def orderedSum : Nat → List Val → Val × Bool
  | 0, l => (l.headD .zero, false)
  | n + 1, l => match l with
    | [] => (.zero, false)
    | [a] => (a, false)
    | l =>
      let x := orderedSum n (pairUp l)
      (x.1, pairInvalid l || x.2)

/-- The anchor of a VRED bin sum with amode 0 (R108). -/
def autoAnchor (vs : List Val) : Int :=
  match vs.filterMap Val.log2 with
  | [] => -126 - 150
  | a :: r => r.foldl max a - 150

/-- The bin sum of a segment (R108). -/
def binSum (anchor : Int) (vs : List Val) : Int :=
  (vs.foldl (fun a v => binTerm a (valTerm v .one anchor)) { b := 0 }).b

/-! ### Vector functions (R110, R111)

Fixed-point numbers carry 320 fraction bits. Each evaluation errs by less than 2^24 units of the last place, so the value
lies between the two ends; where both ends round alike, that is the correctly rounded result (log entry 17). -/

def fxBits : Nat := 320
def fxOne : Int := (2 ^ fxBits : Nat)
def fxMul (a b : Int) : Int := a * b / fxOne

/-- The sum of z^(2i) / (2i + 1) for i below n, from z² (sign -1 for the alternating series). -/
def oddSeries (n : Nat) (z2 : Int) : Int :=
  (List.range n).reverse.foldl (fun acc i => fxOne / (2 * i + 1 : Nat) + fxMul z2 acc) 0

/-- ln 2 = 2 atanh(1/3). -/
def fxLn2 : Int := 2 * (oddSeries 110 (fxOne / 9) / 3)

/-- atan(1/n). -/
def fxAtanInv (n : Nat) : Int := oddSeries 150 (-(fxOne / (n * n : Nat))) / n

/-- 2 / √π, with π by Machin's formula. -/
def fxTwoRootPi : Int :=
  let pi := 16 * fxAtanInv 5 - 4 * fxAtanInv 239
  2 * fxOne * fxOne / (Nat.sqrt (pi.toNat * 2 ^ fxBits) : Nat)

/-- exp(r) for |r| < 1. -/
def fxExp (r : Int) : Int :=
  (List.range 90).reverse.foldl (fun acc i => fxOne + fxMul r acc / (i + 1 : Nat)) fxOne

/-- A dyadic number in fixed point, floored. -/
def fxOf (s : Bool) (m : Nat) (e : Int) : Int :=
  let k := e + fxBits
  let x : Int := (if s then -1 else 1) * (m : Int)
  if 0 ≤ k then x * (2 ^ k.toNat : Nat) else x / (2 ^ (-k).toNat : Nat)

/-- exp(x) as a mantissa in fixed point and a power of two, for |x| < 256. -/
def expParts (x : Int) : Int × Int :=
  let k := x / fxLn2
  (fxExp (x - k * fxLn2), k)

/-- log of m × 2^e, m not 0, in fixed point. -/
def fxLog (m : Nat) (e : Int) : Int :=
  let l := Nat.log2 m
  let up := decide (4 * 2 ^ l ≤ 3 * m)
  let k : Int := e + l + (if up then 1 else 0)
  let d := 2 ^ (l + if up then 1 else 0)
  let z := ((m : Int) - (d : Nat)) * fxOne / (m + d : Nat)
  k * fxLn2 + 2 * fxMul z (oddSeries 110 (fxMul z z))

/-- The sum of (-1)^n x^(2n) / (n! (2n + 1)), from x². -/
def erfSeries (x2 : Int) : Int :=
  ((List.range 260).foldl (fun (p : Int × Int) n =>
    (-(fxMul p.1 x2) / (n + 1 : Nat), p.2 + p.1 / (2 * n + 1 : Nat))) (fxOne, 0)).2

/-- An interval of reals: sign, the ends lo and hi, and their common power of two. -/
structure Span where
  neg : Bool
  lo : Nat
  hi : Nat
  e : Int
deriving DecidableEq, Repr

/-- The interval of half-width 2^24 around a positive fixed-point number times 2^k. -/
def spanAt (neg : Bool) (y : Int) (k : Int) : Span :=
  { neg := neg, lo := (y - 2 ^ 24).toNat, hi := (y + 2 ^ 24).toNat, e := k - fxBits }

/-- The interval of an exact quotient or root: its floor and, where it is not exact, the next integer above it. -/
def spanFloor (neg : Bool) (n : Nat) (exact : Bool) (e : Int) : Span :=
  if exact then { neg := neg, lo := 4 * n, hi := 4 * n, e := e - 2 }
  else { neg := neg, lo := 4 * n + 1, hi := 4 * n + 3, e := e - 2 }

/-- F(x) for functions 1 to 6 and an x that R111 does not list. -/
def vfunSpan (func : Nat) (s : Bool) (m : Nat) (e : Int) : Span :=
  match func with
  | 1 =>
    let x := fxOf s m e
    if 90 * fxOne < x then spanAt false fxOne 200
    else if x < -(110 * fxOne) then spanAt false fxOne (-200)
    else (let p := expParts x; spanAt false p.1 p.2)
  | 2 => (let y := fxLog m e; spanAt (decide (y < 0)) (y.natAbs : Nat) 0)
  | 3 => spanFloor s (2 ^ 80 / m) (2 ^ 80 % m == 0) (-80 - e)
  | 4 =>
    let m' := if e % 2 = 0 then m else 2 * m
    let e' := if e % 2 = 0 then e else e - 1
    let n := Nat.sqrt (2 ^ 160 / m')
    spanFloor false n (n * n * m' == 2 ^ 160) (-80 - e' / 2)
  | 5 =>
    if (Nat.log2 m : Int) + e < -64 then { neg := s, lo := m * 2 ^ 64 - 1, hi := m * 2 ^ 64 - 1, e := e - 64 }
    else if 10 * fxOne < fxOf false m e then { neg := s, lo := 2 ^ 30 - 1, hi := 2 ^ 30 - 1, e := -30 }
    else
      let p := expParts (2 * fxOf false m e)
      let y := p.1 * (2 ^ p.2.toNat : Nat)
      spanAt s ((y - fxOne) * fxOne / (y + fxOne)) 0
  | _ =>
    if 4 * fxOne ≤ fxOf false m e then { neg := s, lo := 2 ^ 30 - 1, hi := 2 ^ 30 - 1, e := -30 }
    else
      let f := fxMul (erfSeries (fxOf false (m * m) (2 * e))) fxTwoRootPi
      { neg := s, lo := m * (f - 2 ^ 24).toNat, hi := m * (f + 2 ^ 24).toNat, e := e - fxBits }

/-- The fixed results of R111, and whether they are invalid; none for other inputs. -/
def vfunListed (func : Nat) (x : Val) : Option (Val × Bool) :=
  match x with
  | .nan => some (.nan, false)
  | .inf s =>
    some (match func with
    | 1 => (if s then (.zero, false) else (.inf false, false))
    | 2 => (if s then (.nan, true) else (.inf false, false))
    | 3 => (.fin s 0 0, false)
    | 4 => (if s then (.nan, true) else (.zero, false))
    | _ => (.fin s 1 0, false))
  | .fin s m e =>
    if m = 0 then
      some (match func with
      | 1 => (.one, false)
      | 2 => (.inf true, false)
      | 3 => (.inf s, false)
      | 4 => (.inf s, false)
      | _ => (.fin s 0 0, false))
    else if func = 2 then
      (if s then some (.nan, true) else if (Val.fin s m e).eqv .one then some (.zero, false) else none)
    else if func = 4 then (if s then some (.nan, true) else none)
    else none

/-- vfun: the element code, and whether invalid is set; a free value where the evaluation does not separate the result
from a rounding boundary (R110, R111, log entry 17). -/
def vfunCode (free func : Nat) (x : Val) (fd : Nat) : Nat × Bool :=
  match vfunListed func x with
  | some r => (vecCode fd r.1, r.2)
  | none =>
    match x with
    | .fin s m e =>
      let p := vfunSpan func s m e
      let a := vecCode fd (.fin p.neg p.lo p.e)
      let b := vecCode fd (.fin p.neg p.hi p.e)
      (if a = b then a else Config.free free % 2 ^ (8 * vecBytes fd), false)
    | _ => (0, false)

end Sys2Proof.Machine
end

