-- ==== Sys2Proof/Machine/Tiller.lean ====
section
/-! DEFINITION. The matrix and vector steps of a tiller (R58 to R85). Each row applies the effect of a step that has issued
and is in flight on its unit; STEP_COMPLETE then completes it. -/

namespace Sys2Proof.Machine

/-! ### Local store -/

/-- Address of the first byte of a granule in a tiller's local store. -/
def lsAddr (key gran : Nat) : Nat := key * 1572864 + 64 * gran

def State.lsBytes (s : State) (a n : Nat) : List (BitVec 8) := memBytes 0 s.localStore a n
def State.lsNat (s : State) (a n : Nat) : Nat := memNat s.localStore a n
def State.lsStore (s : State) (a : Nat) (b : List (BitVec 8)) : State :=
  { s with localStore := memStore 0 s.localStore a b }

/-- The step with an opcode and body is in flight on its unit of an engine: apply its effect and mark it done (R54, R55). -/
def applyStep (e op : Nat) (b : Body) (f : State → State) (s : State) : State :=
  match flightOf (s.engine e) (unitOf op) (isStep op b) with
  | none => s
  | some _ => modFlight e (unitOf op) (isStep op b) (fun x => { x with done := true }) (f s)

/-- The step in flight gets status error (R56). -/
def failStep (e op : Nat) (b : Body) (s : State) : State :=
  modFlight e (unitOf op) (isStep op b) (fun x => { x with err := true }) s

/-! ### Matrix operands (R60) -/

/-- The 32 elements of block j of row i of an operand of r rows at an address. -/
def opndBlock (s : State) (a r f i j : Nat) : List Val :=
  let w := fmtBits f
  let x := s.lsNat (a + (j * r + i) * (4 * w)) (4 * w)
  (List.range 32).map (fun e => decodeElem f (bits x (w * e) w))

/-- The scale byte of block j of row i; 127 for a format without scales (R101). -/
def opndScale (s : State) (a r kb f i j : Nat) : Nat :=
  if fmtMx f then s.lsNat (a + (kb + 1) * r * (4 * fmtBits f) + (j * r + i)) 1 else 127

/-- The largest unbiased exponent among an operand's scale bytes other than 0xFF, or 0 (R100). -/
def maxScale (s : State) (a r kb f : Nat) : Int :=
  if fmtMx f then
    match ((List.range ((kb + 1) * r)).map (fun q => s.lsNat (a + (kb + 1) * r * (4 * fmtBits f) + q) 1)).filter
        (· ≠ 0xFF) with
    | [] => 0
    | x :: l => scaleExp (l.foldl max x)
  else 0

def Tiller.bank (t : Tiller) (b : Nat) : Bank := if b = 0 then t.bank0 else t.bank1
def Tiller.setBank (t : Tiller) (b : Nat) (k : Bank) : Tiller :=
  if b = 0 then { t with bank0 := k } else { t with bank1 := k }
def State.modBank (s : State) (key b : Nat) (f : Bank → Bank) : State :=
  s.modTiller key (fun t => t.setBank b (f (t.bank b)))

/-- The bin of one element, unlisted 0. -/
def Bank.bin (k : Bank) (i : Nat) : Int := binInt (tabGet k.bins i 0)

/-- The table of 6,144 bins from their values, zeros unlisted. -/
def binTable (f : Nat → Int) : List (Nat × BitVec 192) :=
  (List.range 6144).filterMap (fun i => if f i = 0 then none else some (i, BitVec.ofInt 192 (f i)))

/-- The terms that an MMA adds to bin (m, n): a block each, or a product each for BF16 (R99, R101). -/
def mmaTerms (s : State) (a b kb fa fb m n : Nat) (anchor : Int) : List Term :=
  (List.range (kb + 1)).flatMap (fun j =>
    let x := opndBlock s a 96 fa m j
    let y := opndBlock s b 64 fb n j
    if fa = 9 then List.zipWith (fun u v => valTerm u v anchor) x y
    else [blockTerm x y fa fb (opndScale s a 96 kb fa m j) (opndScale s b 64 kb fb n j) anchor])

/-- A bin that saturated sets REPRO.RUN.bin_sat (R103, R360). -/
def noteSat (sat : Bool) (s : State) : State :=
  if sat then { s with repro := { s.repro with binSat := true } } else s

/-- The accumulated bins of a bank: values and flags (R99 to R103). -/
def mmaBank (s : State) (key : Nat) (b : Body) (k : Bank) (anchor : Int) : List BinAcc :=
  let a := lsAddr key (fld b 0 15)
  let y := lsAddr key (fld b 15 15)
  (List.range 6144).map (fun i =>
    (mmaTerms s a y (fld b 30 8) (fld b 38 4) (fld b 42 4) (i / 64) (i % 64) anchor).foldl binTerm { b := k.bin i })

/-- The effect of an MMA on its tiller (R63, R100 to R103). -/
def mmaEffect (key : Nat) (b : Body) (s : State) : State :=
  let k0 := (s.tiller key).bank (fld b 46 1)
  let auto := maxScale s (lsAddr key (fld b 0 15)) 96 (fld b 30 8) (fld b 38 4)
    + maxScale s (lsAddr key (fld b 15 15)) 64 (fld b 30 8) (fld b 42 4) - 112
  let anchor : BitVec 16 := if fld b 48 1 = 1 then BitVec.ofNat 16 (fld b 49 16) else BitVec.ofInt 16 auto
  let k : Bank := if fld b 47 1 = 1 then { anchor := anchor } else k0
  let r := mmaBank s key b k k.anchor.toInt
  let k' : Bank := { k with bins := binTable (fun i => (r.getD i { b := 0 }).b),
                            low := k.low || r.any (fun x => x.lost), high := k.high || r.any (fun x => x.clamped) }
  noteSat (r.any (fun x => x.sat)) (s.modBank key (fld b 46 1) (fun _ => k'))

/-- MMA: multiply-accumulate one tile into a bin bank (R63). -/
def execMma (t : TillerId) (body : Body) (s : State) : Host.Outcome State Fault Refusal :=
  .next (applyStep (tEng t) 0x10 body (mmaEffect (tKey t) body) s)

/-- The bytes of a result tile in an output format: the element region, then the scales (R61, R104). -/
def tileOut (f : Nat) (k : Bank) (oscale : Int) : List (BitVec 8) :=
  let bl := (List.range 192).map (fun g =>
    blockOut f ((List.range 32).map (fun i => binVal (k.bin (32 * g + i)) (k.anchor.toInt - oscale))))
  bl.flatMap (·.1) ++ (if fmtMx f then bl.map (fun x => BitVec.ofNat 8 x.2) else [])

/-- A cleared bank keeps its anchor (R66, R68). -/
def clearBank (k : Bank) : Bank := { anchor := k.anchor }

def moutEffect (key : Nat) (b : Body) (s : State) : State :=
  let k := (s.tiller key).bank (fld b 19 1)
  let s := s.lsStore (lsAddr key (fld b 0 15)) (tileOut (fld b 15 4) k (signed (fld b 21 16) 16))
  let s := if k.low then setFlag key 0 s else s
  let s := if k.high then setFlag key 1 s else s
  if fld b 20 1 = 1 then s.modBank key (fld b 19 1) clearBank else s

/-- MOUT: round a bin bank to an output format, write it, and OR its sticky flags into TIL.FLAGS (R66, R104). -/
def execMout (t : TillerId) (body : Body) (s : State) : Host.Outcome State Fault Refusal :=
  .next (applyStep (tEng t) 0x11 body (moutEffect (tKey t) body) s)

/-- A raw bin record (R67). -/
def binRecord (k : Bank) : List (BitVec 8) :=
  toBytes 2 k.anchor.toNat ++ [BitVec.ofNat 8 (b2n k.low + 2 * b2n k.high)] ++ List.replicate 61 0
    ++ (List.range 6144).flatMap (fun i => toBytes 24 (tabGet k.bins i 0).toNat)

def bexpEffect (key : Nat) (b : Body) (s : State) : State :=
  let k := (s.tiller key).bank (fld b 15 1)
  let s := s.lsStore (lsAddr key (fld b 0 15)) (binRecord k)
  if fld b 16 1 = 1 then s.modBank key (fld b 15 1) clearBank else s

/-- BEXP: export a bin bank as a raw record (R67, R68). -/
def execBexp (t : TillerId) (body : Body) (s : State) : Host.Outcome State Fault Refusal :=
  .next (applyStep (tEng t) 0x12 body (bexpEffect (tKey t) body) s)

/-- The bank that a raw record at an address describes (R67). -/
def recordBank (s : State) (a : Nat) : Bank :=
  let f := s.lsNat (a + 2) 1
  { anchor := BitVec.ofNat 16 (s.lsNat a 2), low := bit f 0, high := bit f 1,
    bins := binTable (fun i => binInt (BitVec.ofNat 192 (s.lsNat (a + 64 + 24 * i) 24))) }

def baddEffect (key : Nat) (b : Body) (s : State) : State :=
  let r := recordBank s (lsAddr key (fld b 0 15))
  let k := (s.tiller key).bank (fld b 15 1)
  if fld b 16 1 = 1 then s.modBank key (fld b 15 1) (fun _ => r)
  else if r.anchor ≠ k.anchor then failStep (tillerEngine key) 0x13 b (setFlag key 2 s)
  else
    let sum := (List.range 6144).map (fun i => binAdd (k.bin i) (r.bin i))
    let k' : Bank := { k with bins := binTable (fun i => (sum.getD i (0, false)).1), low := k.low || r.low,
                              high := k.high || r.high || sum.any (·.2) }
    noteSat (sum.any (·.2)) (s.modBank key (fld b 15 1) (fun _ => k'))

/-- BADD: add or load a raw bin record (R68, R69). Unequal anchors leave the bank and end the step with error. -/
def execBadd (t : TillerId) (body : Body) (s : State) : Host.Outcome State Fault Refusal :=
  .next (applyStep (tEng t) 0x13 body (baddEffect (tKey t) body) s)

/-! ### Vector steps -/

/-- Element e of a vector of format bit f at a granule (R61). -/
def vecElem (s : State) (key gran f e : Nat) : Nat := s.lsNat (lsAddr key gran + vecBytes f * e) (vecBytes f)

/-- The bytes of element codes of a size in bytes. -/
def elemBytes (n : Nat) (l : List Nat) : List (BitVec 8) := l.flatMap (toBytes n)

/-- Element read under a bmode (R71). -/
def bIndex (bmode e : Nat) : Nat := if bmode = 1 then 0 else if bmode = 2 then e % 64 else e

/-- A result and whether it is invalid: NaN from operands that hold none (R105). -/
def withInvalid (ops : List Val) (r : Val) : Val × Bool := (r, r.isNan && !(ops.any Val.isNan))

/-- VBIN's operation (R71, R105, R106). -/
def vbinOp (op : Nat) (a b : Val) : Val × Bool :=
  match op with
  | 0 => withInvalid [a, b] (a.add b)
  | 1 => withInvalid [a, b] (a.add b.neg)
  | 2 => withInvalid [a, b] (a.mul b)
  | 3 => (a.minimum b, false)
  | 4 => (a.maximum b, false)
  | 5 => (if a.lt b then .one else .zero, false)
  | _ => (if a.eqv b then .one else .zero, false)

/-- Write vector results and set TIL.FLAGS.invalid where one of them asks for it. -/
def writeVec (key gran size : Nat) (r : List (Nat × Bool)) (s : State) : State :=
  let s := s.lsStore (lsAddr key gran) (elemBytes size (r.map (·.1)))
  if r.any (·.2) then setFlag key 5 s else s

/-- The effect of a VBIN. As in every vector step, all sources are read before a result is written, which the spec does
not say for a destination that starts at its source (R70, log entry 52). -/
def vbinEffect (key : Nat) (b : Body) (s : State) : State :=
  let fd := fld b 67 1
  let r := (List.range (fld b 45 16 + 1)).map (fun e =>
    let x := vbinOp (fld b 61 4) (vecVal (fld b 65 1) (vecElem s key (fld b 0 15) (fld b 65 1) e))
      (vecVal (fld b 66 1) (vecElem s key (fld b 15 15) (fld b 66 1) (bIndex (fld b 68 2) e)))
    (vecCode fd x.1, x.2))
  writeVec key (fld b 30 15) (vecBytes fd) r s

/-- VBIN: an elementwise binary operation (R71, R105, R106). -/
def execVbin (t : TillerId) (body : Body) (s : State) : Host.Outcome State Fault Refusal :=
  .next (applyStep (tEng t) 0x20 body (vbinEffect (tKey t) body) s)

def vfmaEffect (key : Nat) (b : Body) (s : State) : State :=
  let f := fld b 76 1
  let r := (List.range (fld b 60 16 + 1)).map (fun e =>
    let x := vecVal f (vecElem s key (fld b 0 15) f e)
    let y := vecVal f (vecElem s key (fld b 15 15) f (bIndex (fld b 77 2) e))
    let z := vecVal f (vecElem s key (fld b 30 15) f e)
    let v := withInvalid [x, y, z] ((x.mul y).add z)
    (vecCode f v.1, v.2))
  writeVec key (fld b 45 15) (vecBytes f) r s

/-- VFMA: a × b + c, rounded once (R71, R105). -/
def execVfma (t : TillerId) (body : Body) (s : State) : Host.Outcome State Fault Refusal :=
  .next (applyStep (tEng t) 0x21 body (vfmaEffect (tKey t) body) s)

/-- VFUN's function on one element code; a copy between formats keeps the sign of zero, which R106 does not state
(R72, R106, R110, log entry 52). -/
def vfunOp (free func fs fd x : Nat) : Nat × Bool :=
  let v := vecVal fs x
  match func with
  | 0 => (if fs = fd then x else vecCode fd v, false)
  | 7 => (vecCode fd v.neg, false)
  | 8 => (vecCode fd (if v.isNeg then v.neg else v), false)
  | 9 => (vecCode fd (v.maximum .zero), false)
  | f => vfunCode free f v fd

def vfunEffect (key : Nat) (b : Body) (s : State) : State :=
  let fs := fld b 50 1
  let fd := fld b 51 1
  let n := fld b 30 16 + 1
  let r := (List.range n).map (fun e => vfunOp (s.free + e) (fld b 46 4) fs fd (vecElem s key (fld b 0 15) fs e))
  writeVec key (fld b 15 15) (vecBytes fd) r { s with free := s.free + n }

/-- VFUN: a unary function or conversion, correctly rounded (R72, R110, R111). -/
def execVfun (t : TillerId) (body : Body) (s : State) : Host.Outcome State Fault Refusal :=
  .next (applyStep (tEng t) 0x22 body (vfunEffect (tKey t) body) s)

/-- The lowest index of the greatest value; NaN counts as less than every number (R74). -/
def argMax (vs : List Val) : Nat :=
  ((vs.zipIdx).foldl (fun (a : Option (Val × Nat)) p =>
    if p.1.isNan then a
    else match a with
      | none => some p
      | some q => if q.1.lt p.1 then some p else some q) none).elim 0 (·.2)

/-- VRED on one segment: the result code and invalid, judged for each addition of the tree of an ordered sum and for the
whole segment of a bin sum (R73, R74, R89, R105 to R108, log entry 52). -/
def vredOp (op mode fd amode anchor : Nat) (vs : List Val) : Nat × Bool :=
  match op with
  | 0 =>
    let r := if mode = 1 then
        (let k := if amode = 1 then signed anchor 16 else autoAnchor vs
         withInvalid vs (binVal (binSum k vs) k))
      else orderedSum 17 vs
    (vecCode fd r.1, r.2)
  | 1 => (vecCode fd (match vs with | [] => .zero | a :: l => l.foldl Val.maximum a), false)
  | 2 => (vecCode fd (match vs with | [] => .zero | a :: l => l.foldl Val.minimum a), false)
  | _ => (argMax vs, false)

def vredEffect (key : Nat) (b : Body) (s : State) : State :=
  let fs := fld b 57 1
  let fd := fld b 58 1
  let l := fld b 30 16 + 1
  let op := fld b 54 2
  let r := (List.range (fld b 46 8 + 1)).map (fun g =>
    vredOp op (fld b 56 1) fd (fld b 59 1) (fld b 60 16)
      ((List.range l).map (fun e => vecVal fs (vecElem s key (fld b 0 15) fs (g * l + e)))))
  writeVec key (fld b 15 15) (if op = 3 then 4 else vecBytes fd) r s

/-- VRED: a segmented reduction (R73, R74, R107, R108). -/
def execVred (t : TillerId) (body : Body) (s : State) : Host.Outcome State Fault Refusal :=
  .next (applyStep (tEng t) 0x23 body (vredEffect (tKey t) body) s)

/-- VPACK: blocks of 32 elements along K, row by row within a block column, then the scales (R60, R75, R109). -/
def vpackEffect (key : Nat) (b : Body) (s : State) : State :=
  let r := fld b 30 7 + 1
  let kb := fld b 37 8
  let f := fld b 45 4
  let vf := fld b 49 1
  let bl := (List.range (kb + 1)).flatMap (fun j => (List.range r).map (fun i =>
    (List.range 32).map (fun e => vecVal vf (vecElem s key (fld b 0 15) vf (i * (32 * (kb + 1)) + 32 * j + e)))))
  let out := bl.map (blockOut f)
  let bad := fmtMx f && bl.any (fun vs => vs.any Val.isInf && !(vs.any Val.isNan))
  let s := s.lsStore (lsAddr key (fld b 15 15))
    (out.flatMap (·.1) ++ (if fmtMx f then out.map (fun x => BitVec.ofNat 8 x.2) else []))
  if bad then setFlag key 5 s else s

/-- VPACK: row-major FP32 or BF16 to matrix operand layout (R75, R109). -/
def execVpack (t : TillerId) (body : Body) (s : State) : Host.Outcome State Fault Refusal :=
  .next (applyStep (tEng t) 0x24 body (vpackEffect (tKey t) body) s)

def vunpackEffect (key : Nat) (b : Body) (s : State) : State :=
  let r := fld b 30 7 + 1
  let kb := fld b 37 8
  let f := fld b 45 4
  let vf := fld b 49 1
  let a := lsAddr key (fld b 0 15)
  let l := (List.range r).flatMap (fun i => (List.range (kb + 1)).flatMap (fun j =>
    let sc := opndScale s a r kb f i j
    (opndBlock s a r f i j).map (fun v =>
      vecCode vf (if sc = 0xFF then .nan else v.scale (scaleExp sc)))))
  s.lsStore (lsAddr key (fld b 15 15)) (elemBytes (vecBytes vf) l)

/-- VUNPACK: matrix operand layout to row-major FP32 or BF16 (R75, R109). -/
def execVunpack (t : TillerId) (body : Body) (s : State) : Host.Outcome State Fault Refusal :=
  .next (applyStep (tEng t) 0x25 body (vunpackEffect (tKey t) body) s)

/-! ### Random numbers (R82, R83) -/

/-- One round of Philox4x32 (R82). -/
def philoxRound (c : Nat × Nat × Nat × Nat) (k0 k1 : Nat) : Nat × Nat × Nat × Nat :=
  let p0 := 0xD2511F53 * c.1
  let p1 := 0xCD9E8D57 * c.2.2.1
  ((p1 / 2 ^ 32 ^^^ c.2.1) ^^^ k0, p1 % 2 ^ 32, (p0 / 2 ^ 32 ^^^ c.2.2.2) ^^^ k1, p0 % 2 ^ 32)

def philox (c : Nat × Nat × Nat × Nat) (k0 k1 : Nat) : Nat × Nat × Nat × Nat :=
  (List.range 10).foldl (fun c r =>
    philoxRound c ((k0 + r * 0x9E3779B9) % 2 ^ 32) ((k1 + r * 0xBB67AE85) % 2 ^ 32)) c

/-- The random word of output element j (R82). -/
def rngWord (rng seed rank die logical stream j : Nat) : Nat :=
  let c3 := (rank * 2 ^ 22 + die * 2 ^ 19 + logical * 2 ^ 10 + stream) % 2 ^ 32
  let w := philox (j / 4, rng % 2 ^ 32, rng / 2 ^ 32 % 2 ^ 32, c3) (seed % 2 ^ 32) (seed / 2 ^ 32 % 2 ^ 32)
  match j % 4 with
  | 0 => w.1 | 1 => w.2.1 | 2 => w.2.2.1 | _ => w.2.2.2

/-- A Philox word as an output element (R83). -/
def rngElem (mode thr u : Nat) : Nat :=
  match mode with
  | 0 => u
  | 1 => vecCode 0 (.fin false (u / 2 ^ 8) (-24))
  | 2 => vecCode 1 (.fin false (u / 2 ^ 24) (-8))
  | _ => vecCode 1 (if u / 2 ^ 16 < thr then .one else .zero)

def vrngEffect (key : Nat) (b : Body) (s : State) : State :=
  let t := s.tiller key
  let mode := fld b 31 2
  let l := (List.range (fld b 15 16 + 1)).map (fun j => rngElem mode (fld b 43 16)
    (rngWord t.rng.toNat s.cut.seed.toNat s.col.rank (key / 288) (t.logical.getD 0x1FF) (fld b 33 10) j))
  let s := s.lsStore (lsAddr key (fld b 0 15)) (elemBytes (if mode ≤ 1 then 4 else 2) l)
  s.modTiller key (fun t => { t with rng := t.rng + 1 })

/-- VRNG: draw Philox4x32-10 numbers and advance the RNG counter (R76, R82, R83). -/
def execVrng (t : TillerId) (body : Body) (s : State) : Host.Outcome State Fault Refusal :=
  .next (applyStep (tEng t) 0x26 body (vrngEffect (tKey t) body) s)

def vsetselEffect (key : Nat) (b : Body) (s : State) : State :=
  let v := min (s.lsNat (lsAddr key (fld b 0 15) + 4 * fld b 15 4) 4) 255
  s.modTiller key (fun t => { t with sel := tabPut t.sel (fld b 19 3) v })

/-- VSETSEL: load a selector register with min(value, 255) (R76). -/
def execVsetsel (t : TillerId) (body : Body) (s : State) : Host.Outcome State Fault Refusal :=
  .next (applyStep (tEng t) 0x27 body (vsetselEffect (tKey t) body) s)

def vposEffect (key : Nat) (b : Body) (s : State) : State :=
  let l := (List.range (fld b 15 16 + 1)).map (fun e =>
    let p := fld b 31 22 + e * fld b 53 8
    if fld b 61 2 = 0 then p % 2 ^ 22 else vecCode 0 (.fin false p 0))
  s.lsStore (lsAddr key (fld b 0 15)) (elemBytes 4 l)

/-- VPOS: a ramp of positions, as position elements or FP32 (R84, R85). -/
def execVpos (t : TillerId) (body : Body) (s : State) : Host.Outcome State Fault Refusal :=
  .next (applyStep (tEng t) 0x28 body (vposEffect (tKey t) body) s)

end Sys2Proof.Machine
end

