-- ==== Sys2Proof/Machine/Crib.lean ====
section
/-! DEFINITION. Crib rows and their code, dowel groups and their repair, crib moves, and the stack's frequency ceiling
(05_crib_and_dowels.md, R78, R79). -/

namespace Sys2Proof.Machine

/-! ### Rows (R58, R112 to R114) -/

/-- Address of the first byte of a crib row. -/
def cribAddr (key row : Nat) : Nat := key * 14680064 + 256 * row

/-- The key of a row's error record. -/
def rowKey (key row : Nat) : Nat := key * 57344 + row

def State.rowErr (s : State) (key row : Nat) : RowErr := tabGet s.cribErr (rowKey key row) {}

def State.cribRow (s : State) (key row : Nat) : List (BitVec 8) := memBytes 0 s.crib (cribAddr key row) 256

/-- A row is written whole: its words carry valid check bits, and a write-back that waits is discarded (R114, R115). -/
def writeRow (key row : Nat) (b : List (BitVec 8)) (s : State) : State :=
  { s with crib := memStore 0 s.crib (cribAddr key row) b,
           cribErr := tabDel s.cribErr (rowKey key row), writeback := setDel s.writeback (rowKey key row) }

/-- An error arises in a stored word (R113, log entry 15). -/
def upsetWord (key : Nat) (u : CribUpset) (s : State) : State :=
  let k := rowKey key u.row.val
  let e := tabGet s.cribErr k {}
  if u.multi then
    let a := cribAddr key u.row.val + 8 * u.word.val
    let w := memNat s.crib a 8 ^^^ u.flip.toNat
    { s with crib := memStore 0 s.crib a (toBytes 8 w),
             cribErr := tabPut s.cribErr k { single := setDel e.single u.word.val,
                                             multi := setIns e.multi u.word.val } }
  else { s with cribErr := tabPut s.cribErr k { e with single := setIns e.single u.word.val } }

/-- Every read of a row checks its 32 words: corrected words are counted and the row is to be written back, and each word
that cannot be corrected is counted and raises CRIB_UNCORRECTABLE (R113, R114). -/
def checkRow (key row : Nat) (s : State) : State :=
  let e := s.rowErr key row
  let s := s.modPart key (fun p => { p with
    corrected := satAdd p.corrected e.single.length 0xFFFF,
    uncorrectable := satAdd p.uncorrectable e.multi.length 0xFF })
  let s := if e.single.isEmpty then s else { s with writeback := setIns s.writeback (rowKey key row) }
  e.multi.foldl (fun s w => raise 0x0202 (tillerEngine key) row w 0 0 s) s

/-- A row read is reported uncorrectable (R56, R113). -/
def rowBad (s : State) (key row : Nat) : Bool := !(s.rowErr key row).multi.isEmpty

/-- The rows of a move. -/
def rowsOf (row n : Nat) : List Nat := (List.range n).map (row + ·)

/-- A partition makes accesses: its tiller's panel clock is not stopped (R123). -/
def partRuns (s : State) (key : Nat) : Bool :=
  match tabFind s.clk.panels (key / 288 * 512 + key % 288) with | some x => !x.inReset | none => true

/-! ### Dowel groups (R116 to R121) -/

/-- The command lanes of a transfer: position within the bank, write, retransmission (R116). -/
def dowelCommand (row : Nat) (write again : Bool) : BitVec 16 :=
  BitVec.ofNat 16 (row / 8 % 2 ^ 13 + b2n write * 2 ^ 13 + b2n again * 2 ^ 14)

/-- The CRC over lanes 0 to 2,319, lane 0 first, from a starting value (R117). -/
def dowelCrc (init lanes : Nat) : Nat := crcBits 16 0x1021 init (bitsOf 2320 lanes)

/-- The receiver's check of a transfer whose active lanes arrive with these flips. The CRC is linear, so the check holds
exactly where that of the flips alone holds, from a shift register of 0 (R117). -/
def dowelOk (flip : BitVec 2336) : Bool := dowelCrc 0 (flip.toNat % 2 ^ 2320) == flip.toNat / 2 ^ 2320

/-- Transmissions of a row that fail their check before one passes, at most three (R117, R118). -/
def failTimes (x : DowelFail) : Nat := ((x.flips.take 3).takeWhile (fun f => !dowelOk f)).length

/-- The data lanes that arrive flipped in a transmission whose check passes all the same. -/
def failSlips (x : DowelFail) : Nat :=
  if failTimes x < 3 then ((x.flips[failTimes x]?).getD 0).toNat % 2 ^ 2048 else 0

/-- Row i of a move from a row is the one that a noise names. -/
def failStrikes (x : DowelFail) (row i : Nat) : Bool := x.group.val == (row + i) % 8 && x.cycle == i / 8

/-- The bytes of row i of a move as its transfer delivers them (R117). -/
def slipRow (nz : CribNoise) (row i : Nat) (b : List (BitVec 8)) : List (BitVec 8) :=
  match nz.fails.find? (fun x => failStrikes x row i) with
  | none => b
  | some x => if failSlips x = 0 then b else toBytes b.length (ofBytes b ^^^ failSlips x)

def Partition.group (p : Partition) (g : Nat) : Group := tabGet p.groups g {}
def State.modGroup (s : State) (key g : Nat) (f : Group → Group) : State :=
  s.modPart key (fun p => { p with groups := tabMod p.groups g {} f })

def groupMask (p : Partition) (f : Group → Bool) : Nat :=
  maskOf ((List.range 8).filter (fun g => f (p.group g)))

/-- A half of the group has 2 or fewer unused spares (R129). -/
def sparesLow (g : Group) : Bool := decide (14 ≤ g.bad0.length) || decide (14 ≤ g.bad1.length)

/-- CRB.PART (R129). -/
def cribPart (p : Partition) : Nat :=
  groupMask p (·.half) + groupMask p (·.failed) * 2 ^ 8 + groupMask p sparesLow * 2 ^ 16 + p.clockDowel % 4 * 2 ^ 24

/-- A failed lane is repaired: a spare of its half, half width, or the group fails (R119 to R121). -/
def repairLane (key g lane : Nat) (s : State) : State :=
  let old := (s.part key).group g
  let h := lane % 2
  let mine := if h = 0 then old.bad0 else old.bad1
  let other := if h = 0 then old.bad1 else old.bad0
  let s := s.modGroup key g (fun x =>
    if h = 0 then { x with bad0 := x.bad0 ++ [lane] } else { x with bad1 := x.bad1 ++ [lane] })
  let s := s.modPart key (fun p => { p with repaired := true })
  if mine.length < 16 then s
  else
    let s := s.modGroup key g (fun x => { x with half := true })
    let s := if old.half then s else
      (let s := s.modPart key (fun p => { p with fellAt := p.fellAt.orElse (fun _ => some s.now) })
       if s.runActive then { s with repro := { s.repro with halfWidth := true } } else s)
    if other.length ≤ 16 ∨ old.failed then s
    else
      let s := s.modGroup key g (fun x => { x with failed := true })
      let s := { s with rst := { s.rst with dowelFailed := setIns s.rst.dowelFailed key } }
      raise 0x0204 (tillerEngine key) (cribPart (s.part key)) 0 0 0 s

/-- A lane is declared failed and counted (R119, R129). -/
def declareLane (key : Nat) (s : State) : State :=
  s.modPart key (fun p => { p with lanesFailed := satAdd p.lanesFailed 1 0xFF })

/-- The lanes that a scan covers and finds in error: active lanes and spares, not the response lanes (R116, R118). -/
def scanned (l : List (Fin 2372)) : List Nat := setOf ((l.map (·.val)).filter (fun i => i < 2336 || 2340 ≤ i))

/-- A scan finds a lane in error, which counts a fault against it (R118). -/
def countFault (key g : Nat) (s : State) (lane : Nat) : State :=
  s.modGroup key g (fun x => { x with faults := tabPut x.faults lane (tabGet x.faults lane 0 + 1) })

/-- A lane found on the immediate path is counted and repaired at once, one that waits for the boundary as well; one that
was repaired before stays so (R118, R119). -/
def repairNow (key g : Nat) (s : State) (lane : Nat) : State :=
  let x := (s.part key).group g
  let s := countFault key g s lane
  if x.bad0.contains lane || x.bad1.contains lane then s
  else if x.repair.contains lane then
    repairLane key g lane (s.modGroup key g (fun x => { x with repair := setDel x.repair lane }))
  else repairLane key g lane (declareLane key s)

/-- The failing transmissions of one transfer: retransmissions are counted, each failure owes a lane scan, and on the
immediate path the scan runs at once and the lanes it finds are repaired (R117 to R119). -/
def transferFails (key : Nat) (x : DowelFail) (s : State) : State :=
  let n := failTimes x
  let s := s.modPart key (fun p => { p with retries := satAdd p.retries n 0xFFFF })
  let s := s.modGroup key x.group.val (fun g => { g with scans := g.scans + (if n = 3 then 2 else n) })
  if n = 3 then (scanned x.lanes).foldl (repairNow key x.group.val) s else s

/-- A row crosses its group: the command lanes of its last transmission (R116, R117). -/
def noteCommand (key row : Nat) (write again : Bool) (s : State) : State :=
  s.modGroup key (row % 8) (fun g => { g with command := dowelCommand row write again })

/-- Row i of a move was sent again (R117). -/
def resentRow (nz : CribNoise) (row i : Nat) : Bool := nz.fails.any (fun x => failStrikes x row i && failTimes x != 0)

/-- The partition is marked degraded in the floor plan (R79, R120). -/
def isDegraded (s : State) (key : Nat) : Bool := (s.dieFloor (key / 288)).degraded.contains (key % 288)

/-- The row-cycles of a move in which a row of a group at half width moves (R120). -/
def halfCycles (p : Partition) (row n : Nat) : Nat :=
  ((List.range (cdiv n 8)).filter (fun i =>
    (List.range (min 8 (n - 8 * i))).any (fun j => (p.group ((row + 8 * i + j) % 8)).half))).length

/-- Cycles that the failing transfers of a move add (R117, R120). -/
def failCycles (before after : Partition) (degraded : Bool) (n : Nat) (x : DowelFail) : Nat :=
  if failTimes x < 3 then 6 * failTimes x
  else
    let fell := !(before.group x.group.val).half && (after.group x.group.val).half && !degraded
    12 + 8 + (if (after.group x.group.val).half || degraded then 2 else 1)
      + (if fell then cdiv n 8 - 1 - x.cycle else 0)

/-- The cause bits that a crib move takes for retries and for half width (R79, R117, R120). -/
def moveMask (s : State) (key : Nat) (fell ran2 retried : Bool) : Nat :=
  let free := s.cut.kind = 1 ∧ (s.part key).degradedAtLoad
  (if fell || retried then 2 else 0) ||| (if ran2 && !fell && !(decide free) then 4 else 0)

/-- The groups that a move of n rows uses. -/
def groupsUsed (row n : Nat) : List Nat := setOf ((List.range (min n 8)).map (fun i => (row + i) % 8))

/-- Noise, timing and status of a crib move in flight (R79, R113, R117 to R121). -/
def moveCommon (key op : Nat) (b : Body) (nz : CribNoise) (s : State) : State :=
  let row := fld b 0 16
  let n := fld b 29 13 + 1
  let before := s.part key
  let deg := isDegraded s key
  let fails := nz.fails.filter (fun x => (List.range n).any (fun i => failStrikes x row i))
  let s := fails.foldl (fun s x => transferFails key x s) s
  let after := s.part key
  let fell := (groupsUsed row n).any (fun g => !(before.group g).half && (after.group g).half)
  let ran2 := deg || (groupsUsed row n).any (fun g => (before.group g).half)
  let cyc := 12 + (if deg then 2 * cdiv n 8 else cdiv n 8 + halfCycles before row n)
    + (fails.map (failCycles before after deg n)).sum
  let mask := moveMask s key fell ran2 (fails.any (fun x => failTimes x != 0))
  let bad := (groupsUsed row n).any (fun g => (after.group g).failed)
  modFlight (tillerEngine key) 2 (isStep op b)
    (fun f => { f with cycles := cyc, mask := f.mask ||| mask, err := f.err || bad, moved := true }) s

/-- Free bytes in place of those that a failed group carried (R121, log entry 8). -/
def freeBytes (from_ n : Nat) : List (BitVec 8) := (List.range n).map (fun i => BitVec.ofNat 8 (Config.free (from_ + i)))

/-- The bytes that arrive when a row crosses its dowel group, and the state with its free values taken (R121). -/
def crossRow (key row : Nat) (b : List (BitVec 8)) (s : State) : List (BitVec 8) × State :=
  if ((s.part key).group (row % 8)).failed then (freeBytes s.free 256, { s with free := s.free + 256 }) else (b, s)

/-- CLOAD's copy of one row. -/
def cloadRow (key crow lrow : Nat) (b : Body) (nz : CribNoise) (s : State) (i : Nat) : State :=
  let r := crow + i
  let bad := rowBad s key r
  let s := noteCommand key r false (resentRow nz crow i) (checkRow key r s)
  let d := crossRow key r (slipRow nz crow i (s.cribRow key r)) s
  let s := d.2.lsStore (lsAddr key (4 * (lrow + i))) d.1
  if bad then failStep (tillerEngine key) 0x30 b s else s

def cloadEffect (key : Nat) (b : Body) (nz : CribNoise) (s : State) : State :=
  let s := nz.upsets.foldl (fun s u => upsetWord key u s) s
  let s := moveCommon key 0x30 b nz s
  (List.range (fld b 29 13 + 1)).foldl (cloadRow key (fld b 0 16) (fld b 16 13) b nz) s

/-- CLOAD: copy crib rows into local store, while the partition's clock runs (R78, R113, R121, R123). -/
def execCload (t : TillerId) (body : Body) (noise : CribNoise) (s : State) : Host.Outcome State Fault Refusal :=
  .next (if partRuns s (tKey t) then applyStep (tEng t) 0x30 body (cloadEffect (tKey t) body noise) s else s)

/-- CSTORE's copy of one row. -/
def cstoreRow (key crow lrow : Nat) (nz : CribNoise) (s : State) (i : Nat) : State :=
  let s := noteCommand key (crow + i) true (resentRow nz crow i) s
  let d := crossRow key (crow + i) (slipRow nz crow i (s.lsBytes (lsAddr key (4 * (lrow + i))) 256)) s
  writeRow key (crow + i) d.1 d.2

def cstoreEffect (key : Nat) (b : Body) (nz : CribNoise) (s : State) : State :=
  let s := moveCommon key 0x31 b nz s
  (List.range (fld b 29 13 + 1)).foldl (cstoreRow key (fld b 0 16) (fld b 16 13) nz) s

/-- CSTORE: copy local-store rows into crib rows, while the partition's clock runs (R78, R121, R123). -/
def execCstore (t : TillerId) (body : Body) (noise : CribNoise) (s : State) : Host.Outcome State Fault Refusal :=
  .next (if partRuns s (tKey t) then applyStep (tEng t) 0x31 body (cstoreEffect (tKey t) body noise) s else s)

/-- A reset that arrives during a crib move stops it between two rows: a free number of its rows have been moved (R127,
log entries 8 and 54). -/
def stopMove (key : Nat) (s : State) (f : Flight) : State :=
  let b := stBody f.step.word
  let n := fld b 29 13 + 1
  let k := Config.free s.free % (n + 1)
  if f.done || f.unit != 2 then s
  else
    let s := { s with free := s.free + 1 }
    if stOpcode f.step.word = 0x30 then (List.range k).foldl (cloadRow key (fld b 0 16) (fld b 16 13) b {}) s
    else if stOpcode f.step.word = 0x31 then (List.range k).foldl (cstoreRow key (fld b 0 16) (fld b 16 13) {}) s
    else s

/-- The crib moves in flight on a die, or on every die, stop (R127). -/
def stopMoves (die : Option Nat) (s : State) : State :=
  let mine := fun (p : Nat × Engine) =>
    engKind p.1 == 1 && (match die with | some d => bits p.1 9 3 == d | none => true)
  (s.engines.filter mine).foldl (fun s p => p.2.flight.foldl (stopMove (tillerKey p.1)) s) s

/-- CRIB_WRITEBACK: a corrected row is written back, its single-bit errors with it, while the partition's clock runs
(R114, R123). -/
def execCribWriteback (t : TillerId) (row : Fin 57344) (s : State) : Host.Outcome State Fault Refusal :=
  let k := rowKey (tKey t) row.val
  .next (if s.writeback.contains k && partRuns s (tKey t) then
    let e := tabGet s.cribErr k {}
    { s with writeback := setDel s.writeback k,
             cribErr := if e.multi.isEmpty then tabDel s.cribErr k else tabPut s.cribErr k { e with single := [] } }
  else s)

/-- A scan in idle cycles finds a lane: its fourth fault declares it failed, to be repaired at the next boundary (R118,
R119). -/
def faultLane (key g : Nat) (s : State) (lane : Nat) : State :=
  let x := (s.part key).group g
  let s := countFault key g s lane
  if 4 ≤ tabGet x.faults lane 0 + 1 ∧ lane ∉ x.repair ∧ lane ∉ x.bad0 ∧ lane ∉ x.bad1 then
    declareLane key (s.modGroup key g (fun x => { x with repair := x.repair ++ [lane], declared := s.now }))
  else s

/-- LANE_SCAN: a lane scan that a CRC failure owes runs while the partition's clock does, and each active lane or spare
that it finds in error counts a fault (R118, R119, R123). -/
def execLaneScan (t : TillerId) (group : Fin 8) (lanes : List (Fin 2372)) (s : State) :
    Host.Outcome State Fault Refusal :=
  let k := tKey t
  let g := (s.part k).group group.val
  .next (if g.scans = 0 ∨ !partRuns s k then s
  else (scanned lanes).foldl (faultLane k group.val) (s.modGroup k group.val (fun x => { x with scans := x.scans - 1 })))

/-- The repairs of one group that wait for the boundary take effect. -/
def applyRepairs (key : Nat) (s : State) (g : Nat) : State :=
  let x := (s.part key).group g
  if x.repair.isEmpty ∨ s.now ≤ x.declared then s
  else x.repair.foldl (fun s l => repairLane key g l s) (s.modGroup key g (fun y => { y with repair := [] }))

/-- A partition whose group fell to half width is marked degraded, and DOWEL_DEGRADED is raised (R24, R120). -/
def markDegraded (key : Nat) (s : State) : State :=
  match (s.part key).fellAt with
  | none => s
  | some g =>
    if s.now < g then s
    else
      let s := s.modPart key (fun p => { p with fellAt := none })
      if isDegraded s key then s
      else
        let s := s.modFloor (key / 288) (fun f => { f with degraded := setIns f.degraded (key % 288) })
        raise 0x0203 (tillerEngine key) (cribPart (s.part key)) 0 0 0 s

/-- DOWEL_REPAIR_APPLY: at a fleet sheaf boundary the waiting repairs of a partition take effect (R119, R120). -/
def execDowelRepairApply (t : TillerId) (s : State) : Host.Outcome State Fault Refusal :=
  .next (if s.atBoundary then markDegraded (tKey t) ((List.range 8).foldl (applyRepairs (tKey t)) s) else s)

/-! ### The stack's ceiling (R125, R126, R130) -/

/-- The mean of the last 16 samples in whole W; the spec gives no rounding of it, and the model floors it (R130, log
entry 55). -/
def mean16 (l : List Nat) : Nat := (l.take 16).sum / 16

/-- STK.POWER (R130). -/
def stkPower (k : Stack) : Nat := min (mean16 k.power) 0xFFF + min (mean16 k.crib) 0x7FF * 2 ^ 12

/-- STK.CLOCK (R130). -/
def stkClock (k : Stack) : Nat := k.bin % 16 + k.ceiling % 16 * 16 + b2n k.limited * 256 + b2n k.idleReq * 512

/-- The stack ceiling falls one bin; STACK_POWER_LIMIT is raised at the first lowering in any span of 1,024 fleet
sheaves (R125, R126). -/
def lowerStack (d : Nat) (s : State) : State :=
  let k := s.cstack d
  let s := s.modStack d (fun k => { k with ceiling := k.ceiling - 1, changed := some s.fleetSheaf, limited := true,
                                           lowerDue := none })
  if (match k.raisedAt with | some f => decide (f + 1024 ≤ s.fleetSheaf) | none => true) then
    let s := s.modStack d (fun k => { k with raisedAt := some s.fleetSheaf })
    raise 0x0205 0 d (stkPower (s.cstack d)) (stkClock (s.cstack d)) 0 s
  else s

/-- STACK_CEILING_LOWER: at the boundary after the decision the ceiling falls one bin (R125). -/
def execStackCeilingLower (die : Fin 8) (s : State) : Host.Outcome State Fault Refusal :=
  match (s.cstack die.val).lowerDue with
  | some g => .next (if s.atBoundary && decide (g < s.now) && s.sup.hold != 0 then lowerStack die.val s else s)
  | none => .next s

/-- STACK_CEILING_RAISE: the ceiling rises one bin, up to the bin that firmware sets for the stack, which the model takes
to be CLK.TARGET (R125, R428, log entry 55). -/
def execStackCeilingRaise (die : Fin 8) (s : State) : Host.Outcome State Fault Refusal :=
  let d := die.val
  match (s.cstack d).raiseDue with
  | some g =>
    .next (if s.atBoundary && decide (g ≤ s.now) && s.sup.hold != 0 then
      s.modStack d (fun k => { k with
        ceiling := if k.ceiling < tabGet s.clk.targets d 8 then k.ceiling + 1 else k.ceiling,
        changed := if k.ceiling < tabGet s.clk.targets d 8 then some s.fleetSheaf else k.changed,
        raiseDue := none, under := 0 })
    else s)
  | none => .next s

end Sys2Proof.Machine
end

