-- ==== Sys2Proof/Machine/Mesh.lean ====
section
/-! DEFINITION. The die mesh: route tables, flits, multicast legs, and epoch flips (06_die_mesh.md, R80). -/

namespace Sys2Proof.Machine

/-! ### Nodes and tables (R131 to R139) -/

/-- Links of a node as (port, neighbour) in order of port code; node 288 has port 1 + c to row 0, column c (R131, R137). -/
def meshLinks (n : Nat) : List (Nat × Nat) :=
  if n = 288 then (List.range 16).map (fun c => (1 + c, c))
  else (if n % 16 < 15 then [(1, n + 1)] else []) ++ (if 0 < n % 16 then [(2, n - 1)] else [])
    ++ (if n / 16 < 17 then [(3, n + 16)] else []) ++ [(4, if n < 16 then 288 else n - 16)]

/-- A node of the enabled graph (R132). -/
def nodeOn (en : List Nat) (n : Nat) : Bool := n == 288 || en.contains n

/-- Links of the enabled graph (R132). -/
def onLinks (en : List Nat) (n : Nat) : List (Nat × Nat) := (meshLinks n).filter (fun p => nodeOn en p.2)

/-- One ring of a breadth-first search. No route passes through node 288, so it is left only in ring 1, when it is the
origin itself (R138, R152, log entry 13). -/
def bfsRing (en : List Nat) (k : Nat) (seen : List (Nat × Nat)) : List Nat → List (Nat × Nat) × List Nat
  | [] => (seen, [])
  | n :: r =>
    let next := if n = 288 ∧ k ≠ 1 then [] else (onLinks en n).map (·.2)
    let new := next.filter (fun x => !(seen.any (fun p => p.1 == x)))
    let rest := bfsRing en k (seen ++ new.map (fun x => (x, k))) r
    (rest.1, new ++ rest.2)

/-- Hop distances from a node, found ring by ring. -/
def bfs (en : List Nat) : Nat → Nat → List (Nat × Nat) → List Nat → List (Nat × Nat)
  | 0, _, seen, _ => seen
  | fuel + 1, k, seen, front =>
    if front.isEmpty then seen
    else
      let r := bfsRing en k seen front
      bfs en fuel (k + 1) r.1 r.2

/-- Hop distances of the enabled graph from a node (R138). -/
def distances (en : List Nat) (d : Nat) : List (Nat × Nat) := bfs en 289 1 [(d, 0)] [d]

def distOf (t : List (Nat × Nat)) (n : Nat) : Option Nat := (t.find? (fun p => p.1 == n)).map (·.2)

/-- The port of the dimension-ordered neighbour of r towards d (R138). -/
def dimPort (r d : Nat) : Nat :=
  if r = 288 then 1 + d % 16
  else if d = 288 then 4
  else if r % 16 < d % 16 then 1
  else if d % 16 < r % 16 then 2
  else if r / 16 < d / 16 then 3 else 4

/-- The route entry at node r for destination d, given the distances from d (R138). -/
def entryIn (en : List Nat) (t : List (Nat × Nat)) (r d : Nat) : Option Nat :=
  if r = d then some 0
  else
    let cand := (onLinks en r).filter (fun p => (p.2 != 288 || d == 288) &&
      (distOf t p.2).map (· + 1) == distOf t r && (distOf t r).isSome)
    match cand.find? (fun p => p.1 == dimPort r d) with
    | some p => some p.1
    | none => cand.head?.map (·.1)

/-- The route entry at node r for destination d (R138). -/
def routeEntry (en : List Nat) (r d : Nat) : Option Nat := entryIn en (distances en d) r d

/-- The parent of a node in the escape tree, given the distances from node 288 (R139). -/
def escParent (en : List Nat) (t : List (Nat × Nat)) (n : Nat) : Option Nat :=
  (((onLinks en n).map (·.2)).filter (fun x => (distOf t x).map (· + 1) == distOf t n && (distOf t n).isSome)).foldl
    (fun b x => match b with | none => some x | some y => some (min x y)) none

/-- The climb from a node to the root, the node first. -/
def escPath (en : List Nat) (t : List (Nat × Nat)) : Nat → Nat → List Nat
  | 0, n => [n]
  | fuel + 1, n => if n = 288 then [n] else
      match escParent en t n with
      | some p => n :: escPath en t fuel p
      | none => [n]

/-- The element of a list just before another. -/
def justBefore (x : Nat) : List Nat → Option Nat
  | a :: b :: r => if b = x then some a else justBefore x (b :: r)
  | _ => none

/-- The port of a node towards a neighbour. -/
def portTo (n x : Nat) : Option Nat := ((meshLinks n).find? (fun p => p.2 == x)).map (·.1)

/-- The escape entry at node r for destination d (R139). -/
def escapeEntry (en : List Nat) (r d : Nat) : Option Nat :=
  if r = d then some 0
  else
    let t := distances en 288
    let next := match justBefore r (escPath en t 289 d) with
      | some child => some child
      | none => escParent en t r
    next.bind (portTo r)

/-- The enabled set of the table version that an epoch selects (R137, R141). -/
def Mesh.plan (m : Mesh) (epoch : Bool) : List Nat := if epoch then m.plan1 else m.plan0

/-- The port by which a flit leaves the node it stands at (R141, R146). -/
def flitPort (m : Mesh) (f : Flit) : Option Nat :=
  if f.escape then escapeEntry (m.plan f.epoch) f.pos f.dst else routeEntry (m.plan f.epoch) f.pos f.dst

/-- Hops and turns of the table route from a node to d, given the distances from d (R140, R153). -/
def routeWalk (en : List Nat) (t : List (Nat × Nat)) (d : Nat) : Nat → Nat → Option Nat → Nat × Nat
  | 0, _, _ => (0, 0)
  | fuel + 1, r, dir =>
    if r = d then (0, 0)
    else match entryIn en t r d with
      | none => (0, 0)
      | some p =>
        match (meshLinks r).find? (fun q => q.1 == p) with
        | none => (0, 0)
        | some q =>
          let dr := if r = 288 then 3 else p
          let rest := routeWalk en t d fuel q.2 (some dr)
          (rest.1 + 1, rest.2 + (match dir with | some x => b2n (x != dr) | none => 0))

/-! ### Buffers and credits (R135, R143) -/

/-- The key of an input buffer. -/
def bufKey (node port c : Nat) : Nat := node * 64 + port * 3 + c

/-- The flit is at the head of its buffer (R144, R146). -/
def isHead (fs : List Flit) (i : Nat) : Bool :=
  match fs[i]? with
  | none => false
  | some f => !((fs.take i).any (fun g => g.pos == f.pos && g.port == f.port && g.channel == f.channel))

/-- The input port at which a hop arrives (R131). -/
def arrivalPort (from_ port : Nat) : Nat :=
  if from_ = 288 then 4
  else match port with
    | 1 => 2
    | 2 => 1
    | 3 => 4
    | _ => if from_ < 16 then 1 + from_ else 3

/-- One hop of a flit against a credit, if it has one (R143). -/
def hop (m : Mesh) (f : Flit) (p : Nat) : Option (Mesh × Flit) :=
  match (meshLinks f.pos).find? (fun q => q.1 == p) with
  | none => none
  | some q =>
    let inp := arrivalPort f.pos p
    let k := bufKey q.2 inp f.channel
    let u := tabGet m.used k 0
    if chanSlots f.channel ≤ u then none
    else some ({ m with used := tabPut m.used k (u + 1) }, { f with pos := q.2, port := inp })

/-- The direction of a hop, that of node 288 towards row 0 being north (R140). -/
def hopDir (node port : Nat) : Nat := if node = 288 then 3 else port

/-- A buffer passed through in the same cycle holds nothing: its slot is free again. -/
def passSlot (m : Mesh) (f : Flit) : Mesh :=
  let k := bufKey f.pos f.port f.channel
  { m with used := tabPut m.used k (tabGet m.used k 0 - 1) }

/-- A control flit goes on along a straight run through up to four routers, a buffer that it passes staying free
(R145). -/
def express : Nat → Nat → Mesh → Flit → Mesh × Flit
  | 0, _, m, f => (m, f)
  | n + 1, dir, m, f =>
    if f.pos = f.dst then (m, f)
    else match flitPort m f with
      | none => (m, f)
      | some p =>
        if hopDir f.pos p ≠ dir then (m, f)
        else match hop m f p with
          | none => (m, f)
          | some (m', f') => express n dir (passSlot m' f) f'

/-- The list without its element at an index. -/
def dropAt {α : Type} (l : List α) (i : Nat) : List α := l.take i ++ l.drop (i + 1)

/-! ### Arbitration (R47, R48, R144) -/

/-- The flit at the head of an input buffer. -/
def Mesh.head (m : Mesh) (node port c : Nat) : Option Flit :=
  m.flits.find? (fun f => f.pos == node && f.port == port && f.channel == c)

/-- An input port asks for an output of its node on a channel: its head flit leaves there, and has a credit (R144). -/
def Mesh.asks (m : Mesh) (node out c port : Nat) : Bool :=
  match m.head node port c with
  | none => false
  | some f => flitPort m f == some out && (f.pos == f.dst || (hop m f out).isSome)

/-- The input ports that ask for an output on a channel, lowest first (R131, R144). -/
def Mesh.asking (m : Mesh) (node out c : Nat) : List Nat := (List.range 17).filter (m.asks node out c)

/-- A round-robin arbiter grants the first requester at or above its pointer, wrapping at the top (R47). -/
def roundRobin (ptr : Nat) (reqs : List Nat) : Option Nat := (reqs.find? (fun i => ptr ≤ i)).orElse (fun _ => reqs.head?)

/-- The round-robin arbiter of an output of a mesh node on a channel. -/
def arbKey (d node out c : Nat) : Nat := ((d * 289 + node) * 32 + out) * 4 + c

/-- The input port and channel that an output grants next: control before escape before data (R144). -/
def nextGrant (s : State) (d node out : Nat) : Option (Nat × Nat) :=
  ([0, 2, 1].findSome? (fun c =>
    (roundRobin (tabGet s.arb.pointers (arbKey d node out c) 0) ((s.mesh d).asking node out c)).map (fun i => (i, c))))

/-- Mesh cycles that end in the grain under way, at the bin of the mesh panel (R133, R415, log entry 10). -/
def meshCycles (s : State) (d : Nat) : Nat :=
  let f := 12 + (s.panel (d * 512 + 288)).bin
  (s.now + 1) * f / 10 - s.now * f / 10

/-- Grants that an output has made in the grain under way. -/
def grantsNow (s : State) (d node out : Nat) : Nat :=
  let g := tabGet (s.mesh d).grants (node * 32 + out) (0, 0)
  if g.1 = s.now then g.2 else 0

/-- A flit is granted its output: the arbiter names it, and the output has made fewer than four grants a cycle (R144). -/
def mayGo (s : State) (d i : Nat) (f : Flit) : Bool :=
  let m := s.mesh d
  match flitPort m f with
  | none => false
  | some out => isHead m.flits i && nextGrant s d f.pos out == some (f.port, f.channel)
      && decide (grantsNow s d f.pos out < 4 * meshCycles s d)

/-- The grant of a flit is counted, and the arbiter's pointer stands one above it (R47, R144). -/
def noteGrant (d : Nat) (f : Flit) (s : State) : State :=
  match flitPort (s.mesh d) f with
  | none => s
  | some out =>
    let n := grantsNow s d f.pos out + 1
    let now := s.now
    let s := s.modMesh d (fun m => { m with grants := tabPut m.grants (f.pos * 32 + out) (now, n) })
    { s with arb := { s.arb with pointers := tabPut s.arb.pointers (arbKey d f.pos out f.channel) (f.port + 1) } }

/-- Slots of a staging buffer are free again (R149). -/
def freeSlots (d node n : Nat) (s : State) : State :=
  s.modMesh d (fun m => { m with stagingUsed := tabPut m.stagingUsed node (tabGet m.stagingUsed node 0 - n) })

/-- A staged flit that leaves the staging buffer frees its slot (R149). -/
def leaveStaging (d : Nat) (f : Flit) (s : State) : State := if f.port = 5 then freeSlots d f.pos 1 s else s

/-- A granted flit that is not at its destination moves: a control flit by express, others one hop (R143 to R146). -/
def moveFlit (d i : Nat) (f : Flit) (s : State) : State :=
  let m := s.mesh d
  match flitPort m f with
  | none => s
  | some p =>
    match hop m f p with
    | none => s
    | some (m', f') =>
      let r := if f.channel = 0 then express 3 (hopDir f.pos p) m' f' else (m', f')
      leaveStaging d f (s.modMesh d (fun _ => { r.1 with flits := dropAt m.flits i ++ [r.2] }))

/-! ### Multicast and MSEND (R80, R148, R149) -/

/-- Another leg of a node has asked the same member and waits for its grant (R149). -/
def askedBeside (m : Mesh) (l : Leg) : Bool :=
  m.legs.any (fun x => x.msend != l.msend && x.node == l.node && x.asked && x.rest.head? == l.rest.head?)

/-- A leg sends what its grants allow, asks for more if flits wait, and ends with its last granule, the slots granted and
not used then being free again (R149, DEDUCED). The request register has one bit a source, so that a node has one request
outstanding at a member. -/
def sendLeg (d : Nat) (l : Leg) (s : State) : State :=
  match l.rest with
  | [] => s
  | next :: _ =>
    let n := min l.granted l.wait.length
    let isSender := (s.mesh d).msends.any (fun x => x.id == l.msend && x.src == l.node)
    let s := (l.wait.take n).foldl (fun s w =>
      injectFlit d { kind := .data, src := l.node, dst := next, gran := w.1, data := w.2, msend := l.msend,
                     port := if isSender then 0 else 5 } s) s
    let l := { l with wait := l.wait.drop n, granted := l.granted - n, togo := l.togo - n }
    let others := fun (m : Mesh) => m.legs.filter (fun x => !(x.msend == l.msend && x.node == l.node))
    if l.togo = 0 then freeSlots d next l.granted (s.modMesh d (fun m => { m with legs := others m }))
    else
      let ask := l.granted = 0 ∧ !l.asked ∧ !l.wait.isEmpty
      let s := if ask && !askedBeside (s.mesh d) l then injectFlit d { kind := .stagingReq, src := l.node, dst := next, msend := l.msend } s else s
      s.modMesh d (fun m => { m with legs := others m ++ [if ask then { l with asked := true } else l] })

/-- The receiving tillers of an MSEND in increasing logical index, the sender excluded from a row or column
(R80, R148). -/
def msendMembers (s : State) (die src : Nat) (b : Body) : List Nat :=
  let map := tabGet s.cut.logMap die []
  let t := fld b 46 9
  let pick := fun (ok : Nat → Bool) =>
    ((List.range map.length).filter ok).filterMap (fun l => s.physical die l) |>.filter (fun p => p != src)
  match fld b 55 2 with
  | 0 => (s.physical die t).toList
  | 1 => if t < map.length then pick (fun l => l / 16 == t / 16) else []
  | 2 => if t < map.length then pick (fun l => l % 16 == t % 16) else []
  | _ => []

/-- The granules that an MSEND sends, each with its destination granule. -/
def msendData (s : State) (key : Nat) (b : Body) : List (Nat × List (BitVec 8)) :=
  (List.range (fld b 30 16 + 1)).map (fun i => (fld b 15 15 + i, s.lsBytes (lsAddr key (fld b 0 15 + i)) 64))

/-- Granules that each member has still to write. -/
def setLeft (ms : List Nat) (n : Nat) : List (Nat × Nat) := ms.foldl (fun t x => tabPut t x n) []

/-- An MSEND starts: a unicast injects its granules, a multicast its first leg (R80, R149). -/
def startMsend (t : TillerId) (b : Body) (ms : List Nat) (s : State) : State :=
  let d := t.die.val
  let p := t.phys.val
  let id := (s.mesh d).nextId
  let data := msendData s (tKey t) b
  let s := s.modMesh d (fun m => { m with nextId := id + 1, msends := m.msends ++
    [{ id := id, src := p, members := ms, left := setLeft ms data.length, acks := ms.length,
       multi := fld b 55 2 != 0 }] })
  if fld b 55 2 = 0 then
    data.foldl (fun s w => injectFlit d
      { kind := .data, src := p, dst := ms.headD p, gran := w.1, data := w.2, msend := id } s) s
  else
    let legs := (List.range ms.length).map (fun j =>
      ({ msend := id, node := if j = 0 then p else ms.getD (j - 1) p, rest := ms.drop j,
         wait := if j = 0 then data else [], togo := data.length } : Leg))
    let s := s.modMesh d (fun m => { m with legs := m.legs ++ legs })
    match legs with
    | l :: _ => sendLeg d l s
    | [] => s

/-- MSEND: send local-store granules over the mesh to one tiller, or to a logical row or column (R80, R148, R149). -/
def execMsend (t : TillerId) (body : Body) (s : State) : Host.Outcome State Fault Refusal :=
  let e := tEng t
  let ms := msendMembers s t.die.val t.phys.val body
  .next (if (flightOf (s.engine e) 3 (isStep 0x40 body)).isSome
      && !((s.mesh t.die.val).msends.any (fun x => x.src == t.phys.val)) && !ms.isEmpty then
    startMsend t body ms s
  else s)

/-- The last byte of an MSEND has been written at a member: it acknowledges (R149). -/
def memberWrote (d node id : Nat) (s : State) : State :=
  match (s.mesh d).msends.find? (fun x => x.id == id) with
  | none => s
  | some x =>
    let n := (tabGet x.left node 0) - 1
    let upd := modFirst (fun (y : Msend) => y.id == id) (fun y => { y with left := tabPut y.left node n })
    let s := s.modMesh d (fun m => { m with msends := upd m.msends })
    if n = 0 then injectFlit d { kind := .ack, src := node, dst := x.src, msend := id } s else s

/-- A data flit is consumed: its granule is written, and a member that forwards stages it on its leg (R136, R149). -/
def consumeData (d : Nat) (f : Flit) (s : State) : State :=
  let s := s.lsStore (lsAddr (d * 288 + f.dst) f.gran) f.data
  let multi := (s.mesh d).msends.any (fun x => x.id == f.msend && x.multi)
  let s := memberWrote d f.dst f.msend s
  match (s.mesh d).legs.find? (fun l => l.msend == f.msend && l.node == f.dst) with
  | some l => sendLeg d { l with wait := l.wait ++ [(f.gran, f.data)] } s
  | none => if multi then freeSlots d f.dst 1 s else s

/-- An acknowledgement reaches the sender; the last one completes the step's effect (R55, R149). -/
def consumeAck (d : Nat) (f : Flit) (s : State) : State :=
  match (s.mesh d).msends.find? (fun x => x.id == f.msend) with
  | none => s
  | some x =>
    if x.acks ≤ 1 then
      let s := s.modMesh d (fun m => { m with msends := m.msends.filter (fun y => y.id != f.msend) })
      modFlight (0x1000 + d * 512 + x.src) 3 (fun _ => true) (fun g => { g with done := true }) s
    else
      let upd := modFirst (fun (y : Msend) => y.id == f.msend) (fun y => { y with acks := y.acks - 1 })
      s.modMesh d (fun m => { m with msends := upd m.msends })

/-- A step is placed among those that have arrived early, in order of index. -/
def insStep (q : QStep) (l : List QStep) : List QStep :=
  l.filter (fun x => x.idx < q.idx) ++ [q] ++ l.filter (fun x => q.idx < x.idx)

/-- Steps that are next in order join a queue; the others wait for those before them (R237). -/
def joinSteps (g : Engine) (l : List QStep) : Engine :=
  l.foldl (fun g x =>
    if x.idx = g.filled then { g with queue := g.queue ++ [x], filled := g.filled + 1 }
    else { g with early := g.early ++ [x] }) { g with early := [] }

/-- A step fetched for a queue joins it in step order, even where a diverted fill has been overtaken; a queue that was
empty when its head fell due delays it (R43, R146, R237). -/
def fillQueue (e : Nat) (q : QStep) (s : State) : State :=
  let g := s.engine e
  let late := g.queue.isEmpty && decide (s.dueGrain q.sheaf (stOffset q.word) < s.now) && s.cut.state == .running
  if q.idx < g.filled then s
  else s.setEngine e { joinSteps g (insStep q g.early) with ranEmpty := if g.queue.isEmpty then late else g.ranEmpty }

/-- A grant gives a node's leg sixteen slots at its next member. The spec does not say which of several legs that asked the
same member is served: here the first in the node's list, and the next then asks (R149, log entry 53). -/
def consumeGrant (d : Nat) (f : Flit) (s : State) : State :=
  let mine := fun (l : Leg) => l.node == f.dst && l.asked && l.rest.head? == some f.src
  match (s.mesh d).legs.find? mine with
  | some l =>
    let s := sendLeg d { l with granted := l.granted + 16, asked := false } s
    match (s.mesh d).legs.find? (fun x => mine x && x.msend != l.msend) with
    | some x => injectFlit d { kind := .stagingReq, src := x.node, dst := f.src, msend := x.msend } s
    | none => s
  | none => freeSlots d f.src 16 s

/-- A flit is consumed at its destination without condition (R136). -/
def consumeFlit (d : Nat) (f : Flit) (s : State) : State :=
  match f.kind with
  | .data => consumeData d f s
  | .post => applyPost f.post s
  | .ack => consumeAck d f s
  | .stagingReq => s.modMesh d (fun m => { m with
      stagingReq := tabPut m.stagingReq f.dst (setIns (tabGet m.stagingReq f.dst []) f.src) })
  | .grant => consumeGrant d f s
  | .barrier =>
    if barScope (stBody f.step.word) = 0 then s
    else sendWord (barrierWord (0x1000 + d * 512 + f.src) (stBody f.step.word)) s
  | .fill => fillQueue (0x1000 + d * 512 + f.dst) f.step s

/-- A flit that its output's arbiter names is granted: it moves, or at its destination it crosses to the tiller or the die
sequencer and is consumed (R47, R136, R143 to R145, R420). -/
def serveFlit (d i : Nat) (p : Flit → Bool) (s : State) : State :=
  let fs := (s.mesh d).flits
  match fs[i]? with
  | none => s
  | some f =>
    if !p f || !mayGo s d i f then s
    else
      let s := noteGrant d f s
      if f.pos = f.dst then
        consumeFlit d f (throughCross 1 (nodePlace d f.pos) 1 (s.modMesh d (fun m => { m with flits := dropAt m.flits i })))
      else moveFlit d i f s

/-- MESH_CONTROL_FLIT: a control flit is granted; at its destination node it is consumed (R136, R141, R144, R145). -/
def execMeshControlFlit (die : Fin 8) (flit : Nat) (s : State) : Host.Outcome State Fault Refusal :=
  .next (serveFlit die.val flit (fun f => f.kind != .data) s)

/-- MESH_DATA_FLIT: a data flit is granted; at its destination a mesh-in port or a staging slot takes it (R136, R149). -/
def execMeshDataFlit (die : Fin 8) (flit : Nat) (s : State) : Host.Outcome State Fault Refusal :=
  .next (serveFlit die.val flit (fun f => f.kind == .data) s)

/-- MESH_CREDIT_RETURN: the credit of a slot that a flit has left returns to the upstream node (R143). -/
def execMeshCreditReturn (die : Fin 8) (node : Fin 289) (port : Fin 17) (channel : Fin 3) (s : State) :
    Host.Outcome State Fault Refusal :=
  let m := s.mesh die.val
  let k := bufKey node.val port.val channel.val
  .next (if m.held node.val port.val channel.val < tabGet m.used k 0 then
    s.modMesh die.val (fun m => { m with used := tabPut m.used k (tabGet m.used k 0 - 1) })
  else s)

/-- FLIT_DIVERT: a head flit that has waited 32 mesh cycles moves to the escape channel of its input port once that
has a free slot. The spec gives the staging buffer no escape channel: here its flits are diverted into one of its own
(R146, log entry 53). -/
def execFlitDivert (die : Fin 8) (flit : Nat) (s : State) : Host.Outcome State Fault Refusal :=
  let m := s.mesh die.val
  match m.flits[flit]? with
  | none => .next s
  | some f =>
    let k := bufKey f.pos f.port 2
    .next (if !f.escape && decide (f.port < inFifo) && isHead m.flits flit && decide (tabGet m.used k 0 < chanSlots 2) then
      leaveStaging die.val f (s.modMesh die.val (fun m => { m with
        flits := dropAt m.flits flit ++ [{ f with escape := true }],
        used := tabPut m.used k (tabGet m.used k 0 + 1),
        divert := satAdd m.divert 1 0xFFFFFFFF }))
    else s)

/-- STAGING_GRANT: a member with 16 free slots grants them to the lowest requesting source (R149). -/
def execStagingGrant (die : Fin 8) (node : Fin 289) (s : State) : Host.Outcome State Fault Refusal :=
  let m := s.mesh die.val
  let u := tabGet m.stagingUsed node.val 0
  match tabGet m.stagingReq node.val [] with
  | [] => .next s
  | src :: rest =>
    .next (if u + 16 ≤ 32 then
      injectFlit die.val { kind := .grant, src := node.val, dst := src }
        (s.modMesh die.val (fun m => { m with stagingReq := tabPut m.stagingReq node.val rest,
                                              stagingUsed := tabPut m.stagingUsed node.val (u + 16) }))
    else s)

/-! ### Epoch flips (R142) -/

/-- Old-epoch flits in the die, MESH.DRAIN (R142, R153). -/
def Mesh.drain (m : Mesh) : Nat := (m.flits.filter (fun f => f.epoch != m.epoch)).length

/-- MESH_FLIP_REQUEST: the die sequencer writes the new tables into the version not in use and requests the flip
(R137, R142). -/
def execMeshFlipRequest (die : Fin 8) (s : State) : Host.Outcome State Fault Refusal :=
  let m := s.mesh die.val
  let en := (s.dieFloor die.val).enabled
  .next (if m.flipPending then s
  else s.modMesh die.val (fun m =>
    if m.epoch then { m with plan0 := en, request := some s.now, flipPending := true }
    else { m with plan1 := en, request := some s.now, flipPending := true }))

/-- MESH_EPOCH_FLIP: at the fleet sheaf boundary after the request every node changes its injection epoch (R142). -/
def execMeshEpochFlip (die : Fin 8) (s : State) : Host.Outcome State Fault Refusal :=
  match (s.mesh die.val).request with
  | none => .next s
  | some g =>
    .next (if s.atBoundary && decide (g < s.now) then
      s.modMesh die.val (fun m => { m with epoch := !m.epoch, request := none, flippedAt := some s.now, timedOut := false })
    else s)

/-- MESH_DRAIN_ZERO: no old-epoch flit is left; disabled routers power down, and a new flip may be requested (R142). -/
def execMeshDrainZero (die : Fin 8) (s : State) : Host.Outcome State Fault Refusal :=
  let m := s.mesh die.val
  .next (if m.flippedAt.isSome && m.drain == 0 then
    s.modMesh die.val (fun m => { m with flipPending := false, flippedAt := none,
                                         powered := (s.dieFloor die.val).enabled })
  else s)

/-- MESH_DRAIN_TIMEOUT: the count is not 0 within 100 microseconds of the boundary; the run halts (R142, R526). -/
def execMeshDrainTimeout (die : Fin 8) (s : State) : Host.Outcome State Fault Refusal :=
  let m := s.mesh die.val
  match m.flippedAt with
  | none => .next s
  | some g =>
    .next (if m.drain ≠ 0 ∧ g + 100000 ≤ s.now ∧ !m.timedOut then
      haltRun 3 die.val (raise 0x0301 0 die.val (min m.drain 0xFFFF) 0 0
        (s.modMesh die.val (fun m => { m with drainTimeout := true, timedOut := true })))
    else s)

end Sys2Proof.Machine
end

