-- ==== Sys2Proof/Machine/Ready.lean ====
section
/-! DEFINITION. The ready state and the conditions it rests on (R264, R467, R468, R472), and the parameter words that its
events carry. -/

namespace Sys2Proof.Machine

/-- Number of set bits among the `n` low bits. -/
def popcount (n v : Nat) : Nat := (setBits n v).length

/-- Logical rails that are ACTIVE at full width, ACTIVE narrow, and down (R264). -/
def State.railCounts (s : State) : Nat × Nat × Nat :=
  let w := (List.range 24).map (fun l => (s.activeRail l).map (fun r => (s.rail r).width))
  let full := (w.filter (fun x => x == some 32)).length
  let down := (w.filter (fun x => x == none)).length
  (full, 24 - full - down, down)

/-- A logical rail that is narrow or down while a collective step is in progress is recorded (R356, R360). -/
def noteNarrow (s : State) : State :=
  if s.railCounts.1 < 24 ∧ s.col.engs.any (fun p => p.2.job.isSome) then
    { s with repro := { s.repro with narrow := true } } else s

/-- The pairs of combs that feed each site, by the lower comb (R274). -/
def combPairs : List (Nat × Nat) := [(0, 2), (1, 3), (4, 5), (6, 7)]

def State.comb (s : State) (c : Nat) : Comb := tabGet s.opt.combs c {}
def State.combFailed (s : State) (c : Nat) : Bool := (s.comb c).state == 3

/-- OPT.COMB (R297). -/
def combWord (s : State) (c : Nat) : Nat :=
  let k := s.comb c
  k.state % 4 + b2n (decide (4 ≤ c)) * 4 + b2n k.boost * 8 + k.power % 256 * 2 ^ 4 + k.temp % 256 * 2 ^ 12

/-- CFG.STATE (R472). -/
def cfgState (s : State) : Nat :=
  let r := s.rst
  r.state % 16 + r.step % 16 * 2 ^ 4 + b2n r.belowGrade * 2 ^ 8 + b2n r.railsShort * 2 ^ 9 + b2n r.yuleyShort * 2 ^ 10
    + b2n r.timeUnlocked * 2 ^ 11 + b2n r.combSingle * 2 ^ 12 + b2n r.hbmFailed * 2 ^ 13 + b2n r.dieFault * 2 ^ 14
    + b2n r.procHalted * 2 ^ 15 + r.failStep % 16 * 2 ^ 16

/-- A die with fewer than 256 enabled tillers (R24). -/
def belowGrade (f : DieFloor) : Bool := f.belowGrade

/-- The conditions of the ready state as they stand (R467, R468). -/
def readyFlags (s : State) : Rst :=
  { s.rst with
    belowGrade := (List.range 8).any (fun d => (s.dieFloor d).belowGrade)
    railsShort := decide (s.railCounts.1 < 22)
    yuleyShort := !(s.portActive 0 && s.portActive 1)
    timeUnlocked := s.time.st != .locked
    combSingle := combPairs.any (fun p => s.combFailed p.1 != s.combFailed p.2)
    hbmFailed := s.hbm.mstacks.any (fun p => p.2.state == 3)
    dieFault := s.floor.any (fun p => p.2.fault)
    procHalted := s.procs.any (fun p => p.2.state == 6 && (p.1 == 3 || p.1 == 4 || p.1 == 5 || decide (8 ≤ p.1))) }

/-- The ready state that the conditions give: 4 ready-full, 5 ready-degraded, 6 failed (R468). -/
def readyCode (r : Rst) : Nat :=
  if r.hbmFailed || r.dieFault || r.procHalted then 6
  else if r.belowGrade || r.railsShort || r.yuleyShort || r.timeUnlocked || r.combSingle then 5 else 4

/-- The ready state has been reported (R468). -/
def State.reported (s : State) : Bool := s.rst.state == 4 || s.rst.state == 5 || s.rst.state == 6

/-- The ready state is evaluated; a change of it raises READY_CHANGE (R468). -/
def setReady (s : State) : State :=
  let before := cfgState s
  let old := s.rst.state
  let r := readyFlags s
  let s := { s with rst := { r with state := readyCode r, step := 0 } }
  if s.rst.state = old then s else raise 0x0B05 0 before (cfgState s) 0 0 s

/-- The ready state is evaluated again in service, once a bring-up has built a floor plan; a bring-up that stopped before
stays failed (R461, R468). -/
def evalReady (s : State) : State := if s.reported && s.rst.built then setReady s else s

end Sys2Proof.Machine
end

