-- ==== Sys2Proof/Machine/Packet.lean ====
section
/-! DEFINITION. Packets of the rails: the rail header, the rail map, transmit queues and credit, frames dealt and
returned, and what takes a rail or a Yuley port down (R250 to R268, R313, R373). -/

namespace Sys2Proof.Machine

/-! ### The rail header (R250) -/

/-- Slot 0 of a packet. -/
def Packet.head (p : Packet) : Nat := ((p.slots[0]?).getD 0).toNat

def Packet.fld (p : Packet) (lo len : Nat) : Nat := bits p.head lo len
def Packet.cls (p : Packet) : Nat := p.fld 0 4
def Packet.vc (p : Packet) : Nat := p.fld 4 2
def Packet.epoch (p : Packet) : Bool := bit p.head 6
def Packet.dst (p : Packet) : Nat := p.fld 8 12
def Packet.src (p : Packet) : Nat := p.fld 20 12
def Packet.cmark (p : Packet) : Bool := bit p.head 35
def Packet.hops (p : Packet) : Nat := p.fld 36 3
def Packet.flow (p : Packet) : Nat := p.fld 40 8

/-- Payload bytes of a packet from slot 1 on, `n` of them. -/
def Packet.data (p : Packet) (n : Nat) : List (BitVec 8) :=
  (p.slots.drop 1).flatMap (fun x => toBytes 64 x.toNat) |>.take n

/-- The header is valid: class, channel and reserved fields (R250, R251). -/
def Packet.valid (p : Packet) : Bool :=
  decide (1 ≤ p.cls ∧ p.cls ≤ 3) && (p.vc == p.cls - 1 || p.vc == 3)
    && !bit p.head 7 && !bit p.head 39 && p.fld 48 16 == 0

/-- The packet on another virtual channel (R266). -/
def Packet.onChannel (p : Packet) (v : Nat) : Packet :=
  match p.slots with
  | [] => p
  | h :: r => { p with slots := BitVec.ofNat 512 (h.toNat - p.vc * 16 + v % 4 * 16) :: r }

/-- Bytes as 64-byte slots, padded with zeros. -/
def toSlots (b : List (BitVec 8)) : List (BitVec 512) :=
  (List.range (cdiv b.length 64)).map (fun i => BitVec.ofNat 512 (ofBytes ((b.drop (64 * i)).take 64)))

/-- A packet of the module: header fields, class header and data (R250). -/
def makePacket (s : State) (cls dst flow cheader : Nat) (epoch : Bool) (d : List (BitVec 8)) : Packet :=
  let body := toSlots d
  let h := cls + (cls - 1) * 2 ^ 4 + b2n epoch * 2 ^ 6 + dst % 4096 * 2 ^ 8 + s.fab.module % 4096 * 2 ^ 20
    + body.length % 8 * 2 ^ 32 + flow % 256 * 2 ^ 40
  { slots := BitVec.ofNat 512 (h + cheader * 2 ^ 64) :: body }

/-- The slots of a frame as packets; a slot of zeros carries none, and a packet that would pass the frame's end ends the
frame (R250). -/
def framePackets : Nat → List (BitVec 512) → List Packet
  | 0, _ => []
  | _, [] => []
  | n + 1, h :: r =>
    if h = 0 then framePackets n r
    else
      let k := bits h.toNat 32 3
      if k ≤ r.length then { slots := h :: r.take k } :: framePackets n (r.drop k) else [{ slots := [] }]

/-! ### The rail map (R265) -/

/-- Mask and escape rail of a destination in a map version; an entry that nothing has written holds its baseline
(R272, R458). -/
def railEntry (s : State) (version : Bool) (dst : Nat) : Nat × Nat :=
  match tabFind s.railTop.map (b2n version * 4096 + dst) with
  | some e => (bits e.toNat 0 24, bits e.toNat 24 5)
  | none => (0xFFFFFF, 0)

/-- U for a destination: the rails of its mask that had an ACTIVE physical rail at the last boundary (R265). -/
def railsFor (s : State) (version : Bool) (dst : Nat) : List Nat :=
  (List.range 24).filter (fun l => s.railTop.formed.contains l && (railEntry s version dst).1.testBit l)

/-- The set of logical rails with an ACTIVE physical rail, from which U is formed (R265, R268). -/
def formRails (s : State) : State :=
  { s with railTop := { s.railTop with formed := (List.range 24).filter (fun l => (s.activeRail l).isSome) } }

/-- What a sender finds for a packet: a physical rail, a wait for the next boundary, or no way (R264, R265). -/
inductive Way where
  | rail (r : Nat)
  | wait
  | none
deriving DecidableEq, Repr

/-- The rail of a packet, with the index into U that its class gives, or its preferred logical rail (R265, R313, R333). -/
def chooseRail (s : State) (version : Bool) (dst index : Nat) (home : Option Nat) : Way :=
  let u := railsFor s version dst
  let pick := match home with
    | some h => if u.contains h then some h else u[index % u.length]?
    | none => u[index % u.length]?
  match pick with
  | some l => (match s.activeRail l with | some r => .rail r | none => .wait)
  | none => (match s.activeRail (railEntry s version dst).2 with | some r => .rail r | none => .none)

/-! ### Transmit queues, credit and frames (R252 to R255) -/

/-- Slots that a channel of a rail may still send (R255). -/
def Rail.credit (r : Rail) (v : Nat) : Nat :=
  tabGet r.limits v 0 - (tabGet r.sentSlots v 0 + 2 ^ 32 - tabGet r.freed v 0) % 2 ^ 32

/-- The next data lane in rotation after a lane (R252). -/
def Rail.nextLane (r : Rail) (after : Nat) : Nat :=
  match r.dealt.find? (fun c => decide (after < c)) with
  | some c => c
  | none => r.dealt.headD 0

/-- A packet goes out in a data frame of its own on the next lane (R252, R253). -/
def dealFrame (p : Packet) (r : Rail) : Rail :=
  let lane := r.nextLane r.txLane
  { r with txSeq := (r.txSeq + 1) % 65536, txLane := lane
           replay := r.replay ++ [{ seq := r.txSeq, packets := [p], lane := lane }]
           sentSlots := tabPut r.sentSlots p.vc ((tabGet r.sentSlots p.vc 0 + p.slots.length) % 2 ^ 32) }

/-- A data frame of the replay buffer goes on the line of its lane (R248, R253). -/
def Rail.putFrame (x : Rail) (f : TxFrame) : Rail :=
  { x with tx := tabMod x.tx f.lane {} (LaneTx.put 1 f.lane f.seq (framePayloadOf f.packets)) }

/-- A queue in order: each channel's head goes out while its slots fit the credit and the replay buffer has room; a head
that lacks credit keeps the grain since which it does (R253, R255, R266). Answers what stays, the rail, and the packets
sent. -/
def dealQueue (now : Nat) : List (Packet × Option Nat) → List Nat → List (Packet × Option Nat) → Rail → List Packet →
    List (Packet × Option Nat) × Rail × List Packet
  | [], _, left, r, sent => (left, r, sent)
  | (p, g) :: rest, blocked, left, r, sent =>
    if p.vc ∈ blocked then dealQueue now rest blocked (left ++ [(p, none)]) r sent
    else if p.slots.length ≤ r.credit p.vc ∧ r.replay.length < 2048 then
      let r := dealFrame p r
      dealQueue now rest blocked left (r.putFrame (r.replay.getLastD {})) (sent ++ [p])
    else
      let g := if p.slots.length ≤ r.credit p.vc then none else some (g.getD now)
      dealQueue now rest (p.vc :: blocked) (left ++ [(p, g)]) r sent

/-- An ACTIVE rail sends what its reserved buffer, its queue, credit and replay buffer allow (R253, R255, R266). -/
def pump (r : Nat) (s : State) : State :=
  let x := s.rail r
  if x.state = 5 then
    let y := dealQueue s.now x.escape [] [] x []
    let z := dealQueue s.now x.queue [] [] y.2.1 y.2.2
    let s := s.modRail r (fun _ => { z.2.1 with queue := z.1, escape := y.1 })
    { s with railTop := { s.railTop with frames := s.railTop.frames ++ z.2.2.map (fun p => (r, p)) } }
  else s

/-- A packet joins the transmit queue of a physical rail (R266). -/
def sendOn (r : Nat) (p : Packet) (s : State) : State :=
  pump r (s.modRail r (fun x => { x with queue := x.queue ++ [(p, none)] }))

/-! ### The rings of the edge (R302, R333) -/

/-- Place of a rail site on the rings: L00 to L12, then L25 down to L13; clockwise is this order (R302, log entry 59). -/
def ringPos (r : Nat) : Nat := if r ≤ 12 then r else 38 - r

/-- The site at a place of the rings. -/
def ringSite (p : Nat) : Nat := if p ≤ 12 then p else 38 - p

/-- A packet waits at a site for injection into a ring, the shorter way round, or clockwise where both are as long (R302). -/
def onBus (site dst : Nat) (col out : Bool) (p : Packet) (s : State) : State :=
  let d := (ringPos dst + 26 - ringPos site) % 26
  let x : BusPkt := { stop := ringPos site, dst := dst, fwd := decide (d ≤ 13), col := col, out := out, pkt := p }
  { s with railTop := { s.railTop with bus := s.railTop.bus ++ [x] } }

/-- A packet of an engine at a site goes out on a rail, over a ring where that is another site's (R302, R333). -/
def sendFrom (site r : Nat) (col : Bool) (p : Packet) (s : State) : State :=
  if site = r then sendOn r p s else onBus site r col true p s

/-- A response or an ack is sent: on the rail it answers while that is ACTIVE, otherwise on its choice among U, and it
waits while that has none; one to the module itself never leaves (R300, R313, R333, R342). -/
def sendBack (r : Nat) (p : Packet) (s : State) : State :=
  if p.dst = s.fab.module ∧ p.cls = 2 then
    { s with railTop := { s.railTop with arrived := s.railTop.arrived ++ [(26, p)] } }
  else if p.cls = 2 ∧ (s.rail r).state = 5 then sendOn r { p with via := r } s
  else
    let home := if p.cls = 3 then (if p.flow < 12 then some p.flow
      else if p.flow = 12 ∨ p.flow = 25 then none else some (p.flow - 1)) else none
    match chooseRail s p.epoch p.dst (p.dst + p.flow) home with
    | .rail q => if p.cls = 3 then sendFrom p.flow q true { p with via := r } s else sendOn q { p with via := r } s
    | _ => { s with railTop := { s.railTop with waiting := s.railTop.waiting ++ [(r, p)] } }

/-- Slots that the reserved response buffer of a rail site holds (R266). -/
def Rail.escapeUsed (x : Rail) : Nat := (x.escape.map (fun p => p.1.slots.length)).sum

/-- A response that is owed to an escape request is held in the reserved buffer of its rail site and sent on the escape
channel; it waits where the buffer is full or the rail is not ACTIVE (R266, log entry 58). -/
def sendEscape (r : Nat) (p : Packet) (s : State) : State :=
  let x := s.rail r
  if p.dst ≠ s.fab.module ∧ x.state = 5 ∧ x.escapeUsed + p.slots.length ≤ 512 then
    pump r (s.modRail r (fun x => { x with escape := x.escape ++ [({ p with via := r }, none)] }))
  else if p.dst ≠ s.fab.module ∧ x.state = 5 then
    { s with railTop := { s.railTop with waiting := s.railTop.waiting ++ [(r, p)] } }
  else sendBack r p s

/-- What waits for a rail is tried again, at a boundary (R263, R264). -/
def sendWaiting (s : State) : State :=
  let l := s.railTop.waiting
  l.foldl (fun s x => if x.2.cls = 2 ∧ x.2.vc = 3 then sendEscape x.1 x.2 s else sendBack x.1 x.2 s) { s with railTop := { s.railTop with waiting := [] } }

/-! ### Packets returned undelivered (R263) -/

/-- Sequence number of a request or response packet (R312, R313). -/
def Packet.seq (p : Packet) : Nat := p.fld 80 24

/-- A packet is returned to its sending engine: a request and a collective data packet wait for their resend, a response
or an ack is sent again and is not counted again (R263, R320, R321, R342). -/
def returnPacket (s : State) (p : Packet) : State :=
  if p.cls = 1 then
    let s := s.modFab p.flow (fun e => { e with out := e.out.map (fun o =>
      if o.dest = p.dst ∧ o.seq = p.seq then { o with unsent := true, busyAt := none } else o) })
    { s with fab := { s.fab with undelivered := satAdd s.fab.undelivered 1 0xFFFF } }
  else if p.cls = 3 ∧ p.fld 64 4 = 1 then
    let mine := fun (c : ColPkt) => tabGet s.col.peers c.dest c.dest == p.dst && c.phase == p.fld 99 1
      && c.share == p.fld 100 10 && c.index == p.fld 128 18
    let back := fun (j : ColJob) =>
      if bits j.body.toNat 44 16 = p.fld 83 16 then
        { j with resent := true, unacked := j.unacked.map (fun c => if mine c then { c with undelivered := true } else c) }
      else j
    s.modCol p.flow (fun e => { e with job := e.job.map back })
  else { s with railTop := { s.railTop with waiting := s.railTop.waiting ++ [(p.via, { p with again := true })] } }

/-! ### Rails and ports going down (R259, R262, R263, R373) -/

/-- RAIL.STATE (R271). -/
def railWord (r : Rail) : Nat :=
  r.state % 8 + (r.logical.getD 0x1F) % 32 * 2 ^ 3 + (if r.state = 5 ∨ r.state = 6 then r.width else 0) * 2 ^ 8
    + b2n r.controlOk * 2 ^ 14 + r.attempts % 4 * 2 ^ 15

/-- A rail's link state starts again: sequences, buffers, credit and lane counts (R252, R255, R262). -/
def Rail.fresh (r : Rail) : Rail :=
  { r with txSeq := 0, replay := [], rxNext := 0, rxRejects := [], reorder := [], naks := [], sentSlots := [],
           freed := [], limits := [], rxFreed := [], queue := [], laneRej := [], laneUnc := [], suspended := [],
           trainMask := 0, txLane := 31, parked := 0, lanes := 0, controlOk := false, logical := none, late := [],
           escape := [], rxWaves := 0, rx := [], tx := [], rxWords := [], rxTaken := [], ctlWait := [], ctlCount := 0 }

/-- Rotation and the recovery of rings stop on both fibres of a rail (R293). -/
def stopFibres (r : Nat) (s : State) : State :=
  let stop := fun (f : FibreMap) =>
    { f with rotating := false, moving := none, requal := none, recovering := none, reports := [], mismatch := [] }
  let calm := fun (p : Nat × Ring) =>
    if p.1 / 128 = 2 ^ 14 + 2 ^ 11 + r then (p.1, { p.2 with slipped := none }) else p
  let s := (s.modFibre (2 * r) stop).modFibre (2 * r + 1) stop
  { s with opt := { s.opt with rings := s.opt.rings.map calm } }

/-- A rail site is in block reset, from the start of the quiesce until it is ready; and it is held: its reset is
asserted, or its power domain has failed (R432, R450, R451). -/
def State.railBlocked (s : State) (r : Nat) : Bool := s.rst.blocks.any (fun b => b.kind == 4 && b.index == r)
def State.railHeld (s : State) (r : Nat) : Bool :=
  s.pwr.regFaults.contains (3, 0x40 + r) || s.rst.blocks.any (fun b => b.kind == 4 && b.index == r && b.phase != 0 && decide (s.now < b.since))

/-- A rail goes DOWN for a reason of R536: RAIL_DOWN for an ACTIVE rail, and what no acknowledgement covers is returned
(R262, R263). A rail that trains, or has failed, goes to the state given. -/
def railFalls (r reason state : Nat) (s : State) : State :=
  let x := s.rail r
  let back := x.replay.flatMap (·.packets) ++ x.escape.map (·.1) ++ x.queue.map (·.1)
  let s := s.modRail r (fun x => { x.fresh with state := state, stateSince := s.now, attempts := 0 })
  let s := stopFibres r s
  let s := if x.state = 5 then raise 0x0604 0 r (railWord (s.rail r)) reason 0 s else s
  let s := back.foldl returnPacket s
  if x.state = 5 then noteNarrow s else s

/-- A rail goes DOWN, and the ready state is evaluated where it was ACTIVE (R262, R468). -/
def railDown (r reason state : Nat) (s : State) : State :=
  let was := (s.rail r).state
  let s := railFalls r reason state s
  if was = 5 then evalReady s else s

/-- The rail carries on with fewer lanes, or goes DOWN below 16 (R262, R290). -/
def checkWidth (r : Nat) (s : State) : State :=
  let x := s.rail r
  if (x.state = 5 ∨ x.state = 6) ∧ x.width < 16 then railDown r 0 0 s
  else if x.state = 5 then evalReady (noteNarrow s) else s

/-- The steps of this module whose packets a frame carries that is sent again take retry (R254). -/
def noteRetry (s : State) (p : Packet) : State :=
  if p.cls = 3 ∧ p.fld 64 4 = 1 then
    s.modCol p.flow (fun e => { e with job := e.job.map (fun j => { j with resent := true }) })
  else s

/-- A frame of the replay buffer is sent again, with the same fseq, on the next lane in rotation after its last (R253, R254,
R271). -/
def sendAgain (r : Nat) (f : TxFrame) (s : State) : State :=
  let again := { f with lane := (s.rail r).nextLane f.lane }
  let s := s.modRail r (fun x =>
    { x with resent := satAdd x.resent 1 0xFFFF, replay := modFirst (fun g => g.seq == f.seq) (fun _ => again) x.replay }.putFrame again)
  let s := { s with railTop := { s.railTop with frames := s.railTop.frames ++ f.packets.map (fun p => (r, p)) } }
  f.packets.foldl noteRetry s

/-- A lane is parked in service: RAIL_LANE_PARKED, its frame in flight is resent on another lane, and the rail runs
narrow (R262). -/
def parkLane (r lane : Nat) (s : State) : State :=
  let x := s.rail r
  if (x.state = 5 ∨ x.state = 6) ∧ x.dealt.contains lane then
    let s := s.modRail r (fun x => { x with parked := x.parked ||| BitVec.ofNat 32 (2 ^ lane) })
    let s := match (x.replay.filter (fun f => f.lane == lane)).getLast? with
      | some f => sendAgain r f s
      | none => s
    checkWidth r (raise 0x0603 0 r (railWord (s.rail r)) 0 0 s)
  else s

/-- A Yuley port goes DOWN, or into the state given (R373). -/
def portFalls (p state : Nat) (s : State) : State :=
  s.modPort p (fun x => { x with state := state, lanes := 0, rxWaves := 0, rx := [], tx := [], laneRej := [], rxNext := 0, reorder := [],
                                 naks := [], asks := [], slots := [], attempts := 0, stateSince := s.now,
                                 txSeq := 0, txSlots := [], replay := [] })

/-- A Yuley port goes DOWN, and the ready state is evaluated (R373, R468). -/
def portDown (p state : Nat) (s : State) : State := evalReady (portFalls p state s)

end Sys2Proof.Machine
end

