-- ==== Sys2Proof/Machine/Bus.lean ====
section
/-! DEFINITION. The edge ring and the collective ring, over which packets move between an engine's site and the rail site that
sends or receives them (R302, R333). -/

namespace Sys2Proof.Machine

/-- The stop after a stop. -/
def nextStop (x : BusPkt) : Nat := (x.stop + (if x.fwd then 1 else 25)) % 26

/-- A packet leaves a ring at its site: for the rail there, or for an engine. A rail that has gone DOWN meanwhile takes none:
the packet is returned, and an ack waits (R263, R264, R302). -/
def leaveBus (s : State) (x : BusPkt) : State :=
  if !x.out then { s with railTop := { s.railTop with arrived := s.railTop.arrived ++ [(x.dst, { x.pkt with rung := true })] } }
  else if (s.rail x.dst).state = 5 then sendOn x.dst x.pkt s
  else if x.pkt.cls = 3 ∧ x.pkt.fld 64 4 = 2 then
    { s with railTop := { s.railTop with waiting := s.railTop.waiting ++ [(x.pkt.via, x.pkt)] } }
  else returnPacket s x.pkt

/-- A grain of a packet between two stops (R302). -/
def moveBus (x : BusPkt) : BusPkt :=
  if x.left = 0 then x
  else if x.left = 1 then { x with left := 0, stop := nextStop x, through := true }
  else { x with left := x.left - 1 }

/-- The arbiter of a stop in a direction of a ring (R47, R302). -/
def busKey (col fwd : Bool) (stop : Nat) : Nat := 2 ^ 30 + (b2n col * 2 + b2n fwd) * 32 + stop

/-- A packet waits at a stop, as through-traffic or for injection. -/
def waitsAt (col fwd : Bool) (stop : Nat) (through : Bool) (x : BusPkt) : Bool :=
  x.left == 0 && x.stop == stop && x.col == col && x.fwd == fwd && x.through == through

/-- The grants of a stop in one grain, in round-robin order between through-traffic (0) and injection (1): a direction carries
2,000 bytes a grain, 31 slots (R47, R302). -/
def grantStop (col fwd : Bool) (stop : Nat) : Nat → Nat → State → State
  | 0, _, s => s
  | n + 1, room, s =>
    let l := s.railTop.bus
    let asks := (if l.any (waitsAt col fwd stop true) then [0] else []) ++ (if l.any (waitsAt col fwd stop false) then [1] else [])
    match roundRobin (tabGet s.arb.pointers (busKey col fwd stop) 0) asks with
    | none => s
    | some i =>
      let mine := waitsAt col fwd stop (i == 0)
      let size := ((l.find? mine).map (fun x => x.pkt.slots.length)).getD 0
      if room < size then s
      else grantStop col fwd stop n (room - size)
        { s with railTop := { s.railTop with bus := modFirst mine (fun x => { x with left := 4 }) l },
                 arb := { s.arb with pointers := tabPut s.arb.pointers (busKey col fwd stop) (i + 1) } }

/-- One grain on the rings: packets move, those at their site leave, and every stop grants (R302, R333). -/
def pumpBus (s : State) : State :=
  if s.railTop.bus.isEmpty then s
  else
    let l := s.railTop.bus.map moveBus
    let home := fun (x : BusPkt) => x.left == 0 && x.through && ringSite x.stop == x.dst
    let s := (l.filter home).foldl leaveBus { s with railTop := { s.railTop with bus := l.filter (fun x => !home x) } }
    [(false, false), (false, true), (true, false), (true, true)].foldl (fun s w =>
      (List.range 26).foldl (fun s p => grantStop w.1 w.2 p 31 31 s) s) s

end Sys2Proof.Machine
end

