-- ==== Sys2Proof/Machine/TimeBase.lean ====
section
/-! DEFINITION. Fleet time: timing messages, marks, delay measurement and lock, slew, holdover and drift, the tick of
the grain counter, and the rows of the opcode table that concern them (02_fleet_time.md, R517). -/

namespace Sys2Proof.Machine

/-! ### Timing messages (R25) -/

def tmType (m : Word128) : Nat := bits m.toNat 0 4
def tmSeq (m : Word128) : Nat := bits m.toNat 8 8
def tmGrain (m : Word128) : Nat := bits m.toNat 16 64
def tmFrac (m : Word128) : Nat := bits m.toNat 80 6
def tmResidence (m : Word128) : Nat := bits m.toNat 88 32

/-- The reserved fields of a timing message are 0 (R25). -/
def tmReservedOk (m : Word128) : Bool := bits m.toNat 4 4 == 0 && bits m.toNat 86 2 == 0

/-- A delay request sent at grain t1 with a seq (R25). -/
def delayRequest (seq t1 : Nat) : Word128 := withCheck (0x2 + seq % 256 * 2 ^ 8 + t1 % 2 ^ 64 * 2 ^ 16)

/-! ### The state of the time base -/

def State.tport (s : State) (p : Nat) : TimePort := if p = 0 then s.time.p0 else s.time.p1

def State.modTport (s : State) (p : Nat) (f : TimePort → TimePort) : State :=
  if p = 0 then { s with time := { s.time with p0 := f s.time.p0 } }
  else { s with time := { s.time with p1 := f s.time.p1 } }

/-- err_est in 1/64 grain, saturating (R33). -/
def errEst (t : Time) : Nat := min (t.errAs / 15625000) 0xFFFF

/-- TIME.STATUS (R33). -/
def timeStatus (s : State) : Nat :=
  s.time.st.code + s.time.source % 2 * 8 + b2n s.time.p0.valid * 16 + b2n s.time.p1.valid * 32
    + b2n s.time.lostTol * 64 + min s.time.rejected 255 * 256 + errEst s.time * 65536

/-- The time state changes, and with it the ready state (R32, R468). -/
def enterTime (st : TimeState) (s : State) : State := evalReady { s with time := { s.time with st := st } }

/-- Entry to drift or slewing: lost_tol is set and TIME_TOLERANCE raised (R32). -/
def loseTol (st : TimeState) (s : State) : State :=
  let s := { s with time := { s.time with st := st, lostTol := true } }
  evalReady (checkTol (raise 0x0101 0 (timeStatus s) 0 0 0 s))

/-- Entry to drift that does not come from holdover (R32). -/
def enterDrift (s : State) : State :=
  let e := max (s.time.offset.natAbs * 15625000) 1015625000
  loseTol .drift { s with time := { s.time with errAs := e, retard := false } }

/-- The counter moves against fleet time by `n` of 1/64 grain, forward when positive (R31). -/
def shiftCounter (n : Int) (t : Time) : Time :=
  { t with offset := t.offset + n,
           p0 := { t.p0 with markOff := t.p0.markOff + n },
           p1 := { t.p1 with markOff := t.p1.markOff + n } }

/-- The panels out of reset hold bits [63:16] of a grain (R34). -/
def loadHigh (now : Nat) (c : Clk) : Clk :=
  { c with panels := c.panels.map (fun p =>
      if p.2.inReset then p else (p.1, { p.2 with high := BitVec.ofNat 48 (now / 65536) })) }

/-- Outside an active run a counter behind fleet time is stepped forward at once; the panels' views follow it, and the grains
of silence after a level-3 reset still run to their number (R31, R34, R322). -/
def stepForward (s : State) : State :=
  let n := (-s.time.offset).toNat / 64
  if s.runActive || n = 0 then s
  else
    let a := s.now
    let t := shiftCounter (64 * n) s.time
    let locks := t.locks.map (fun p => (p.1, { p.2 with isOpen := p.2.isOpen.map (fun q => (q.1, q.2 + 64 * n)) }))
    let due := t.refreshDue ++ [(a + 1, a + n)]
    { s with time := { t with now := BitVec.ofNat 64 (a + n), refreshDue := due, locks := locks },
             fab := if a < s.fab.silentTo then { s.fab with silentTo := s.fab.silentTo + n } else s.fab
             clk := loadHigh (a + n) s.clk }

/-- The module locks, or relocks, to a port: the offset of its marks is corrected by a step, a retard or a slew, and the
time state follows it (R28, R31, R32). -/
def lockTo (p : Nat) (s : State) : State :=
  let off := (s.tport p).markOff
  let t := { s.time with source := p, offset := off, errAs := Config.lockUncertainty s.free, retard := false,
                         wait0 := none }
  let s := { s with free := s.free + 1, time := t }
  let s := s.modTport p (fun t => { t with valid := true, rejRun := 0 })
  let s := stepForward s
  if s.time.offset.natAbs ≤ 64 then checkTol (enterTime .locked s)
  else loseTol .slewing { s with time := { s.time with retard := !s.runActive, retardPhase := 0 } }

/-- The delay measurement in progress on a port (R28). -/
def State.lockOf (s : State) (p : Nat) : Option LockJob := tabFind s.time.locks p

/-- A measurement of a port is in progress or waits (R28, R392). -/
def measuring (p : Nat) (s : State) : Bool := (s.lockOf p).isSome || s.time.jobs.any (fun j => j.port == p)

/-- Change the measurement in progress on a port. -/
def modLock (p : Nat) (f : LockJob → LockJob) (s : State) : State :=
  match s.lockOf p with
  | some j => { s with time := { s.time with locks := tabPut s.time.locks p (f j) } }
  | none => s

/-- The next measurement that waits for a port starts when none is in progress there (R28, R392). -/
def nextJob (p : Nat) (s : State) : State :=
  match s.lockOf p, s.time.jobs.find? (fun j => j.port == p) with
  | none, some j =>
    { s with time := { s.time with locks := tabPut s.time.locks p j,
                                   jobs := delFirst (fun j => j.port == p) s.time.jobs } }
  | _, _ => s

/-- A measurement is asked for; one at a time runs on each port, and the ports are measured side by side (R28). -/
def addJob (j : LockJob) (s : State) : State :=
  nextJob j.port { s with time := { s.time with jobs := s.time.jobs ++ [j] } }

/-- A port's timing is lost: the module locks to the other port if its marks are valid, and otherwise enters holdover
or drift; the port is measured afresh when its marks return (R28, R30, R32). -/
def loseTiming (p : Nat) (s : State) : State :=
  let s := s.modTport p (fun t => { t with valid := false, rejRun := 0 })
  let had := measuring p s
  let s := modLock p (fun j => { j with marks := 0, prev := none, sent := 0, isOpen := [], trips := [] }) s
  let s := if had then s else addJob { port := p } s
  if s.time.source = p ∧ (s.time.st = .locked ∨ s.time.st = .slewing) then
    if (s.tport (1 - p)).valid then lockTo (1 - p) s
    else if s.time.st = .slewing then enterDrift s
    else if s.time.refclk then enterTime .holdover s
    else enterDrift s
  else s

/-- A rejected mark is counted, and the eighth in a row loses the port's timing (R30, R33). -/
def rejectMark (p : Nat) (s : State) : State :=
  let s := { s with time := { s.time with rejected := satAdd s.time.rejected 1 255 } }
  let n := (s.tport p).rejRun + 1
  let s := s.modTport p (fun t => { t with rejRun := n })
  let s := modLock p (fun j => { j with marks := 0, prev := none }) s
  if 8 ≤ n then loseTiming p s else s

/-- The arrival of a mark stamped G minus (G + d + k), in 1/64 grain (R28, R30). -/
def markError (s : State) (p : Nat) (g frac : Nat) : Int :=
  (s.now * 64 + frac : Nat) - ((g * 64 : Nat) + (s.tport p).delay + Config.portLatency p : Nat)

/-- A mark is acceptable: check, type, reserved fields, and, once the port's timing is valid, its grain within 1 grain
of the value that the local counter, less its known offset from fleet time, predicts for it (R30, log entry 22). -/
def markOk (s : State) (p : Nat) (m : Word128) (frac : Nat) : Bool :=
  checkOk m && tmType m == 1 && tmReservedOk m
    && (!(s.tport p).valid || decide ((markError s p (tmGrain m) frac - s.time.offset).natAbs ≤ 64))

/-- A mark counts for the lock in progress on its port: two consecutive marks 4,096 apart (R28). -/
def lockMark (p g : Nat) (s : State) : State :=
  modLock p (fun j =>
    if 2 ≤ j.marks then j
    else if j.marks = 1 ∧ j.prev = some (g - 4096) ∧ 4096 ≤ g then { j with marks := 2, prev := some g }
    else { j with marks := 1, prev := some g }) s

/-- TIME_MARK: a time mark is received and accepted or rejected; an accepted one travels on from the Yuley site as a control
word (R30, R178, log entry 53). -/
def execTimeMark (port : Fin 2) (msg : Word128) (frac : Fin 64) (s : State) : Host.Outcome State Fault Refusal :=
  let p := port.val
  if markOk s p msg frac.val then
    let g := tmGrain msg
    let e := markError s p g frac.val
    let s := sendWord (controlWord 0x7 (0x60 + p) 0xFF 0 g) s
    .next (lockMark p g (s.modTport p (fun t =>
      { t with rejRun := 0, lastMark := some g, markSheaf := some (g / 4096), markOff := e })))
  else
    .next (rejectMark p (s.modTport p (fun t => { t with markSheaf := some (s.now / 4096) })))

/-- The latest fleet sheaf whose mark should have arrived on a port more than 2 grains ago (R30). -/
def markDue (s : State) (p : Nat) : Option Nat :=
  let late : Int := (s.tport p).delay + Config.portLatency p + s.time.offset + 128
  let t : Int := s.now * 64 - late
  if t ≤ 0 then none else some (((t - 1).toNat) / (64 * 4096))

/-- TIME_MARK_MISSING: the mark of a boundary has not arrived within 2 grains of it and counts as rejected, on a port
with frequency or whose timing is still valid (R30). -/
def execTimeMarkMissing (port : Fin 2) (s : State) : Host.Outcome State Fault Refusal :=
  let p := port.val
  match markDue s p with
  | none => .next s
  | some k =>
    if ((s.tport p).freq || (s.tport p).valid) && (match (s.tport p).markSheaf with | none => true | some m => decide (m < k)) then
      .next (rejectMark p (s.modTport p (fun t => { t with markSheaf := some k })))
    else .next s

/-- A rising list of integers with one more. -/
def insInt : List Int → Int → List Int
  | [], x => [x]
  | y :: r, x => if x ≤ y then x :: y :: r else y :: insInt r x

/-- The one-way delay: half the mean of the 16 smallest round trips, to the nearest 1/64 grain; a tie falls to a free
value (R28, log entry 8). -/
def delayOf (s : State) (trips : List Int) : Nat :=
  let sum : Int := ((trips.foldl insInt []).take 16).foldl (fun a b => a + b) 0
  let q : Int := sum / 32
  let r : Int := sum % 32
  let up : Int := if r < 16 then 0 else if 16 < r then 1 else (Config.free s.free % 2 : Nat)
  (q + up).toNat

/-- The measurement of a port is complete: its delay is set, and the module locks to it where R28 and R32 say so. While
locking, port 1 waits for port 0 as long as port 0 has frequency (R28, log entry 32). The spec does not say when a port's
marks become valid: here they do when its measurement is complete (R33, log entry 51). -/
def finishJob (j : LockJob) (s : State) : State :=
  let p := j.port
  let d := delayOf s j.trips
  let s := { s with free := s.free + 1 }
  let s := s.modTport p (fun t => { t with markOff := t.markOff + t.delay - d, delay := d, valid := true })
  let s := { s with time := { s.time with locks := tabDel s.time.locks p } }
  let s :=
    if s.time.st = .locking then
      if p = 0 ∨ s.time.p0.valid then lockTo 0 s
      else if s.time.p0.freq then { s with time := { s.time with wait0 := some s.now } }
      else lockTo 1 s
    else if s.time.st = .holdover ∨ s.time.st = .drift then lockTo p s
    else if (s.time.st = .locked ∨ s.time.st = .slewing) ∧ s.time.source = p then lockTo p s
    else s
  let s := finishOpt j.cmd 0 s
  nextJob p s

/-- While locking, port 0 is taken not to lock once it has had, since port 1 was measured, the 1 ms that R26 gives an
answer; the module then locks to port 1 (R28, log entry 32). -/
def giveUpPort0 (s : State) : State :=
  match s.time.wait0 with
  | none => s
  | some g =>
    if s.time.st = .locking ∧ s.time.p1.valid then (if g + 1000000 ≤ s.now then lockTo 1 s else s)
    else { s with time := { s.time with wait0 := none } }

/-- DELAY_RESPONSE: the round trip minus residence is recorded, and the 64th completes the measurement (R28). -/
def execDelayResponse (port : Fin 2) (msg : Word128) (frac : Fin 64) (s : State) : Host.Outcome State Fault Refusal :=
  match s.lockOf port.val with
  | none => .next s
  | some j =>
    match j.isOpen.find? (fun q => q.1 == tmSeq msg) with
    | none => .next s
    | some q =>
      if checkOk msg ∧ tmType msg = 3 ∧ tmReservedOk msg then
        let trip : Int := (s.now * 64 + frac.val : Nat) - (q.2 : Int) - tmResidence msg
        let j := { j with isOpen := delFirst (fun x => x.1 == q.1) j.isOpen, trips := j.trips ++ [trip] }
        if 64 ≤ j.trips.length then .next (finishJob j s)
        else .next { s with time := { s.time with locks := tabPut s.time.locks port.val j } }
      else .next s

/-- The Manchester code of n bits, the first lowest: high then low for 1, low then high for 0 (R374). -/
def manchester : Nat → Nat → Nat
  | 0, _ => 0
  | n + 1, v => (if v.testBit 0 then 1 else 2) + 4 * manchester n (v / 2)

/-- A message on the timing wavelength, after its sync word (R374). -/
def timingLine (msg : BitVec 128) : BitVec 288 := BitVec.ofNat 288 (manchester 144 (0x1F35 + msg.toNat * 2 ^ 16))

/-- At each fleet sheaf the measurement in progress on a port sends one delay request, 64 in all (R28). -/
def sendRequest (s : State) (p : Nat) : State :=
  match s.lockOf p with
  | none => s
  | some j =>
    if j.marks = 2 ∧ j.sent < 64 then
      let q := s.time.reqSeq
      { s with time := { s.time with
        locks := tabPut s.time.locks p { j with sent := j.sent + 1, isOpen := j.isOpen ++ [(q, s.now * 64)] },
        reqSeq := (q + 1) % 256, sentReq := s.time.sentReq ++ [(p, delayRequest q s.now)]
        lines := tabPut s.time.lines p (timingLine (delayRequest q s.now)) } }
    else s

/-- TIME_FREQ_RECOVERED: a port recovers frequency; from unset, locking begins (R28, R32). -/
def execTimeFreqRecovered (port : Fin 2) (s : State) : Host.Outcome State Fault Refusal :=
  let p := port.val
  let new := !(s.tport p).freq
  let had := measuring p s
  let s := s.modTport p (fun t => { t with freq := true })
  let s := if s.time.st = .unset then { s with time := { s.time with st := .locking } } else s
  .next (if new && !had && !(s.tport p).valid then addJob { port := p } s else s)

/-- TIME_FREQ_LOST: every port loses frequency; from locking, the state returns to unset (R32). -/
def execTimeFreqLost (s : State) : Host.Outcome State Fault Refusal :=
  let s := s.modTport 0 (fun t => { t with freq := false })
  let s := s.modTport 1 (fun t => { t with freq := false })
  .next (if s.time.st = .locking then
    checkTol { s with time := { s.time with st := .unset, locks := [], jobs := [], wait0 := none } } else s)

/-- HOLDOVER_TO_DRIFT: err_est exceeds 1 grain in holdover (R32). -/
def execHoldoverToDrift (s : State) : Host.Outcome State Fault Refusal :=
  .next (if s.time.st = .holdover ∧ 1000000000 < s.time.errAs then loseTol .drift s else s)

/-- REFCLK_ABSENT: REFCLK is judged absent, and holdover passes to drift (R32, R517). -/
def execRefclkAbsent (s : State) : Host.Outcome State Fault Refusal :=
  let s := { s with time := { s.time with refclk := false } }
  .next (if s.time.st = .holdover then loseTol .drift s else s)

/-- REFCLK_RETURN: REFCLK is judged present again; the state stays (R31, R517). -/
def execRefclkReturn (s : State) : Host.Outcome State Fault Refusal :=
  .next { s with time := { s.time with refclk := true } }

/-- SLEW_DONE: the offset is within 1 grain, and the state becomes locked (R31, R32). -/
def execSlewDone (s : State) : Host.Outcome State Fault Refusal :=
  .next (if s.time.st = .slewing ∧ s.time.offset.natAbs ≤ 64 then
    enterTime .locked { s with time := { s.time with retard := false } } else s)

/-! ### The counter -/

/-- The counter adds 1, and on a carry out of bit 15 the panels increment their bits [63:16] (R34). -/
def count1 (s : State) : State :=
  let n := s.time.now + 1
  let c := s.clk.panels.map (fun p => if p.2.inReset then p else (p.1, { p.2 with high := p.2.high + 1 }))
  { s with time := { s.time with now := n },
           clk := if n.toNat % 65536 = 0 then { s.clk with panels := c } else s.clk }

/-- A level-3 reset holds the counter cleared (R34, R447). -/
def State.held3 (s : State) : Bool := s.rst.episode.any (fun ep => ep.level == 3)

/-- The counter over one grain: it adds 1, but a retarded counter keeps its value for a second grain in one grain of every
16; during a level-3 reset it stays cleared (R31, R34, log entry 3). -/
def countGrain (s : State) : State :=
  if s.held3 then s
  else if s.time.retard && !s.runActive then
    if 16 ≤ s.time.retardPhase then
      let t := shiftCounter (-64) s.time
      { s with time := { t with retardPhase := 0, retard := decide (64 < t.offset) } }
    else count1 { s with time := { s.time with retardPhase := s.time.retardPhase + 1 } }
  else count1 s

/-- One grain passes: at the crossings, for the streams under abort, on the rings, on the counter and on the lines of the
rails and ports (R34, R185, R186, R247, R302, R421, log entries 1 and 57). -/
def tick (s : State) : State := fillLines s.now (countGrain (pumpBus (finishAborts (pumpCrossings s))))

/-- The growth of err_est over one fleet sheaf, in attoseconds: 4,096 as for each ps per ms (R31, R36, R441). -/
def growErr (s : State) : State :=
  let r := match s.time.st with
    | .holdover => s.time.holdRate
    | .drift => if s.time.refclk then s.time.holdRate else 500
    | _ => 0
  { s with time := { s.time with errAs := min (s.time.errAs + 4096 * r) (0x10000 * 15625000 - 1) } }

/-- Slewing moves the counter by at most 1/64 grain a sheaf towards fleet time (R31). -/
def slewOnce (s : State) : State :=
  if s.time.st = .slewing ∧ !s.time.retard ∧ s.time.offset ≠ 0 then
    { s with time := shiftCounter (if 0 < s.time.offset then -1 else 1) s.time }
  else s

/-- The schedule sheaf that begins at a boundary, by the idle sheaves inserted so far (R38). -/
def schedNow (s : State) : Nat :=
  wrap ((s.now : Int) - s.cut.runBase.toNat) 64 / 4096 - (s.cut.idleBase + s.cut.idles.length)

/-- At a boundary of an active run the result in force is added to the accumulator; at 100 the sheaf that begins is to be
inserted idle, else the next schedule sheaf begins (R38, R437). -/
def accumulate (s : State) : State :=
  let a := s.pwr.acc + 4 * s.pwr.result
  if 100 ≤ a then { s with pwr := { s.pwr with acc := a - 100 }, cut := { s.cut with idleDue := true } }
  else { s with pwr := { s.pwr with acc := a }, cut := { s.cut with sheaf := schedNow s } }

/-- A tiller or mesh panel below bin 6 in an active run is recorded (R356, R360). -/
def noteBins (s : State) : State :=
  let low := fun (k : Nat) (x : Panel) =>
    decide (k < 65536) && decide (x.bin < 6) && (k % 512 == 288 || (s.dieFloor (k / 512)).enabled.contains (k % 512))
  if s.runActive && s.clk.panels.any (fun p => low p.1 p.2) then { s with repro := { s.repro with ceiling := true } } else s

/-- RUN_START_GRAIN: the start or resume grain is reached, B is set, and the run is running (R37, R38, R367,
R437). -/
def execRunStartGrain (s : State) : Host.Outcome State Fault Refusal :=
  match s.cut.state, s.cut.startAt with
  | .armed, some g =>
    if s.now < g then .next s
    else
      let c := s.cut
      let sr := match c.resumeMark with | some m => c.marks.getD m 0 | none => 0
      let i := match c.resumeMark with | some _ => c.idle | none => 0
      let b := wrap ((g : Int) - 4096 * (sr + i : Nat)) 64
      let s := { s with
        time := { s.time with retard := false },
        cut := { c with state := .running, runBase := BitVec.ofNat 64 b, sheaf := sr, idleBase := i, idles := [],
                        idleNow := false, startAt := none, resumeMark := none },
        pwr := { s.pwr with acc := 0 },
        repro := { s.repro with resumed := s.repro.resumed || c.resumeMark.isSome } }
      let s := if s.time.strobed = some s.now then accumulate s else s
      .next (noteBins (checkTol (stopScrub s)))
  | _, _ => .next s

end Sys2Proof.Machine
end

