-- ==== Sys2Proof/Machine/Run.lean ====
section
/-! DEFINITION. Issue, posts, completion and the paced events of a run; control steps, select groups, barriers and
checkpoint marks (R39 to R57, R220 to R230). -/

namespace Sys2Proof.Machine

/-- STEP_ISSUE: the head step of a queue issues (R42). -/
def execStepIssue (eng : BitVec 16) (s : State) : Host.Outcome State Fault Refusal :=
  if engValid eng.toNat then .next (issueIf eng.toNat (fun _ => true) s) else .fault .absentUnit

/-- At a schedule sheaf boundary 1,024 sheaves after the previous event of a pacing (R46, R89). -/
def pacedNow (s : State) (last : Option Nat) : Bool :=
  s.cut.state == .running && s.atBoundary && !s.cut.idleNow &&
    (match last with | some k => decide (k + 1024 ≤ s.cut.sheaf) | none => false)

/-- OVERRUN_PACED: the collected overruns raise one OVERRUN (R46). -/
def execOverrunPaced (s : State) : Host.Outcome State Fault Refusal :=
  .next (if pacedNow s s.cut.ovrEvent && s.cut.ovrNew then raiseOverrun s else s)

/-- TILLER_FLAG_PACED: the collected flag changes raise one TILLER_FLAG (R89). -/
def execTillerFlagPaced (s : State) : Host.Outcome State Fault Refusal :=
  .next (if pacedNow s s.cut.flagEvent then raiseFlag s else s)

/-- TOKEN_POST: a post in flight arrives at its counter; over the control waveguides its word may arrive with flipped
bits, and is then discarded and repeated (R40, R178, R179). -/
def execTokenPost (eng : BitVec 16) (counter : Fin 64) (flip : Word128) (s : State) : Host.Outcome State Fault Refusal :=
  if engValid eng.toNat then
    let p := fun (x : Post) => x.dest == eng.toNat && x.counter == counter.val
    let land := fun (x : Post) (s : State) => applyPost x { s with cut := { s.cut with posts := delFirst p s.cut.posts } }
    .next (match s.cut.posts.find? p with
      | none => s
      | some x =>
        match x.word with
        | none => land x s
        | some w => if awaitsRepeat s w then s else arriveWord w flip (land x) s)
  else .fault .absentUnit

/-- STEP_COMPLETE: a step in flight whose effect has taken place completes and posts (R55 to R57). -/
def execStepComplete (eng : BitVec 16) (unit : Fin 6) (s : State) : Host.Outcome State Fault Refusal :=
  if engValid eng.toNat then
    let s := completeFlight eng.toNat unit.val (fun f => f.done) s
    .next (if unit.val = 4 then dropStream eng.toNat s else s)
  else .fault .absentUnit

/-! ### Control steps (R220 to R230) -/

/-- WAITG: the head WAITG issues and completes; its long field has advanced the cursor (R221). -/
def execWaitg (eng : BitVec 16) (s : State) : Host.Outcome State Fault Refusal :=
  if engValid eng.toNat then .next (issueIf eng.toNat (fun op => op == 0x01) s) else .fault .absentUnit

/-- WAIT: the head WAIT issues once every counter of its 64-bit mask holds a count (R222). -/
def execWaitStep (eng : BitVec 16) (s : State) : Host.Outcome State Fault Refusal :=
  if engValid eng.toNat then .next (issueIf eng.toNat (fun op => op == 0x02) s) else .fault .absentUnit

/-- BARRIER: the head BARRIER issues, and its arrival is on its way to the counting point (R224). -/
def execBarrier (eng : BitVec 16) (s : State) : Host.Outcome State Fault Refusal :=
  if engValid eng.toNat then .next (issueIf eng.toNat (fun op => op == 0x03) s) else .fault .absentUnit

/-- SELECT: the select group at the head of a tiller queue issues as one step (R81, R226). -/
def execSelectStep (eng : BitVec 16) (s : State) : Host.Outcome State Fault Refusal :=
  if engValid eng.toNat then
    .next (if engKind eng.toNat = 1 then issueIf eng.toNat (fun op => op == 0x04) s else s)
  else .fault .absentUnit

/-- STREAM_SELECT: the select group at the head of a stream-engine queue issues as one step (R227). -/
def execStreamSelect (eng : BitVec 16) (s : State) : Host.Outcome State Fault Refusal :=
  if engValid eng.toNat then
    .next (if engKind eng.toNat = 4 then issueIf eng.toNat (fun op => op == 0x04) s else s)
  else .fault .absentUnit

/-- CKPT: the head CKPT issues once every unit of its engine is idle, and its index is recorded (R228). -/
def execCkpt (eng : BitVec 16) (s : State) : Host.Outcome State Fault Refusal :=
  if engValid eng.toNat then .next (issueIf eng.toNat (fun op => op == 0x05) s) else .fault .absentUnit

/-- END: the last step of a queue completes once its engine's units are idle (R230). -/
def execEndStep (eng : BitVec 16) (s : State) : Host.Outcome State Fault Refusal :=
  if engValid eng.toNat then .next (issueIf eng.toNat (fun op => op == 0x06) s) else .fault .absentUnit

/-! ### Barriers (R223, R224) -/

def barCount (b : Body) : Nat := bits b.toNat 18 10 + 1

/-- The counting point of a barrier step: scope, number and, at die scope, the die (R224). -/
def barKey (e : Nat) (b : Body) : Nat × Nat × Nat :=
  (barScope b, barNumber b, if barScope b = 0 then (engDie e).getD 0 else 0)

def isBarrier (f : Flight) : Bool := f.unit == 5 && stOpcode f.step.word == 0x03

/-- The count for a key, from 0 where none is held. -/
def barFind (s : State) (k : Nat × Nat × Nat) : BarrierCount :=
  (s.cut.barriers.find? (fun c => c.scope == k.1 && c.number == k.2.1 && c.die == k.2.2)).getD
    { scope := k.1, number := k.2.1, die := k.2.2, count := 0 }

def barSet (k : Nat × Nat × Nat) (c : BarrierCount) (s : State) : State :=
  let keep := s.cut.barriers.filter (fun c => !(c.scope == k.1 && c.number == k.2.1 && c.die == k.2.2))
  { s with cut := { s.cut with barriers := if c.arrived.isEmpty && !c.sent then keep else keep ++ [c] } }

/-- The barrier step of an engine with a key that still waits. -/
def barWaits (e : Nat) (k : Nat × Nat × Nat) (f : Flight) : Bool :=
  isBarrier f && !f.done && barKey e (stBody f.step.word) == k

/-- The release goes to every participant that has arrived, and the count starts again from 0 (R224). -/
def barRelease (k : Nat × Nat × Nat) (s : State) : State :=
  let c := barFind s k
  let s := c.arrived.foldl (fun s e => modFlight e 5 (barWaits e k) (fun f => { f with done := true }) s) s
  barSet k { c with arrived := [], sent := false } s

/-- An arrival is counted; at the participant count a die or module barrier is released, and a stook barrier of more
than one module contributes (R224). -/
def barArrive (e : Nat) (b : Body) (s : State) : State :=
  let k := barKey e b
  let c := barFind s k
  let c := { c with count := barCount b, arrived := c.arrived ++ [e] }
  let s := barSet k c s
  if c.count ≤ c.arrived.length then
    if k.1 = 2 ∧ s.cut.ranks ≠ 1 then
      if c.sent then s else contributeBarrier k.2.1 (barSet k { c with sent := true } s)
    else barRelease k s
  else s

/-- The arrival of a tiller is still on its die's mesh (R224). -/
def arrivalOnMesh (s : State) (e : Nat) : Bool :=
  engKind e == 1 && (s.mesh (bits e 9 3)).flits.any (fun f => f.kind == .barrier && f.src == bits e 0 9)

/-- BARRIER_ARRIVAL: the counting point counts the arrival of an engine, oldest first, once a tiller's has come over the
mesh; one that comes over the control waveguides may have flipped bits, and is then discarded and repeated (R178, R179,
R224). -/
def execBarrierArrival (eng : BitVec 16) (flip : Word128) (s : State) : Host.Outcome State Fault Refusal :=
  let e := eng.toNat
  if engValid e then
    let new := fun (f : Flight) => isBarrier f && !f.done && !f.moved
    let land := fun (f : Flight) (s : State) =>
      barArrive e (stBody f.step.word) (modFlight e 5 new (fun f => { f with moved := true }) s)
    .next (match (s.engine e).flight.find? new with
      | none => s
      | some f =>
        let b := stBody f.step.word
        if arrivalOnMesh s e then s
        else if engKind e = 1 ∧ barScope b = 0 then land f s
        else
          let w := barrierWord e b
          if awaitsRepeat s w then s else arriveWord w flip (land f) s)
  else .fault .absentUnit

/-- BARRIER_TIMEOUT: a participant not released within 2^24 grains completes with error, its arrival is withdrawn
unless the stook contribution has been sent, and BARRIER_TIMEOUT is raised (R224). -/
def execBarrierTimeout (eng : BitVec 16) (s : State) : Host.Outcome State Fault Refusal :=
  let e := eng.toNat
  if engValid e then
    let late := fun (f : Flight) => isBarrier f && !f.done && decide (f.issued + 2 ^ 24 ≤ s.now)
    match (s.engine e).flight.find? late with
    | none => .next s
    | some f =>
      let b := stBody f.step.word
      let k := barKey e b
      let c := barFind s k
      let s := if c.sent then s else barSet k { c with arrived := delFirst (· == e) c.arrived } s
      let s := raise 0x0501 e (barNumber b + barScope b * 65536) 0 0 0 s
      .next (completeFlight e 5 (fun f => f.err && late f) (modFlight e 5 late (fun f => { f with err := true }) s))
  else .fault .absentUnit

/-! ### Pause and end (R229, R230, R362) -/

/-- A post of the module is in flight: a token post, a CPOST that has not run out, or a batch not yet posted
(R229, R345, R362). -/
def postsInFlight (s : State) : Bool :=
  !s.cut.posts.isEmpty || s.meshes.any (fun m => m.2.flits.any (fun f => f.kind == .post)) || s.cut.cposts.any (fun g => decide (s.now < g))
    || s.fab.engs.any (fun p => p.2.batch.isSome)

/-- RUN_PAUSE: every CKPT of the requested mark has issued and no post is in flight; the run is paused, and an
orderly stop has stopped it (R229, R390, R438). -/
def execRunPause (s : State) : Host.Outcome State Fault Refusal :=
  match s.cut.pauseMark with
  | none => .next s
  | some m =>
    if s.cut.state == .running && !postsInFlight s
        && s.engines.all (fun p => !p.2.present || p.2.ckpts.any (fun c => c.1 == m)) then
      let s := flushRun s
      let cs := s.cut.pauseCmds
      let c := { s.cut with state := .paused, resumeMark := some m, sheaf := s.cut.marks.getD m s.cut.sheaf,
                            pauseMark := none, pausePend := false, pauseCmds := [], idleNow := false }
      let engs := s.engines.map (fun p => (p.1, { p.2 with stopped := false }))
      let stop := if s.pwr.stop = 1 then 2 else s.pwr.stop
      let s := { s with cut := c, engines := engs, pwr := { s.pwr with stop := stop } }
      .next (cs.foldl (fun s r => finish r 0 (toBytes 8 m) s) s)
    else .next s

/-- The field REPRO.RUN (R360). -/
def reproWord (s : State) : Nat :=
  let r := s.repro
  let bitsHeld := r.loaded && !r.stepError && !r.binSat
  let bad := r.transfer || r.timeTol || r.ceiling || r.halfWidth || r.narrow || r.remoteDelay || r.tallyMiss
  b2n bitsHeld + b2n (bitsHeld && !bad) * 2 + b2n r.stepError * 4 + b2n r.binSat * 8 + b2n r.transfer * 16
    + b2n r.timeTol * 32 + b2n r.ceiling * 64 + b2n r.halfWidth * 128 + b2n r.resumed * 256 + b2n r.remoteIn * 512
    + b2n r.fadd * 1024 + b2n r.narrow * 2048 + b2n r.remoteDelay * 4096 + b2n r.tallyMiss * 8192

/-- RUN_END: every END has completed and no post is in flight; the run has ended (R230). -/
def execRunEnd (s : State) : Host.Outcome State Fault Refusal :=
  .next (if s.cut.state == .running && !postsInFlight s && s.engines.all (fun p => !p.2.present || p.2.ended) then
    let s := flushRun s
    let s := { s with cut := { s.cut with state := .ended, prot := false, idleNow := false } }
    endPauses 0x0202 (raise 0x0502 0 (reproWord s) s.cut.ovrTotal 0 0 s)
  else s)

end Sys2Proof.Machine
end

