-- ==== Sys2Proof/Machine/Rings.lean ====
section
/-! DEFINITION. Ring resonators: their records, the slip rule, and the wavelengths of a rail fibre, its spare and its
suspended channels (R276 to R293). -/

namespace Sys2Proof.Machine

/-! ### Rings -/

/-- The key of a ring bank (R276). -/
def placeKey : RingPlace → Nat
  | .port site port rx => site.toNat * 64 + port.val * 2 + b2n rx
  | .peg n => 2 ^ 14 + n.val
  | .fibre link rx => 2 ^ 15 + 2 ^ 12 + link.val * 2 + b2n rx
  | .control site rx => 2 ^ 15 + site.toNat * 2 + b2n rx
  | .relay n => 2 ^ 15 + 2 ^ 10 + n.val
  | .comb c => 2 ^ 15 + 2 ^ 11 + c.val

/-- The key of a ring's record. -/
def ringKey (r : RingId) : Nat := placeKey r.place * 64 + r.wave.val

/-- The site of a ring's place; pegs, relays and combs have none. -/
def placeSite : RingPlace → Option Nat
  | .port site _ _ => some site.toNat
  | .control site _ => some site.toNat
  | .fibre link _ => some (if link.val < 26 then 0x40 + link.val else 0x60 + (link.val - 26))
  | _ => none

/-- The rail whose site holds a ring, and the fibre: 0 transmit, 1 receive (R298). -/
def railFibre : RingPlace → Option (Nat × Nat)
  | .fibre link rx => if link.val < 26 then some (link.val, b2n rx) else none
  | _ => none

/-- A ring of a rail's fibre. -/
def railRing (r dir w : Nat) : RingId :=
  { place := .fibre ⟨r % 28, Nat.mod_lt _ (by decide)⟩ (dir == 1), wave := ⟨w % 47, Nat.mod_lt _ (by decide)⟩ }

/-- Lines by which a ring has slipped: trim over spacing, to the nearest (R289). -/
def Ring.lines (x : Ring) : Int := (2 * x.trim + x.spacing) / (2 * x.spacing)

/-- |trim| has passed half a spacing (R289). -/
def Ring.slips (x : Ring) : Bool := decide (x.spacing < 2 * x.trim ∨ x.spacing < -(2 * x.trim))

/-- OPT.SLIP.LAST (R296). -/
def slipWord (o : Opt) : Nat :=
  o.slipSite % 256 + o.slipPort % 32 * 2 ^ 8 + o.slipWave % 64 * 2 ^ 13 + o.slipDir % 2 * 2 ^ 19
    + b2n o.slipRec * 2 ^ 20 + wrap o.slipLines 8 * 2 ^ 24 + o.slipGrain % 2 ^ 64 * 2 ^ 64

/-- OPT.SLIP.LAST takes a declaration or a recovery of a ring, with the grain of that ring's declaration (R291, R296). -/
def noteSlip (r : RingId) (lines : Int) (recovered : Bool) (s : State) : State :=
  let put := fun (site port dir : Nat) =>
    { s with opt := { s.opt with slipSite := site, slipPort := port, slipWave := r.wave.val, slipDir := dir,
                                 slipRec := recovered, slipLines := lines, slipGrain := (s.ring (ringKey r)).declared } }
  match r.place with
  | .port site port rx => put site.toNat port.val (b2n rx)
  | .control site rx => put site.toNat 0 (b2n rx)
  | .fibre _ rx => put ((placeSite r.place).getD 0) 0 (b2n rx)
  | _ => s

/-- A Yuley lane leaves use, or comes back (R371). -/
def yuleyLane (r : RingId) (use : Bool) (s : State) : State :=
  match r.place with
  | .fibre link _ =>
    if 26 ≤ link.val ∧ 10 ≤ r.wave.val ∧ r.wave.val ≤ 13 then
      let p := link.val - 26
      let m := 2 ^ (r.wave.val - 10)
      let x := s.yport p
      if x.state ≠ 5 then s
      else
        let l := if use then x.lanes ||| m else x.lanes - (x.lanes &&& m)
        if l = 0 then portDown p 0 s else s.modPort p (fun x => { x with lanes := l })
    else s
  | _ => s

/-- A ring is declared slipped: its record, OPT.STATUS.slip, the rail's count, and RING_SLIP once per fibre and fleet
sheaf (R289, R291). -/
def declareSlip (r : RingId) (s : State) : State :=
  let x := s.ring (ringKey r)
  let now := s.now
  let s := s.modRing (ringKey r) (fun x => { x with slipped := some now, declared := now, locked := false, quiet := 0, weak := 0 })
  let s := noteSlip r x.lines false { s with opt := { s.opt with slip := true } }
  let s := yuleyLane r false s
  let s := match railFibre r.place with
    | some (q, d) =>
      let s := { s with opt := { s.opt with slips := tabPut s.opt.slips q (satAdd (tabGet s.opt.slips q 0) 1 0xFFF) } }
      s.modFibre (2 * q + d) (fun f => { f with recovering := f.recovering.orElse (fun _ => some r.wave.val) })
    | none => s
  let k := placeKey r.place
  if tabFind s.opt.slipSheaf k = some s.fleetSheaf then s
  else
    let s := { s with opt := { s.opt with slipSheaf := tabPut s.opt.slipSheaf k s.fleetSheaf } }
    raise 0x0704 0 (slipWord s.opt % 2 ^ 64) (slipWord s.opt / 2 ^ 64) 0 0 s

/-- An end checks a ring: slipped, or re-acquired in place (R289). -/
def checkRing (r : RingId) (s : State) : State :=
  let x := s.ring (ringKey r)
  if x.failed || x.slipped.isSome then s
  else if x.slips then declareSlip r s
  else s.modRing (ringKey r) (fun x => { x with locked := false, quiet := 0, weak := 0 })

/-! ### The transmit fibre of a rail (R285 to R293) -/

/-- A wavelength's code in a fibre's map (R284, R298). -/
def FibreMap.code (f : FibreMap) (w : Nat) : Nat := tabGet f.map w 0x3F

/-- The wavelength that carries a channel. -/
def FibreMap.waveOf (f : FibreMap) (c : Nat) : Option Nat := (List.range 34).find? (fun w => f.code w == c)

/-- The suspended channel that the next free wavelength serves: the control channel, then data channels in ascending
order (R290). -/
def nextSuspended (l : List Nat) : Option Nat := if l.contains 32 then some 32 else l.head?

/-- A working spare serves the next suspended channel, if there is one (R290). -/
def serveSuspended (r : Nat) (s : State) : State :=
  let f := s.fibre (2 * r)
  match f.spare, nextSuspended (s.rail r).suspended with
  | some w, some c =>
    if f.retired || f.moving.isSome then s
    else
      let s := s.modRail r (fun x => { x with suspended := setDel x.suspended c })
      s.modFibre (2 * r) (fun f => { f with map := tabPut f.map w c, spare := none, rotating := false })
  | _, _ => s

/-- A transmitter finds a mismatch on a wavelength: the channel it carries moves to the spare at once or is suspended,
and a handover under way completes or is abandoned (R290, R293). -/
def loseWave (r w : Nat) (s : State) : State :=
  let f := s.fibre (2 * r)
  let c := f.code w
  match f.moving with
  | some (mc, src, dst) =>
    if src = w then
      s.modFibre (2 * r) (fun f => { f with map := tabPut (tabPut f.map dst mc) w 0x3F, spare := none, moving := none,
                                            rotating := false })
    else
      let s := s.modFibre (2 * r) (fun f => { f with moving := none })
      if dst = w then s.modFibre (2 * r) (fun f => { f with map := tabPut f.map w 0x3F, spare := none, rotating := false })
      else
        let s := s.modFibre (2 * r) (fun f => { f with map := tabPut f.map w 0x3F })
        let s := if c ≤ 32 then s.modRail r (fun x => { x with suspended := setIns x.suspended c }) else s
        checkWidth r (serveSuspended r s)
  | none =>
    if f.spare = some w then
      s.modFibre (2 * r) (fun f => { f with map := tabPut f.map w 0x3F, spare := none, rotating := false })
    else
      let s := s.modFibre (2 * r) (fun f => { f with map := tabPut f.map w 0x3F })
      let s := if c ≤ 32 then s.modRail r (fun x => { x with suspended := setIns x.suspended c }) else s
      checkWidth r (serveSuspended r s)

/-- A recovered wavelength of a transmit fibre serves a suspended channel, or becomes the spare and is calibrated in a
new slot, from which rotation resumes (R290, R291). -/
def freeWave (r w : Nat) (s : State) : State :=
  let f := s.fibre (2 * r)
  if f.code w ≠ 0x3F then s
  else match nextSuspended (s.rail r).suspended with
    | some c =>
      let s := s.modRail r (fun x => { x with suspended := setDel x.suspended c })
      noteNarrow (evalReady (s.modFibre (2 * r) (fun f => { f with map := tabPut f.map w c })))
    | none =>
      if f.spare.isSome && !f.retired then s
      else s.modFibre (2 * r) (fun f => { f with map := tabPut f.map w 33, spare := some w, rotating := true, retired := false })

/-- A wavelength is retired: it carries nothing, and rotation stops on the fibre. It is the spare of the fibre where that has
no other (R288, R291). -/
def retireWave (r dir w : Nat) (s : State) : State :=
  let put := fun (f : FibreMap) =>
    { f with retired := f.retired || f.spare.all (· == w), rotating := false, moving := none, map := tabPut f.map w 0x3E,
             dead := setIns f.dead w, spare := f.spare.orElse (fun _ => some w) }
  let s := s.modFibre (2 * r + dir) put
  raise 0x0705 0 r dir w 0 { s with opt := { s.opt with spareLost := true } }

/-- The transmitter visits the channel that follows the last slot's in the cycle: it begins to move onto the spare, or, parked,
its wavelength takes training frames for requalification; suspended and unmapped channels are skipped (R286, R288). Coming
round to the start of the cycle counts it (R298). -/
def visit (r : Nat) (last : Option Nat) (s : State) : State :=
  let f := s.fibre (2 * r)
  let x := s.rail r
  let c := match last with | some k => k + 1 | none => 0
  let order := (List.range 33).map (fun i => (c + i) % 33)
  match f.spare, order.find? (fun k => !x.suspended.contains k && (f.waveOf k).isSome) with
  | some w, some k =>
    let from_ := (f.waveOf k).getD 0
    let n := satAdd (tabGet s.opt.cycles r 0) 1 0xFFF
    let s := if last.all (fun l => decide (l < k)) then s else { s with opt := { s.opt with cycles := tabPut s.opt.cycles r n } }
    if x.parked.toNat.testBit k then
      s.modFibre (2 * r) (fun f => { f with slot := k, requal := some (from_, 2 ^ 20) })
    else s.modFibre (2 * r) (fun f => { f with slot := k, requal := none, moving := some (k, from_, w), reports := [] })
  | _, _ => s

/-- The next slipped ring of a fibre is recovered (R291). -/
def nextRecovery (r dir : Nat) (s : State) : State :=
  let ws := (List.range 34).filter (fun w => (s.ring (ringKey (railRing r dir w))).slipped.isSome
    && !(s.ring (ringKey (railRing r dir w))).failed)
  match ws with
  | [] => s.modFibre (2 * r + dir) (fun f => { f with recovering := none })
  | w :: _ =>
    let s := s.modRing (ringKey (railRing r dir w)) (fun x => { x with slipped := some s.now })
    s.modFibre (2 * r + dir) (fun f => { f with recovering := some w })

/-! ### Observations of a receiver (R284, R289) -/

/-- The value that an IDENT word reports for a wavelength (R284). -/
def identValue (x : LaneRx) (f : FibreMap) (w : Nat) : Nat :=
  if f.dead.contains w then 0x3E
  else if !x.locked then 0x3F
  else match tabGet f.ident w [] with
    | [] => 0x3F
    | c :: rest => if rest.length = 7 ∧ rest.all (· == c) ∧ c ≤ 33 then c else 0x3F

/-- The channel that the rotation of a fibre visits next, as its receiver knows it (R286). -/
def FibreMap.nextVisit (f : FibreMap) (parked : Nat) : Option Nat :=
  ((List.range 33).map (fun i => (f.slot + 1 + i) % 33)).find? (fun c => !parked.testBit c && (f.waveOf c).isSome)

/-- What a receiver sees on a wavelength is not what it last reported there. The moves of the rotation are no difference: the
next channel of the cycle comes onto the spare, and a channel seen on another wavelength leaves training frames behind
(R286, R287, R289, log entry 14). -/
def identChanged (f : FibreMap) (parked w c : Nat) : Bool :=
  let told := f.code w
  let moved := (told == 33 && f.nextVisit parked == some c)
    || (c == 33 && f.ident.any (fun p => p.1 != w && p.2.headD 0x3F == told))
  decide (told ≤ 33) && told != c && !moved

/-- A receiver's identity observation on a wavelength of a fibre; the fourth in a row that differs from the identity it last
reported there leads to a ring check (R284, R289). -/
def observe (key w c : Nat) (ring : RingId) (s : State) : State :=
  let f := s.fibre key
  let seen := (c :: tabGet f.ident w []).take 8
  let n := if identChanged f (s.rail (key / 2)).parked.toNat w c then tabGet f.mismatch w 0 + 1 else 0
  let s := s.modFibre key (fun f => { f with ident := tabPut f.ident w seen, mismatch := tabPut f.mismatch w (if 4 ≤ n then 0 else n) })
  if 4 ≤ n then checkRing ring s else s

/-- Codewords decoded on a wavelength, by their symbols in error; the sixteenth in a row that could not be corrected leads to
a ring check (R289). -/
def missCodewords (key w : Nat) (codes : List Nat) (ring : RingId) (s : State) : State :=
  let t := codes.foldl (fun (a : Nat × Bool) n =>
    if rsDecodes n then (0, a.2) else if 15 ≤ a.1 then (0, true) else (a.1 + 1, a.2)) (tabGet (s.fibre key).bad w 0, false)
  let s := s.modFibre key (fun f => { f with bad := tabPut f.bad w t.1 })
  if t.2 then checkRing ring s else s

/-- A ring whose fabrication offset is more than 0.3 nm is failed (R277). -/
def Ring.tooFar (x : Ring) : Bool := decide (300 < x.offset.natAbs)

/-- A ring that has been acquired and measured: h_cal, t_cal, S, rho and P_off are taken afresh, and trim starts at 0 (R280,
R286). -/
def measureRing (c : RingCal) (x : Ring) : Ring :=
  { x with hcal := c.hcal.toNat, tcal := c.tcal.val, spacing := max 1 c.spacing.toNat, rho := c.rho.val, poff := c.poff.toNat
           trim := 0, heater := c.hcal.toNat, power := c.power.toNat, lockedPower := c.power.toNat, locked := true, quiet := 16
           weak := 0, slipped := none }

/-- The full calibration of a ring: o and k_ff too, and one with too large an offset is failed (R277, R295). -/
def calibrateRing (c : RingCal) (x : Ring) : Ring :=
  let x := { measureRing c x with offset := c.offset.toInt, kff := c.kff.toInt }
  { x with failed := x.tooFar, locked := !x.tooFar }

/-- Rings that have been calibrated (R277, R295). -/
def calibrateRings (cals : RingCals) (s : State) : State :=
  cals.foldl (fun s c => s.modRing (ringKey c.1) (calibrateRing c.2)) s

/-! ### Rings of the Sill (R292) -/

/-- A ring of a Sill port. -/
def sillRing (site port wl : Nat) (rx : Bool) : RingId :=
  { place := .port (BitVec.ofNat 8 site) ⟨port % 32, Nat.mod_lt _ (by decide)⟩ rx, wave := ⟨wl % 47, Nat.mod_lt _ (by decide)⟩ }

/-- The physical wavelength of a lane: its own, or the spare to which it is mapped (R158, R182, R273). -/
def lanePhys (s : State) (k wl : Nat) : Nat := (s.lane k).spares.getLast?.getD wl

/-- A frame on a receive lane passes or fails its wl check; the fourth failure in a row leads to a ring check (R292). -/
def wlCheck (site port wl : Nat) (ok : Bool) (s : State) : State :=
  let k := site * 4096 + 2048 + 45 * port + wl
  if ok then (if (s.lane k).wlFails = 0 then s else s.modLane k (fun l => { l with wlFails := 0 }))
  else if 3 ≤ (s.lane k).wlFails then checkRing (sillRing site port (lanePhys s k wl) true) (s.modLane k (fun l => { l with wlFails := 0 }))
  else s.modLane k (fun l => { l with wlFails := l.wlFails + 1 })

/-- A frame sent on a lane draws a retry request, or is held by its receiver; the fourth request in a row leads to a
ring check (R292). -/
def askCheck (site port wl : Nat) (asked : Bool) (s : State) : State :=
  let k := site * 4096 + 45 * port + wl
  if !asked then (if (s.lane k).asked = 0 then s else s.modLane k (fun l => { l with asked := 0 }))
  else if 3 ≤ (s.lane k).asked then checkRing (sillRing site port (lanePhys s k wl) false) (s.modLane k (fun l => { l with asked := 0 }))
  else s.modLane k (fun l => { l with asked := l.asked + 1 })

end Sys2Proof.Machine
end

