-- ==== Sys2Proof/Machine/Hbm.lean ====
section
/-! DEFINITION. HBM3E memory: the address map, the check code, reads and writes by burst, refresh, scrub and failure
(08_memory.md). -/

namespace Sys2Proof.Machine

/-- Bytes mapped (R193). -/
def hbmTop : Nat := 0x12000000000

/-- The stack that holds an address (R194). -/
def hbmStack (a : Nat) : Nat :=
  bits a 11 5 ^^^ bits a 16 5 ^^^ bits a 21 5 ^^^ bits a 26 5 ^^^ bits a 31 5 ^^^ bits a 36 5

/-- The pseudo-channel of an address (R194). -/
def hbmChannel (a : Nat) : Nat := bits a 6 5

/-- The bank of an address (R194). -/
def hbmBank (a : Nat) : Nat := bits a 20 21 % 48

/-- The row of an address (R194). -/
def hbmRow (a : Nat) : Nat := bits a 20 21 / 48

/-- The 64-byte piece of its page that holds an address (R194). -/
def hbmColumn (a : Nat) : Nat := bits a 16 4

/-! ### The check code (R196) -/

/-- Multiplication by the primitive element, modulo x^8 + x^4 + x^3 + x^2 + 1. -/
def gfStep (x : Nat) : Nat := if 128 ≤ x then (2 * x) ^^^ 0x11D else 2 * x

/-- Multiplication by the i-th power of the primitive element. -/
def gfMul : Nat → Nat → Nat
  | 0, x => x
  | i + 1, x => gfMul i (gfStep x)

/-- Symbol of lane i in a burst's pattern. -/
def laneSym (p i : Nat) : Nat := bits p (8 * i) 8

/-- The syndromes of a burst; those of a valid code word are 0, so they depend on the error pattern alone. -/
def syndromes (p : Nat) : Nat × Nat :=
  (List.range 34).foldl (fun a i => (a.1 ^^^ laneSym p i, a.2 ^^^ gfMul i (laneSym p i))) (0, 0)

/-- The lane that the syndromes name, if any. -/
def badLane (s0 s1 : Nat) : Option Nat :=
  if s0 = 0 ∨ s1 = 0 then none else (List.range 34).find? (fun i => gfMul i s0 == s1)

/-- Decoding of an error pattern: what is left of it in the data delivered, whether a lane was corrected, and whether
the burst is uncorrectable. -/
def decodePattern (p : Nat) : Nat × Bool × Bool :=
  let y := syndromes p
  if y.1 = 0 ∧ y.2 = 0 then (p, false, false)
  else match badLane y.1 y.2 with
    | some i => (p ^^^ (y.1 <<< (8 * i)), true, false)
    | none => (p, false, true)

/-- The bits that a pattern flips in byte k of the burst: beat k / 4, lanes 8 (k mod 4) to 8 (k mod 4) + 7. -/
def patternByte (p k : Nat) : Nat :=
  (List.range 8).foldl (fun a j => a + (if p.testBit (8 * (8 * (k % 4) + j) + k / 4) then 2 ^ j else 0)) 0

/-- The 32 data bytes with a pattern applied. -/
def flipBytes (p : Nat) (d : List (BitVec 8)) : List (BitVec 8) :=
  (List.range d.length).map (fun k => (d.getD k 0) ^^^ BitVec.ofNat 8 (patternByte p k))

/-- Errors are added to a stored burst (log entry 15). -/
def upsetBurst (u : HbmUpset) (s : State) : State :=
  let p := (tabGet s.hbm.errs u.burst 0) ^^^ u.flip
  { s with hbm := { s.hbm with errs := if p = 0 then tabDel s.hbm.errs u.burst else tabPut s.hbm.errs u.burst p } }

/-! ### Reads and writes (R192, R196 to R198, R205) -/

/-- The outcome of an access, the worst of its bursts: 0 done, 1 error, 2 aborted (R197, R204). -/
def worse (a b : Nat) : Nat := max a b

/-- MEM.STACK.STATE (R208). -/
def stackState (m : MemStack) : Nat :=
  m.state % 4 + b2n m.mode2x * 4 + m.temp % 256 * 8 + m.repaired % 64 * 2 ^ 11

/-- The record of a stack as MEM.STACK.STATE shows it: in training from the order of its site's block reset on (R208). -/
def shownStack (s : State) (h : Nat) : MemStack :=
  if s.rst.blocks.any (fun b => b.kind == 3 && b.index == h) then { s.mstack h with state := 1 } else s.mstack h

/-- An uncorrectable burst is counted, recorded and raised (R196, R207). -/
def recordUe (burst req : Nat) (s : State) : State :=
  let s := s.modMem (hbmStack (32 * burst)) (fun m => { m with uncorrectable := satAdd m.uncorrectable 1 0xFF })
  let s := { s with hbm := { s.hbm with ue := true, ueBurst := burst, ueReq := req, ueGrain := s.now } }
  raise 0x0401 0 (32 * burst % 2 ^ 41 + req % 256 * 2 ^ 41) s.now 0 0 s

/-- The state of a stack as a requester meets it: from the quiesce of the site's block reset on, every access but that of
an open stream is aborted (R184, R192, R204). -/
def stackFor (s : State) (h req : Nat) : Nat :=
  if s.rst.blocks.any (fun b => b.kind == 3 && b.index == h && (b.phase != 0 || decide (128 ≤ req))) then 1
  else (s.mstack h).state

/-- One burst is read: its data as delivered, the outcome, and the state with the burst's counts (R196, R204, R205). -/
def readBurst (burst req : Nat) (s : State) : List (BitVec 8) × Nat × State :=
  let h := hbmStack (32 * burst)
  match stackFor s h req with
  | 3 => (List.replicate 32 0, 1, s)
  | 2 =>
    let d := memBytes 0 s.hbm.mem (32 * burst) 32
    match tabFind s.hbm.errs burst with
    | none => (d, 0, s)
    | some p =>
      let r := decodePattern p.toNat
      let d := flipBytes r.1 d
      if r.2.2 then (d, 1, recordUe burst req s)
      else if r.2.1 then
        (d, 0, s.modMem h (fun m => { m with corrected := satAdd m.corrected 1 0xFFFF }))
      else (d, 0, s)
  | _ => (List.replicate 32 0, 2, s)

/-- The bursts that a range of bytes touches. -/
def burstsOf (a n : Nat) : List Nat :=
  if n = 0 then [] else (List.range ((a + n - 1) / 32 - a / 32 + 1)).map (a / 32 + ·)

/-- A range of bytes is read; an uncorrectable burst does not stop it (R197, R205). -/
def hbmRead (a n req : Nat) (s : State) : List (BitVec 8) × Nat × State :=
  let r := (burstsOf a n).foldl (fun (x : List (BitVec 8) × Nat × State) b =>
    let y := readBurst b req x.2.2
    (x.1 ++ y.1, worse x.2.1 y.2.1, y.2.2)) ([], 0, s)
  ((r.1.drop (a % 32)).take n, r.2)

/-- The data bytes of one burst are stored with fresh check bits (R198). -/
def putBurst (burst : Nat) (d : List (BitVec 8)) (s : State) : State :=
  { s with hbm := { s.hbm with mem := memStore 0 s.hbm.mem (32 * burst) d, errs := tabDel s.hbm.errs burst } }

/-- What a write would leave in one burst, whole or by read and merge: the outcome, the burst's new bytes, and the state
with the read's counts (R198, R204, R205). -/
def mergeBurst (burst off : Nat) (d : List (BitVec 8)) (req : Nat) (s : State) : Nat × List (BitVec 8) × State :=
  match stackFor s (hbmStack (32 * burst)) req with
  | 3 => (1, [], s)
  | 2 =>
    if d.length = 32 then (0, d, s)
    else
      let r := readBurst burst req s
      (r.2.1, r.1.take off ++ d ++ r.1.drop (off + d.length), r.2.2)
  | _ => (2, [], s)

/-- One burst is written; a merge that reads an uncorrectable burst leaves it (R198, R204, R205). -/
def writeBurst (burst off : Nat) (d : List (BitVec 8)) (req : Nat) (s : State) : Nat × State :=
  let m := mergeBurst burst off d req s
  if m.1 = 0 then (0, putBurst burst m.2.1 m.2.2) else (m.1, m.2.2)

/-- The part of a write at address `a` that falls in a burst: its offset in the burst, and its bytes. -/
def burstPart (a : Nat) (d : List (BitVec 8)) (b : Nat) : Nat × List (BitVec 8) :=
  let lo := max a (32 * b)
  let hi := min (a + d.length) (32 * b + 32)
  (lo - 32 * b, (d.drop (lo - a)).take (hi - lo))

/-- Every burst that a write touches is merged: the worst outcome, the bursts with their new bytes, and the state. -/
def mergeRange (a : Nat) (d : List (BitVec 8)) (req : Nat) (s : State) : Nat × List (Nat × List (BitVec 8)) × State :=
  (burstsOf a d.length).foldl (fun (x : Nat × List (Nat × List (BitVec 8)) × State) b =>
    let p := burstPart a d b
    let m := mergeBurst b p.1 p.2 req x.2.2
    (worse x.1 m.1, x.2.1 ++ [(b, m.2.1)], m.2.2)) (0, [], s)

/-- A range of bytes is written as one action: where the merge of any burst fails, no byte of it is applied (R192, R198,
R205, R326). -/
def hbmWrite (a : Nat) (d : List (BitVec 8)) (req : Nat) (s : State) : Nat × State :=
  let m := mergeRange a d req s
  if m.1 = 0 then (0, m.2.1.foldl (fun s b => putBurst b.1 b.2 s) m.2.2) else (m.1, m.2.2)

/-! ### Refresh (R200, R201) -/

/-- The key of a pseudo-channel. -/
def channelKey (stack pc : Nat) : Nat := stack * 32 + pc

/-- A grain is a refresh slot of pseudo-channel q (R200). -/
def isSlot (mode2x : Bool) (q t : Nat) : Bool := if mode2x then t % 32 == q else t % 64 == 2 * q

/-- The first refresh slot of pseudo-channel q at or after a grain (R200). -/
def nextSlot (mode2x : Bool) (q t : Nat) : Nat :=
  let p := if mode2x then 32 else 64
  let r := if mode2x then q else 2 * q
  t + (r + p - t % p) % p

/-- The passed-over slot that a pseudo-channel issues next, if a forward step left one (R31). -/
def overdueSlot (s : State) (stack pc : Nat) : Option Nat :=
  let done := tabGet s.hbm.caught (channelKey stack pc) 0
  s.time.refreshDue.findSome? (fun r =>
    let t := nextSlot (s.mstack stack).mode2x pc (max r.1 (done + 1))
    if t < r.2 then some t else none)

/-- The rotation of a pseudo-channel over its banks: every bank once, in an order that the spec leaves to the HBM3E standard
(R200, log entry 9). -/
def refreshOrder (stack pc : Nat) : List Nat :=
  ((List.range 48).foldl (fun (x : List Nat × List Nat) i =>
    let k := Config.refreshBank stack pc i % x.2.length
    (x.1 ++ [x.2.getD k 0], x.2.eraseIdx k)) ([], List.range 48)).1

/-- A pseudo-channel issues a per-bank refresh, of the next bank of its rotation (R200). -/
def issueRefresh (stack pc : Nat) (s : State) : State :=
  let k := channelKey stack pc
  let n := tabGet s.hbm.slots k 0
  { s with hbm := { s.hbm with
      slots := tabPut s.hbm.slots k (n + 1)
      inRefresh := s.hbm.inRefresh ++
        [{ stack := stack, pc := pc, bank := (refreshOrder stack pc).getD (n % 48) 0, atGrain := s.now }] } }

/-- REFRESH_SLOT: a pseudo-channel issues the refresh of its slot, or one that a forward step of the counter passed
over (R31, R200). -/
def execRefreshSlot (stack : Fin 32) (pc : Fin 32) (s : State) : Host.Outcome State Fault Refusal :=
  let h := stack.val
  let q := pc.val
  let m := s.mstack h
  let k := channelKey h q
  .next (if m.state ≠ 2 ∨ m.selfRefresh then s
  else if isSlot m.mode2x q s.now && tabFind s.hbm.lastSlot k != some s.now then
    issueRefresh h q { s with hbm := { s.hbm with lastSlot := tabPut s.hbm.lastSlot k s.now } }
  else match overdueSlot s h q with
    | some t => issueRefresh h q { s with hbm := { s.hbm with caught := tabPut s.hbm.caught k t } }
    | none => s)

/-- REFRESH_END: the bank leaves refresh; a frame that waited behind it has waited until now (R201, R208). -/
def execRefreshEnd (stack : Fin 32) (pc : Fin 32) (bank : Fin 48) (s : State) : Host.Outcome State Fault Refusal :=
  let p := fun (r : Refresh) => r.stack == stack.val && r.pc == pc.val && r.bank == bank.val
  match s.hbm.inRefresh.find? p with
  | none => .next s
  | some r =>
    let s := { s with hbm := { s.hbm with inRefresh := delFirst p s.hbm.inRefresh } }
    .next (match r.since with
      | some g => s.modMem stack.val (fun m => { m with maxHold := max m.maxHold (min (s.now - g) 255) })
      | none => s)

/-- REFRESH_MODE_CHANGE: at a fleet sheaf boundary the refresh mode follows the stack's temperature (R200). -/
def execRefreshModeChange (stack : Fin 32) (s : State) : Host.Outcome State Fault Refusal :=
  let h := stack.val
  let m := s.mstack h
  .next (if !s.atBoundary || m.state ≠ 2 then s
  else if !m.mode2x && decide (85 * 16 ≤ m.temp16) then
    let s := s.modMem h (fun m => { m with mode2x := true })
    raise 0x0402 0 h (stackState (s.mstack h)) 0 0 s
  else if m.mode2x && decide (m.temp16 ≤ 80 * 16) then s.modMem h (fun m => { m with mode2x := false })
  else s)

/-- A piece of memory whose bank is in refresh. -/
def inRefreshAt (s : State) (a : Nat) : Bool :=
  s.hbm.inRefresh.any (fun r => r.stack == hbmStack a && r.pc == hbmChannel a && r.bank == hbmBank a)

/-- A frame of 256 bytes is held where a bank of its pieces is in refresh: it counts once (R201, R208). -/
def holdFrame (a : Nat) (s : State) : Bool × State :=
  let pieces := (List.range 4).map (fun i => a + 64 * i)
  if pieces.any (inRefreshAt s) then
    let hit := fun (r : Refresh) =>
      pieces.any (fun x => r.stack == hbmStack x && r.pc == hbmChannel x && r.bank == hbmBank x)
    let upd := s.hbm.inRefresh.map (fun r => if hit r then { r with since := some (r.since.getD s.now) } else r)
    let s := { s with hbm := { s.hbm with inRefresh := upd } }
    (true, s.modMem (hbmStack a) (fun m => { m with held := satAdd m.held 1 0xFFFF }))
  else (false, s)

/-! ### Scrub and failure (R199, R202, R205) -/

/-- The next burst of a scrub pass, from one on: those of a stack that is not ready are passed over, a granule at a time
(R194, R199). -/
def scrubNext (s : State) (b : Nat) : Option Nat :=
  let l := b :: (List.range 64).map (fun i => 64 * (b / 64 + 1 + i))
  l.find? (fun b => decide (b < hbmTop / 32) && (s.mstack (hbmStack (32 * b))).state == 2)

/-- SCRUB_BURST: the next burst is read, and its corrected data written back; an uncorrectable one is recorded and left.
The pass ends past the last burst (R199). -/
def execScrubBurst (noise : List HbmUpset) (s : State) : Host.Outcome State Fault Refusal :=
  .next (if s.runActive || !s.hbm.xfers.isEmpty || !s.rst.blocks.isEmpty then s
  else match scrubNext s s.hbm.scrubAt with
    | none => { s with hbm := { s.hbm with scrubAt := 0, scrub := false } }
    | some b =>
      let s := noise.foldl (fun s u => upsetBurst u s) s
      let r := readBurst b 169 s
      let s := if r.2.1 = 0 ∧ (tabFind s.hbm.errs b).isSome then putBurst b r.1 r.2.2 else r.2.2
      let n := b + 1
      { s with hbm := { s.hbm with scrubAt := if n < hbmTop / 32 then n else 0, scrub := decide (n < hbmTop / 32) } })

/-- A stack is failed: marked, raised, and the ready state is evaluated (R202, R205, R468). -/
def failStack (h : Nat) (s : State) : State :=
  let s := s.modMem h (fun m => { m with state := 3 })
  evalReady (raise 0x0403 0 h (stackState (s.mstack h)) 0 0 s)

/-- MEM_TRAINING_LOST: a stack in service loses training and fails (R205). -/
def execMemTrainingLost (stack : Fin 32) (s : State) : Host.Outcome State Fault Refusal :=
  .next (if (s.mstack stack.val).state = 2 then failStack stack.val s else s)

end Sys2Proof.Machine
end

