-- ==== Sys2Proof/Machine/Sites.lean ====
section
/-! DEFINITION. Sites, ports and the paths of light on the Sill (R154 to R158, R162, R166, R184, R190, R538). -/

namespace Sys2Proof.Machine

/-- Where a port joins a bus: the bus (girt g as g, post p as 4 + p), the position in half millimetres, and the
waveguide. -/
structure Attach where
  bus : Nat
  pos : Nat
  wave : Nat
deriving DecidableEq, Repr

/-- A waveguide from the list, at a bus and a position. -/
def attachFrom (bus pos : Nat) (ws : List Nat) (i : Nat) : Option Attach :=
  (ws[i]?).map (fun w => { bus := bus, pos := pos, wave := w })

/-- The attachment of a compute site's port, the same in both directions (R538). -/
def attachCompute (c q : Nat) : Option Attach :=
  if q < 8 then some { bus := 1, pos := 52 * c + 13, wave := 64 * (q % 4) + q / 4 }
  else if q < 16 then some { bus := 2, pos := 52 * c + 13, wave := 64 * ((q - 8) % 4) + (q - 8) / 4 }
  else if q < 25 then some { bus := 4 + c, pos := 132, wave := 64 * ((q - 16) % 4) + 4 + (q - 16) / 4 }
  else none

/-- The attachment of an HBM site's port in a direction, 0 transmit and 1 receive (R538). -/
def attachHbm (h dir q : Nat) : Option Attach :=
  let j := h % 16 / 2
  let k := h % 2
  if h < 16 then
    if dir = 1 then attachFrom (4 + j) 16 [128, 192, 129, 193, 132, 196, 133] q
    else if q < 4 then attachFrom (4 + j) 16 [0, 64, 1, 65] q
    else attachFrom 0 (52 * j + 13 + 26 * k) [4, 68, 5] (q - 4)
  else
    if dir = 1 then attachFrom (4 + j) 248 [0, 64, 1, 65, 4, 68, 5] q
    else if q < 4 then attachFrom (4 + j) 248 [128, 192, 129, 193] q
    else attachFrom 3 (52 * j + 13 + 26 * k) [132, 196, 133] (q - 4)

/-- The attachment of a rail site's port (R538). -/
def attachRail (r dir q : Nat) : Option Attach :=
  if r < 13 then attachFrom 0 (32 * r + 16) (if dir = 0 then [6, 69] else [133, 197]) q
  else attachFrom 3 (32 * (r - 13) + 16) (if dir = 0 then [133, 197] else [6, 69]) q

/-- The attachment of a port of a site (R156, R538). -/
def attach (site dir q : Nat) : Option Attach :=
  if site < 8 then attachCompute site q
  else if 0x10 ≤ site ∧ site < 0x30 then attachHbm (site - 0x10) dir q
  else if 0x40 ≤ site ∧ site < 0x5A then attachRail (site - 0x40) dir q
  else if site = 0x60 ∧ q = 0 then some { bus := 0, pos := 0, wave := 240 + dir }
  else if site = 0x61 ∧ q = 0 then some { bus := 3, pos := 0, wave := 240 + dir }
  else none

/-- A site ID that occurs (R154). -/
def siteValid (site : Nat) : Bool :=
  decide (site < 8) || decide (0x10 ≤ site ∧ site < 0x30) || decide (0x40 ≤ site ∧ site < 0x5A)
    || site == 0x60 || site == 0x61 || site == 0x70

/-- SILL.ATTACH (R190). -/
def attachWord (site dir q : Nat) : Nat :=
  match attach site dir q with
  | some a => a.bus + a.wave * 16
  | none => 0xF

def isGirt (bus : Nat) : Bool := decide (bus < 4)

/-- Light on a waveguide of a bus runs towards rising positions (R155). -/
def runsUp (bus wave : Nat) : Bool := if isGirt bus then wave / 64 % 2 == 0 else wave / 64 < 2

/-- Position of the crossing with another bus on a bus (R538). -/
def crossPos (bus other : Nat) : Nat := if isGirt bus then 52 * (other - 4) + 26 else 66 * other + 33

/-- A stretch of a waveguide that carries a lane's light, from its transmitter's end. -/
structure Beam where
  bus : Nat
  start : Nat
  stop : Nat
  wave : Nat
deriving DecidableEq, Repr

/-- The light runs along a span in its waveguide's direction. -/
def Beam.ok (x : Beam) : Bool := if runsUp x.bus x.wave then decide (x.start ≤ x.stop) else decide (x.stop ≤ x.start)

/-- The spans from one attachment to another, on one bus or turning once at a peg, if the light can take them (R157). -/
def lightPath (a b : Attach) : Option (List Beam) :=
  if a.wave ≠ b.wave then none
  else
    let p : List Beam :=
      if a.bus = b.bus then [{ bus := a.bus, start := a.pos, stop := b.pos, wave := a.wave }]
      else [{ bus := a.bus, start := a.pos, stop := crossPos a.bus b.bus, wave := a.wave },
            { bus := b.bus, start := crossPos b.bus a.bus, stop := b.pos, wave := a.wave }]
    if (a.bus = b.bus ∨ isGirt a.bus ≠ isGirt b.bus) ∧ p.all Beam.ok then some p else none

/-- The owner of a descriptor of this kind transmits (R170). -/
def ownerSends (kind : Nat) : Bool := kind == 2 || kind == 3 || kind == 5

/-- What a lane entry's port joins: the partner's port and the spans between them, the one-bus path first (R157, R169,
R170). -/
def entryJoin (kind owner partner port : Nat) : Option (Nat × List Beam) :=
  let out := ownerSends kind
  match attach owner (if out then 0 else 1) port with
  | none => none
  | some a =>
    let paths := (List.range 25).filterMap (fun q =>
      (attach partner (if out then 1 else 0) q).bind (fun b =>
        (if out then lightPath a b else lightPath b a).map (fun p => (q, p))))
    match paths.find? (fun p => p.2.length == 1) with
    | some p => some p
    | none => paths.head?

/-- The spans of a lane entry's port. -/
def entryPath (kind owner partner port : Nat) : Option (List Beam) := (entryJoin kind owner partner port).map (·.2)

/-- The peg at which a path turns, if it turns (R157, R162). -/
def turnPeg : List Beam → Option Nat
  | [a, b] => some ((if isGirt a.bus then 8 * a.bus + (b.bus - 4) else 8 * b.bus + (a.bus - 4)) * 256 + a.wave)
  | _ => none

/-- Numbers of the pegs on a waveguide at the crossings strictly inside a span (R162). -/
def Beam.pegs (x : Beam) : List Nat :=
  let lo := min x.start x.stop
  let hi := max x.start x.stop
  if isGirt x.bus then
    ((List.range 8).filter (fun p => decide (lo < 52 * p + 26 ∧ 52 * p + 26 < hi))).map
      (fun p => (8 * x.bus + p) * 256 + x.wave)
  else
    ((List.range 4).filter (fun g => decide (lo < 66 * g + 33 ∧ 66 * g + 33 < hi))).map
      (fun g => (8 * g + (x.bus - 4)) * 256 + x.wave)

/-- Fields of a lane entry (R170). -/
def lnPort (e : BitVec 32) : Nat := bits e.toNat 8 5
def lnFirst (e : BitVec 32) : Nat := bits e.toNat 13 6
def lnCount (e : BitVec 32) : Nat := bits e.toNat 19 6
def lnReserved (e : BitVec 32) : Nat := bits e.toNat 25 7

/-- The spans of every lane of a descriptor. -/
def Desc.spans (d : Desc) : List Beam :=
  d.lanes.flatMap (fun e => (entryPath d.kind d.site (lnPartner e) (lnPort e)).getD [])

/-- The pegs of the held set that must be off: those that a lane's light passes and the descriptor does not name
(R166). -/
def heldOff (d : Desc) : List Nat :=
  setOf ((d.spans.flatMap Beam.pegs).filter (fun p => !d.pegs.contains p))

/-- A span covers part of bay (p, g), ends included (R184). -/
def Beam.inBay (x : Beam) (p g : Nat) : Bool :=
  let lo := min x.start x.stop
  let hi := max x.start x.stop
  if isGirt x.bus then x.bus == g && decide (lo ≤ 52 * p + 52) && decide (52 * p ≤ hi)
  else x.bus == 4 + p && decide (lo ≤ 66 * g + 66) && decide (66 * g ≤ hi)

/-- A block of BLOCK_RESET kind and index lies under or beside a stream of this descriptor (R184, R391). -/
def Desc.touches (d : Desc) (kind index : Nat) : Bool :=
  match kind with
  | 1 | 2 => d.site == index || d.partners.contains index
  | 3 => d.kind == 1 || d.kind == 2 || d.partners.contains (0x10 + index)
  | 4 => d.partners.contains (0x40 + index)
  | 5 => d.spans.any (fun x => x.inBay (index % 8) (index / 8))
  | 6 => true
  | _ => false

/-- The site and the port that transmit on a lane entry (R169, R170). -/
def entrySends (d : Desc) (e : BitVec 32) : Option (Nat × Nat) :=
  if ownerSends d.kind then some (d.site, lnPort e)
  else (entryJoin d.kind d.site (lnPartner e) (lnPort e)).map (fun j => (lnPartner e, j.1))

/-- The site and the port that receive on a lane entry. -/
def entryTakes (d : Desc) (e : BitVec 32) : Option (Nat × Nat) :=
  if ownerSends d.kind then (entryJoin d.kind d.site (lnPartner e) (lnPort e)).map (fun j => (lnPartner e, j.1))
  else some (d.site, lnPort e)

/-- The key of a transmit lane (R158). -/
def laneKey (site lane : Nat) : Nat := site * 4096 + lane

/-- The lanes of an entry, at the end that transmits (R158, R170, R181). -/
def entryLanes (d : Desc) (e : BitVec 32) : List Nat :=
  match entrySends d e with
  | none => []
  | some t => (List.range (lnCount e)).map (fun i => laneKey t.1 (45 * t.2 + lnFirst e + i))

/-- The entry of a descriptor on which a port of a site transmits a wavelength. -/
def entrySending (d : Desc) (site port wl : Nat) : Option (BitVec 32) :=
  d.lanes.find? (fun e => entrySends d e == some (site, port)
    && decide (lnFirst e ≤ wl ∧ wl < lnFirst e + lnCount e))

/-- The transmitter that a receiving lane of a site expects, by its site and port (R180). -/
def laneSource (d : Desc) (site port wl : Nat) : Option (Nat × Nat) :=
  (d.lanes.find? (fun e => entryTakes d e == some (site, port)
    && decide (lnFirst e ≤ wl ∧ wl < lnFirst e + lnCount e))).bind (entrySends d)

/-- The lane of an entry that follows one, in increasing wavelength with wrap, past those that are out of use (R180,
R181). -/
def nextLaneOf (e : BitVec 32) (wl : Nat) (ok : Nat → Bool) : Option Nat :=
  let turn := (List.range (lnCount e)).map (fun i => lnFirst e + (wl - lnFirst e + 1 + i) % lnCount e)
  turn.find? ok

end Sys2Proof.Machine
end

