-- ==== Sys2Proof/Machine/Sill.lean ====
section
/-! DEFINITION. The Sill fabric: peg plans, streams, frames, control words, retries and lanes (07_sill_fabric.md). -/

namespace Sys2Proof.Machine

/-- A schedule sheaf begins at this grain: the run is running, and no idle sheaf is inserted here (R38, R39, R437). -/
def State.schedBoundary (s : State) : Bool :=
  s.cut.state == .running && s.atBoundary && s.time.strobed == some s.now && !s.cut.idleNow && !s.cut.idleDue
    && s.dueGrain s.cut.sheaf 0 == s.now

def State.desc (s : State) (i : Nat) : Desc := tabGet s.cut.descs i {}

/-! ### Rail-site buffers (R301, R332) -/

/-- The key of a byte of a rail-site buffer. -/
def bufAddr (site off : Nat) : Nat := site * 2 ^ 27 + off

/-- An offset lies in the remote window (R301). -/
def inWindow (off : Nat) : Bool := decide (0xFF00 * 2048 ≤ off)

def railBytes (s : State) (site off n : Nat) : List (BitVec 8) :=
  memBytes 0 (if inWindow off then s.fab.window else s.col.area) (bufAddr site off) n

/-- Bytes are written to a rail-site buffer (R332). -/
def railStore (site off : Nat) (b : List (BitVec 8)) (s : State) : State :=
  if inWindow off then { s with fab := { s.fab with window := memStore 0 s.fab.window (bufAddr site off) b } }
  else { s with col := { s.col with area := memStore 0 s.col.area (bufAddr site off) b } }

/-- The 64-byte units of a collective area that a write covers are marked as uncorrectable, or clean (R343). -/
def markArea (site off n : Nat) (bad : Bool) (s : State) : State :=
  if inWindow off then s
  else
    let units := (List.range (cdiv n 64)).map (off / 64 + ·)
    let keep := fun (l : List Nat) => if bad then units.foldl setIns l else l.filter (fun u => !units.contains u)
    s.modCol site (fun e => { e with uncorrArea := keep e.uncorrArea })

/-- A collective engine writes to its area (R343). -/
def storeArea (site off : Nat) (b : List (BitVec 8)) (s : State) : State :=
  markArea site off b.length false (railStore site off b s)

/-- The rail site and slot of remote-access engine e (R301). -/
def fabSite (e : Nat) : Nat := if e % 8 < 4 then e / 8 + 2 else e / 8 + 15
def fabSlot (e : Nat) : Nat := e % 4

/-- The first granule of an engine's request area; its response area begins 32 granules on (R301). -/
def fabGranule (e : Nat) : Nat := 0xFF00 + 64 * fabSlot e

/-- The remote-access engines of a rail site whose areas a range of granules touches (R301). -/
def fabTouched (site boff n : Nat) : List Nat :=
  (List.range 64).filter (fun e => fabSite e == site && decide (boff < fabGranule e + 64 ∧ fabGranule e < boff + n))

/-- A running batch bars an SLOUT from the areas of its engine (R304). -/
def batchBars (s : State) (site boff n : Nat) : Bool :=
  (fabTouched site boff n).any (fun e => (s.fabEng e).batch.isSome)

/-- A completed SLOUT that wrote granule 0 of a request area, as the granule numbers `wrote` say, lets its engine start a
batch (R304). -/
def armBatches (site boff n : Nat) (wrote : Nat → Bool) (s : State) : State :=
  ((fabTouched site boff n).filter (fun e => decide (boff ≤ fabGranule e) && wrote (fabGranule e - boff))).foldl
    (fun s e => if (s.fabEng e).batch.isSome then s else s.modFab e (fun x => { x with armed := true })) s

/-! ### Pegs (R162 to R167) -/

/-- The stream is open and has not ended (R166). -/
def Stream.live (st : Stream) : Bool := st.opened.isSome && st.closed.isNone

/-- The descriptors of a stream, its own and those of its matched receivers (R166, R174). -/
def streamDescs (s : State) (st : Stream) : List Desc :=
  s.desc st.desc :: (s.sill.streams.filter (fun x => x.kind == 4 && st.peers.contains x.owner)).map (fun x => s.desc x.desc)

/-- The pegs of a stream's held set: those that must be on, and those that must be off (R166). -/
def heldPegs (ds : List Desc) : List Nat × List Nat := (setOf (ds.flatMap (·.pegs)), setOf (ds.flatMap (·.off)))

/-- An open stream holds a peg (R166). -/
def pegHeld (s : State) (n : Nat) : Bool :=
  s.sill.streams.any (fun st => st.live && (let h := heldPegs (streamDescs s st); h.1.contains n || h.2.contains n))

/-- The crossing of a peg lies in a bay whose Sill path block is under reset (R184). -/
def pegBlocked (s : State) (n : Nat) : Bool :=
  s.rst.blocks.any (fun b => b.kind == 5 && b.phase != 0 && b.index == n / 256)

def Sill.plan (x : Sill) (epoch : Bool) : List Nat := if epoch then x.plan1 else x.plan0

/-- The engines of the open streams that hold a peg (R166). -/
def pegHolders (s : State) (n : Nat) : List Nat :=
  (s.sill.streams.filter (fun st => st.live && (let h := heldPegs (streamDescs s st); h.1.contains n || h.2.contains n))).map
    (·.owner)

/-- Pegs take the states of the plan in effect: changes to held pegs are deferred with their holders noted, and set the held
flag (R165, R166, R188). -/
def settlePegs (s : State) : State :=
  let x := s.sill
  let goal := x.plan x.epoch
  let diff := setOf (goal.filter (fun n => !x.pegs.contains n) ++ x.pegs.filter (fun n => !goal.contains n))
  let held := diff.filter (fun n => pegHeld s n)
  let move := diff.filter (fun n => !pegHeld s n && !pegBlocked s n)
  let flip := fun (l : List Nat) n => if l.contains n then setDel l n else setIns l n
  let kept := x.delays.filter (fun d => !(move.contains d.1 && !x.deferred.contains d.1))
  let new := (held.filter (fun n => !x.deferred.contains n)).flatMap (fun n => (pegHolders s n).map (fun e => (n, e, 0)))
  { s with sill := { x with
      pegs := move.foldl flip x.pegs
      changed := move.foldl (fun t n => tabPut t n s.now) x.changed
      heldFlag := x.heldFlag || held.any (fun n => !x.deferred.contains n)
      delays := kept.filter (fun d => !new.any (fun c => c.1 == d.1 && c.2.1 == d.2.1)) ++ new
      deferred := held } }

/-- The bits of a fetched plan, and whether it sets a bit of a service waveguide (R155, R163). -/
def planPegs (b : List (BitVec 8)) : List Nat × Bool :=
  let all := (List.range 1024).flatMap (fun k => (setBits 8 ((b.getD k 0).toNat)).map (fun j => 8 * k + j))
  (all.filter (fun n => n % 256 < 240), all.any (fun n => decide (240 ≤ n % 256)))

/-- A schedule sheaf boundary has passed since a grain (R164, R167). -/
def passedBoundary (s : State) (g : Nat) : Bool :=
  decide (g < s.dueGrain s.cut.sheaf 0 ∧ s.dueGrain s.cut.sheaf 0 ≤ s.now)

/-- PEGSET: the Sill sequencer's fetch of the plan ends, into the free buffer; uncorrectable data or an aborted fetch
halts the run (R163, R164, R167, R197, R204). -/
def execPegset (noise : List HbmUpset) (s : State) : Host.Outcome State Fault Refusal :=
  match flightOf (s.engine sillSeq) 4 (fun f => stOpcode f.step.word == 0x70 && !f.done) with
  | none => .next s
  | some f =>
    let addr := bits f.step.word.toNat 0 31
    if s.sill.pending then .next s
    else
      let s := noise.foldl (fun s u => upsetBurst u s) s
      let r := hbmRead (1024 * addr) 1024 168 s
      let s := r.2.2
      match r.2.1 with
      | 0 =>
        let p := planPegs r.1
        let late := passedBoundary s f.issued
        let x := s.sill
        let x := if x.epoch then { x with plan0 := p.1 } else { x with plan1 := p.1 }
        let s := { s with sill := { x with pending := true, pendingErr := p.2, pendingAddr := addr, late := late,
                                           latePlan := x.latePlan || late } }
        .next (if late then raise 0x0302 0 addr 0 0 0 s else s)
      | 1 => .next (haltRun 1 168 s)
      | _ => .next (haltRun 2 (hbmStack (1024 * addr)) s)

/-- PEG_PLAN_EFFECT: at a schedule sheaf boundary a fetched plan takes effect, the PEGSET completes, and deferred
changes that no open stream holds are made (R163 to R167). -/
def execPegPlanEffect (s : State) : Host.Outcome State Fault Refusal :=
  .next (if !s.schedBoundary then s
  else if s.sill.pending then
    let x := s.sill
    let s := { s with sill := { x with epoch := !x.epoch, pending := false, late := false, addr := x.pendingAddr,
                                       lateEffect := if x.late then some s.now else none } }
    let s := settlePegs s
    let p := fun (f : Flight) => stOpcode f.step.word == 0x70
    let s := modFlight sillSeq 4 p (fun f => { f with err := f.err || x.pendingErr, done := true }) s
    completeFlight sillSeq 4 p s
  else if s.sill.deferred.isEmpty && s.sill.pegs == setOf (s.sill.plan s.sill.epoch) then s
  else settlePegs s)

/-- The site of a stream engine (R154, R168). -/
def engSite (e : Nat) : Nat := bits e 4 3

/-! ### Streams (R173 to R177) -/

/-- Whether a stream waits or runs, by its owner. -/
def streamOf (s : State) (e : Nat) : Option Stream := s.sill.streams.find? (fun x => x.owner == e && x.closed.isNone)

/-- Replace a stream record. -/
def putStream (st : Stream) (s : State) : State :=
  let l := modFirst (fun (x : Stream) => x.owner == st.owner && x.closed.isNone) (fun _ => st) s.sill.streams
  { s with sill := { s.sill with streams := l } }

/-- The granule count that a stream's step carries. -/
def Stream.granules (st : Stream) : Nat := st.total / 8

/-- The destinations of a stream, in order: the owner's crib, memory, the receivers, or the rail sites (R173, R177). -/
def Stream.ends (s : State) (st : Stream) : List Nat :=
  match st.kind with
  | 3 => st.peers
  | 5 => (s.desc st.desc).partners
  | _ => [st.owner]

/-- The crib partition and first row that a stream body names on its engine's die (R173). -/
def cribPlace (s : State) (e op : Nat) (b : Body) : Nat × Nat :=
  let t := if op ≤ 0x61 then fld b 30 9 else fld b 0 9
  let g := if op ≤ 0x61 then fld b 39 13 else fld b 9 13
  (engSite e * 288 + (s.physical (engSite e) t).getD 0, 8 * g)

/-- The body of the step that an engine has in flight on its stream. -/
def flightBody (s : State) (e : Nat) : Body :=
  match flightOf (s.engine e) 4 (fun _ => true) with
  | some f => stBody f.step.word
  | none => 0

/-- Row `first + i` is read from a crib for a stream: checked, carried across its dowel group, and passed on from the crib
port to the compute site (R113, R117, R121, R420). -/
def fetchRow (key first i : Nat) (nz : CribNoise) (s : State) : List (BitVec 8) × Bool × State :=
  let row := first + i
  let bad := rowBad s key row || ((s.part key).group (row % 8)).failed
  let s := noteCommand key row false (resentRow nz first i) (checkRow key row s)
  let d := crossRow key row (slipRow nz first i (s.cribRow key row)) s
  (d.1, bad, throughCross 2 (nodePlace (key / 288) (key % 288)) 1 d.2)

/-- Row `first + i` of a crib is written by a stream, across the crossing and its dowel group; whether the group has failed
is returned (R117, R121, R420). -/
def storeRow (key first i : Nat) (nz : CribNoise) (d : List (BitVec 8)) (s : State) : Bool × State :=
  let row := first + i
  let bad := ((s.part key).group (row % 8)).failed
  let s := noteCommand key row true (resentRow nz first i) (throughCross 3 (nodePlace (key / 288) (key % 288)) 1 s)
  let c := crossRow key row (slipRow nz first i d) s
  (bad, writeRow key row c.1 c.2)

/-- The crib partition that a stream reads, if it reads one (R173). -/
def sourcePart (s : State) (st : Stream) : Option Nat :=
  if ownerSends st.kind then
    (if st.kind = 5 ∨ st.kind = 3 ∨ st.kind = 2 then some (cribPlace s st.owner (st.kind + 0x5F) st.body).1 else none)
  else none

/-- The place that a frame's destination writes in a crib: partition and first row (R173). -/
def destPlace (s : State) (st : Stream) (dest : Nat) : Nat × Nat :=
  if st.kind = 3 then cribPlace s dest 0x63 (flightBody s dest) else cribPlace s dest (st.kind + 0x5F) st.body

/-- The partitions at both ends of a frame make accesses: no panel clock there is stopped (R123). -/
def frameRuns (s : State) (st : Stream) (dest : Nat) : Bool :=
  (match sourcePart s st with | some k => partRuns s k | none => true)
    && (st.kind == 2 || st.kind == 5 || partRuns s (destPlace s st dest).1)

/-- The payload of a frame at its source: its bytes, whether they are uncorrectable, whether the frame was held for
refresh, and the state with what the read counted. An SLIN whose descriptor names several rail sites reads every frame from
the lowest of them, for the spec does not say which site each frame comes from (R173, R176, R201, log entry 53). -/
def framePayload (st : Stream) (seq : Nat) (nz : CribNoise) (s : State) : List (BitVec 8) × Bool × Bool × State :=
  match st.kind with
  | 1 =>
    let a := 2048 * fld st.body 0 30 + 256 * seq
    let h := holdFrame a s
    let r := hbmRead a 256 (st.owner % 128) h.2
    (r.1, r.2.1 != 0, h.1, r.2.2)
  | 6 =>
    let off := 2048 * fld st.body 45 16 + 256 * seq
    (railBytes s (((s.desc st.desc).partners.headD 0x40) - 0x40) off 256, false, false, s)
  | _ =>
    let p := cribPlace s st.owner (st.kind + 0x5F) st.body
    let r := fetchRow p.1 p.2 seq nz s
    (r.1, r.2.1, false, r.2.2)

/-- Every frame of granule g of a destination has been written (R304). -/
def Stream.wroteGranule (st : Stream) (i g : Nat) : Bool :=
  (List.range 8).all (fun k => st.heldSeq.contains (frameNo i (8 * g + k)))

/-- A frame is written whole at destination `dest` (R173): whether it failed, whether a refresh held it, and the state. -/
def landFrame (st : Stream) (dest seq : Nat) (d : List (BitVec 8)) (uncorr : Bool) (nz : CribNoise) (s : State) :
    Bool × Bool × State :=
  match st.kind with
  | 2 =>
    let a := 2048 * fld st.body 0 30 + 256 * seq
    let h := holdFrame a s
    let r := hbmWrite a d (st.owner % 128) h.2
    (r.1 != 0, h.1, r.2)
  | 5 =>
    let off := 2048 * fld st.body 45 16 + 256 * seq
    if batchBars s (dest - 0x40) (fld st.body 45 16) st.granules then (true, false, s)
    else (false, false, markArea (dest - 0x40) off 256 uncorr (railStore (dest - 0x40) off d s))
  | _ =>
    let p := destPlace s st dest
    let r := storeRow p.1 p.2 seq nz d s
    (r.1, false, r.2)

/-- The entries of a descriptor towards a partner that have a lane in use: not parked, and neither end dark (R181, R275). -/
def liveEntries (s : State) (d : Desc) (partner : Nat) : List (BitVec 32) :=
  if s.sill.dark.contains d.site || s.sill.dark.contains partner then []
  else d.lanes.filter (fun e => lnPartner e == partner && (entryLanes d e).any (fun k => !(s.lane k).parked))

/-- The light of an entry reaches its receiver: it turns at a peg that is on, if it turns, and passes no other peg that is
on (R157, R162, R171). -/
def entryLit (s : State) (d : Desc) (e : BitVec 32) : Bool :=
  match entryJoin d.kind d.site (lnPartner e) (lnPort e) with
  | none => false
  | some j => ((turnPeg j.2).all (fun n => s.sill.pegs.contains n))
      && (j.2.flatMap Beam.pegs).all (fun n => !s.sill.pegs.contains n)

/-- A frame to or from a partner fails all its sends: every lane is parked, or the entry that carries it is dark. Where only
some entries are dark, the spec does not say which carries the frame: a free value does (R171, R180, R181, log entry 53). -/
def frameFails (s : State) (d : Desc) (partner : Nat) : Bool × State :=
  let live := liveEntries s d partner
  let lit := live.filter (entryLit s d)
  if lit.length = live.length then (live.isEmpty, s)
  else if lit.isEmpty then (true, s)
  else
    let k := Config.free s.free % live.length
    (!(live[k]?).any (entryLit s d), { s with free := s.free + 1 })

/-- A lane of a stream's entries is parked, which lengthens it (R181). -/
def narrowed (s : State) (d : Desc) : Bool := d.lanes.any (fun e => (entryLanes d e).any (fun k => (s.lane k).parked))

/-- The partner site that carries a frame (R173, R194). -/
def framePartner (s : State) (st : Stream) (dest seq : Nat) : Nat :=
  match st.kind with
  | 1 | 2 => 0x10 + hbmStack (2048 * fld st.body 0 30 + 256 * seq)
  | 3 => engSite dest
  | 5 => dest
  | _ => (s.desc st.desc).partners.headD 0

/-- Cause bits of a stream's own delays (R43, R176). -/
def Stream.mask (st : Stream) : Nat := b2n st.refresh + 2 * b2n st.retry

/-- The step that owns a stream completes with error: for its frames, or for a token that it consumed (R176). -/
def ownerErr (s : State) (st : Stream) : Bool := (flightOf (s.engine st.owner) 4 (fun f => f.err)).isSome

/-- A stream of a step has ended with a status: 0 ok, 1 error (R176, R188); an SLOUT may let batches start (R304). -/
def closeStream (st : Stream) (bad : Bool) (s : State) : State :=
  let bad := bad || ownerErr s st
  let ps := (s.desc st.desc).partners
  let s := if st.kind = 5 then
      (List.range ps.length).foldl (fun s i =>
        armBatches (ps.getD i 0 - 0x40) (fld st.body 45 16) st.granules (st.wroteGranule i) s) s
    else s
  putStream { st with closed := some (b2n bad), done := true }
    { s with sill := { s.sill with errors := if bad then satAdd s.sill.errors 1 0xFFFF else s.sill.errors } }

/-- The step of an engine on its stream has taken effect, with a status (R176). -/
def engineDone (e : Nat) (bad : Bool) (mask : Nat) (s : State) : State :=
  modFlight e 4 (fun f => !f.done) (fun f => { f with done := true, err := f.err || bad, mask := f.mask ||| mask }) s

/-- A receiver of a die stream holds its last frame: it completes and closes towards the sender (R176 to R178). -/
def closeReceiver (st : Stream) (i : Nat) (e : Nat) (s : State) : State :=
  let bad := st.uncorr || st.lost.any (fun n => n / 2 ^ 24 == i)
  let s := engineDone e bad st.mask s
  let s := match streamOf s e with
    | some x => putStream { x with closed := some (b2n bad) } s
    | none => s
  sendWord (controlWord 0x4 (engSite e) (engSite st.owner) st.owner (st.tag + b2n bad * 2 ^ 16)) s

/-- A frame that a stream takes into account: written, with what it carried, or lost (R173, R176, R180). -/
def noteFrame (st : Stream) (i seq : Nat) (w : Bool × Bool × State) (uncorr refresh retry : Bool) : Stream :=
  if st.kind = 5 ∧ w.1 then { st with lost := st.lost ++ [frameNo i seq], retry := st.retry || retry }
  else { st with heldSeq := st.heldSeq ++ [frameNo i seq], uncorr := st.uncorr || uncorr || w.1,
                 refresh := st.refresh || refresh || w.2.1, retry := st.retry || retry }

/-- The engines of a stream whose frames are all accounted for complete (R176, R177). -/
def settleStream (owner : Nat) (s : State) : State :=
  match streamOf s owner with
  | none => s
  | some st =>
    let ends := st.ends s
    if st.kind = 3 then
      (List.range ends.length).foldl (fun s i =>
        let e := ends.getD i 0
        if st.whole i && (flightOf (s.engine e) 4 (fun f => !f.done)).isSome then closeReceiver st i e s else s) s
    else if (List.range ends.length).all (fun i => st.whole i) then
      let bad := st.uncorr || !st.lost.isEmpty
      closeStream st bad (engineDone owner bad st.mask s)
    else s

/-- One frame of a stream moves to a destination, with the noise of the dowels at its source and at its destination; a frame
whose partition has its clock stopped waits (R123, R173, R181). -/
def moveFrame (owner i dest seq : Nat) (src dst : CribNoise) (s : State) : State :=
  match streamOf s owner with
  | none => s
  | some st =>
    if st.has i seq || !frameRuns s st dest then s
    else
      let d := s.desc st.desc
      let x := frameFails s d (framePartner s st dest seq)
      if x.1 then putStream { st with lost := st.lost ++ [frameNo i seq] } x.2
      else
        let r := framePayload st seq src x.2
        let w := landFrame st dest seq r.1 r.2.1 dst r.2.2.2
        putStream (noteFrame st i seq w r.2.1 r.2.2.1 (narrowed s d)) w.2.2

/-- The frames of an open stream that have not arrived move to the destinations chosen; under an abort the source has stopped
(R173, R185). -/
def transfer (owner : Nat) (pick : Nat → Bool) (src dst : CribNoise) (s : State) : State :=
  match streamOf s owner with
  | none => s
  | some st =>
    if st.opened.isNone || st.abortAt.isSome then s
    else
      let ends := st.ends s
      let s := (List.range ends.length).foldl (fun s i =>
        if pick (ends.getD i 0) then
          (List.range st.total).foldl (fun s q => moveFrame owner i (ends.getD i 0) q src dst s) s
        else s) s
      settleStream owner s

/-- Waits of a stream's frames behind another requester of a port engine set other: bit 0 behind a memory transfer,
bit 1 behind the line arbiter (R192, R360). -/
def noteWaits (e : Nat) (w : Nat) (s : State) : State :=
  if w = 0 then s
  else
    let s := modFlight e 4 (fun f => !f.done) (fun f => { f with mask := f.mask ||| 4 }) s
    if s.runActive then
      { s with repro := { s.repro with transfer := s.repro.transfer || w.testBit 0,
                                       remoteDelay := s.repro.remoteDelay || w.testBit 1 } }
    else s

/-- Crib noise of a stream's local end: errors in stored words, and the failing transfers of the rows that it moves (R113,
R117). -/
def streamNoise (e op : Nat) (nz : CribNoise) (s : State) : State :=
  let b := flightBody s e
  let p := cribPlace s e op b
  let n := 8 * streamGranules op b
  let s := nz.upsets.foldl (fun s u => upsetWord p.1 u s) s
  let fails := nz.fails.filter (fun x => (List.range n).any (fun i => failStrikes x p.2 i))
  let s := fails.foldl (fun s x => transferFails p.1 x s) s
  if fails.any (fun x => failTimes x != 0) then
    modFlight e 4 (fun f => !f.done) (fun f => { f with mask := f.mask ||| 2 }) s
  else s

/-- A stream step of an opcode is in flight on an engine with its stream open. -/
def streamRuns (s : State) (e op : Nat) : Bool :=
  engKind e == 4 && (match streamOf s e with | some st => st.kind == op - 0x5F && st.opened.isSome | none => false)

/-- SMREAD: the open stream reads HBM3E into the crib partition (R173, R176, R196). -/
def execSmread (eng : BitVec 16) (noise : List HbmUpset) (crib : CribNoise) (waited : Fin 4) (s : State) :
    Host.Outcome State Fault Refusal :=
  let e := eng.toNat
  if engValid e then
    .next (if streamRuns s e 0x60 then
      let s := noise.foldl (fun s u => upsetBurst u s) s
      transfer e (fun _ => true) {} crib (noteWaits e waited.val (streamNoise e 0x60 crib s))
    else s)
  else .fault .absentUnit

/-- SMWRITE: the open stream writes the crib partition to HBM3E (R173, R176). -/
def execSmwrite (eng : BitVec 16) (crib : CribNoise) (waited : Fin 4) (s : State) : Host.Outcome State Fault Refusal :=
  let e := eng.toNat
  if engValid e then
    .next (if streamRuns s e 0x61 then
      transfer e (fun _ => true) crib {} (noteWaits e waited.val (streamNoise e 0x61 crib s))
    else s)
  else .fault .absentUnit

/-- SSEND: the sending side moves the frames of the open stream to every receiver (R174, R177). -/
def execSsend (eng : BitVec 16) (crib : CribNoise) (s : State) : Host.Outcome State Fault Refusal :=
  let e := eng.toNat
  if engValid e then
    .next (if streamRuns s e 0x62 then transfer e (fun _ => true) crib {} (streamNoise e 0x62 crib s) else s)
  else .fault .absentUnit

/-- The open stream that an SRECV belongs to (R174). -/
def senderOf (s : State) (e : Nat) : Option Stream :=
  s.sill.streams.find? (fun st => st.kind == 3 && st.live && st.peers.contains e)

/-- SRECV: the receiving side takes the frames of the open stream that are meant for it (R174, R177). -/
def execSrecv (eng : BitVec 16) (crib : CribNoise) (s : State) : Host.Outcome State Fault Refusal :=
  let e := eng.toNat
  if engValid e then
    .next (match senderOf s e with
      | some st => transfer st.owner (fun d => d == e) {} crib (streamNoise e 0x63 crib s)
      | none => s)
  else .fault .absentUnit

/-- SLOUT: the open stream copies the crib to the rail-site buffers of its partners (R173, R177). -/
def execSlout (eng : BitVec 16) (crib : CribNoise) (s : State) : Host.Outcome State Fault Refusal :=
  let e := eng.toNat
  if engValid e then
    .next (if streamRuns s e 0x64 then transfer e (fun _ => true) crib {} (streamNoise e 0x64 crib s) else s)
  else .fault .absentUnit

/-- SLIN: the open stream copies a rail-site buffer to the crib (R173). -/
def execSlin (eng : BitVec 16) (crib : CribNoise) (s : State) : Host.Outcome State Fault Refusal :=
  let e := eng.toNat
  if engValid e then
    .next (if streamRuns s e 0x65 then transfer e (fun _ => true) {} crib (streamNoise e 0x65 crib s) else s)
  else .fault .absentUnit

/-! ### Opening (R166, R174) -/

/-- The receiving streams that match a sending stream, one for each partner, if all have issued (R174). -/
def matchPeers (s : State) (st : Stream) : Option (List Stream) :=
  let d := s.desc st.desc
  let found := d.partners.filterMap (fun p => s.sill.streams.find? (fun x =>
    x.kind == 4 && x.opened.isNone && x.tag == st.tag && engSite x.owner == p
      && (s.desc x.desc).partners.contains d.site))
  if found.length = d.partners.length then some found else none

/-- The pegs of held sets stand as required, and have been settled for 32 grains (R166). -/
def pegsReady (s : State) (ds : List Desc) : Bool :=
  let h := heldPegs ds
  h.1.all (fun n => s.sill.pegs.contains n) && h.2.all (fun n => !s.sill.pegs.contains n)
    && (h.1 ++ h.2).all (fun n => match tabFind s.sill.changed n with
        | some g => decide (g + 32 ≤ s.now)
        | none => true)

/-- A plan is late: its fetch has passed the boundary it was meant for, or it took effect late less than 32 grains ago
(R165, R167). -/
def planLate (s : State) : Bool :=
  s.sill.late || s.sill.lateEffect.any (fun g => decide (s.now ≤ g + 32))
    || (flightOf (s.engine sillSeq) 4 (fun f => stOpcode f.step.word == 0x70 && !f.done && passedBoundary s f.issued)).isSome

/-- The cause mask of an engine's stream: as it stands while its step is in flight, or as it was noted when the step
completed (R43, R166). -/
def delayMask (s : State) (d : Nat × Nat × Nat) : Nat :=
  match streamOf s d.2.1, flightOf (s.engine d.2.1) 4 (fun _ => true) with
  | some st, some f => d.2.2 ||| f.mask ||| st.mask
  | _, _ => d.2.2

/-- The cause mask that a stream takes for a wait for pegs since grain t: that of the streams whose hold delayed the pegs, or
refresh behind a late plan (R166, R167). -/
def holdMask (s : State) (ds : List Desc) (t : Nat) : Nat :=
  let h := heldPegs ds
  let wrong := h.1.filter (fun n => !s.sill.pegs.contains n) ++ h.2.filter (fun n => s.sill.pegs.contains n)
  let young := (h.1 ++ h.2).filter (fun n => (tabFind s.sill.changed n).any (fun g => decide (t < g + 32)))
  let waits := wrong ++ young
  let by_ := s.sill.delays.filter (fun d => waits.contains d.1)
  if waits.isEmpty then 0
  else if by_.isEmpty then (if planLate s then 1 else 0)
  else
    let m := by_.foldl (fun m d => m ||| delayMask s d) 0
    if m = 0 then 4 else m

/-- A block under quiesce or reset that a stream would open through, by its kind (R184). -/
def blockedBy (s : State) (ds : List Desc) : Option Nat :=
  (s.rst.blocks.find? (fun b => ds.any (fun d => d.touches b.kind b.index))).map (·.kind)

/-- Every engine of a stream that does not open completes with status error, and STREAM_UNMATCHED is raised once
(R174). -/
def refuseStream (st : Stream) (es : List Nat) (s : State) : State :=
  let s := es.foldl (fun s e => completeFlight e 4 (fun f => f.done) (engineDone e true 0 s)) s
  let s := { s with sill := { s.sill with
      streams := s.sill.streams.filter (fun x => !(es.contains x.owner && x.opened.isNone)),
      errors := satAdd s.sill.errors 1 0xFFFF } }
  raise 0x0303 st.owner st.tag 0 0 0 s

/-- A stream opens: its engines take the cause it gained while waiting (R43, R166, R174). -/
def openStream (st : Stream) (peers : List Nat) (s : State) : State :=
  let s := (st.owner :: peers).foldl (fun s e =>
    modFlight e 4 (fun f => !f.done) (fun f => { f with mask := f.mask ||| st.waitMask }) s) s
  let s := { s with sill := { s.sill with streams := s.sill.streams.map (fun x =>
    if peers.contains x.owner && x.kind == 4 && x.opened.isNone then { x with opened := some s.now } else x) } }
  putStream { st with opened := some s.now, peers := peers, acked := [] } s

/-- STREAM_OPEN: a waiting stream opens once all its matched steps have issued and its pegs have settled; unequal
counts are refused, and a stream through a block under reset aborts (R166, R174, R184, R186). -/
def execStreamOpen (eng : BitVec 16) (s : State) : Host.Outcome State Fault Refusal :=
  let e := eng.toNat
  if engValid e then
    .next (match streamOf s e with
      | none => s
      | some st =>
        if st.opened.isSome || st.kind == 4 || st.abortAt.isSome then s
        else match (if st.kind = 3 then matchPeers s st else some []) with
          | none => s
          | some ps =>
            let peers := ps.map (·.owner)
            let ds := s.desc st.desc :: ps.map (fun x => s.desc x.desc)
            let t := (ps.map (·.issued)).foldl max st.issued
            let st := { st with waitMask := st.waitMask ||| holdMask s ds t }
            match blockedBy s ds with
            | some k => abortStream k { st with peers := peers } s
            | none =>
              if ps.any (fun x => x.total != st.total) then refuseStream st (e :: peers) s
              else if pegsReady s ds then openStream st peers s
              else putStream st s)
  else .fault .absentUnit

/-- STREAM_UNMATCHED: an SSEND or SRECV whose match has not opened within 2^20 grains completes with error (R174). -/
def execStreamUnmatched (eng : BitVec 16) (s : State) : Host.Outcome State Fault Refusal :=
  let e := eng.toNat
  if engValid e then
    .next (match streamOf s e with
      | some st =>
        if (st.kind = 3 ∨ st.kind = 4) ∧ st.opened.isNone ∧ st.issued + 2 ^ 20 ≤ s.now then refuseStream st [e] s
        else s
      | none => s)
  else .fault .absentUnit

/-! ### Frames and retries (R159, R160, R180 to R183) -/

/-- The frame CRC: bytes 0 to 275, most significant bit of each byte first (R160). -/
def frameCrc (f : BitVec 2240) : Nat :=
  crcBits 32 0x1EDC6F41 0xFFFFFFFF ((List.range 276).flatMap (fun k => (bitsOf 8 (bits f.toNat (8 * k) 8)).reverse))

/-- Bytes of a frame's payload (R159). -/
def framePay (f : BitVec 2240) : List (BitVec 8) := toBytes 256 (f.toNat / 2 ^ 160)

/-- The checks of a frame that do not depend on its stream: CRC, reserved fields, and the identity that the lane expects of
its transmitter (R159, R160, R180). -/
def frameSound (src : Option (Nat × Nat)) (wl : Nat) (f : BitVec 2240) : Bool :=
  let v := f.toNat
  bits v 2208 32 == frameCrc f && !bit v 7 && bits v 67 93 == 0 && bits v 61 6 == wl
    && src == some (bits v 48 8, bits v 56 5)

/-- An idle frame, which names no stream (R159). -/
def frameIdle (f : BitVec 2240) : Bool := bits f.toNat 0 4 == 2 && bits f.toNat 8 16 == 0

/-- A data frame passes its receiver: its checks, its type, and the frame that is due on the lane, which is in use (R158,
R159, R180, R181). -/
def frameOk (s : State) (d : Desc) (site port wl tag seq : Nat) (f : BitVec 2240) : Bool :=
  let v := f.toNat
  let src := laneSource d site port wl
  frameSound src wl f && bits v 0 4 == 1 && bits v 8 16 == tag && bits v 24 24 == seq && !s.sill.dark.contains site
    && src.any (fun t => !(s.lane (laneKey t.1 (45 * t.2 + wl))).parked && !s.sill.dark.contains t.1)

/-- The open stream with a tag that a site receives, and the index of that site's destination (R174). -/
def receivedBy (s : State) (site tag : Nat) : Option (Stream × Nat) :=
  match s.sill.streams.find? (fun st => st.live && st.tag == tag && st.kind != 4) with
  | none => none
  | some st =>
    match st.kind with
    | 1 | 6 => if engSite st.owner = site then some (st, 0) else none
    | 2 => if (s.desc st.desc).partners.contains site then some (st, 0) else none
    | 3 => ((List.range st.peers.length).find? (fun i => engSite (st.peers.getD i 0) == site)).map (fun i => (st, i))
    | _ => ((List.range (st.ends s).length).find? (fun i => (st.ends s).getD i 0 == site)).map (fun i => (st, i))

/-- A frame is the only one of its stream that is still missing (R186). -/
def Stream.lastMissing (s : State) (st : Stream) (i seq : Nat) : Bool :=
  (List.range (st.ends s).length).all (fun j => (List.range st.total).all (fun q => st.has j q || (j == i && q == seq)))

/-- A valid frame is written if it is not already held; under an abort only the last frame of the stream still is (R173, R176,
R180, R185, R186). -/
def acceptFrame (st : Stream) (i seq : Nat) (f : BitVec 2240) (s : State) : State :=
  let dest := (st.ends s).getD i 0
  if st.has i seq ∨ st.total ≤ seq ∨ !frameRuns s st dest ∨ (st.abortAt.isSome ∧ !st.lastMissing s i seq) then s
  else
    let v := f.toNat
    let w := landFrame st dest seq (framePay f) (bit v 6) {} s
    settleStream st.owner (putStream (noteFrame st i seq w (bit v 6) (bit v 5) (bit v 4)) w.2.2)

/-- A frame arrives on a lane that an open stream uses: an idle frame passes, a data frame is taken, and one that fails a
check is answered by a retry request (R159, R180). -/
def takeLaneFrame (st : Stream) (i site port wl tag seq : Nat) (f : BitVec 2240) (s : State) : State :=
  let d := s.desc st.desc
  let src := laneSource d site port wl
  if frameIdle f && frameSound src wl f then s
  else if frameOk s d site port wl tag seq f then
    acceptFrame st i seq f (askCheck (bits f.toNat 48 8) (bits f.toNat 56 5) wl false s)
  else sendWord (controlWord 0x5 site ((src.map (·.1)).getD d.site) 0 (tag + seq * 2 ^ 16)) s

/-- SILL_FRAME_RECEIVE: a lane receives a frame where one was due; on a die-to-Sill link it has been resent `hops` times. The
wl field of every frame, idle ones too, is checked (R159, R180, R183, R292). -/
def execSillFrameReceive (site : BitVec 8) (port : Fin 25) (wl : Fin 45) (tag : BitVec 16) (seq : BitVec 24)
    (frame : BitVec 2240) (hops : Fin 4) (s : State) : Host.Outcome State Fault Refusal :=
  let h := hops.val
  let s := { s with sill := { s.sill with retx := satAdd s.sill.retx h 0xFFFFFFFF } }
  .next (match receivedBy s site.toNat tag.toNat with
    | none =>
      if frameIdle frame then wlCheck site.toNat port.val wl.val (bits frame.toNat 61 6 == wl.val) s else s
    | some (st, i) =>
      let st := { st with retry := st.retry || decide (0 < h) }
      let s := wlCheck site.toNat port.val wl.val (bits frame.toNat 61 6 == wl.val) (putStream st s)
      takeLaneFrame st i site.toNat port.val wl.val tag.toNat seq.toNat frame s)

/-- A failed send counts on its lane; the sixteenth parks it (R181). -/
def laneFault (site lane : Nat) (key : Nat) (s : State) : State :=
  let l := s.lane key
  let s := s.modLane key (fun l => { l with faults := min (l.faults + 1) 16 })
  if 16 ≤ l.faults + 1 ∧ !l.parked then
    raise 0x0304 0 site lane 0 0 (s.modLane key (fun l => { l with parked := true }))
  else s

/-- The lane record of a die-to-Sill link (R183). -/
def linkKey (e lane : Nat) : Nat := 2 ^ 20 + e % 128 * 64 + lane % 64

/-- A lane of a die-to-Sill link fails a send; once parked it awaits sparing (R181, R183, R189). -/
def linkFault (e lane : Nat) (s : State) : State :=
  let k := linkKey e lane
  let was := (s.lane k).parked
  let s := laneFault (engSite e) lane k s
  if (s.lane k).parked && !was then
    let n := satAdd (tabGet s.sill.linkFailed (engSite e) 0) 1 7
    { s with sill := { s.sill with linkFailed := tabPut s.sill.linkFailed (engSite e) n } }
  else s

/-- The sender kept a frame, whose last send lies at most 256 grains back as far as it was sent again (R180). -/
def frameKept (s : State) (st : Stream) (seq : Nat) : Bool :=
  match tabFind st.sentAt seq with | some g => decide (s.now ≤ g + 256) | none => true

/-- A frame is sent again, with retx set, on a lane (R180). -/
def resendOn (st : Stream) (seq n lane : Nat) (s : State) : State :=
  let now := s.now
  putStream { st with retry := true, sends := tabPut st.sends seq n, nextLane := tabPut st.nextLane seq lane,
                      sentAt := tabPut st.sentAt seq now }
    { s with sill := { s.sill with retx := satAdd s.sill.retx 1 0xFFFFFFFF } }

/-- A frame is lost wherever it has not arrived (R180). -/
def loseFrame (st : Stream) (seq n : Nat) (s : State) : State :=
  let missing := ((List.range (st.ends s).length).filter (fun i => !st.has i seq)).map (fun i => frameNo i seq)
  settleStream st.owner (putStream { st with sends := tabPut st.sends seq n, lost := st.lost ++ missing } s)

/-- A retry request has reached the sender on an entry: the send failed on its lane, and the frame goes out again on the next
lane of the entry; after four failed sends, or where no lane of the entry is left or the frame is no longer kept, it is lost
(R180, R181, log entry 53). -/
def retryFrame (st : Stream) (entry : BitVec 32) (site port wl seq : Nat) (s : State) : State :=
  let lane := 45 * port + wl
  let s := askCheck site port wl true (laneFault site lane (laneKey site lane) s)
  let n := tabGet st.sends seq 0 + 1
  match nextLaneOf entry wl (fun x => !(s.lane (laneKey site (45 * port + x))).parked) with
  | some x => if n < 4 ∧ frameKept s st seq then resendOn st seq n (45 * port + x) s else loseFrame st seq n s
  | none => loseFrame st seq n s

/-- SILL_RETRY_REQUEST: a retry request reaches the sender of a lane, unless its word arrives with flipped bits; or a send
fails on a lane of a die-to-Sill link, which resends it at the hop (R179 to R181, R183). -/
def execSillRetryRequest (site : BitVec 8) (port : Fin 25) (wl : Fin 45) (tag : BitVec 16) (seq : BitVec 24)
    (link : Option (Fin 64)) (flip : Word128) (s : State) : Host.Outcome State Fault Refusal :=
  .next (match s.sill.streams.find? (fun st => st.live && st.tag == tag.toNat && st.kind != 4) with
    | none => s
    | some st =>
      match link with
      | some l => putStream { st with retry := true } (linkFault st.owner l.val s)
      | none =>
        let d := s.desc st.desc
        match entrySending d site.toNat port.val wl.val with
        | none => s
        | some e =>
          let rx := ((entryTakes d e).map (·.1)).getD d.site
          let w := controlWord 0x5 rx site.toNat 0 (tag.toNat + seq.toNat * 2 ^ 16)
          if awaitsRepeat s w then s
          else arriveWord w flip (retryFrame st e site.toNat port.val wl.val seq.toNat) s)

/-! ### Words on the control waveguides (R178, R179, R185) -/

/-- A word names an engine, or the site where the engine stands (R178). -/
def cwNames (w : Word128) (e : Nat) : Bool := cwFor w (engineSite e) && (cwEngine w == e || cwEngine w == 0)

/-- CONTROL_WORD_OPEN: an open word reaches a receiving engine whose step waits, which accepts towards the sending engine; an
accept is noted at the sender (R174, R178, R179). -/
def execControlWordOpen (word : Word128) (s : State) : Host.Outcome State Fault Refusal :=
  .next (takeWord word (fun s =>
    match s.sill.streams.find? (fun x => cwNames word x.owner && x.tag == cwTag word && x.opened.isNone
        && x.kind == (if cwType word = 2 then 4 else 3)) with
    | none => s
    | some st =>
      if cwType word = 2 then
        let dst := match s.sill.streams.find? (fun x => x.kind == 3 && x.tag == st.tag && engSite x.owner == cwSrc word) with
          | some x => x.owner
          | none => 0
        sendWord (controlWord 0x3 (engSite st.owner) (cwSrc word) dst (st.tag + st.desc * 2 ^ 16)) s
      else if cwType word = 3 then putStream { st with acked := setIns st.acked (cwSrc word) } s
      else s) s)

/-- CONTROL_WORD_CLOSE: a partner's final status reaches the sending engine, which completes when every receiver has
closed (R177, R178). -/
def execControlWordClose (word : Word128) (s : State) : Host.Outcome State Fault Refusal :=
  .next (takeWord word (fun s =>
    match s.sill.streams.find? (fun x => cwNames word x.owner && x.tag == cwTag word && x.live && x.kind == 3) with
    | none => s
    | some st =>
      if cwType word ≠ 4 then s
      else
        let status := bits word.toNat 52 2
        let st := { st with acked := setIns st.acked (cwSrc word), uncorr := st.uncorr || status == 1 }
        let s := putStream st s
        if status = 2 then abortSoon (bits word.toNat 52 4) st s
        else if (s.desc st.desc).partners.all (fun p => st.acked.contains p) then
          closeStream st st.uncorr (engineDone st.owner st.uncorr st.mask s)
        else s) s)

/-- CONTROL_WORD_ABORT: a stream is ended by a blocked site, and each engine completes aborted, unless its last frame comes
in the same grain (R178, R185, R186). -/
def execControlWordAbort (word : Word128) (s : State) : Host.Outcome State Fault Refusal :=
  .next (takeWord word (fun s =>
    if cwType word ≠ 8 then s
    else match s.sill.streams.find? (fun x => x.tag == cwTag word && x.closed.isNone && x.kind != 4
        && (cwNames word x.owner || x.peers.any (cwNames word))) with
      | some st => abortSoon (bits word.toNat 52 4) st s
      | none => s) s)

/-- A repeat of a word is due: of the word itself, or, where the discarded one came without its sender's copy, of a word that
has been sent (R179). -/
def repeatDue (s : State) (word : Word128) (r : Nat × Word128) : Bool :=
  decide (r.1 ≤ s.now) && (r.2 == word || (!checkOk r.2 && s.sill.words.contains word))

/-- After four words in a row that failed, an end of the control waveguides checks its ring. The spec does not say which of the
16 wavelengths a word takes: a free value does (R179, R292, log entry 14). -/
def checkControl (site : Nat) (rx : Bool) (s : State) : State :=
  let k := 2 * site + b2n rx
  if tabGet s.sill.ctlFails k 0 < 4 then s
  else
    let x := s.takeFree
    let w := 16 + x.1 % 16
    checkRing { place := .control (BitVec.ofNat 8 site) rx, wave := ⟨w % 47, Nat.mod_lt _ (by decide)⟩ }
      { x.2 with sill := { x.2.sill with ctlFails := tabDel x.2.sill.ctlFails k } }

/-- CONTROL_WORD_REPEAT: 16 grains after a word failed its check, its sender repeats it; both ends check their rings after four
failures in a row (R179, R292). -/
def execControlWordRepeat (word : Word128) (s : State) : Host.Outcome State Fault Refusal :=
  .next (if checkOk word && s.sill.repeats.any (repeatDue s word) then
    let s := checkControl (cwDst word) true (checkControl (cwSrc word) false s)
    sendWord word { s with sill := { s.sill with repeats := delFirst (repeatDue s word) s.sill.repeats } }
  else s)

/-! ### Lane calibration and what SILL.LANES shows (R182, R189) -/

/-- Sill lanes of a site, both directions: 45 on each port (R156, R158, R161). -/
def siteLanes (site : Nat) : Nat :=
  if site < 8 then 2250 else if site < 0x40 then 630 else if site < 0x5A then 180
  else if site = 0x60 ∨ site = 0x61 then 90 else 0

/-- SILL.LANES of a site: parked lanes, spared lanes and failed link lanes (R189). -/
def lanesWord (s : State) (site : Nat) : Nat :=
  let mine := s.sill.lanes.filter (fun p => p.1 / 4096 == site && decide (p.1 < 2 ^ 20))
  let parked := if s.sill.dark.contains site then siteLanes site else (mine.filter (fun p => p.2.parked)).length
  parked % 4096 + (mine.filter (fun p => !p.2.spares.isEmpty)).length % 4096 * 2 ^ 12
    + tabGet s.sill.linkFailed site 0 % 8 * 2 ^ 24

/-- What the spares of a lane serve: the waveguide of its port, by bus and index, or its die-to-Sill link (R158, R183). -/
def spareGroup (key : Nat) : Option (Nat × Nat) :=
  if 2 ^ 20 ≤ key then some (16, (key - 2 ^ 20) / 64)
  else (attach (key / 4096) (key / 2048 % 2) (key % 2048 / 45)).map (fun a => (a.bus, a.wave))

/-- The spares of a group: the wavelengths 45 and 46 of a waveguide, or the 8 spare lanes of a link (R158, R183). -/
def groupSpares (g : Nat × Nat) : List Nat := if g.1 = 16 then (List.range 8).map (64 + ·) else [45, 46]

/-- The ring of a port's lane on a physical wavelength (R276). -/
def laneRing (key w : Nat) : RingId := sillRing (key / 4096) (key % 2048 / 45) w (key / 2048 % 2 == 1)

/-- The spares of a lane's group that no lane has taken, and whose ring at the lane's port has not failed (R182, R277). -/
def sparesLeft (s : State) (key : Nat) : List Nat :=
  match spareGroup key with
  | none => []
  | some g =>
    let used := (s.sill.lanes.filter (fun p => spareGroup p.1 == some g)).flatMap (fun p => p.2.spares)
    (groupSpares g).filter (fun w => !used.contains w && !(decide (key < 2 ^ 20) && (s.ring (ringKey (laneRing key w))).failed))

/-- The lanes of Sill ports whose ring has failed (R277, R291). -/
def failedRingLanes (s : State) : List Nat :=
  (s.opt.rings.filter (fun p => decide (p.1 < 2 ^ 20) && p.2.failed)).flatMap (fun p =>
    let base := p.1 / 4096 * 4096 + p.1 / 64 % 2 * 2048 + 45 * (p.1 / 128 % 32)
    ((List.range 45).map (base + ·)).filter (fun k => lanePhys s k (k - base) == p.1 % 64))

/-- One lane is mapped to a spare of its waveguide or link, if one is left, and otherwise stays or is parked (R182, R183). -/
def spareLane (s : State) (key : Nat) : State :=
  match sparesLeft s key with
  | w :: _ =>
    if key < 2 ^ 20 ∧ s.sill.dark.contains (key / 4096) then s.modLane key (fun l => { l with parked := true })
    else s.modLane key (fun l => { l with parked := false, spares := l.spares ++ [w] })
  | [] => s.modLane key (fun l => { l with parked := true })

/-- The lanes of a site's die-to-Sill links that are parked and await sparing, as SILL.LANES shows them (R183, R189). -/
def linkWaiting (s : State) (site : Nat) : Nat :=
  min 7 (s.sill.lanes.filter (fun p => decide (2 ^ 20 ≤ p.1) && engSite ((p.1 - 2 ^ 20) / 64) == site && p.2.parked)).length

/-- Sill lane calibration: rings take their measurements, parked and failing lanes and those of a failed ring are spared, and
every fault count is cleared (R182, R183, R277). -/
def calibrateLanes (failing : List Nat) (cals : RingCals) (s : State) : State :=
  let s := calibrateRings cals s
  let keys := setOf (failing ++ failedRingLanes s ++ (s.sill.lanes.filter (fun p => p.2.parked)).map (·.1))
  let s := keys.foldl spareLane s
  let waiting := (List.range 8).foldl (fun t d => if linkWaiting s d = 0 then t else tabPut t d (linkWaiting s d)) []
  { s with sill := { s.sill with lanes := s.sill.lanes.map (fun p => (p.1, { p.2 with faults := 0 })), linkFailed := waiting } }

end Sys2Proof.Machine
end

