-- ==== Sys2Proof/Machine/Image.lean ====
section
/-! DEFINITION. The cut-list image: its records, and every check that loading makes (R209 to R236, and the validity of
step bodies in the chapters of their engines). -/

namespace Sys2Proof.Machine

/-- The bytes of an image. -/
abbrev Img := List (BitVec 8)

/-! ### Records (R209 to R213) -/

/-- A field of the 256-byte header, by its first bit and its length; every field is whole bytes (R209). -/
def hdr (b : Img) (lo len : Nat) : Nat := le b (lo / 8) (len / 8)
def hdKind (b : Img) : Nat := hdr b 40 8
def hdRanks (b : Img) : Nat := hdr b 48 16
def hdLength (b : Img) : Nat := hdr b 64 64
def hdSegments (b : Img) : Nat := hdr b 928 16
def hdMarks (b : Img) : Nat := hdr b 944 16
def hdDir (b : Img) : Nat := hdr b 960 64
def hdDesc (b : Img) : Nat := hdr b 1024 64
def hdDcount (b : Img) : Nat := hdr b 1088 16
def hdMark (b : Img) : Nat := hdr b 1152 64
def hdSpan (b : Img) : Nat := hdr b 1216 48

/-- The header breaks R209 outside its layout: magic, format, kind, ranks, checked, floor or a reserved field
(code 0x01). -/
def headerBad (b : Img) : Bool :=
  hdr b 0 32 != 0x4C435146 || hdr b 32 8 != 1 || decide (1 < hdKind b) || decide (hdRanks b < 1 ∨ 1024 < hdRanks b)
    || hdr b 896 32 != 3 || hdr b 1104 48 != 0 || hdr b 1264 784 != 0 || (hdKind b == 0 && hdr b 640 256 != 0)

/-- Directory entry i (R210). -/
def dirEntry (b : Img) (i : Nat) : Nat := le b (hdDir b + 32 * i) 32

/-- Queue-table entry j of segment i (R211). -/
def queueEntry (b : Img) (i j : Nat) : Nat := le b (bits (dirEntry b i) 64 64 + 32 * j) 32

/-- A queue of an image: where its entry stands, its segment, and its fields. -/
structure QRec where
  seg : Nat
  qi : Nat
  segKind : Nat
  segIndex : Nat
  engine : Nat
  steps : Nat
  array : Nat
  route : Nat
  spare : Nat
deriving DecidableEq, Repr

/-- The queues of segment i in table order. -/
def segQueues (b : Img) (i : Nat) : List QRec :=
  let d := dirEntry b i
  (List.range (bits d 16 16)).map (fun j =>
    let w := queueEntry b i j
    { seg := i, qi := j, segKind := bits d 0 8, segIndex := bits d 8 8, engine := bits w 0 16, steps := bits w 32 32,
      array := bits w 64 64, route := bits w 128 64, spare := bits w 16 16 + bits w 192 64 })

/-- Every queue of the image, in the order of its directory and tables. -/
def imgQueues (b : Img) : List QRec := (List.range (hdSegments b)).flatMap (segQueues b)

/-- A step of a queue. -/
def stepWord (b : Img) (q : QRec) (i : Nat) : StepWord := BitVec.ofNat 128 (le b (q.array + 16 * i) 16)

/-- Two ranges of bytes, start and length, do not overlap. -/
def apart (x y : Nat × Nat) : Bool := x.2 == 0 || y.2 == 0 || decide (x.1 + x.2 ≤ y.1) || decide (y.1 + y.2 ≤ x.1)

/-- The ranges of a list do not overlap. -/
def allApart : List (Nat × Nat) → Bool
  | [] => true
  | x :: r => r.all (apart x) && allApart r

/-- A queue-table entry breaks the alignment, range or limits of its arrays (R211, R214). -/
def queueLayoutBad (off ext : Nat) (q : QRec) : Bool :=
  q.array % 16 != 0 || q.route % 256 != 0 || decide (q.steps < 1 ∨ 2 ^ 28 < q.steps)
    || decide (q.array < off ∨ off + ext < q.array + 16 * q.steps)
    || decide (q.route < off ∨ off + ext < q.route + 256)

/-- A segment breaks alignment, range or limits (R210, R211, R214). -/
def segLayoutBad (b : Img) (i : Nat) : Bool :=
  let d := dirEntry b i
  let off := bits d 64 64
  let ext := bits d 128 64
  let n := bits d 16 16
  off % 64 != 0 || decide (hdLength b < off + ext) || decide (ext < 32 * n)
    || (bits d 0 8 == 1 && decide (n < 1 ∨ (if hdKind b = 1 then 305 else 273) < n))
    || (segQueues b i).any (queueLayoutBad off ext)

/-- The image's extent in memory is impossible: checked before the rest is read (R209, R214, R231). -/
def lengthBad (base : Nat) (b : Img) : Bool :=
  hdLength b % 4096 != 0 || decide (hdLength b < 4096 ∨ 2 ^ 36 < hdLength b) || decide (hbmTop < base + hdLength b)

/-- The layout breaks R209 to R211, R213 or R214 (code 0x02). -/
def layoutBad (b : Img) : Bool :=
  let ns := hdSegments b
  decide (ns < 9 ∨ 35 < ns) || decide (1024 < hdDcount b) || hdSpan b == 0
    || hdDir b % 64 != 0 || hdDesc b % 512 != 0 || hdMark b % 16 != 0
    || (hdDcount b == 0 && hdDesc b != 0) || (hdMarks b == 0 && hdMark b != 0)
    || decide (hdLength b < hdDir b + 32 * ns) || decide (hdLength b < hdDesc b + 512 * hdDcount b)
    || decide (hdLength b < hdMark b + 16 * hdMarks b)
    || (List.range ns).any (segLayoutBad b)
    || !allApart ((0, 256) :: (hdDir b, 32 * ns) :: (hdDesc b, 512 * hdDcount b) :: (hdMark b, 16 * hdMarks b)
        :: (List.range ns).map (fun i => (bits (dirEntry b i) 64 64, bits (dirEntry b i) 128 64)))

/-- The image digest: SHAKE256 with the digest field taken as 0 (R215). -/
def imageDigest (b : Img) : Nat := shakeNat (b.take 16 ++ List.replicate 64 0 ++ b.drop 80) 64

/-! ### The floor plan (R18, R24, R52, R216, R236) -/

/-- The floor-plan digest (R216). -/
def floorDigest (s : State) : Nat :=
  shakeNat ((List.range 288).map (fun k =>
    let en := (s.dieFloor (k / 36)).enabled
    BitVec.ofNat 8 (maskOf ((List.range 8).filter (fun j => en.contains (8 * (k % 36) + j)))))) 32

/-- Enabled tillers of a die in increasing physical number. -/
def enabledOf (s : State) (d : Nat) : List Nat := (List.range 288).filter (fun p => (s.dieFloor d).enabled.contains p)

/-- The physical tillers of a die in logical order (R236). -/
def logicalOf (s : State) (kind d : Nat) : List Nat :=
  let en := enabledOf s d
  if kind = 1 then (List.range 288).map (fun p => if en.contains p then p else 511)
  else
    let deg := (s.dieFloor d).degraded
    setOf ((en.filter (fun p => !deg.contains p) ++ en.filter (fun p => deg.contains p)).take 256)

/-- The map of every die (R236). -/
def logicalMap (s : State) (kind : Nat) : List (Nat × List Nat) := (List.range 8).map (fun d => (d, logicalOf s kind d))

/-- The physical tiller of a logical index in a map. -/
def mapPhys (m : List (Nat × List Nat)) (d l : Nat) : Option Nat :=
  ((tabGet m d [])[l]?).filter (fun p => decide (p < 288))

/-- The physical engine of a logical engine ID, if the module has it (R45, R211). -/
def physEngine (m : List (Nat × List Nat)) (e : Nat) : Option Nat :=
  match engKind e with
  | 1 => (mapPhys m (bits e 9 3) (bits e 0 9)).map (fun p => 0x1000 + bits e 9 3 * 512 + p)
  | _ => if engValid e then some e else none

/-! ### Segments, queue tables and route tables (R210 to R212, codes 0x06 to 0x08) -/

/-- A rejection: its code and what CUT.LOAD names (R233, R241). -/
structure Reject where
  code : Nat
  segment : Nat := 0xFF
  queue : Nat := 0xFFFF
  step : Nat := 0
deriving DecidableEq, Repr

/-- A directory entry has an invalid kind, index or reserved field (R210). -/
def dirBad (d : Nat) : Bool :=
  let k := bits d 0 8
  let i := bits d 8 8
  bits d 32 32 != 0 || bits d 192 64 != 0 || !((k == 1 && decide (i < 8)) || (k == 2 && i == 0) || (k == 3 && decide (i < 26)))

/-- A segment may hold a queue of this engine, and the floor plan has it (R211, R236). -/
def queueEngineOk (m : List (Nat × List Nat)) (q : QRec) : Bool :=
  let e := q.engine
  match q.segKind with
  | 1 => (physEngine m e).isSome && engDie e == some q.segIndex
  | 2 => e == sillSeq
  | _ => e == colEngine q.segIndex

/-- The queue that a segment must hold (R210, R211). -/
def requiredEngine (kind index : Nat) : Nat :=
  if kind = 1 then seqEngine index else if kind = 2 then sillSeq else colEngine index

/-- The first fault of the queue table of a segment, given the engines met before (code 0x07). -/
def queueTableFault (m : List (Nat × List Nat)) (i kind index : Nat) : List Nat → List QRec → Option Reject
  | seen, [] => if seen.contains (requiredEngine kind index) then none else some { code := 0x07, segment := i }
  | seen, q :: r =>
    if q.spare ≠ 0 ∨ seen.contains q.engine ∨ !queueEngineOk m q then
      some { code := 0x07, segment := i, queue := q.qi }
    else queueTableFault m i kind index (q.engine :: seen) r

/-- The first fault of the directory and the queue tables (codes 0x06 and 0x07). -/
def segmentsFault (b : Img) (m : List (Nat × List Nat)) : List Nat → List Nat → List Nat → Option Reject
  | dirs, _, [] =>
    if (List.range 8).all (fun d => dirs.contains (1 + 256 * d)) && dirs.contains 2 then none else some { code := 0x06 }
  | dirs, engines, i :: r =>
    let d := dirEntry b i
    if dirBad d || dirs.contains (d % 2 ^ 16) then some { code := 0x06, segment := i }
    else
      let qs := segQueues b i
      match queueTableFault m i (bits d 0 8) (bits d 8 8) engines qs with
      | some x => some x
      | none => segmentsFault b m (d % 2 ^ 16 :: dirs) (qs.map (·.engine) ++ engines) r

/-- Route entry p of a queue (R212). -/
def routeWord (b : Img) (q : QRec) (p : Nat) : Nat := le b (q.route + 4 * p) 4

/-- A route entry breaks R212 (code 0x08). -/
def routeBad (m : List (Nat × List Nat)) (engines : List Nat) (w : Nat) : Bool :=
  bits w 23 9 != 0 || (if bit w 22 then !engines.contains (bits w 0 16) || (physEngine m (bits w 0 16)).isNone
    else bits w 0 22 != 0)

/-- A route entry with its destination translated to a physical engine (R236). -/
def physRoute (m : List (Nat × List Nat)) (w : Nat) : BitVec 32 :=
  if bit w 22 then BitVec.ofNat 32 (w / 2 ^ 16 * 2 ^ 16 + (physEngine m (bits w 0 16)).getD 0) else 0

/-! ### Step bodies (code 0x0B and 0x0C) -/

/-- The first reserved body bit of an opcode; bits from it to 79 have required value 0. -/
def reservedFrom (op : Nat) : Nat :=
  match op with
  | 0x01 => 48 | 0x02 => 64 | 0x03 => 28 | 0x04 => 17 | 0x05 => 16 | 0x06 => 0
  | 0x10 => 65 | 0x11 => 37 | 0x12 => 17 | 0x13 => 17
  | 0x20 => 70 | 0x21 => 79 | 0x22 => 52 | 0x23 => 76 | 0x24 => 50 | 0x25 => 50 | 0x26 => 59 | 0x27 => 22 | 0x28 => 63
  | 0x30 => 42 | 0x31 => 42 | 0x40 => 57
  | 0x60 => 75 | 0x61 => 75 | 0x62 => 60 | 0x63 => 60 | 0x64 => 61 | 0x65 => 61 | 0x70 => 31
  | 0x80 => 70 | 0x81 => 70 | 0x82 => 70 | 0x83 => 70 | 0x84 => 32
  | _ => 80

/-- A local-store range from a granule fits (R58). -/
def lsFits (gran n : Nat) : Bool := decide (64 * gran + n ≤ 1572864)

/-- A vector destination and one source: apart, or from one granule with equal widths (R70). -/
def vecOverlapOk (dst dn dw src sn sw : Nat) : Bool :=
  apart (64 * dst, dn) (64 * src, sn) || (dst == src && dw == sw)

/-- The pair of formats of an MMA is one that R64 allows. -/
def mmaPairOk (fa fb : Nat) : Bool :=
  decide (fa ≤ 6 ∧ fb ≤ 6) || ((fa == 7 || fa == 8) && (fb == 7 || fb == 8)) || (fa == 9 && fb == 9)

/-- MMA (R58, R63, R64). -/
def mmaOk (b : Body) : Bool :=
  let fa := fld b 38 4; let fb := fld b 42 4; let kb := fld b 30 8
  let na := opndBytes 96 kb fa; let nb := opndBytes 64 kb fb
  mmaPairOk fa fb && lsFits (fld b 0 15) na && lsFits (fld b 15 15) nb
    && apart (64 * fld b 0 15, na) (64 * fld b 15 15, nb)
    && (fld b 47 1 == 1 || fld b 48 1 == 0) && ((fld b 47 1 == 1 && fld b 48 1 == 1) || fld b 49 16 == 0)

/-- Elements of src2 that a bmode reads (R71). -/
def bmodeCount (bmode n : Nat) : Nat := if bmode = 1 then 1 else if bmode = 2 then min n 64 else n

/-- VBIN (R70, R71). -/
def vbinOk (b : Body) : Bool :=
  let n := fld b 45 16 + 1
  let w1 := vecBytes (fld b 65 1); let w2 := vecBytes (fld b 66 1); let wd := vecBytes (fld b 67 1)
  let n2 := w2 * bmodeCount (fld b 68 2) n
  decide (fld b 61 4 ≤ 6) && fld b 68 2 != 3 && lsFits (fld b 0 15) (w1 * n) && lsFits (fld b 15 15) n2
    && lsFits (fld b 30 15) (wd * n)
    && vecOverlapOk (fld b 30 15) (wd * n) wd (fld b 0 15) (w1 * n) w1
    && vecOverlapOk (fld b 30 15) (wd * n) wd (fld b 15 15) n2 w2

/-- VFMA (R70, R71). -/
def vfmaOk (b : Body) : Bool :=
  let n := fld b 60 16 + 1
  let w := vecBytes (fld b 76 1)
  let n2 := w * bmodeCount (fld b 77 2) n
  fld b 77 2 != 3 && lsFits (fld b 0 15) (w * n) && lsFits (fld b 15 15) n2 && lsFits (fld b 30 15) (w * n)
    && lsFits (fld b 45 15) (w * n)
    && vecOverlapOk (fld b 45 15) (w * n) w (fld b 0 15) (w * n) w
    && vecOverlapOk (fld b 45 15) (w * n) w (fld b 15 15) n2 w
    && vecOverlapOk (fld b 45 15) (w * n) w (fld b 30 15) (w * n) w

/-- VFUN (R70, R72). -/
def vfunOk (b : Body) : Bool :=
  let n := fld b 30 16 + 1
  let ws := vecBytes (fld b 50 1); let wd := vecBytes (fld b 51 1)
  decide (fld b 46 4 ≤ 9) && lsFits (fld b 0 15) (ws * n) && lsFits (fld b 15 15) (wd * n)
    && vecOverlapOk (fld b 15 15) (wd * n) wd (fld b 0 15) (ws * n) ws

/-- VRED (R70, R73). -/
def vredOk (b : Body) : Bool :=
  let l := fld b 30 16 + 1; let ns := fld b 46 8 + 1; let op := fld b 54 2
  let ws := vecBytes (fld b 57 1); let wd := vecBytes (fld b 58 1)
  (op == 0 || fld b 56 1 == 0) && (op != 3 || fld b 58 1 == 0) && (fld b 56 1 == 1 || fld b 59 1 == 0)
    && ((fld b 56 1 == 1 && fld b 59 1 == 1) || fld b 60 16 == 0) && (ns == 1 || l * ws % 64 == 0)
    && lsFits (fld b 0 15) (ns * l * ws) && lsFits (fld b 15 15) (ns * wd)
    && vecOverlapOk (fld b 15 15) (ns * wd) wd (fld b 0 15) (ns * l * ws) ws

/-- VPACK and VUNPACK (R60, R70, R75). -/
def vpackOk (op : Nat) (b : Body) : Bool :=
  let r := fld b 30 7 + 1; let kb := fld b 37 8; let f := fld b 45 4
  let wv := vecBytes (fld b 49 1)
  let nv := r * 32 * (kb + 1) * wv
  let nm := opndBytes r kb f
  let ns := if op = 0x24 then nv else nm
  let nd := if op = 0x24 then nm else nv
  decide (r ≤ 96 ∧ f ≤ 9) && lsFits (fld b 0 15) ns && lsFits (fld b 15 15) nd
    && (apart (64 * fld b 15 15, nd) (64 * fld b 0 15, ns) || (fld b 15 15 == fld b 0 15 && fmtBits f == 8 * wv))

/-- VRNG (R76). -/
def vrngOk (b : Body) : Bool :=
  (fld b 31 2 == 3 || fld b 43 16 == 0) && lsFits (fld b 0 15) ((fld b 15 16 + 1) * (if fld b 31 2 < 2 then 4 else 2))

/-- VPOS (R84, R85). -/
def vposOk (b : Body) : Bool :=
  decide (fld b 61 2 ≤ 1) && lsFits (fld b 0 15) (4 * (fld b 15 16 + 1))
    && decide (fld b 31 22 + fld b 15 16 * fld b 53 8 ≤ 4194303)

/-- CLOAD and CSTORE (R58, R78). -/
def cmoveOk (b : Body) : Bool :=
  let n := fld b 29 13 + 1
  decide (n ≤ 6144 ∧ fld b 0 16 + n ≤ 57344 ∧ fld b 16 13 + n ≤ 6144)

/-- What the checks of a step need besides its word: the list's kind and ranks, its segment, the queue's logical
engine, the map, the descriptor kinds, and the image's range. -/
structure StepCtx where
  ranks : Nat
  segKind : Nat
  die : Nat
  engine : Nat
  map : List (Nat × List Nat)
  descKind : Nat → Option Nat
  base : Nat
  len : Nat

/-- A logical tiller of the segment's die exists (R173, R225). -/
def StepCtx.hasTiller (c : StepCtx) (l : Nat) : Bool := (mapPhys c.map c.die l).isSome

/-- MSEND (R58, R80, R148). -/
def msendOk (c : StepCtx) (b : Body) : Bool :=
  let n := fld b 30 16 + 1; let t := fld b 46 9
  let others := fun (ok : Nat → Bool) =>
    (List.range 288).any (fun l => ok l && c.hasTiller l && l != bits c.engine 0 9)
  lsFits (fld b 0 15) (64 * n) && lsFits (fld b 15 15) (64 * n) && c.hasTiller t
    && (match fld b 55 2 with
      | 0 => true
      | 1 => others (fun l => l / 16 == t / 16)
      | 2 => others (fun l => l % 16 == t % 16)
      | _ => false)

/-- The crib range and tiller of a stream step exist (R173). -/
def streamCribOk (c : StepCtx) (tiller cgran n : Nat) : Bool := c.hasTiller tiller && decide (8 * (cgran + n) ≤ 57344)

/-- SMREAD and SMWRITE (R173). -/
def smemOk (c : StepCtx) (op : Nat) (b : Body) : Bool :=
  let n := fld b 52 13 + 1
  streamCribOk c (fld b 30 9) (fld b 39 13) n && decide (2048 * (fld b 0 30 + n) ≤ hbmTop)
    && c.descKind (fld b 65 10) == some (op - 0x5F)

/-- The range of a stream in a rail-site buffer exists (R332). -/
def boffOk (boff n : Nat) : Bool := decide (boff + n ≤ 0x2000) || decide (0xFF00 ≤ boff ∧ boff + n ≤ 0x10000)

/-- SSEND, SRECV, SLOUT and SLIN (R173, R332). -/
def sdieOk (c : StepCtx) (op : Nat) (b : Body) : Bool :=
  let n := fld b 22 13 + 1
  streamCribOk c (fld b 0 9) (fld b 9 13) n && c.descKind (fld b 35 10) == some (op - 0x5F)
    && (decide (op < 0x64) || boffOk (fld b 45 16) n)

/-- Granules of a collective step's destination (R336, R337). -/
def colDest (op n ranks : Nat) : Nat :=
  if op = 0x82 then ranks * n
  else if op = 0x81 then
    cdiv (((List.range ranks).map (fun j => 32 * n * (j + 1) / ranks - 32 * n * j / ranks)).foldl max 0) 32
  else n

/-- CALLRED, CRSCAT, CAGATH and CBCAST (R335, R336). -/
def colOk (c : StepCtx) (op : Nat) (b : Body) : Bool :=
  let n := fld b 26 12 + 1; let d := colDest op n c.ranks
  decide (fld b 38 4 ≤ 4) && fld b 42 2 != 3 && (decide (op < 0x82) || (fld b 38 4 == 0 && fld b 42 2 == 0))
    && (if op = 0x83 then decide (fld b 60 10 < c.ranks) else fld b 60 10 == 0)
    && decide (fld b 0 13 + n ≤ 8192 ∧ fld b 13 13 + d ≤ 8192) && apart (fld b 0 13, n) (fld b 13 13, d)

/-- A body's fields are in range and combine validly, under the chapter of its engine (code 0x0C). -/
def bodyOk (c : StepCtx) (w : StepWord) : Bool :=
  let op := stOpcode w
  let b := stBody w
  match op with
  | 0x02 => fld b 0 64 != 0 && stWait w == 0
  | 0x03 => fld b 16 2 != 3 && (fld b 16 2 != 0 || c.segKind == 1)
  | 0x10 => mmaOk b
  | 0x11 => decide (fld b 15 4 ≤ 10) && lsFits (fld b 0 15) (tileBytes (fld b 15 4))
  | 0x12 => lsFits (fld b 0 15) 147520
  | 0x13 => lsFits (fld b 0 15) 147520
  | 0x20 => vbinOk b
  | 0x21 => vfmaOk b
  | 0x22 => vfunOk b
  | 0x23 => vredOk b
  | 0x24 => vpackOk 0x24 b
  | 0x25 => vpackOk 0x25 b
  | 0x26 => vrngOk b
  | 0x27 => lsFits (fld b 0 15) 64
  | 0x28 => vposOk b
  | 0x30 => cmoveOk b
  | 0x31 => cmoveOk b
  | 0x40 => msendOk c b
  | 0x60 => smemOk c 0x60 b
  | 0x61 => smemOk c 0x61 b
  | 0x62 => sdieOk c 0x62 b
  | 0x63 => sdieOk c 0x63 b
  | 0x64 => sdieOk c 0x64 b
  | 0x65 => sdieOk c 0x65 b
  | 0x70 => decide (stOffset w ≤ 3583 ∧ 1024 * fld b 0 31 < hbmTop)
  | 0x80 => colOk c 0x80 b
  | 0x81 => colOk c 0x81 b
  | 0x82 => colOk c 0x82 b
  | 0x83 => colOk c 0x83 b
  | 0x84 => decide (fld b 0 10 < c.ranks)
  | _ => true

/-- An opcode that a queue accepts (R218). -/
def opcodeOk (engine op : Nat) : Bool :=
  let defined := op ∈ [0x10, 0x11, 0x12, 0x13, 0x20, 0x21, 0x22, 0x23, 0x24, 0x25, 0x26, 0x27, 0x28, 0x30, 0x31, 0x40]
  match engKind engine with
  | 1 => decide (1 ≤ op ∧ op ≤ 6) || decide defined
  | 4 => decide (1 ≤ op ∧ op ≤ 6) || decide (0x60 ≤ op ∧ op ≤ 0x65)
  | 2 => op ∈ [1, 2, 3, 5, 6]
  | 3 => op ∈ [1, 2, 3, 5, 6, 0x70]
  | _ => op ∈ [1, 2, 3, 5, 6, 0x80, 0x81, 0x82, 0x83, 0x84]

/-- A SELECT is valid by itself: 2 to 16 members, and a register of the right tiller (R225, code 0x0E). -/
def selectOk (c : StepCtx) (w : StepWord) : Bool :=
  let b := stBody w
  fld b 3 4 != 0 && (if engKind c.engine = 1 then fld b 7 1 == 0 && fld b 8 9 == 0
    else fld b 7 1 == 1 && c.hasTiller (fld b 8 9))

/-! ### Steps in order (R214, R217 to R228, codes 0x09 to 0x13) -/

/-- What the check of a queue's steps carries from step to step. -/
structure Walk where
  cursor : Nat := 0
  point : Nat := 0
  points : List Nat := []
  group : Option StepWord := none
  left : Nat := 0
  ckpts : Nat := 0
  tags : List Nat := []
  counts : List (Nat × Nat) := []
  bars : List (Nat × Nat) := []

/-- The key of a sheaf in the counts of R214: steps of one die, or of the Sill and rail segments together. -/
def countKey (c : StepCtx) (sheaf : Nat) : Nat := sheaf * 16 + (if c.segKind = 1 then c.die else 8)

/-- Schedule sheaf of a mark (R213). -/
def markSheaf (b : Img) (i : Nat) : Nat := le b (hdMark b + 16 * i) 6

/-- The codes that a step breaks, and the walk after it. -/
def stepCodes (b : Img) (c : StepCtx) (n i : Nat) (w : StepWord) (k : Walk) : List Nat × Walk :=
  let op := stOpcode w
  let cur := k.cursor + stStride w
  let pt := 4096 * cur + stOffset w
  let m := stMember w
  let tag := fld (stBody w) 44 16
  let isCol := decide (0x80 ≤ op ∧ op ≤ 0x83)
  let bk := fld (stBody w) 0 18
  let cnt := tabGet k.counts (countKey c cur) 0 + 1
  let inGroup := decide (0 < k.left)
  let memberOk := m && stWait w == 0 && stAdvance w == 0 && decide (0x0F < op)
    && (match k.group with | some g => stOffset g == stOffset w && stPost g == stPost w | none => false)
  let codes :=
    (if stGen w = 1 then [] else [0x09])
      ++ (if opcodeOk c.engine op then [] else [0x0A])
      ++ (if stReserved w ∨ fld (stBody w) (reservedFrom op) (80 - reservedFrom op) ≠ 0 then [0x0B] else [])
      ++ (if bodyOk c w ∧ ¬(isCol ∧ tag ∈ k.tags.take 127)
            ∧ ¬(op = 0x03 ∧ (tabFind k.bars bk).any (fun x => x != fld (stBody w) 18 10)) then [] else [0x0C])
      ++ (if pt < k.point ∨ hdSpan b ≤ cur then [0x0D] else [])
      ++ (if (inGroup ∧ ¬memberOk) ∨ (¬inGroup ∧ m) ∨ (op = 0x04 ∧ ¬selectOk c w) then [0x0E] else [])
      ++ (if (stCkpt w ≠ (op == 0x05)) ∨ (op = 0x05 ∧ ¬(k.ckpts < hdMarks b ∧ fld (stBody w) 0 16 = k.ckpts
            ∧ cur = markSheaf b k.ckpts ∧ stOffset w = 0)) ∨ (i + 1 = n ∧ k.ckpts < hdMarks b ∧ op ≠ 0x05) then [0x0F]
          else [])
      ++ (if (stEnd w ≠ (op == 0x06)) ∨ ((op == 0x06) ≠ (i + 1 == n)) ∨ (inGroup ∧ i + 1 = n ∧ 1 < k.left) then [0x10]
          else [])
      ++ (if 4096 < cnt ∨ (k.points[63]?).any (fun p => decide (pt < p + 64)) then [0x12] else [])
      ++ (if op = 0x61 ∧ !apart (2048 * fld (stBody w) 0 30, 2048 * (fld (stBody w) 52 13 + 1)) (c.base, c.len)
          then [0x13] else [])
  (codes, { cursor := cur, point := pt, points := (pt :: k.points).take 64
            group := if inGroup then k.group else if op = 0x04 then some w else none
            left := if inGroup then k.left - 1 else if op = 0x04 then fld (stBody w) 3 4 + 1 else 0
            ckpts := if op = 0x05 then k.ckpts + 1 else k.ckpts
            tags := if isCol then tag :: k.tags else 2 ^ 16 :: k.tags
            counts := tabPut k.counts (countKey c cur) cnt
            bars := if op = 0x03 then tabPut k.bars bk (fld (stBody w) 18 10) else k.bars })

/-- The first fault among the steps of a queue: fuel, index and walk. -/
def stepsFault (b : Img) (c : StepCtx) (q : QRec) : Nat → Nat → Walk → Option Reject × Walk
  | 0, _, k => (none, k)
  | f + 1, i, k =>
    let r := stepCodes b c q.steps i (stepWord b q i) k
    match r.1.head? with
    | some code => (some { code := code, segment := q.seg, queue := q.qi, step := i }, r.2)
    | none => stepsFault b c q f (i + 1) r.2

/-- The first fault among the steps of all queues; the counts and barriers of the image go on from queue to queue. -/
def allStepsFault (b : Img) (ctx : QRec → StepCtx) : List QRec → Walk → Option Reject
  | [], _ => none
  | q :: r, k =>
    match stepsFault b (ctx q) q q.steps 0 { counts := k.counts, bars := k.bars } with
    | (some x, _) => some x
    | (none, k') => allStepsFault b ctx r k'

/-! ### Descriptors and marks (R169 to R171, R177, R213, codes 0x11 and 0x0F) -/

/-- Record i of the descriptor table (R213). -/
def descWord (b : Img) (i : Nat) : Nat := le b (hdDesc b + 512 * i) 512

/-- A descriptor as it is copied at load, with the pegs of its held set that must be off (R166, R169). -/
def descOf (v : Nat) : Desc :=
  let d : Desc :=
    { kind := bits v 0 8, site := bits v 8 8
      pegs := (List.range (min 64 (bits v 24 8))).map (fun i => bits v (128 + 16 * i) 16)
      lanes := (List.range (min 64 (bits v 16 8))).map (fun i => BitVec.ofNat 32 (bits v (1152 + 32 * i) 32)) }
  { d with off := heldOff d }

/-- A partner that a descriptor kind admits (R171). -/
def partnerOk (kind p : Nat) : Bool :=
  if kind ≤ 2 then decide (0x10 ≤ p ∧ p < 0x30) else if kind ≤ 4 then decide (p < 8) else decide (0x40 ≤ p ∧ p < 0x5A)

/-- A lane entry is well formed, and its port exists (R156, R170, R171). -/
def laneEntryOk (d : Desc) (e : BitVec 32) : Bool :=
  let out := d.kind = 2 ∨ d.kind = 3 ∨ d.kind = 5
  lnReserved e == 0 && (attach d.site (if out then 0 else 1) (lnPort e)).isSome && decide (lnFirst e ≤ 44)
    && decide (1 ≤ lnCount e ∧ lnFirst e + lnCount e ≤ 45) && partnerOk d.kind (lnPartner e)

/-- Two entries have the same lanes (R177). -/
def sameLanes (x y : BitVec 32) : Bool := lnPort x == lnPort y && lnFirst x == lnFirst y && lnCount x == lnCount y

/-- Two entries share a lane (R171). -/
def shareLane (x y : BitVec 32) : Bool :=
  lnPort x == lnPort y && !apart (lnFirst x, lnCount x) (lnFirst y, lnCount y)

/-- Two entries may stand in one descriptor: apart, or a multicast to two receivers (R171, R177). -/
def entryPairOk (kind : Nat) (x y : BitVec 32) : Bool :=
  !shareLane x y || ((kind == 3 || kind == 5) && sameLanes x y && lnPartner x != lnPartner y)

def entriesOk (kind : Nat) : List (BitVec 32) → Bool
  | [] => true
  | x :: r => r.all (entryPairOk kind x) && entriesOk kind r

/-- The last bus of an entry's path and where light enters it (R157, R177). -/
def lastBus (d : Desc) (e : BitVec 32) : Option (Nat × Nat) :=
  (entryPath d.kind d.site (lnPartner e) (lnPort e)).bind (fun p => (p.getLast?).map (fun x => (x.bus, x.start)))

/-- A multicast's receivers lie on one last bus, in a permitted set (R177). -/
def multicastOk (d : Desc) (e : BitVec 32) : Bool :=
  let g := d.lanes.filter (sameLanes e)
  if g.length ≤ 1 then true
  else
    let l := lastBus d e
    g.all (fun x => lastBus d x == l) &&
      (match l with
        | some (bus, _) =>
          if d.kind = 3 then decide ((bus = 1 ∨ bus = 2) ∧ g.length ≤ 7)
          else decide ((bus = 0 ∨ bus = 3) ∧ g.length ≤ 13)
            && ((entryPath d.kind d.site (lnPartner e) (lnPort e)).map List.length == some 2)
        | none => false)

/-- A multicast repeats one set of transmit lanes for every partner (R177). -/
def sameSetOk (d : Desc) : Bool :=
  (d.kind != 3 && d.kind != 5)
    || d.lanes.all (fun x => d.partners.all (fun p => d.lanes.any (fun y => lnPartner y == p && sameLanes x y)))

/-- A descriptor record is valid (R169 to R171, R177). -/
def descOk (v : Nat) : Bool :=
  let d := descOf v
  decide (1 ≤ d.kind ∧ d.kind ≤ 6) && decide (d.site < 8) && decide (1 ≤ bits v 16 8 ∧ bits v 16 8 ≤ 64)
    && decide (bits v 24 8 ≤ 64) && bits v 32 96 == 0 && bits v 3200 896 == 0
    && (List.range 64).all (fun i => decide (i < bits v 24 8) || bits v (128 + 16 * i) 16 == 0xFFFF)
    && (List.range 64).all (fun i => decide (i < bits v 16 8) || bits v (1152 + 32 * i) 32 == 0)
    && d.pegs.all (fun p => decide (p < 8192 ∧ p % 256 < 240)) && d.lanes.all (laneEntryOk d) && entriesOk d.kind d.lanes
    && d.lanes.all (multicastOk d) && sameSetOk d && (decide (2 < d.kind) || d.partners == (List.range 32).map (0x10 + ·))

/-- The first descriptor that is not valid (code 0x11). -/
def descFault (b : Img) : Option Reject :=
  ((List.range (hdDcount b)).find? (fun i => !descOk (descWord b i))).map (fun i => { code := 0x11, step := i })

/-- Entry i of the mark table is valid (R213). -/
def markEntryOk (b : Img) (i : Nat) : Bool :=
  let w := le b (hdMark b + 16 * i) 16
  bits w 64 64 == 0 && bits w 48 16 == i && decide (bits w 0 48 < hdSpan b)
    && (i == 0 || decide (markSheaf b (i - 1) < bits w 0 48))

/-- The first mark that is not valid (code 0x0F). -/
def markFault (b : Img) : Option Reject :=
  ((List.range (hdMarks b)).find? (fun i => !markEntryOk b i)).map (fun i => { code := 0x0F, step := i })

/-! ### The whole check (R232) -/

/-- The context of a queue's steps. -/
def queueCtx (b : Img) (base : Nat) (m : List (Nat × List Nat)) (q : QRec) : StepCtx :=
  { ranks := hdRanks b, segKind := q.segKind, die := q.segIndex, engine := q.engine, map := m
    descKind := fun i => if i < hdDcount b then some (bits (descWord b i) 0 8) else none
    base := base, len := hdLength b }

/-- The first rejection of an image that was read whole, in the order of R232. -/
def imageFault (s : State) (base : Nat) (b : Img) : Option Reject :=
  let k := hdKind b
  let m := logicalMap s k
  let qs := imgQueues b
  if layoutBad b then some { code := 0x02 }
  else if imageDigest b ≠ hdr b 128 512 then some { code := 0x03 }
  else if k = 1 ∧ floorDigest s ≠ hdr b 640 256 then some { code := 0x04 }
  else if k = 0 ∧ (List.range 8).any (fun d => decide ((enabledOf s d).length < 256)) then some { code := 0x05 }
  else
    (segmentsFault b m [] [] (List.range (hdSegments b))).orElse fun _ =>
    (qs.findSome? (fun q => if (List.range 64).any (fun p => routeBad m (qs.map (·.engine)) (routeWord b q p))
      then some { code := 0x08, segment := q.seg, queue := q.qi } else none)).orElse fun _ =>
    (allStepsFault b (queueCtx b base m) qs {}).orElse fun _ =>
    (descFault b).orElse fun _ => markFault b

/-- The status of the load reply for a rejection code (R233). -/
def rejectStatus (code : Nat) : Nat :=
  match code with
  | 0x01 => 0x0141 | 0x02 => 0x0142 | 0x03 => 0x0311 | 0x04 => 0x0211 | 0x05 => 0x0212 | 0x06 => 0x0143
  | 0x07 => 0x0144 | 0x08 => 0x0145 | 0x09 => 0x0146 | 0x0A => 0x0147 | 0x0B => 0x0148 | 0x0C => 0x0149
  | 0x0D => 0x014A | 0x0E => 0x014B | 0x0F => 0x014C | 0x10 => 0x014D | 0x11 => 0x014E | 0x12 => 0x014F
  | 0x13 => 0x0150 | 0x14 => 0x0511 | 0x15 => 0x0213 | _ => 0x0411

end Sys2Proof.Machine
end

