-- ==== Sys2Proof/Machine/Load.lean ====
section
/-! DEFINITION. Loading a cut list and feeding its queues (R231 to R237). -/

namespace Sys2Proof.Machine

/-! ### Fetching steps (R219, R237) -/

/-- The requester index of the sequencer that feeds an engine (R192, R237). -/
def fetchRequester (e : Nat) : Nat :=
  match engKind e with
  | 1 => 160 + bits e 9 3
  | 2 => 160 + bits e 0 3
  | 4 => 160 + bits e 4 3
  | _ => 168

/-- The next steps of a queue from their words, each with its index and schedule sheaf (R214, R219). -/
def qsteps : Nat → Nat → List StepWord → List QStep
  | _, _, [] => []
  | i, cur, w :: r => { idx := i, sheaf := cur + stStride w, word := w } :: qsteps (i + 1) (cur + stStride w) r

/-- The step words in a list of bytes. -/
def wordsOf (b : List (BitVec 8)) (n : Nat) : List StepWord :=
  (List.range n).map (fun i => BitVec.ofNat 128 (le b (16 * i) 16))

/-- Steps on their way to a queue: a tiller's fills on the mesh, and those that have arrived early (R136, R237). -/
def fillsInFlight (s : State) (e : Nat) : Nat :=
  (s.engine e).early.length + if engKind e = 1 then
    ((s.mesh (bits e 9 3)).flits.filter (fun f => f.kind == .fill && f.dst == bits e 0 9)).length
  else 0

/-- Free entries of a queue of 64, fills on their way counted as held (R136, R237). -/
def freeEntries (s : State) (e : Nat) : Nat := 64 - (s.engine e).queue.length - fillsInFlight s e

/-- Steps reach a queue: a tiller's by fills over its mesh, others directly (R136, R237). -/
def deliverSteps (e : Nat) (qs : List QStep) (s : State) : State :=
  if engKind e = 1 then
    qs.foldl (fun s q => injectFlit (bits e 9 3) { kind := .fill, src := 288, dst := bits e 0 9, step := q } s) s
  else qs.foldl (fun s q => fillQueue e q s) s

/-- QUEUE_REFILL: the sequencer fetches steps for a queue with 8 or more free entries; uncorrectable data or an aborted
fetch halts the run (R197, R204, R237). -/
def execQueueRefill (eng : BitVec 16) (noise : List HbmUpset) (s : State) : Host.Outcome State Fault Refusal :=
  let e := eng.toNat
  if engValid e then
    let g := s.engine e
    let n := min (freeEntries s e) (g.total - g.next)
    .next (if s.cut.state != .running || !g.present || decide (freeEntries s e < 8) || n == 0 then s
    else
      let s := noise.foldl (fun s u => upsetBurst u s) s
      let a := g.array + 16 * g.next
      let r := hbmRead a (16 * n) (fetchRequester e) s
      match r.2.1 with
      | 0 =>
        let qs := qsteps g.next g.fetchCursor (wordsOf r.1 n)
        let cur := (qs.getLast?.map (·.sheaf)).getD g.fetchCursor
        deliverSteps e qs (r.2.2.modEngine e (fun g => { g with next := g.next + n, fetchCursor := cur }))
      | 1 => haltRun 1 (fetchRequester e) r.2.2
      | _ => haltRun 2 (hbmStack a) r.2.2)
  else .fault .absentUnit

/-! ### Loading (R231 to R236) -/

/-- Acceptance of a load: the list held before is gone, with its fills, posts and data on the meshes, the state is loading,
and the image is protected (R231, R235, log entry 53). -/
def acceptLoad (addr : Nat) (c : CmdRef) (s : State) : State :=
  let s := quietMeshes s
  { s with
    engines := []
    cut := { s.cut with state := .loading, base := addr, digest := 0, loadCmd := some c, prot := true
                        len := memNat s.hbm.mem (addr + 8) 8 } }

/-- A load ends with a rejection: CUT.LOAD and the reply name it, and the state is empty (R232, R233). -/
def rejectLoad (x : Reject) (s : State) : State :=
  let c := s.cut.loadCmd
  let s := { s with
    engines := []
    cut := { s.cut with state := .empty, prot := false, loadCmd := none, loadCode := x.code, loadSegment := x.segment,
                        loadQueue := x.queue, loadStep := x.step } }
  finishOpt c (rejectStatus x.code) s

/-- The engine record of a queue at load: its route translated, its counters 0, and its first steps in place (R40, R211,
R236, R237). -/
def loadedEngine (b : Img) (base : Nat) (m : List (Nat × List Nat)) (q : QRec) : Engine :=
  let n := min 64 q.steps
  let qs := qsteps 0 0 ((List.range n).map (stepWord b q))
  { present := true, queue := qs, next := n, filled := n, total := q.steps, array := base + q.array
    fetchCursor := (qs.getLast?.map (·.sheaf)).getD 0
    route := (List.range 64).map (fun p => physRoute m (routeWord b q p)) }

/-- The ranks that the CPOST steps of an image name (R345). -/
def cpostRanks (b : Img) : List Nat :=
  setOf ((imgQueues b).flatMap (fun q => if engKind q.engine = 5 then
    ((List.range q.steps).map (stepWord b q)).filterMap (fun w =>
      if stOpcode w = 0x84 then some (fld (stBody w) 0 10) else none) else []))

/-- The logical index of a physical tiller in a map (R88). -/
def logicalIndex (m : List (Nat × List Nat)) (key : Nat) : Option Nat :=
  (List.range 288).find? (fun l => mapPhys m (key / 288) l == some (key % 288))

/-- A tiller at load: its index, and bins, anchors, sticky flags, selectors and RNG counter 0 (R86, R88). -/
def loadedTiller (m : List (Nat × List Nat)) (key : Nat) (t : Tiller) : Tiller :=
  { t with logical := logicalIndex m key, sel := [], rng := 0, bank0 := {}, bank1 := {} }

/-- Loading completes: the state that R40, R44, R46, R86, R89 and R360 name is cleared, descriptors and routes are
copied, and every queue is prefilled (R166, R169, R231, R236, R237). -/
def completeLoad (b : Img) (s : State) : State :=
  let m := logicalMap s (hdKind b)
  let base := s.cut.base
  let engs := (imgQueues b).foldl (fun t q =>
    match physEngine m q.engine with
    | some e => tabPut t e (loadedEngine b base m q)
    | none => t) []
  let keys := List.range 2304
  let tl := keys.foldl (fun t k => tabPut t k (loadedTiller m k (tabGet t k {}))) s.tillers
  let parts := (s.parts.map (fun p => (p.1, { p.2 with degradedAtLoad := isDegraded s p.1 })))
  let c := s.cut.loadCmd
  let descs := (List.range (hdDcount b)).map (fun i => (i, descOf (descWord b i)))
  let s := { s with
    engines := engs
    tillers := tl
    parts := parts
    repro := { loaded := true }
    cut := { s.cut with
      state := .loaded, kind := hdKind b, digest := BitVec.ofNat 512 (imageDigest b), len := hdLength b
      ranks := hdRanks b, span := hdSpan b, marks := (List.range (hdMarks b)).map (markSheaf b), descs := descs
      logMap := m, cpostRanks := cpostRanks b, loadCmd := none, loadCode := 0, loadSegment := 0, loadQueue := 0
      loadStep := 0, lastMark := 0xFFFF, pauseMark := none, pausePend := false, sheaf := 0, idle := 0, idles := []
      idleBase := 0, idleNow := false, startAt := none, resumeMark := none, ovrTotal := 0, ovrOther := 0
      ovrFirst := none, ovrLast := none, ovrEvent := none, ovrNew := false, flagEvent := none, flagNew := none
      posts := [], barriers := [], cposts := [] } }
  finishOpt c 0 s

/-- What the sequencers read of an image, as offset, length and requester: each die sequencer its segment, the Sill
sequencer its own, the rail-site segments and the tables (R192, R231). -/
def seqRanges (b : Img) : List (Nat × Nat × Nat) :=
  (List.range (hdSegments b)).map (fun i =>
    let d := dirEntry b i
    (bits d 64 64, bits d 128 64, if bits d 0 8 = 1 then 160 + bits d 8 8 % 8 else 168))
  ++ [(hdDesc b, 512 * hdDcount b, 168), (hdMark b, 16 * hdMarks b, 168)]

/-- The sequencers read their shares: the worst outcome, and the state with the counts of the reads (R196, R231). -/
def seqReads (base : Nat) (b : Img) (s : State) : Nat × State :=
  (seqRanges b).foldl (fun (x : Nat × State) r =>
    let y := hbmRead (base + r.1) r.2.1 r.2.2 x.2
    (worse x.1 y.2.1, y.2.2)) (0, s)

/-- The image has been read whole: the sequencers' reads and every check decide (R231 to R234). -/
def judgeImage (base : Nat) (b : Img) (s : State) : State :=
  let q := if layoutBad b then (0, s) else seqReads base b s
  match q.1 with
  | 1 => rejectLoad { code := 0x14 } q.2
  | 2 => rejectLoad { code := 0x16 } q.2
  | _ => match imageFault q.2 base b with
    | some x => rejectLoad x q.2
    | none => completeLoad b q.2

/-- LOAD_COMPLETE: Square and the sequencers have read and checked the image; it is loaded, or rejected with the first
fault in the order of R232 (R231 to R236). -/
def execLoadComplete (noise : List HbmUpset) (s : State) : Host.Outcome State Fault Refusal :=
  if s.cut.state != .loading then .next s
  else
    let base := s.cut.base
    let s := noise.foldl (fun s u => upsetBurst u s) s
    let h := hbmRead base 256 171 s
    let s := h.2.2
    .next (match h.2.1 with
    | 1 => rejectLoad { code := 0x14 } s
    | 2 => rejectLoad { code := 0x16 } s
    | _ =>
      if headerBad h.1 then rejectLoad { code := 0x01 } s
      else if lengthBad base h.1 then rejectLoad { code := 0x02 } s
      else
        let r := hbmRead (base + 256) (hdLength h.1 - 256) 171 s
        let s := r.2.2
        match r.2.1 with
        | 1 => rejectLoad { code := 0x14 } s
        | 2 => rejectLoad { code := 0x16 } s
        | _ => judgeImage base (h.1 ++ r.1) s)

end Sys2Proof.Machine
end

