-- ==== Sys2Proof/Machine/Rail.lean ====
section
/-! DEFINITION. The rows of the rail links: frames, link words, training, substitution, epochs and combined words
(R243 to R272, R436). A rail that is DOWN and may train starts its training at RAIL_TRAIN_STEP_DONE; links 26 and 27 are
the Yuley ports Y0 and Y1, which train through the same states (R373). -/

namespace Sys2Proof.Machine

/-! ### Frames (R247 to R254) -/

/-- A frame passes its receiver: CRC, type, reserved bits and channel; on the calibration spare (lane 33) the channel is
not checked (R249, R283). -/
def railFrameOk (lane : Nat) (f : BitVec 4160) : Bool :=
  bits f.toNat 4128 32 == railCrc f && bits f.toNat 0 2 != 0 && bits f.toNat 25 7 == 0
    && (lane == 33 || bits f.toNat 2 6 == lane)

/-- The eight slots of a data frame (R248). -/
def frameSlots (f : BitVec 4160) : List (BitVec 512) :=
  (List.range 8).map (fun i => BitVec.ofNat 512 (f.toNat / 2 ^ (32 + 512 * i)))

/-- Slots that a rail site has consumed are freed, with a CREDIT word (R255, R257). -/
def freeCredit (r v n : Nat) (s : State) : State :=
  let s := s.modRail r (fun x => { x with rxFreed := tabPut x.rxFreed v ((tabGet x.rxFreed v 0 + n) % 2 ^ 32) })
  let x := s.rail r
  let g := fun v => tabGet x.rxFreed v 0
  putWord r (ctlWord (0x02 + g 0 * 2 ^ 8 + g 1 * 2 ^ 40 + g 2 * 2 ^ 72 + g 3 * 2 ^ 104)) s

/-- The site that holds the engine of a packet received at a site: a response's, or a collective packet's; a request goes to a
port engine from the site that receives it (R302, R333). -/
def ringHome (r : Nat) (p : Packet) : Nat :=
  if p.cls = 2 ∧ p.flow < 64 then fabSite p.flow else if p.cls = 3 ∧ p.flow < 26 then p.flow else r

/-- A packet arrives at a rail site: one with an invalid header or for another module is discarded and counted, one that
passed too many switches is discarded, and one for an engine at another site goes there over a ring (R250, R269, R302,
R333). -/
def arrivePacket (r : Nat) (s : State) (p : Packet) : State :=
  if !p.valid || p.dst != s.fab.module then
    let s := s.modRail r (fun x => { x with badPacket := satAdd x.badPacket 1 0xFF })
    freeCredit r p.vc p.slots.length s
  else if 3 < p.hops then freeCredit r p.vc p.slots.length s
  else if ringHome r p != r then onBus r (ringHome r p) (p.cls == 3) false p (freeCredit r p.vc p.slots.length s)
  else { s with railTop := { s.railTop with arrived := s.railTop.arrived ++ [(r, { p with came := s.now })] } }

/-- Frames held for order are delivered while the next is there; the packets of a frame that was resent, or stood behind
one, are late (R252, R254). -/
def deliverFrames : Nat → Nat → State → State
  | 0, _, s => s
  | n + 1, r, s =>
    let x := s.rail r
    match tabFind x.reorder x.rxNext with
    | none => s
    | some slots =>
      let late := x.late.contains x.rxNext
      let s := s.modRail r (fun x => { x with reorder := tabDel x.reorder x.rxNext, rxNext := (x.rxNext + 1) % 65536,
                                              rxRejects := tabDel x.rxRejects x.rxNext, late := setDel x.late x.rxNext })
      deliverFrames n r ((framePackets 8 slots).foldl (fun s p => arrivePacket r s { p with late := late }) s)

/-- An ACK word: everything delivered so far, and a negative acknowledgement (R253, R257). -/
def ackWord (next : Nat) (nak : Option Nat) : Word256 :=
  ctlWord (0x01 + (next + 65535) % 65536 * 2 ^ 8 + (match nak with | some q => q % 65536 * 2 ^ 24 + 2 ^ 40 | none => 0))

/-- A frame is asked for again (R253). -/
def sendNak (r q : Nat) (s : State) : State :=
  let s := s.modRail r (fun x => { x with naks := setIns x.naks q })
  putWord r (ackWord (s.rail r).rxNext (some q)) s

/-- Distance from one fseq to another, modulo 2^16 (R252). -/
def seqDist (a b : Nat) : Nat := (b + 65536 - a) % 65536

/-- A data frame is taken in: what is already held is discarded, gaps are asked for again, and frames are delivered in
fseq order (R252 to R254). -/
def takeFrame (r q : Nat) (slots : List (BitVec 512)) (s : State) : State :=
  let x := s.rail r
  let d := seqDist x.rxNext q
  if 2048 ≤ d ∨ (tabFind x.reorder q).isSome then putWord r (ackWord x.rxNext none) s
  else
    let gaps := ((List.range d).map (fun i => (x.rxNext + i) % 65536)).filter
      (fun g => (tabFind x.reorder g).isNone && !x.naks.contains g)
    let late := x.naks.contains q || d != 0
    let s := s.modRail r (fun x => { x with reorder := tabPut x.reorder q slots, naks := setDel x.naks q
                                            late := if late then setIns x.late q else x.late })
    let s := gaps.foldl (fun s g => sendNak r g s) s
    let s := deliverFrames 2048 r s
    putWord r (ackWord (s.rail r).rxNext none) s

/-- Grains of a count of codewords (R246). -/
def codewordGrains (n : Nat) : Nat := n * 54400 / 1125

/-- A rejected frame counts on its lane; the sixteenth since qualification parks the lane (R262). Keys from 64 count the
lanes of the transmit fibre (log entry 14). -/
def rejectOn (r key : Nat) (s : State) : State :=
  let n := tabGet (s.rail r).laneRej key 0 + 1
  let s := s.modRail r (fun x => { x with laneRej := tabPut x.laneRej key (min n 16) })
  if 16 ≤ n then parkLane r (key % 64) s else s

/-- Uncorrectable codewords of a lane; the fourth within 2^20 codewords parks it (R262). -/
def uncorrectableOn (r lane n : Nat) (s : State) : State :=
  if n = 0 ∨ 32 ≤ lane then s
  else
    let old := (tabGet (s.rail r).laneUnc lane []).filter (fun g => decide (s.now < g + codewordGrains (2 ^ 20)))
    let l := (List.replicate n s.now ++ old).take 4
    let s := s.modRail r (fun x => { x with laneUnc := tabPut x.laneUnc lane l })
    if 4 ≤ l.length then parkLane r lane s else s

/-- A rejected data frame is asked for again, and one rejected 8 times takes the rail down; a rejected idle or training
frame is counted. Both count on their lane in service (R249, R253, R262). -/
def rejectFrame (r lane : Nat) (due : Option (BitVec 16)) (s : State) : State :=
  let mark := fun (s : State) => if 5 ≤ (s.rail r).state ∧ lane < 32 then rejectOn r lane s else s
  match due with
  | none => mark (s.modRail r (fun x => { x with badWords := x.badWords + 1 }))
  | some q =>
    let n := tabGet (s.rail r).rxRejects q.toNat 0 + 1
    let s := s.modRail r (fun x => { x with rxRejects := tabPut x.rxRejects q.toNat n })
    if 8 ≤ n then railDown r 2 0 s else mark (sendNak r q.toNat s)

/-- The identity that a frame shows: its chan field, or on the spare its identity block (R283, R284). -/
def frameIdentity (lane : Nat) (f : BitVec 4160) : Nat :=
  if lane = 33 then bits f.toNat 32 6 else bits f.toNat 2 6

/-- The receivers of a rail's wavelength take a frame: what it holds of it, the identity it shows, and the data it
carries (R247, R249, R252, R284). -/
def hearFrame (r lane wave : Nat) (f : BitVec 4160) (due : Option (BitVec 16)) (s : State) : State :=
  let x := tabGet (s.rail r).rx wave {}
  let put := fun (g : LaneRx → LaneRx) (s : State) => s.modRail r (fun y => { y with rx := tabMod y.rx wave {} g })
  if !x.sound || !railFrameOk lane f then rejectFrame r lane due (put LaneRx.skip s)
  else
    let type := bits f.toNat 0 2
    let s := put (fun y => y.pass (bit f.toNat 8) (type == 3)) s
    if !x.framed then s
    else
      let s := observe (2 * r + 1) wave (frameIdentity lane f) (railRing r 1 wave) s
      let st := (s.rail r).state
      if type = 1 ∧ (st = 5 ∨ st = 6) then takeFrame r (bits f.toNat 9 16) (frameSlots f) s else s

/-- The control channel's receiver takes the message of a codeword, with the identity in its tail (R256, R284). -/
def hearControl (r wave : Nat) (v : BitVec 5140) (s : State) : State :=
  let x := tabGet (s.rail r).rx wave {}
  if !x.locked || x.lost then s
  else observe (2 * r + 1) wave (bits v.toNat 5120 6) (railRing r 1 wave) (s.modRail r (Rail.takeCodeword v))

/-- Codewords are decoded on a wavelength, with so many symbols in error each (R246, R262, R271, R289). -/
def hearCodes (r lane wave : Nat) (codes : List Nat) (s : State) : State :=
  let y := (tabGet (s.rail r).rx wave {}).codes codes
  let s := s.modRail r (fun x => { x with corrected := satAdd x.corrected y.2.1 0xFFFFFF,
                                          uncorrectable := satAdd x.uncorrectable y.2.2 0xFFF
                                          rx := tabPut x.rx wave y.1 })
  let s := missCodewords (2 * r + 1) wave codes (railRing r 1 wave) s
  if 5 ≤ (s.rail r).state then uncorrectableOn r lane (codes.filter (fun n => !rsDecodes n)).length s else s

/-- RAIL_FRAME_RECEIVE: the receiver of a wavelength has decoded the codewords `codes`, each given by its symbols in error,
and with them a frame of a data lane or of the calibration spare (lane 33), in the low 4,160 bits of `frame`, or the last
codeword's message on the control channel (lane 32). `due` is the data frame that the lane's rotation has due there (R246 to
R254, R256, R262, R271, R283, R284, R289). -/
def execRailFrameReceive (rail : Fin 26) (lane wave : Fin 34) (frame : BitVec 5140) (due : Option (BitVec 16))
    (codes : List (Fin 545)) (s : State) : Host.Outcome State Fault Refusal :=
  let r := rail.val
  let st := (s.rail r).state
  .next (if st < 2 ∨ st = 7 then s
  else
    let s := hearCodes r lane.val wave.val (codes.map (·.val)) s
    if (s.rail r).state < 2 then s
    else if lane.val = 32 then hearControl r wave.val frame s
    else hearFrame r lane.val wave.val (frame.setWidth 4160) due s)

/-! ### Link words (R253 to R257, R260) -/

/-- RAIL_CONTROL_LOCK_LOST: the control channel has lost codeword lock for 64 codewords (R262, R290). -/
def execRailControlLockLost (rail : Fin 26) (s : State) : Host.Outcome State Fault Refusal :=
  let st := (s.rail rail.val).state
  .next (if st = 5 ∨ st = 6 then railDown rail.val 1 0 s else s)

/-- A link word of a kind is consumed on a rail that exchanges words: it is the oldest of its kind that the control channel
has brought. A word that fails its check has been discarded and counted where its codeword was decoded (R256, R258). -/
def linkWord (r kind : Nat) (w : Word256) (f : State → State) (s : State) : State :=
  let x := s.rail r
  if x.state < 3 ∨ x.state = 7 then s
  else if x.rxWords.find? (fun v => ctlKind v == kind) == some w then
    f (s.modRail r (fun x => { x with rxWords := delFirst (fun v => v == w) x.rxWords }))
  else s

/-- The frame that a negative acknowledgement names is resent on the next lane; the eighth rejection takes the rail down
(R253, R262). -/
def resendFrame (r q : Nat) (s : State) : State :=
  match (s.rail r).replay.find? (fun f => f.seq == q) with
  | none => s
  | some f =>
    if 8 ≤ f.rejects + 1 then railDown r 2 0 s
    else rejectOn r (64 + f.lane) (sendAgain r { f with rejects := f.rejects + 1 } s)

/-- RAIL_ACK: the replay buffer is freed up to the acknowledged frame, and a frame named by a negative acknowledgement
is resent (R253, R257). -/
def execRailAck (rail : Fin 26) (word : BitVec 256) (s : State) : Host.Outcome State Fault Refusal :=
  let r := rail.val
  .next (linkWord r 0x01 word (fun s =>
    let cum := ctl word 8 16
    let s := s.modRail r (fun x => { x with replay := x.replay.filter (fun f => 2048 ≤ seqDist f.seq cum) })
    let s := if bit word.toNat 40 then resendFrame r (ctl word 24 16) s else s
    pump r s) s)

/-- RAIL_CREDIT: the freed-slot counts of the far end (R255, R257). -/
def execRailCredit (rail : Fin 26) (word : BitVec 256) (s : State) : Host.Outcome State Fault Refusal :=
  let r := rail.val
  .next (linkWord r 0x02 word (fun s =>
    let f := (List.range 4).map (fun v => (v, ctl word (8 + 32 * v) 32))
    pump r (s.modRail r (fun x => { x with freed := f }))) s)

/-- The module's TRAIN word on a rail: state, lanes, number, physical rail and limits (R255, R257, R288). -/
def trainWord (s : State) (r : Nat) (mask : BitVec 32) : Word256 :=
  let x := s.rail r
  ctlWord (0x04 + x.state % 16 * 2 ^ 8 + mask.toNat * 2 ^ 12 + b2n x.controlOk * 2 ^ 44 + s.fab.module % 4096 * 2 ^ 45
    + r % 32 * 2 ^ 57 + 2048 * 2 ^ 62 + 2048 * 2 ^ 78 + 8192 * 2 ^ 94 + 512 * 2 ^ 110)

def sendTrain (r : Nat) (s : State) : State := putWord r (trainWord s r ((s.rail r).lanes &&& ~~~(s.rail r).parked)) s

/-- A rail enters a link state, and says so while it exchanges words; in QUALIFY the measurement of its lanes starts
(R259 to R261). -/
def enterLink (r st : Nat) (s : State) : State :=
  let measure := fun (l : List (Nat × LaneRx)) => if st = 4 then l.map (fun p => (p.1, p.2.restart)) else l
  let s := s.modRail r (fun x => { x with state := st, stateSince := s.now, rx := measure x.rx })
  if 3 ≤ st ∧ st ≤ 6 then sendTrain r s else s

/-- A rail's training has come to an end: the CALIBRATE command that asked for it completes (R392). -/
def answerTrain (r : Nat) (s : State) : State :=
  let c := (s.rail r).calib
  finishOpt c 0 (s.modRail r (fun x => { x with calib := none }))

/-- Limits of a TRAIN word: request, response, collective, escape (R257). -/
def trainLimits (w : Word256) : List (Nat × Nat) := (List.range 4).map (fun v => (v, ctl w (62 + 16 * v) 16))

/-- RAIL_TRAIN_WORD: in LINK the word is checked, and a plane mismatch fails the rail; in service a state of LINK or
lower takes the rail down, and the mask lets parked lanes rejoin at the next boundary (R260, R262, R288). -/
def execRailTrainWord (rail : Fin 26) (word : BitVec 256) (s : State) : Host.Outcome State Fault Refusal :=
  let r := rail.val
  .next (linkWord r 0x04 word (fun s =>
    let st := ctl word 8 4
    let s := s.modRail r (fun x => { x with trainRx := word })
    let x := s.rail r
    if x.state = 3 then
      if ctl word 57 5 ≠ r then
        let s := raise 0x0602 0 r (ctl word 57 5) 0 0 (s.modRail r (fun x => { x with state := 7, stateSince := s.now }))
        evalReady (answerTrain r s)
      else if 3 ≤ st ∧ st ≤ 6 ∧ (trainLimits word).all (fun l => decide (64 ≤ l.2)) then
        enterLink r 4 (s.modRail r (fun x => { x with limits := trainLimits word }))
      else s
    else if x.state = 5 ∨ x.state = 6 then
      if st ≤ 3 then railDown r 3 0 s
      else if st = 5 then
        s.modRail r (fun x => { x with trainMask := BitVec.ofNat 32 (ctl word 12 32) &&& x.parked })
      else s
    else s) s)

/-! ### Training (R259, R261, R285, R373) -/

/-- Both combs that feed the edge of a rail or a Yuley port have failed (R262, R274, R275). -/
def edgeDark (s : State) (edge : Nat) : Bool :=
  if edge = 0 then s.combFailed 4 && s.combFailed 5 else s.combFailed 6 && s.combFailed 7

/-- The edge of a rail site (R154). -/
def railEdge (r : Nat) : Nat := if r ≤ 12 then 0 else 1

/-- Rails and ports may train: from step 11 of a bring-up on (R460). -/
def State.mayTrain (s : State) : Bool := s.rst.built && !s.pwr.domainsOff && s.rst.episode.all (fun ep => ep.level != 3)
    && (s.rst.state != 1 || decide (11 ≤ s.rst.step))

/-- An attempt of a rail fails; the third makes it FAILED (R259). -/
def failAttempt (r : Nat) (s : State) : State :=
  let n := (s.rail r).attempts + 1
  let s := s.modRail r (fun x => { x.fresh with attempts := min n 3, stateSince := s.now, state := if 3 ≤ n then 7 else 1 })
  if 3 ≤ n then answerTrain r s else s

/-- An attempt of a Yuley port fails (R373). -/
def failPort (p : Nat) (s : State) : State :=
  let n := (s.yport p).attempts + 1
  s.modPort p (fun x => { x with attempts := min n 3, stateSince := s.now, lanes := 0, state := if 3 ≤ n then 7 else 1 })

/-- The map of a fibre with the given locked wavelengths: the highest is the spare, the lowest of the rest carries the
control channel, then the data channels in order (R285). -/
def fibreMap (locked : List Nat) : List (Nat × Nat) :=
  match locked with
  | [] => []
  | c :: rest => (c, 32) :: (rest.dropLast.take 32).mapIdx (fun i w => (w, i)) ++ (rest.getLast?.map (fun w => (w, 33))).toList

/-- The data channels that a fibre carries. -/
def mappedLanes (m : List (Nat × Nat)) : BitVec 32 := BitVec.ofNat 32 (maskOf ((m.map (·.2)).filter (· < 32)))

/-- Rings of one fibre that its training has acquired: those listed take their calibration, and each holds its line again
(R277, R291, R295). -/
def acquireRings (place : RingPlace) (waves : List Nat) (cals : RingCals) (s : State) : State :=
  waves.foldl (fun s w =>
    let ring : RingId := { place := place, wave := ⟨w % 47, Nat.mod_lt _ (by decide)⟩ }
    let cal := (cals.find? (fun c => c.1 == ring)).map (·.2)
    let back := fun (x : Ring) => { x with slipped := none, failed := false, locked := true, quiet := 16, weak := 0 }
    s.modRing (ringKey ring) (fun x => match cal with | some c => measureRing c (back x) | none => back x)) s

/-- The wavelengths of a fibre that locked, without those whose ring lies further from its line than R277 accepts. -/
def acceptedWaves (place : RingPlace) (waves : List Nat) (s : State) : List Nat :=
  waves.filter (fun w => !(s.ring (placeKey place * 64 + w)).tooFar)

/-- A rail's OPTICAL state ends: at least 18 locked wavelengths on each fibre, mapped anew (R261, R277, R285, R295). -/
def opticalDone (r : Nat) (tx rx : List Nat) (cals : RingCals) (s : State) : State :=
  let place := fun (d : Nat) => (railRing r d 0).place
  let tx := acceptedWaves (place 0) tx s
  let rx := acceptedWaves (place 1) rx s
  if tx.length < 18 ∨ rx.length < 18 then failAttempt r s
  else
    let s := acquireRings (place 1) rx cals (acquireRings (place 0) tx cals s)
    let s := s.modFibre (2 * r) (fun _ => { map := fibreMap tx, spare := tx.getLast? })
    let s := s.modFibre (2 * r + 1) (fun _ => { spare := rx.getLast? })
    enterLink r 2 (s.modRail r (fun x => { x with rxWaves := BitVec.ofNat 34 (maskOf rx), rx := [] }))

/-- A rail's receive fibre is ready for LINK: every wavelength that locked has codeword lock, and superframe lock where it
carries frames (R259). -/
def lockDone (s : State) (r : Nat) : Bool :=
  let x := s.rail r
  (setBits 34 x.rxWaves.toNat).all (fun w =>
    let y := tabGet x.rx w {}
    y.locked && (y.framed || identValue y (s.fibre (2 * r + 1)) w == 32))

/-- Every wavelength has been measured over 2^20 codewords (R261). -/
def measured (waves : BitVec 34) (rx : List (Nat × LaneRx)) : Bool :=
  (setBits 34 waves.toNat).all (fun w => (tabGet rx w {}).words == 2 ^ 20)

/-- The channels whose wavelength qualifies at this end (R261). -/
def qualified (s : State) (r : Nat) : List Nat :=
  (List.range 34).filterMap (fun w =>
    let y := tabGet (s.rail r).rx w {}
    let c := identValue y (s.fibre (2 * r + 1)) w
    if y.qualifies && decide (c ≤ 32) then some c else none)

/-- A rail's QUALIFY state ends: the control channel and at least 16 data lanes qualify, and the rail enters STANDBY
(R261, R262). -/
def qualifyDone (r : Nat) (s : State) : State :=
  let good := qualified s r
  let lanes := BitVec.ofNat 32 (maskOf (good.filter (· < 32))) &&& mappedLanes (s.fibre (2 * r)).map
  if !good.contains 32 || decide (popcount 32 lanes.toNat < 16) then failAttempt r s
  else
    let s := s.modRail r (fun x => { x with lanes := lanes, controlOk := true, parked := 0, laneRej := [], laneUnc := [] })
    let s := s.modFibre (2 * r) (fun f => { f with rotating := true })
    let s := s.modFibre (2 * r + 1) (fun f => { f with rotating := true })
    evalReady (answerTrain r (visit r none (enterLink r 6 s)))

/-- In service the parked lanes whose training frames have qualified are reported to the far end (R288). -/
def reportParked (r : Nat) (s : State) : State :=
  let x := s.rail r
  let back := (qualified s r).filter (fun c => c < 32 ∧ x.parked.toNat.testBit c)
  if back.isEmpty then s else putWord r (trainWord s r (x.lanes &&& (~~~x.parked ||| BitVec.ofNat 32 (maskOf back)))) s

/-- The data lanes of a Yuley port that qualify (R373). -/
def yuleyQualified (x : RxPort) : Nat := maskOf ((List.range 4).filter (fun l => (tabGet x.rx (10 + l) {}).qualifies))

/-- The data lanes of a Yuley port whose wavelength locked have codeword and superframe lock (R259, R373). -/
def yuleyLocked (x : RxPort) : Bool :=
  (List.range 4).all (fun l => !x.rxWaves.toNat.testBit (10 + l) || (tabGet x.rx (10 + l) {}).framed)

/-- A Yuley port's OPTICAL state ends with the wavelengths that locked (R373, R295). -/
def portOptical (p : Nat) (rx : BitVec 34) (cals : RingCals) (s : State) : State :=
  let place := fun (d : Bool) => (railRing (26 + p) (b2n d) 0).place
  let waves := acceptedWaves (place true) ((setBits 34 rx.toNat).filter (fun w => decide (10 ≤ w ∧ w ≤ 14))) s
  let s := acquireRings (place true) waves cals (acquireRings (place false) [10, 11, 12, 13, 14] cals s)
  s.modPort p (fun x => { x with state := 2, stateSince := s.now, rx := [], rxWaves := BitVec.ofNat 34 (maskOf waves) })

/-- A step of a Yuley port's training is done (R373). -/
def portStep (p : Nat) (rx : BitVec 34) (cals : RingCals) (s : State) : State :=
  let x := s.yport p
  let go := fun (n : Nat) (f : List (Nat × LaneRx) → List (Nat × LaneRx)) =>
    s.modPort p (fun x => { x with state := n, stateSince := s.now, rx := f x.rx })
  match x.state with
  | 0 => if edgeDark s p || s.pwr.regFaults.contains (3, 0x60 + p) || !s.mayTrain then s else go 1 id
  | 1 => portOptical p rx cals s
  | 2 => if yuleyLocked x then go 3 id else s
  | 3 => go 4 (fun l => l.map (fun q => (q.1, q.2.restart)))
  | 4 => if !measured (x.rxWaves &&& 0x3C00) x.rx then s else if yuleyQualified x = 0 then failPort p s
    else evalReady (s.modPort p (fun x => { x with state := 5, stateSince := s.now, lanes := yuleyQualified x }))
  | _ => s

/-- RAIL_TRAIN_STEP_DONE: the work of a rail's or port's state is done; in OPTICAL `tx` and `rx` are the wavelengths that
locked, and `cals` what the acquisition of their rings measured. LOCK, LINK and QUALIFY end by what the receivers hold. In
service, a requalified lane is reported to the far end (R259, R261, R285, R288, R373). -/
def execRailTrainStepDone (link : Fin 28) (tx rx : BitVec 34) (cals : RingCals) (s : State) :
    Host.Outcome State Fault Refusal :=
  let r := link.val
  .next (if r < 26 then
      let x := s.rail r
      match x.state with
      | 0 => if Config.railFusedBad r || x.heldDown || s.railHeld r || edgeDark s (railEdge r) || !s.mayTrain then s else enterLink r 1 s
      | 1 => opticalDone r (setBits 34 tx.toNat) (setBits 34 rx.toNat) cals s
      | 2 => if lockDone s r then enterLink r 3 s else s
      | 4 => if measured x.rxWaves x.rx then qualifyDone r s else s
      | 5 => reportParked r s
      | _ => s
    else portStep (r - 26) rx cals s)

/-- The limit of a training state in grains (R259). -/
def trainLimit (st : Nat) : Option Nat :=
  match st with
  | 1 => some 2000000000 | 2 => some 10000000 | 3 => some 1000000 | 4 => some 51000000 | _ => none

/-- A state entered at a grain has overrun its limit. -/
def overran (s : State) (st since : Nat) : Bool :=
  match trainLimit st with | some n => decide (since + n < s.now) | none => false

/-- RAIL_TRAIN_TIMEOUT: a training state overran its limit (R259, R373). -/
def execRailTrainTimeout (link : Fin 28) (s : State) : Host.Outcome State Fault Refusal :=
  let r := link.val
  .next (if r < 26 then
      if overran s (s.rail r).state (s.rail r).stateSince then failAttempt r s else s
    else
      let x := s.yport (r - 26)
      if overran s x.state x.stateSince then failPort (r - 26) s else s)

/-! ### Substitution and escape (R244, R264, R266) -/

/-- The home rail of a logical rail (R244). -/
def homeRail (l : Nat) : Nat := if l < 12 then l else l + 1

/-- Rank of a STANDBY rail for a logical rail: full width, same edge, lowest site (R264). -/
def standbyRank (s : State) (l r : Nat) : Nat :=
  (if (s.rail r).width = 32 then 0 else 1000) + (if railEdge r = railEdge (homeRail l) then 0 else 100) + r

/-- The STANDBY rail that a logical rail is given (R264). -/
def pickStandby (s : State) (l : Nat) (full : Bool) : Option Nat :=
  let c := (s.rails.filter (fun p => p.2.state == 6 && (!full || p.2.width == 32))).map (·.1)
  c.foldl (fun b r => match b with
    | none => some r
    | some q => if standbyRank s l r < standbyRank s l q then some r else some q) none

/-- A STANDBY rail takes a logical rail, with RAIL_SPARED in service (R244, R264). -/
def giveRail (l r : Nat) (event : Bool) (s : State) : State :=
  let s := enterLink r 5 (s.modRail r (fun x => { x with logical := some l }))
  if event then raise 0x0605 0 l r 0 0 s else s

/-- A logical rail without an ACTIVE rail takes a STANDBY one; a narrow one gives way to a full-width STANDBY rail, and
its queue moves there (R244, R264). -/
def assignRail (event : Bool) (s : State) (l : Nat) : State :=
  match s.activeRail l with
  | none => (match pickStandby s l false with | some r => giveRail l r event s | none => s)
  | some o =>
    if (s.rail o).width = 32 then s
    else match pickStandby s l true with
      | none => s
      | some r =>
        let q := (s.rail o).queue.map (·.1)
        let s := enterLink o 6 (s.modRail o (fun x => { x with logical := none, queue := [] }))
        q.foldl (fun s p => sendOn r p s) (giveRail l r event s)

/-- Before the assignment of step 11 each logical rail takes its home rail, where that has trained (R244). -/
def assignHomes (s : State) : State :=
  (List.range 24).foldl (fun s l =>
    if (s.rail (homeRail l)).state = 6 ∧ (s.rail (homeRail l)).logical = none then giveRail l (homeRail l) false s else s) s

/-- Every logical rail is looked at in order: first those without a rail, then the narrow ones (R264). -/
def assignRails (event : Bool) (s : State) : State :=
  let s := ((List.range 24).filter (fun l => (s.activeRail l).isNone)).foldl (assignRail event) s
  (List.range 24).foldl (assignRail event) s

/-- RAIL_SUBSTITUTE: at a fleet sheaf boundary STANDBY rails take the place of rails that are not ACTIVE, or are narrow
(R264, R268). -/
def execRailSubstitute (s : State) : Host.Outcome State Fault Refusal :=
  .next (if s.atBoundary && s.railTop.assigned then noteNarrow (evalReady (formRails (assignRails true s))) else s)

/-- The head of a channel in a transmit queue. -/
def queueHead (r : Rail) (v : Nat) : Option (Packet × Option Nat) := r.queue.find? (fun x => x.1.vc == v)

/-- RAIL_ESCAPE_MOVE: the head of a channel that has lacked credit for 4,096 grains moves to the escape channel of its
escape rail when that has credit (R266). -/
def execRailEscapeMove (rail : Fin 26) (channel : Fin 3) (s : State) : Host.Outcome State Fault Refusal :=
  let r := rail.val
  .next (match queueHead (s.rail r) channel.val with
    | some (p, some g) =>
      (match s.activeRail (railEntry s p.epoch p.dst).2 with
       | some q =>
         if g + 4096 ≤ s.now ∧ p.slots.length ≤ (s.rail q).credit 3 then
           let s := s.modRail r (fun x => { x with queue := delFirst (fun y => y.1.vc == channel.val) x.queue })
           pump r (sendOn q (p.onChannel 3) s)
         else s
       | none => s)
    | _ => s)

/-! ### Epochs (R267, R268) -/

/-- EPOCH_CONTRIBUTE: from fleet sheaf F - 32 the module contributes EPOCH with ready = 1, once (R267). -/
def execEpochContribute (s : State) : Host.Outcome State Fault Refusal :=
  let t := s.railTop
  .next (if t.flipPending && t.flippedAt.isNone && !t.contributed && decide (t.flipSheaf ≤ s.fleetSheaf + 32)
      && decide (s.fleetSheaf < t.flipSheaf) then
    contributeEpoch { s with railTop := { t with contributed := true } }
  else s)

/-- A combined word: result 1 and this module's stook, at the place of its kind; anything else is counted as stray
(R258). -/
def combinedOk (s : State) (w : Word256) : Bool :=
  let at_ := match ctlKind w with | 0x20 => 40 | 0x21 => 84 | 0x22 => 180 | _ => 78
  bit w.toNat at_ && ctl w 8 16 == s.col.stook % 65536

/-- The first result of an outstanding key is acted on, and the key is forgotten; later copies do nothing (R258). -/
def combined (r kind key : Nat) (w : Word256) (f : State → State) (s : State) : State :=
  linkWord r kind w (fun s =>
    if !combinedOk s w then countStray r s
    else if isOutstanding s kind key then f (forget kind key s)
    else s) s

/-- EPOCH_RESULT: the result for a pending flip, if it comes before F (R258, R267). -/
def execEpochResult (rail : Fin 26) (word : BitVec 256) (s : State) : Host.Outcome State Fault Refusal :=
  .next (combined rail.val 0x23 (ctl word 25 52) word (fun s =>
    if s.railTop.flipPending && ctl word 25 52 == s.railTop.flipSheaf && decide (s.fleetSheaf < s.railTop.flipSheaf) then
      { s with railTop := { s.railTop with result := some (bit word.toNat 77) } }
    else s) s)

/-- RAIL.FLIP (R270). -/
def flipWord (t : RailTop) : Nat := t.flipSheaf % 2 ^ 52 + b2n t.flipEpoch * 2 ^ 52

/-- RAIL_EPOCH_FLIP: at the boundary that begins F the module flips if EPOCH came back ready, and otherwise gives the
flip up with RAIL_FLIP_FAILED (R267, R268). -/
def execRailEpochFlip (s : State) : Host.Outcome State Fault Refusal :=
  let t := s.railTop
  .next (if t.flipPending && t.flippedAt.isNone && s.atBoundary && decide (t.flipSheaf ≤ s.fleetSheaf) then
    if t.result = some true then
      formRails { s with railTop := { t with epoch := t.flipEpoch, flippedAt := some s.now, timedOut := false,
                                             result := none } }
    else
      raise 0x0606 0 (flipWord t) 0 0 0 { s with railTop := { t with flipPending := false, result := none } }
  else s)

/-- A packet that RAIL.DRAIN counts while it is on a rail: a response or an ack of the old epoch, once (R321, R342). -/
def drains (old : Bool) (p : Packet) : Bool :=
  p.epoch == old && !p.again && (p.cls == 2 || (p.cls == 3 && p.fld 64 4 == 2))

/-- Packets sent on a rail that no acknowledgement covers, and all packets that it holds. -/
def Rail.unacked (r : Rail) : List Packet := r.replay.flatMap (·.packets)
def Rail.packets (r : Rail) : List Packet := r.unacked ++ r.escape.map (·.1) ++ r.queue.map (·.1)

/-- RAIL.DRAIN: packets of the old epoch that have not had their end-to-end completion (R268, R270). -/
def railDrain (s : State) : Nat :=
  if s.railTop.flippedAt.isNone then 0
  else
    let old := !s.railTop.epoch
    let req := (s.fab.engs.flatMap (fun e => e.2.out.filter (fun o => o.pkt.epoch == old))).length
    let col := (s.col.engs.flatMap (fun e => match e.2.job with
      | some j => j.unacked.filter (fun c => c.epoch == old) | none => [])).length
    let back := (s.rails.flatMap (fun r => r.2.packets)).filter (drains old)
    req + col + back.length

/-- RAIL_DRAIN_ZERO: the drain has ended, and the old map version becomes writable (R268). -/
def execRailDrainZero (s : State) : Host.Outcome State Fault Refusal :=
  .next (if s.railTop.flippedAt.isSome && railDrain s == 0 then
    { s with railTop := { s.railTop with flipPending := false, flippedAt := none, timedOut := false } }
  else s)

/-- A packet in the epoch in use (R320). -/
def Packet.inEpoch (e : Bool) (p : Packet) : Packet :=
  match p.slots with
  | [] => p
  | h :: r => { p with slots := BitVec.ofNat 512 (h.toNat - b2n p.epoch * 64 + b2n e * 64) :: r }

/-- What still drains is undelivered: requests and collective data wait for their resend in the epoch in use, responses
and acks are sent again (R263, R268, R320, R342). -/
def undeliverOld (s : State) : State :=
  let new := s.railTop.epoch
  let old := !new
  let lost := (s.fab.engs.flatMap (fun e => e.2.out.filter (fun o => o.pkt.epoch == old))).length
  let engs := s.fab.engs.map (fun e => (e.1, { e.2 with out := e.2.out.map (fun o =>
    if o.pkt.epoch = old then { o with pkt := o.pkt.inEpoch new, unsent := true, busyAt := none } else o) }))
  let s := { s with fab := { s.fab with engs := engs, undelivered := satAdd s.fab.undelivered lost 0xFFFF } }
  let redo := fun (j : ColJob) =>
    let again := j.unacked.map (fun c => if c.epoch = old then { c with epoch := new, undelivered := true } else c)
    { j with resent := j.resent || j.unacked.any (fun c => c.epoch == old), unacked := again }
  let cols := s.col.engs.map (fun e => (e.1, { e.2 with job := e.2.job.map redo }))
  let s := { s with col := { s.col with engs := cols } }
  let back := (s.rails.flatMap (fun r => r.2.unacked)).filter (drains old)
  let mark := fun (p : Packet) => if drains old p then { p with again := true } else p
  let clear := fun (x : Rail) => { x with queue := x.queue.map (fun q => (mark q.1, q.2))
                                          escape := x.escape.map (fun q => (mark q.1, q.2))
                                          replay := x.replay.map (fun f => { f with packets := f.packets.map mark }) }
  let wait := s.railTop.waiting ++ back.map (fun p => (p.via, mark p))
  { s with rails := s.rails.map (fun r => (r.1, clear r.2)), railTop := { s.railTop with waiting := wait } }

/-- RAIL_DRAIN_TIMEOUT: 2^20 grains after the flip the drain has not ended (R268). -/
def execRailDrainTimeout (s : State) : Host.Outcome State Fault Refusal :=
  .next (match s.railTop.flippedAt with
    | none => s
    | some g =>
      if g + 2 ^ 20 ≤ s.now ∧ !s.railTop.timedOut ∧ railDrain s ≠ 0 then
        let n := railDrain s
        undeliverOld (raise 0x0607 0 n 0 0 0
          { s with railTop := { s.railTop with drainTimeout := true, timedOut := true } })
      else s)

/-! ### Combined words (R224, R258, R436) -/

/-- The list states in which TALLY and TIMECHK are sent (R258). -/
def State.tallies (s : State) : Bool :=
  s.cut.state != .empty && s.cut.state != .loading && s.cut.ranks != 1

/-- TALLY_RESULT: the result for F is stored for the boundary that begins F + 4, and one for a multiple of 256 is answered
by TIMECHK (R258, R436). -/
def execTallyResult (rail : Fin 26) (word : BitVec 256) (s : State) : Host.Outcome State Fault Refusal :=
  let f := ctl word 24 52
  .next (combined rail.val 0x21 f word (fun s =>
    let s := { s with pwr := { s.pwr with results := tabPut s.pwr.results f (ctl word 76 8) } }
    if f % 256 = 0 ∧ s.tallies then contributeTimechk f s else s) s)

/-- TIMECHK_RESULT: sheaves that differ by 2 or more raise RAIL_TIME_MISMATCH (R258). -/
def execTimechkResult (rail : Fin 26) (word : BitVec 256) (s : State) : Host.Outcome State Fault Refusal :=
  let k := ctl word 24 52
  let lo := ctl word 76 52
  let hi := ctl word 128 52
  .next (combined rail.val 0x22 k word (fun s => if lo + 2 ≤ hi then raise 0x0601 0 lo hi k 0 s else s) s)

/-- BARRIER_RESULT: the release reaches every waiting participant (R224, R258). -/
def execBarrierResult (rail : Fin 26) (word : BitVec 256) (s : State) : Host.Outcome State Fault Refusal :=
  let n := ctl word 24 16
  .next (combined rail.val 0x20 n word (barRelease (2, n, 0)) s)

/-- STRAY_COMBINED_WORD: a combined word with result 0 or of another stook is discarded and counted (R258). -/
def execStrayCombinedWord (rail : Fin 26) (word : BitVec 256) (s : State) : Host.Outcome State Fault Refusal :=
  let k := ctlKind word
  .next (if 0x20 ≤ k ∧ k ≤ 0x23 then
    linkWord rail.val k word (fun s => if combinedOk s word then s else countStray rail.val s) s
  else s)

end Sys2Proof.Machine
end

