-- ==== Sys2Proof/Machine/Optic.lean ====
section
/-! DEFINITION. The rows of the lasers and rings: combs, ring loops, identity words, the rotating calibration spare and
the recovery of slipped rings (R273 to R293). -/

namespace Sys2Proof.Machine

/-! ### Combs (R274, R275) -/

/-- The comb that shares its sites with a comb (R274). -/
def combPartner (c : Nat) : Nat :=
  match c with | 0 => 2 | 2 => 0 | 1 => 3 | 3 => 1 | 4 => 5 | 5 => 4 | 6 => 7 | _ => 6

/-- The sites that a pair of combs feeds, by its lower comb; the Sill sequencer is fed by two pairs (R154, R274). -/
def pairSites (c : Nat) : List Nat :=
  if c = 0 then [0, 1, 2, 3] ++ (List.range 8).map (· + 0x10) ++ (List.range 8).map (· + 0x20)
  else if c = 1 then [4, 5, 6, 7] ++ (List.range 8).map (· + 0x18) ++ (List.range 8).map (· + 0x28)
  else if c = 4 then (List.range 13).map (· + 0x40) ++ [0x60]
  else (List.range 13).map (· + 0x4D) ++ [0x61]

/-- A rail whose combs have failed goes dark (R262, R275). -/
def darkRail (s : State) (r : Nat) : State :=
  if (s.rail r).state = 0 then s else railFalls r 5 0 s

/-- Both combs of a pair have failed: its sites and the control waveguides of its columns go dark, its rails and its Yuley port go DOWN, COMB_FAILED is raised once,
and a run halts (R275). -/
def pairFails (c : Nat) (s : State) : State :=
  let sites := pairSites c
  let columns := if c = 0 then [0, 1, 2, 3] else if c = 1 then [4, 5, 6, 7] else []
  let ctl := setOf (s.sill.ctlDark ++ columns)
  let seq := if 8 ≤ ctl.length then [seqSite] else []
  let s := { s with sill := { s.sill with dark := setOf (s.sill.dark ++ sites ++ seq), ctlDark := ctl } }
  let s := raise 0x0702 0 c 0 0 0 s
  let s := (sites.filter (fun x => decide (0x40 ≤ x ∧ x < 0x5A))).foldl (fun s x => darkRail s (x - 0x40)) s
  let s := (sites.filter (fun x => decide (0x60 ≤ x))).foldl (fun s x => portFalls (x - 0x60) 0 s) s
  evalReady (haltRun 4 c s)

/-- A comb fails: the survivor of its pair boosts with COMB_SINGLE, or the pair goes dark (R275). -/
def combFails (c : Nat) (s : State) : State :=
  let p := combPartner c
  let put := fun (k : Nat) (f : Comb → Comb) (s : State) => { s with opt := { s.opt with combs := tabMod s.opt.combs k {} f } }
  let s := put c (fun x => { x with state := 3, boost := false }) s
  if s.combFailed p then pairFails (min c p) (put p (fun x => { x with boost := false }) s)
  else
    let s := put p (fun x => { x with boost := true }) s
    evalReady (raise 0x0701 0 c (combWord s p) 0 0 s)

/-- COMB_FAIL: a lit comb's power has fallen by 6 dB, or its lines have left tolerance for 100 us (R275). -/
def execCombFail (comb : Fin 8) (s : State) : Host.Outcome State Fault Refusal :=
  let st := (s.comb comb.val).state
  .next (if st = 1 ∨ st = 2 then combFails comb.val s else s)

/-! ### The loop of a ring (R277 to R282) -/

/-- Feedforward of a ring at a bank temperature (R279). -/
def Ring.ff (x : Ring) (t : Int) : Int := x.hcal + (x.kff * (x.tcal - t)) / 4096

/-- A ring of a peg that is off; the fixed pegs of the service waveguides are never off (R155, R281). -/
def ringOff (s : State) (r : RingId) : Bool :=
  match r.place with | .peg n => decide (n.val % 256 < 240) && !s.sill.pegs.contains n.val | _ => false

/-- A transmit ring: its loop holds a power target (R276). -/
def sendsLight : RingPlace → Bool
  | .port _ _ rx => !rx
  | .fibre _ rx => !rx
  | .control _ rx => !rx
  | _ => false

/-- The reference ring of a comb. -/
def combRing : RingPlace → Bool
  | .comb _ => true
  | _ => false

/-- The loop's new trim and its error: dither on receive rings and pegs that are on, the power target on transmit rings
with one step an integration, none on a peg that is off. For a comb's reference ring the spec states no loop but the tolerance
of R275: its trim is a free value (R276, R279, log entry 8). -/
def loopTrim (r : RingId) (off : Bool) (x : Ring) (hi lo free : Nat) : Int × Int :=
  match r.place with
  | .comb _ => ((free : Int) - 32768, 0)
  | _ =>
    if sendsLight r.place then
      let goal : Int := (x.rho * x.poff / 100 : Nat)
      (x.trim + 2 * (goal - hi) + 2 * (goal - lo), goal - lo)
    else if off then (x.trim, 0)
    else (x.trim + 2 * ((hi : Int) - lo), (hi : Int) - lo)

/-- Consecutive integrations below a quarter of the locked power, after two more (R280). -/
def weakCount (x : Ring) (hi lo : Nat) : Nat :=
  let one := fun (n p : Nat) => if 4 ≤ n then n else if 4 * p < x.lockedPower then n + 1 else 0
  one (one x.weak hi) lo

/-- k_ff is refined by at most 1 part in 4,096 in a loop period of a locked ring; the spec gives no more of it (R279,
log entry 8). -/
def refine (x : Ring) (free : Nat) : Int :=
  let b : Nat := x.kff.natAbs / 4096
  x.kff + ((free % (2 * b + 1) : Nat) : Int) - b

/-- A bank's temperature reading; a change faster than 40 degrees a millisecond sets slope and raises OPT_SLOPE (R282). -/
def readBank (p : RingPlace) (t : Int) (s : State) : State :=
  let k := placeKey p
  let old := tabFind s.opt.banks k
  let s := { s with opt := { s.opt with banks := tabPut s.opt.banks k (t, s.now) } }
  match old with
  | none => s
  | some (t0, g) =>
    if 640 * (s.now - g) < (t - t0).natAbs * 1000000 then
      raise 0x0703 0 ((placeSite p).getD 0x70) (wrap t 64) 0 0 { s with opt := { s.opt with slope := true } }
    else s

/-- RING_LOOP_TICK: one loop period of a ring, with the latest bank temperature in 1/16 degree and the monitor's readings;
for a transmit ring they are its two integrations (R277 to R282). -/
def execRingLoopTick (ring : RingId) (tbank : BitVec 16) (hi lo : BitVec 8) (s : State) :
    Host.Outcome State Fault Refusal :=
  let k := ringKey ring
  let t := tbank.toInt
  let s := readBank ring.place t s
  let x := s.ring k
  let off := ringOff s ring
  let fv := s.takeFree
  let s := if x.locked then fv.2 else s
  let gv := s.takeFree
  let y := loopTrim ring off x hi.toNat lo.toNat (gv.1 % 65536)
  let power := max hi.toNat lo.toNat
  let s := if combRing ring.place then gv.2 else s
  .next (s.modRing k (fun x =>
    { x with trim := y.1
             kff := if x.locked then refine x fv.1 else x.kff
             heater := (max 0 (min 65535 (x.ff t + y.1))).toNat
             power := power
             quiet := if y.2.natAbs ≤ 4 then min (x.quiet + 1) 16 else 0
             weak := if x.locked ∧ off = false then weakCount x hi.toNat lo.toNat else 0 }))

/-- RING_LOCKED: 16 loop periods in a row had |err| at most 4 (R280). -/
def execRingLocked (ring : RingId) (s : State) : Host.Outcome State Fault Refusal :=
  let k := ringKey ring
  let x := s.ring k
  .next (if !x.locked && !x.failed && x.slipped.isNone && x.quiet == 16 then
    s.modRing k (fun x => { x with locked := true, lockedPower := x.power, weak := 0 })
  else s)

/-- RING_UNLOCKED: the monitored power was below a quarter of its locked value for 4 integrations (R280). -/
def execRingUnlocked (ring : RingId) (s : State) : Host.Outcome State Fault Refusal :=
  let k := ringKey ring
  let x := s.ring k
  .next (if x.locked && x.weak == 4 then s.modRing k (fun x => { x with locked := false, quiet := 0, weak := 0 }) else s)

/-- A transmit wavelength of a rail whose ring has come back is free (R290, R291). -/
def ringBack (r : RingId) (s : State) : State :=
  match railFibre r.place with
  | some (q, 0) => if 5 ≤ (s.rail q).state ∧ (s.rail q).state ≤ 6 then freeWave q r.wave.val s else s
  | _ => s

/-- RING_REACQUIRED: the sweep of one spacing about feedforward has placed trim at the greatest power, and the loop holds
the ring at the power that the monitor then reads (R280). -/
def execRingReacquired (ring : RingId) (trim : BitVec 16) (power : BitVec 8) (s : State) : Host.Outcome State Fault Refusal :=
  let k := ringKey ring
  let x := s.ring k
  .next (if !x.locked && !x.failed && x.slipped.isNone && decide (2 * (trim.toInt.natAbs : Int) ≤ x.spacing) then
    ringBack ring (s.modRing k (fun x => { x with locked := true, trim := trim.toInt, quiet := 16, weak := 0,
                                                  power := power.toNat, lockedPower := power.toNat }))
  else s)

/-! ### Identity words (R284, R287 to R290) -/

/-- IDENT_SEND: the identities decoded on each physical wavelength of the receive fibre, which are what its map then
shows (R284, R298). -/
def execIdentSend (rail : Fin 26) (s : State) : Host.Outcome State Fault Refusal :=
  let r := rail.val
  let st := (s.rail r).state
  .next (if 2 ≤ st ∧ st ≤ 6 then
    let f := s.fibre (2 * r + 1)
    let value := fun (w : Nat) => identValue (tabGet (s.rail r).rx w {}) f w
    let vs := (List.range 34).map (fun w => (w, value w))
    let spare := ((vs.find? (fun p => p.2 == 33)).map (·.1)).orElse (fun _ => f.spare)
    let slot := match f.spare with
      | some w => if spare ≠ some w ∧ value w ≤ 32 then value w else f.slot
      | none => f.slot
    let show_ := fun (f : FibreMap) =>
      { f with map := vs, spare := spare, slot := slot, retired := spare.any (f.dead.contains ·) }
    let s := s.modFibre (2 * r + 1) show_
    putWord r (ctlWord (0x03 + vs.foldl (fun a p => a + p.2 * 2 ^ (8 + 6 * p.1)) 0)) s
  else s)

/-- A report on a wavelength agrees with what is sent there, or differs; the second in a row that differs is a mismatch
(R289). -/
def countReport (r w : Nat) (differs : Bool) (a : State × List Nat) : State × List Nat :=
  let n := if differs then tabGet (a.1.fibre (2 * r)).mismatch w 0 + 1 else 0
  (a.1.modFibre (2 * r) (fun f => { f with mismatch := tabPut f.mismatch w (if 2 ≤ n then 0 else n) }),
    if 2 ≤ n then a.2 ++ [w] else a.2)

/-- A report on the wavelength to which a channel is being handed over: the second in a row of that channel ends the handover,
and the second in a row of what is neither that channel nor the spare is a mismatch (R287, R289, R293). -/
def countHandover (r v c src dst : Nat) (a : State × List Nat) : State × List Nat :=
  let f := a.1.fibre (2 * r)
  let n := if v = c then tabGet f.reports dst 0 + 1 else 0
  let m := if v = c ∨ v = 33 then 0 else tabGet f.reports (64 + dst) 0 + 1
  let done := fun (f : FibreMap) =>
    { f with map := tabPut (tabPut f.map dst c) src 33, spare := some src, moving := none, reports := [] }
  if 2 ≤ n then (a.1.modFibre (2 * r) done, a.2)
  else if 2 ≤ m then (a.1.modFibre (2 * r) (fun f => { f with reports := [] }), a.2 ++ [dst])
  else (a.1.modFibre (2 * r) (fun f => { f with reports := tabPut (tabPut f.reports dst n) (64 + dst) m }), a.2)

/-- One wavelength of an IDENT word at the transmitter; wavelengths with a mismatch are listed (R287 to R289). -/
def identReport (r : Nat) (word : Word256) (a : State × List Nat) (w : Nat) : State × List Nat :=
  let v := ctl word (8 + 6 * w) 6
  let f := a.1.fibre (2 * r)
  let c := f.code w
  match f.moving with
  | some (mc, src, dst) =>
    if w = dst then countHandover r v mc src dst a
    else if w = src then countReport r w (v != mc) a
    else if c = 0x3F ∨ c = 0x3E then a else countReport r w (v != c) a
  | none =>
    if c = 0x3F ∨ c = 0x3E then a
    else if c = 33 ∧ v = 0x3E then (retireWave r 0 w a.1, a.2)
    else countReport r w (v != c) a

/-- The transmitter checks the ring of a wavelength on which it finds a mismatch, and the channel there moves (R289, R290). -/
def mendWave (r : Nat) (s : State) (w : Nat) : State := loseWave r w (checkRing (railRing r 0 w) s)

/-- IDENT: the far end's report on every wavelength of the transmit fibre. Of several mismatches the control channel's is served
first, then those of the data channels in ascending order (R284, R287, R289, R290). -/
def execIdentWord (rail : Fin 26) (word : BitVec 256) (s : State) : Host.Outcome State Fault Refusal :=
  let r := rail.val
  .next (linkWord r 0x03 word (fun s =>
    let st := (s.rail r).state
    if st = 5 ∨ st = 6 then
      let a := (List.range 34).foldl (identReport r word) (s, [])
      let f := s.fibre (2 * r)
      let order := (32 :: List.range 32) ++ ((List.range 31).map (· + 33))
      (order.flatMap (fun c => a.2.filter (fun w => f.code w == c))).foldl (mendWave r) a.1
    else s) s)

/-! ### Rotation and recovery (R286 to R293) -/

/-- The power of the two combs that feed an edge's rails, measured in a rotation slot (R278, R297). -/
def measureCombs (edge : Nat) (power : BitVec 16) (s : State) : State :=
  let put := fun (t : List (Nat × Comb)) (c n : Nat) => tabMod t c {} (fun x => { x with power := n })
  let l := put s.opt.combs (4 + 2 * edge) (bits power.toNat 0 8)
  { s with opt := { s.opt with combs := put l (5 + 2 * edge) (bits power.toNat 8 8) } }

/-- ROTATION_SLOT_END: the spare of a fibre has been calibrated for 2^16 codewords. On the receive fibre the module judges
the slot, and a failed one retires the wavelength; on the transmit fibre the next channel's slot begins. `combs` is the
power of the two combs of the rail's edge, measured in the slot (R278, R286 to R288, R293). -/
def execRotationSlotEnd (rail : Fin 26) (dir : Fin 2) (uncorrectable errors : BitVec 32) (cal : RingCal) (combs : BitVec 16)
    (s : State) : Host.Outcome State Fault Refusal :=
  let r := rail.val
  let f := s.fibre (2 * r + dir.val)
  let st := (s.rail r).state
  .next (match f.spare with
    | none => s
    | some w =>
      if (st = 5 ∨ st = 6) ∧ f.rotating ∧ f.moving.isNone ∧ f.recovering.isNone then
        let s := measureCombs (railEdge r) combs (s.modRing (ringKey (railRing r dir.val w)) (measureRing cal))
        if dir.val = 1 then
          if uncorrectable.toNat = 0 ∧ errors.toNat ≤ 356 then s else retireWave r 1 w s
        else visit r (some f.slot) s
      else s)

/-- RING_SLIP_RECOVERY_DONE: the backwards sweep has undone the slip and the ring is re-acquired; its wavelength is free,
and the next slipped ring of the fibre is recovered (R290, R291). -/
def execRingSlipRecoveryDone (ring : RingId) (s : State) : Host.Outcome State Fault Refusal :=
  let k := ringKey ring
  let x := s.ring k
  let turn := match railFibre ring.place with
    | some (q, d) => (s.fibre (2 * q + d)).recovering == some ring.wave.val
    | none => true
  .next (if x.slipped.isSome && !x.failed && turn then
    let s := s.modRing k (fun x => { x with trim := x.trim - x.lines * x.spacing, slipped := none, locked := true,
                                            quiet := 16, weak := 0 })
    let s := yuleyLane ring true (noteSlip ring x.lines true s)
    match railFibre ring.place with
    | some (q, d) => nextRecovery q d (ringBack ring s)
    | none => s
  else s)

/-- RING_RECOVERY_TIMEOUT: 200 us after its recovery began the ring is not back: it is failed, and on a rail its
wavelength is retired. On a fibre the rings that wait for their turn are not concerned (R288, R291). -/
def execRingRecoveryTimeout (ring : RingId) (s : State) : Host.Outcome State Fault Refusal :=
  let k := ringKey ring
  let x := s.ring k
  .next (match x.slipped with
    | none => s
    | some g =>
      if x.failed || decide (s.now < g + 200000) then s
      else
        let fail := fun (s : State) => s.modRing k (fun x => { x with failed := true })
        match railFibre ring.place with
        | some (q, d) =>
          if (s.fibre (2 * q + d)).recovering = some ring.wave.val then
            nextRecovery q d (retireWave q d ring.wave.val (fail s))
          else s
        | none => fail s)

end Sys2Proof.Machine
end

