-- ==== Sys2Proof/Machine/Fabric.lean ====
section
/-! DEFINITION. The rows of the remote loads, stores and atomics: batches and their records, the stream table, the line
arbiters, responses and resends (12_memory_fabric.md). -/

namespace Sys2Proof.Machine

/-! ### Areas and records (R301, R305, R306) -/

def fabBytes (s : State) (e off n : Nat) : List (BitVec 8) := railBytes s (fabSite e) (2048 * fabGranule e + off) n

/-- A field of the batch header, at byte 0 of the request area (R305). -/
def batchHeader (s : State) (e : Nat) : Nat := ofBytes (fabBytes s e 0 64)

/-- Record k, at byte 64 + 32k of the request area (R306). -/
def batchRecord (s : State) (e k : Nat) : Nat := ofBytes (fabBytes s e (64 + 32 * k) 32)

def recAddr (r : Nat) : Nat := bits r 0 64
def recOp (r : Nat) : Nat := bits r 64 6
def recSflag (r : Nat) : Bool := bit r 70
def recLen (r : Nat) : Nat := bits r 72 8
def recDoff (r : Nat) : Nat := bits r 80 10
def recOp1 (r : Nat) : Nat := bits r 96 64
def recOp2 (r : Nat) : Nat := bits r 160 64

/-- Width in bytes of an atomic, 0 for an op that is none (R309). -/
def atomicWidth (op : Nat) : Nat :=
  if 0x10 ≤ op ∧ op ≤ 0x1D then (if op % 2 = 0 then 4 else 8) else if op = 0x20 then 4 else 0

/-- Operation, length, alignment and flags that R309 and R317 allow, for records and packets alike. -/
def opFits (op len addr op1 op2 : Nat) (sflag spelt : Bool) : Bool :=
  bits addr 41 11 == 0 && (!sflag || (op == 0x02 && spelt)) &&
  (if op = 0x01 ∨ op = 0x02 then decide (addr % 256 + len < 256) && op2 == 0
   else
    let w := atomicWidth op
    w != 0 && len + 1 == w && addr % w == 0 && decide (op1 < 2 ^ (8 * w)) && (op == 0x1C || op == 0x1D || op2 == 0))

/-- A record is well formed (R306, R309, R317). -/
def recordOk (r : Nat) (spelt : Bool) : Bool :=
  let op := recOp r
  !bit r 71 && bits r 90 6 == 0 && bits r 224 32 == 0 &&
  (if op = 0x30 then
    !recSflag r && decide (recLen r ≤ 1) && recDoff r == 0 && recOp1 r == 0 && recOp2 r == 0
      && (if recLen r = 1 then bits r 0 52 == 0 else recAddr r == 0)
   else (op == 0x01 || op == 0x02 || recDoff r == 0) && opFits op (recLen r) (recAddr r) (recOp1 r) (recOp2 r) (recSflag r) spelt)

/-- The post fields of a header are valid, and the physical engine and counter they name (R305). -/
def headerPost (s : State) (h : Nat) : Option (Option (Nat × Nat)) :=
  if bit h 38 then (physEngine s.cut.logMap (bits h 16 16)).map (fun e => some (e, bits h 32 6))
  else if bits h 16 22 = 0 then some none else none

/-- The data ranges of the records fit their areas, and LOAD data lies clear of the result records (R307). -/
def layoutOk (s : State) (e n : Nat) : Bool :=
  (List.range n).all (fun k =>
    let r := batchRecord s e k
    let lo := 64 * recDoff r
    let hi := lo + recLen r + 1
    if recOp r = 0x01 then decide (hi ≤ 65536) && decide (16 * n ≤ lo)
    else if recOp r = 0x02 then decide (hi ≤ 65536) else true)

/-- A batch that is not run: FAB_BAD_BATCH, and a post with the error bit if the post fields are valid (R308). -/
def rejectBatch (e : Nat) (post : Option (Option (Nat × Nat))) (s : State) : State :=
  let s := raise 0x0801 0 e 0 0 0 (s.modFab e (fun x => { x with badBatch := true }))
  match post with
  | some (some (d, c)) => wavePost (0x40 + fabSite e) { dest := d, counter := c, mask := 0, err := true } s
  | _ => s

/-- BATCH_START: an SLOUT that wrote granule 0 of the request area has completed (R304, R305, R308). -/
def execBatchStart (eng : Fin 64) (s : State) : Host.Outcome State Fault Refusal :=
  let e := eng.val
  let x := s.fabEng e
  .next (if x.armed && x.batch.isNone then
    let s := s.modFab e (fun x => { x with armed := false })
    let h := batchHeader s e
    let n := bits h 0 16
    let p := headerPost s h
    match p with
    | some q =>
      if 1 ≤ n ∧ n ≤ 2046 ∧ bits h 39 473 = 0 ∧ layoutOk s e n then
        s.modFab e (fun x => { x with batch := some { count := n, post := q } })
      else rejectBatch e p s
    | none => rejectBatch e p s
  else s)

/-! ### Completion of a batch (R307) -/

/-- One 16-byte result record (R307). -/
def resultBytes (x : Nat × Nat × Bool × Nat) : List (BitVec 8) :=
  toBytes 16 (x.2.1 % 65536 + b2n x.2.2.1 * 65536 + x.2.2.2 % 2 ^ 64 * 2 ^ 64)

/-- BATCH_COMPLETE: with a status for every record, the results and the LOAD data are written to the response area and
the batch posts once (R307). -/
def batchComplete (e : Nat) (s : State) : State :=
  match (s.fabEng e).batch with
  | none => s
  | some b =>
    if b.status.length < b.count then s
    else
      let base := 2048 * (fabGranule e + 32)
      let s := b.status.foldl (fun s x => railStore (fabSite e) (base + 16 * x.1) (resultBytes x) s) s
      let s := b.data.foldl (fun s x => railStore (fabSite e) (base + 64 * x.1) x.2 s) s
      let s := s.modFab e (fun x => { x with batch := none })
      match b.post with
      | none => s
      | some (d, c) =>
        let p : Post := { dest := d, counter := c, mask := b2n b.resent * 2 + b2n b.busy * 4
                          err := b.status.any (fun x => decide (1 < x.2.1)) }
        wavePost (0x40 + fabSite e) p s

/-- A record takes its final status (R307). -/
def recordStatus (e k status : Nat) (marked : Bool) (old : Nat) (s : State) : State :=
  batchComplete e (s.modFab e (fun x => { x with batch := x.batch.map (fun b =>
    { b with status := b.status ++ [(k, status, marked, old)] }) }))

/-! ### Sequence numbers (R314, R325) -/

def FabEng.dest (x : FabEng) (m : Nat) : DestState := tabGet x.dests m {}
def State.modDest (s : State) (e m : Nat) (f : DestState → DestState) : State :=
  s.modFab e (fun x => { x with dests := tabMod x.dests m {} f })

/-- Distance of a sequence number above another, modulo 2^24 (R314). -/
def seqOver (base q : Nat) : Nat := (q + 2 ^ 24 - base % 2 ^ 24) % 2 ^ 24

/-- done advances over the seqs that have their final status (R314). -/
def advanceDone : Nat → DestState → DestState
  | 0, d => d
  | n + 1, d => if d.final.contains d.done then
      advanceDone n { d with done := (d.done + 1) % 2 ^ 24, final := setDel d.final d.done } else d

/-- A seq of a destination has its final status (R314). -/
def finalSeq (d : DestState) (q : Nat) : DestState := advanceDone 2048 { d with final := setIns d.final q }

def FabEng.outOf (x : FabEng) (m q : Nat) : Option Outreq := x.out.find? (fun o => o.dest == m && o.seq == q)

/-- A request of an engine ends with a final status: its seq is retired, and its record's result is kept (R307, R314,
R320). -/
def endRequest (e m q status : Nat) (old : Nat) (d : List (BitVec 8)) (s : State) : State :=
  match (s.fabEng e).outOf m q with
  | none => s
  | some o =>
    let s := s.modFab e (fun x => { x with out := x.out.filter (fun y => !(y.dest == m && y.seq == q)) })
    let s := s.modDest e m (fun x => finalSeq x q)
    let noteB := fun (b : Batch) => { b with resent := b.resent || o.resent, busy := b.busy || o.busy }
    if o.recNo = 2047 then s
    else
      let s := s.modFab e (fun x => { x with batch := x.batch.map noteB })
      let r := batchRecord s e o.recNo
      let s := if recOp r = 0x01 ∧ status ≤ 1 then
          s.modFab e (fun x => { x with batch := x.batch.map (fun b => { b with data := b.data ++ [(recDoff r, d)] }) })
        else s
      recordStatus e o.recNo status o.marked old s

/-- The window of a destination after a response: halved on a mark, at most once per 2,048 grains, and one more after 64
unmarked responses in a row (R325). -/
def windowAfter (now : Nat) (marked : Bool) (d : DestState) : DestState :=
  if marked then
    let due := match d.halved with | none => true | some g => decide (g + 2048 ≤ now)
    if due then { d with window := max 1 (d.window / 2), halved := some now, clean := 0 } else { d with clean := 0 }
  else if 63 ≤ d.clean then { d with window := min 1024 (d.window + 1), clean := 0 }
  else { d with clean := d.clean + 1 }

/-! ### Issue of records (R303, R304, R312, R316 to R318) -/

/-- The class header and the rest of slot 0 of a request (R312), from bit 64. -/
def requestHeader (op : Nat) (sflag : Bool) (len seq done addr : Nat) (sdep : Option Nat) (op1 op2 : Nat) : Nat :=
  op % 64 + b2n sflag * 2 ^ 6 + len % 256 * 2 ^ 8 + seq % 2 ^ 24 * 2 ^ 16 + done % 2 ^ 24 * 2 ^ 40 + addr % 2 ^ 64 * 2 ^ 64
    + sdep.getD 0 % 2 ^ 24 * 2 ^ 128 + b2n sdep.isSome * 2 ^ 152 + op1 % 2 ^ 64 * 2 ^ 192 + op2 % 2 ^ 64 * 2 ^ 256

/-- The local address of a request (R299, R312), and its stack. -/
def reqAddr (p : Packet) : Nat := p.fld 128 41
def reqStack (p : Packet) : Nat := hbmStack (reqAddr p)

/-- A packet arrives at the module itself (R300). -/
def arriveHere (p : Packet) (s : State) : State :=
  { s with railTop := { s.railTop with arrived := s.railTop.arrived ++ [(26, { p with came := s.now })] } }

/-- A request is the first to be admitted of those for its stack that have arrived: requests are taken in order of arrival, and
those of one grain in the order of their rail sites (R47, R323). -/
def firstIn (s : State) (r : Nat) (p : Packet) : Bool :=
  s.railTop.arrived.all (fun x => x.2.cls != 1 || reqStack x.2 != reqStack p
    || decide (p.came < x.2.came ∨ (p.came = x.2.came ∧ r ≤ x.1)))

/-- A request's way out: its own module, or the rail of its map version (R265, R300). -/
def requestWay (s : State) (e : Nat) (p : Packet) : Way :=
  if p.dst = s.fab.module then .rail 26 else chooseRail s p.epoch p.dst (p.dst + e) none

/-- A request is put on its way; with no way it is returned undelivered (R263, R265). -/
def dispatchRequest (w : Way) (p : Packet) (s : State) : State :=
  match w with
  | .rail 26 => arriveHere p s
  | .rail r => sendFrom (fabSite p.flow) r false p s
  | _ => returnPacket s p

/-- An earlier STORE of the engine has no final status (R317). -/
def storesOut (x : FabEng) : Bool := x.out.any (fun o => o.pkt.fld 64 6 == 0x02)

/-- The engine may send one more request to a destination (R303, R322). -/
def mayIssue (s : State) (x : FabEng) (m : Nat) : Bool :=
  let d := x.dest m
  decide ((x.out.filter (fun o => o.dest == m)).length < d.window) && decide (seqOver d.done d.next < 2048)
    && decide (x.out.length < 1024) && decide (s.fab.silentTo ≤ s.now)

/-- A record goes out as a request (R303, R312, R314, R316). -/
def issueRequest (e k r : Nat) (w : Way) (s : State) : State :=
  let m := recAddr r / 2 ^ 52
  let d := (s.fabEng e).dest m
  let sdep := if recOp r = 0x02 then
      (match d.lastStore with | some q => if ((s.fabEng e).outOf m q).isSome then some q else none | none => none)
    else none
  let data := if recOp r = 0x02 then fabBytes s e (64 * recDoff r) (recLen r + 1) else []
  let p := makePacket s 1 m e (requestHeader (recOp r) (recSflag r) (recLen r) d.next d.done (recAddr r) sdep (recOp1 r)
    (recOp2 r)) s.railTop.epoch data
  let o : Outreq := { recNo := k, dest := m, seq := d.next, pkt := p, first := s.now, last := s.now }
  let s := s.modDest e m (fun x => { x with next := (x.next + 1) % 2 ^ 24
                                            lastStore := if recOp r = 0x02 then some d.next else x.lastStore })
  let s := s.modFab e (fun x => { x with out := x.out ++ [o], sent := satAdd x.sent 1 0xFFFFFFFF
                                         batch := x.batch.map (fun b => { b with next := k + 1 }) })
  dispatchRequest w p s

/-- What a FENCE waits for: the next seq of each destination concerned (R318). -/
def fenceList (x : FabEng) (r : Nat) : List (Nat × Nat) :=
  if recLen r = 0 then x.dests.map (fun d => (d.1, d.2.next))
  else [(recAddr r / 2 ^ 52, (x.dest (recAddr r / 2 ^ 52)).next)]

/-- REMOTE_RECORD_ISSUE: the next record of a batch issues, or takes 0x0161, or 0x0464 under a block reset of its site, or, a
FENCE, is noted (R303, R304, R308, R318, R322, R450). -/
def execRemoteRecordIssue (eng : Fin 64) (s : State) : Host.Outcome State Fault Refusal :=
  let e := eng.val
  let x := s.fabEng e
  .next (match x.batch with
    | none => s
    | some b =>
      if b.count ≤ b.next ∨ b.fence.isSome then s
      else
        let k := b.next
        let r := batchRecord s e k
        let step := fun (f : Batch → Batch) => s.modFab e (fun x => { x with batch := x.batch.map f })
        if !recordOk r x.spelt then recordStatus e k 0x0161 false 0 (step (fun b => { b with next := k + 1 }))
        else if recOp r = 0x30 then
          step (fun b => { b with next := k + 1, fence := some (fenceList x r), fenceRec := k })
        else
          let m := recAddr r / 2 ^ 52
          if s.railBlocked (fabSite e) then recordStatus e k 0x0464 false 0 (step (fun b => { b with next := k + 1 })) else
          let w := if m = s.fab.module then Way.rail 26 else chooseRail s s.railTop.epoch m (m + e) none
          if mayIssue s x m && w != .wait && (!recSflag r || !storesOut x) then issueRequest e k r w s else s)

/-- FENCE: done has reached the recorded seq of every destination concerned (R318). -/
def execFabFence (eng : Fin 64) (s : State) : Host.Outcome State Fault Refusal :=
  let e := eng.val
  let x := s.fabEng e
  .next (match x.batch with
    | none => s
    | some b =>
      match b.fence with
      | none => s
      | some l =>
        if l.all (fun d => decide (seqOver d.2 (x.dest d.1).done < 2 ^ 23)) then
          recordStatus e b.fenceRec 0 false 0
            (s.modFab e (fun x => { x with batch := x.batch.map (fun b => { b with fence := none }) }))
        else s)

/-! ### The destination (R313, R315, R316, R323, R324) -/

/-- The class header and the rest of slot 0 of a response, from bit 64 (R313). -/
def responseHeader (q : Packet) (status qfill old : Nat) (marked : Bool) : Nat :=
  q.fld 64 6 + b2n marked * 2 ^ 6 + q.fld 72 8 * 2 ^ 8 + q.seq * 2 ^ 16 + status % 65536 * 2 ^ 40 + qfill % 256 * 2 ^ 56
    + old % 2 ^ 64 * 2 ^ 64

/-- A request is answered (R313); a BUSY response is counted (R329). -/
def respond (r : LineReq) (status old : Nat) (d : List (BitVec 8)) (s : State) : State :=
  let p := makePacket s 2 r.src r.flow (responseHeader r.pkt status r.qfill old r.marked) s.railTop.epoch d
  let p := if r.pkt.vc = 3 then p.onChannel 3 else p
  let s := if status = 0x0461 then { s with fab := { s.fab with busy := satAdd s.fab.busy 1 0xFFFF } } else s
  if r.pkt.vc = 3 then sendEscape r.rail p s else sendBack r.rail p s

/-- The key of a stream record (R315). -/
def streamKey (src flow : Nat) : Nat := src * 256 + flow

def State.modStream (s : State) (k : Nat) (f : StreamRec → StreamRec) : State :=
  match tabFind s.fab.table k with
  | some r => { s with fab := { s.fab with table := tabPut s.fab.table k (f r) } }
  | none => s

/-- A request has its outcome at the destination: it is completed in its stream's record and answered (R315). -/
def settleRequest (r : LineReq) (status old : Nat) (d : List (BitVec 8)) (s : State) : State :=
  let k := streamKey r.src r.flow
  let q := r.pkt.seq
  let s := s.modStream k (fun x => { x with complete := x.complete ++ [(q, status, old)], queued := setDel x.queued q })
  respond r status old d s

/-- The stack of a request is in block reset (R204, R322). -/
def siteInReset (s : State) (h : Nat) : Bool := s.rst.blocks.any (fun b => b.kind == 3 && b.index == h)

/-- Admission to a line arbiter, or BUSY (R324, R325, R330). -/
def acceptLine (r : LineReq) (s : State) : State :=
  let h := reqStack r.pkt
  let p := tabGet s.fab.ports h {}
  let occ := p.queue.length
  let srcs := (setOf (p.queue.map (·.src)))
  if siteInReset s h then settleRequest r 0x0464 0 [] s
  else if !srcs.contains r.src || decide (occ + s.fab.sources < 4096 + srcs.length) then
    let r := { r with marked := r.pkt.cmark || decide (2048 < occ + 1), qfill := min 255 (occ / 16) }
    let p := { p with queue := p.queue ++ [r], peak := max p.peak (occ + 1), overHalf := p.overHalf || decide (2048 < occ + 1) }
    let s := { s with fab := { s.fab with ports := tabPut s.fab.ports h p } }
    s.modStream (streamKey r.src r.flow) (fun x => { x with queued := setIns x.queued r.pkt.seq })
  else
    respond r 0x0461 0 [] (s.modStream (streamKey r.src r.flow) (fun x => { x with queued := setDel x.queued r.pkt.seq }))

/-- The store dependence of a STORE is met (R316). -/
def sdepMet (x : StreamRec) (p : Packet) : Bool :=
  !bit p.head 216 || x.stores.contains (p.fld 192 24) || decide (2 ^ 23 ≤ seqOver x.done (p.fld 192 24))

/-- Stores of a stream that wait in the hold pool and whose dependence is met are admitted, in order (R316). -/
def releaseHeld : Nat → Nat → Nat → State → State
  | 0, _, _, s => s
  | n + 1, src, flow, s =>
    match tabFind s.fab.table (streamKey src flow) with
    | none => s
    | some x =>
      let ok := fun (r : LineReq) => r.src == src && r.flow == flow && sdepMet x r.pkt
      match s.fab.holdPool.find? ok with
      | none => s
      | some r => releaseHeld n src flow (acceptLine r { s with fab := { s.fab with holdPool := delFirst ok s.fab.holdPool } })

/-- done of a record moves up to what a request carries, and what lies below it is dropped (R315). -/
def advanceRec (done : Nat) (x : StreamRec) : StreamRec :=
  if seqOver x.done done < 2 ^ 23 then
    let keep := fun (q : Nat) => decide (seqOver done q < 2 ^ 23)
    { x with done := done, complete := x.complete.filter (fun c => keep c.1), stores := x.stores.filter keep }
  else x

/-- Slot 0 of a request is well formed (R309, R312). -/
def requestOk (s : State) (p : Packet) : Bool :=
  let op := p.fld 64 6
  let n := if op = 0x02 then 1 + cdiv (p.fld 72 8 + 1) 64 else 1
  !bit p.head 71 && p.fld 217 39 == 0 && p.fld 384 128 == 0 && p.slots.length == n && p.fld 180 12 == s.fab.module
    && opFits op (p.fld 72 8) (p.fld 128 64) (p.fld 256 64) (p.fld 320 64) (bit p.head 70) true

/-- A request goes to the line arbiter of its stack, or is answered where its address is unmapped (R193, R324, R326). -/
def admitRequest (r : LineReq) (s : State) : State :=
  if hbmTop ≤ reqAddr r.pkt then settleRequest r 0x0162 0 [] s else acceptLine r s

/-- A request that its stream's record knows how to take (R315, R316, R322). -/
def takeRequest (r : LineReq) (s : State) : State :=
  let k := streamKey r.src r.flow
  let p := r.pkt
  let q := p.seq
  match tabFind s.fab.table k with
  | none => s
  | some x =>
    if 2048 ≤ seqOver x.done q then s
    else match x.complete.find? (fun c => c.1 == q) with
      | some (_, st, old) =>
        let s := { s with fab := { s.fab with duplicates := satAdd s.fab.duplicates 1 0xFFFF } }
        if p.fld 64 6 = 0x01 then
          admitRequest r (s.modStream k (fun x => { x with complete := x.complete.filter (fun c => c.1 != q) }))
        else respond r (if st ≤ 1 then 0x0001 else st) old [] s
      | none =>
        if x.queued.contains q then s
        else if siteInReset s (reqStack p) && decide (reqAddr p < hbmTop) then settleRequest r 0x0464 0 [] s
        else if p.fld 64 6 = 0x02 ∧ reqAddr p < hbmTop ∧ !sdepMet x p then
          if s.fab.holdPool.length < 8192 then
            { s.modStream k (fun x => { x with queued := setIns x.queued q }) with
              fab := { (s.modStream k (fun x => { x with queued := setIns x.queued q })).fab with holdPool := s.fab.holdPool ++ [r] } }
          else respond r 0x0461 0 [] s
        else admitRequest r s

/-- The first packet of a class that a rail site has delivered, taken: its slots are freed (R254, R255). -/
def takeArrived (r : Nat) (ok : Packet → Bool) (s : State) : Option (Packet × State) :=
  match s.railTop.arrived.find? (fun x => x.1 == r && ok x.2) with
  | none => none
  | some (_, p) =>
    let l := delFirst (fun x => x.1 == r && ok x.2) s.railTop.arrived
    let s := { s with railTop := { s.railTop with arrived := l } }
    some (p, if r < 26 ∧ p.rung = false then freeCredit r p.vc p.slots.length s else s)

/-- REMOTE_REQUEST_ADMIT: a request that arrived on a rail, or (26) from the module itself, is checked against the stream
table, and is admitted, held, answered or discarded (R300, R312, R315, R316, R324). -/
def execRemoteRequestAdmit (rail : Fin 27) (s : State) : Host.Outcome State Fault Refusal :=
  .next (match takeArrived rail.val (fun p => p.cls == 1 && firstIn s rail.val p) s with
    | none => s
    | some (p, s) =>
      let r : LineReq := { src := p.src, flow := p.flow, pkt := p, rail := rail.val, marked := p.cmark }
      let k := streamKey p.src p.flow
      if !requestOk s p then respond r 0x0161 0 [] s
      else
        let known := (tabFind s.fab.table k).isSome
        if !known && decide (65536 ≤ s.fab.table.length) then
          respond r 0x0461 0 [] (raise 0x0802 0 p.src 0 0 0 { s with fab := { s.fab with streamsFull := true } })
        else
          let old := tabGet s.fab.table k { done := p.fld 104 24, last := s.now }
          let new := { advanceRec (p.fld 104 24) old with last := s.now }
          let s := { s with fab := { s.fab with table := tabPut s.fab.table k new } }
          releaseHeld 8192 p.src p.flow (takeRequest r s))

/-! ### The line arbiters (R309 to R311, R323) -/

/-- Two requests touch a common 64-byte line (R192, R323). -/
def shareLine (p q : Packet) : Bool :=
  let lo := fun (p : Packet) => reqAddr p / 64
  let hi := fun (p : Packet) => (reqAddr p + p.fld 72 8) / 64
  decide (lo p ≤ hi q ∧ lo q ≤ hi p)

/-- A write would touch the protected image (R235). -/
def State.protects (s : State) (a n : Nat) : Bool :=
  s.cut.prot && decide (a < s.cut.base + s.cut.len) && decide (s.cut.base < a + n)

/-- The status of an access from its outcome: 0x0511 for uncorrectable data or a failed stack, 0x0464 for a stack in block
reset (R322, R326). -/
def accessStatus (o : Nat) : Nat := if o = 0 then 0 else if o = 1 then 0x0511 else 0x0464

/-- A remote write is recorded in an active run (R360). -/
def noteRemote (r : LineReq) (s : State) : State :=
  if s.runActive && r.src != s.fab.module then { s with repro := { s.repro with remoteIn := true } } else s

/-- The new value of an atomic (R309, R310). -/
def atomicNew (op old op1 op2 : Nat) : Nat :=
  let w := 8 * atomicWidth op
  let lt := fun (a b : Nat) => decide (signed a w < signed b w)
  if op = 0x10 ∨ op = 0x11 then (old + op1) % 2 ^ w
  else if op = 0x12 ∨ op = 0x13 then (if lt op1 old then op1 else old)
  else if op = 0x14 ∨ op = 0x15 then (if lt old op1 then op1 else old)
  else if op = 0x16 ∨ op = 0x17 then min old op1
  else if op = 0x18 ∨ op = 0x19 then max old op1
  else if op = 0x1A ∨ op = 0x1B then op1
  else if op = 0x1C ∨ op = 0x1D then (if old = op2 then op1 else old)
  else vecCode 0 ((vecVal 0 old).add (vecVal 0 op1))

/-- A LOAD is applied (R309, R315). -/
def applyLoad (r : LineReq) (s : State) : State :=
  let n := r.pkt.fld 72 8 + 1
  let d := hbmRead (reqAddr r.pkt) n 170 s
  settleRequest r (accessStatus d.2.1) 0 (if d.2.1 = 0 then d.1 else []) d.2.2

/-- A STORE is applied, and the stores held behind it are admitted (R309, R315, R316). -/
def applyStore (r : LineReq) (s : State) : State :=
  let n := r.pkt.fld 72 8 + 1
  let a := reqAddr r.pkt
  if s.protects a n then settleRequest r 0x0261 0 [] s
  else
    let w := hbmWrite a (r.pkt.data n) 170 s
    if w.1 ≠ 0 then settleRequest r (accessStatus w.1) 0 [] w.2
    else
      let q := r.pkt.seq
      let s := w.2.modStream (streamKey r.src r.flow) (fun x => { x with stores := setIns x.stores q, lastStore := some q })
      releaseHeld 8192 r.src r.flow (settleRequest r 0 0 [] (noteRemote r s))

/-- An atomic returns the old value and applies the new one as one action on its line (R309). -/
def applyAtomic (r : LineReq) (s : State) : State :=
  let op := r.pkt.fld 64 6
  let n := atomicWidth op
  let a := reqAddr r.pkt
  if s.protects a n then settleRequest r 0x0261 0 [] s
  else
    let d := hbmRead a n 170 s
    if d.2.1 ≠ 0 then settleRequest r (accessStatus d.2.1) 0 [] d.2.2
    else
      let old := ofBytes d.1
      let w := hbmWrite a (toBytes n (atomicNew op old (r.pkt.fld 256 64) (r.pkt.fld 320 64))) 170 d.2.2
      if w.1 ≠ 0 then settleRequest r (accessStatus w.1) 0 [] w.2
      else
        let s := noteRemote r w.2
        let s := if op = 0x20 ∧ s.runActive then { s with repro := { s.repro with fadd := true } } else s
        settleRequest r 0 old [] s

/-- The line arbiter of a stack serves an entry of its queue, if the operation is the row's and no earlier entry has the
same line (R323). -/
def serveLine (h i : Nat) (ops : List Nat) (noise : List HbmUpset) (f : LineReq → State → State) (s : State) :
    Host.Outcome State Fault Refusal :=
  let q := (tabGet s.fab.ports h {}).queue
  .next (match q[i]? with
    | none => s
    | some r =>
      if ops.contains (r.pkt.fld 64 6) && (q.take i).all (fun x => !shareLine x.pkt r.pkt) then
        let s := noise.foldl (fun s u => upsetBurst u s) s
        f r { s with fab := { s.fab with ports := tabMod s.fab.ports h {} (fun p => { p with queue := dropAt p.queue i }) } }
      else s)

/-- LOAD_OP: the line arbiter applies a remote LOAD (R309, R323). -/
def execFabLoad (stack : Fin 32) (entry : Fin 4096) (noise : List HbmUpset) (s : State) : Host.Outcome State Fault Refusal :=
  serveLine stack.val entry.val [0x01] noise applyLoad s

/-- STORE: the line arbiter applies a remote STORE (R309, R316, R323). -/
def execFabStore (stack : Fin 32) (entry : Fin 4096) (noise : List HbmUpset) (s : State) : Host.Outcome State Fault Refusal :=
  serveLine stack.val entry.val [0x02] noise applyStore s

/-- ADD: a wrapping atomic add (R309). -/
def execFabAdd (stack : Fin 32) (entry : Fin 4096) (noise : List HbmUpset) (s : State) : Host.Outcome State Fault Refusal :=
  serveLine stack.val entry.val [0x10, 0x11] noise applyAtomic s

/-- SMIN: a signed atomic minimum (R309). -/
def execFabSmin (stack : Fin 32) (entry : Fin 4096) (noise : List HbmUpset) (s : State) : Host.Outcome State Fault Refusal :=
  serveLine stack.val entry.val [0x12, 0x13] noise applyAtomic s

/-- SMAX: a signed atomic maximum (R309). -/
def execFabSmax (stack : Fin 32) (entry : Fin 4096) (noise : List HbmUpset) (s : State) : Host.Outcome State Fault Refusal :=
  serveLine stack.val entry.val [0x14, 0x15] noise applyAtomic s

/-- UMIN: an unsigned atomic minimum (R309). -/
def execFabUmin (stack : Fin 32) (entry : Fin 4096) (noise : List HbmUpset) (s : State) : Host.Outcome State Fault Refusal :=
  serveLine stack.val entry.val [0x16, 0x17] noise applyAtomic s

/-- UMAX: an unsigned atomic maximum (R309). -/
def execFabUmax (stack : Fin 32) (entry : Fin 4096) (noise : List HbmUpset) (s : State) : Host.Outcome State Fault Refusal :=
  serveLine stack.val entry.val [0x18, 0x19] noise applyAtomic s

/-- SWAP: an atomic exchange (R309). -/
def execFabSwap (stack : Fin 32) (entry : Fin 4096) (noise : List HbmUpset) (s : State) : Host.Outcome State Fault Refusal :=
  serveLine stack.val entry.val [0x1A, 0x1B] noise applyAtomic s

/-- CAS: an atomic compare and swap (R309). -/
def execFabCas (stack : Fin 32) (entry : Fin 4096) (noise : List HbmUpset) (s : State) : Host.Outcome State Fault Refusal :=
  serveLine stack.val entry.val [0x1C, 0x1D] noise applyAtomic s

/-- FADD32: an atomic FP32 add, rounded once (R309, R310). -/
def execFabFadd32 (stack : Fin 32) (entry : Fin 4096) (noise : List HbmUpset) (s : State) : Host.Outcome State Fault Refusal :=
  serveLine stack.val entry.val [0x20] noise applyAtomic s

/-! ### Responses and resends (R319, R320) -/

/-- Slot 0 and the length of a response are well formed (R313). -/
def responseOk (p : Packet) : Bool :=
  let ok := p.fld 64 6 == 0x01 && decide (p.fld 104 16 ≤ 1)
  !bit p.head 71 && p.fld 192 320 == 0 && p.slots.length == (if ok then 1 + cdiv (p.fld 72 8 + 1) 64 else 1)

/-- REMOTE_RESPONSE: a response retires its seq; one to a seq that has its final status is discarded, and one that is not
well formed is no response. A late one, whose frame was resent, adds retry (R7, R43, R254, R319, R320, R325). -/
def execRemoteResponse (rail : Fin 27) (s : State) : Host.Outcome State Fault Refusal :=
  .next (match takeArrived rail.val (fun p => p.cls == 2) s with
    | none => s
    | some (p, s) =>
      let e := p.flow
      let m := p.src
      let q := p.seq
      match (if e < 64 ∧ responseOk p then (s.fabEng e).outOf m q else none) with
      | none => s
      | some o =>
        let marked := p.cmark || bit p.head 70
        let s := s.modDest e m (windowAfter s.now marked)
        let busy := p.fld 104 16 == 0x0461
        let o := { o with marked := o.marked || marked, resent := o.resent || p.late, busy := o.busy || busy,
                          busyAt := if busy then some s.now else o.busyAt, unsent := o.unsent && !busy }
        let s := s.modFab e (fun x => { x with out := x.out.map (fun y => if y.dest = m ∧ y.seq = q then o else y) })
        if busy then s else endRequest e m q (p.fld 104 16) (p.fld 128 64) (p.data (p.fld 72 8 + 1)) s)

/-- The request packet with the sender's done as it now stands (R312, R314). -/
def withDone (p : Packet) (done : Nat) : Packet :=
  match p.slots with
  | [] => p
  | h :: r => { p with slots := BitVec.ofNat 512 (h.toNat - p.fld 104 24 * 2 ^ 104 + done % 2 ^ 24 * 2 ^ 104) :: r }

/-- A request is sent again with the same seq and epoch, while no more than 2^22 grains have passed since its first send
(R315, R320). -/
def resendRequest (e m q : Nat) (o : Outreq) (s : State) : State :=
  let p := withDone o.pkt ((s.fabEng e).dest m).done
  let w := requestWay s e p
  match w with
  | .rail _ =>
    if o.first + 2 ^ 22 < s.now ∨ s.now < s.fab.silentTo then s
    else
      let o := { o with pkt := p, last := s.now, busyAt := none, unsent := false, resent := true }
      let s := s.modFab e (fun x => { x with out := x.out.map (fun y => if y.dest = m ∧ y.seq = q then o else y)
                                             sent := satAdd x.sent 1 0xFFFFFFFF })
      dispatchRequest w p s
  | _ => s

/-- An outstanding request that meets a condition is sent again. -/
def resendIf (e m q : Nat) (ok : Outreq → Bool) (s : State) : State :=
  match (s.fabEng e).outOf m q with
  | none => s
  | some o => if ok o then resendRequest e m q o s else s

/-- REMOTE_UNDELIVERED: a request returned undelivered is resent once a rail can take it (R263, R320). -/
def execRemoteUndelivered (eng : Fin 64) (dest : Fin 4096) (seq : BitVec 24) (s : State) : Host.Outcome State Fault Refusal :=
  .next (resendIf eng.val dest.val seq.toNat (·.unsent) s)

/-- REMOTE_BUSY_RESEND: 512 grains after a BUSY response (R320). -/
def execRemoteBusyResend (eng : Fin 64) (dest : Fin 4096) (seq : BitVec 24) (s : State) : Host.Outcome State Fault Refusal :=
  .next (resendIf eng.val dest.val seq.toNat
    (fun o => match o.busyAt with | some g => decide (g + 512 ≤ s.now) | none => false) s)

/-- REMOTE_RESPONSE_TIMEOUT: no response within 2^18 grains of the last send (R320). -/
def execRemoteResponseTimeout (eng : Fin 64) (dest : Fin 4096) (seq : BitVec 24) (s : State) :
    Host.Outcome State Fault Refusal :=
  .next (resendIf eng.val dest.val seq.toNat
    (fun o => !o.unsent && o.busyAt.isNone && decide (o.last + 2 ^ 18 ≤ s.now)) s)

/-- FAB_TIMEOUT: no final status 2^22 grains after the first send (R320). -/
def execFabTimeout (eng : Fin 64) (dest : Fin 4096) (seq : BitVec 24) (s : State) : Host.Outcome State Fault Refusal :=
  let e := eng.val
  .next (match (s.fabEng e).outOf dest.val seq.toNat with
    | none => s
    | some o =>
      if o.first + 2 ^ 22 ≤ s.now then
        let s := raise 0x0803 0 e dest.val seq.toNat 0 (s.modFab e (fun x => { x with timeout := true }))
        endRequest e dest.val seq.toNat 0x0463 0 [] s
      else s)

/-- STREAM_RECORD_FREE: a record that holds nothing and whose stream has been silent for 2^23 grains is freed (R315). -/
def execStreamRecordFree (src : Fin 4096) (flow : BitVec 8) (s : State) : Host.Outcome State Fault Refusal :=
  let k := streamKey src.val flow.toNat
  .next (match tabFind s.fab.table k with
    | none => s
    | some x =>
      if x.queued.isEmpty && decide (x.last + 2 ^ 23 ≤ s.now) then
        { s with fab := { s.fab with table := tabDel s.fab.table k } }
      else s)

end Sys2Proof.Machine
end

