-- ==== Sys2Proof/Machine/Collective.lean ====
section
/-! DEFINITION. The rows of the collectives: steps, packets, acknowledgements and posts between modules
(13_collectives.md). -/

namespace Sys2Proof.Machine

/-! ### Fields and shares (R335, R337) -/

def colSrc (b : Body) : Nat := fld b 0 13
def colDst (b : Body) : Nat := fld b 13 13
def colN (b : Body) : Nat := fld b 26 12 + 1
def colType (b : Body) : Nat := fld b 38 4
def colOp (b : Body) : Nat := fld b 42 2
def colTag (b : Body) : Nat := fld b 44 16
def colRoot (b : Body) : Nat := fld b 60 10

/-- First unit of share j of n granules over N ranks (R337). -/
def shareLo (n ranks j : Nat) : Nat := 32 * n * j / ranks

/-- Units of share j (R337). -/
def shareLen (n ranks j : Nat) : Nat := shareLo n ranks (j + 1) - shareLo n ranks j

/-- Units that a share or a block of a step has (R340). -/
def partUnits (s : State) (j : ColJob) (share : Nat) : Nat :=
  if j.op = 0x82 then 32 * colN j.body else shareLen (colN j.body) s.cut.ranks share

/-- Packets of a share or a block (R340). -/
def partPackets (s : State) (j : ColJob) (share : Nat) : Nat := cdiv (partUnits s j share) 7

/-- Offset in the destination, in bytes, at which a share or a block is written (R337). -/
def partOffset (s : State) (j : ColJob) (share : Nat) : Nat :=
  2048 * colDst j.body + (if j.op = 0x82 then 2048 * share * colN j.body
    else if j.op = 0x81 then 0 else 64 * shareLo (colN j.body) s.cut.ranks share)

/-- Bytes of a region of an engine's collective area. -/
def areaBytes (s : State) (r off n : Nat) : List (BitVec 8) := railBytes s r off n

/-- The source bytes of a share, or of the whole region for a CAGATH block (R337, R340). -/
def partSource (s : State) (r : Nat) (j : ColJob) (share : Nat) : List (BitVec 8) :=
  let base := 2048 * colSrc j.body
  if j.op = 0x82 then areaBytes s r base (2048 * colN j.body)
  else areaBytes s r (base + 64 * shareLo (colN j.body) s.cut.ranks share) (64 * shareLen (colN j.body) s.cut.ranks share)

/-! ### Reduction (R338) -/

/-- Bytes of an element (R335). -/
def elemSize (ty : Nat) : Nat := if ty = 1 then 2 else if ty = 4 then 8 else 4

/-- Two values combined at a node (R338). -/
def combineInt (ty op : Nat) (a b : Nat) : Nat :=
  let w := 8 * elemSize ty
  let lt := if ty = 3 then decide (a < b) else decide (signed a w < signed b w)
  if op = 0 then (a + b) % 2 ^ w else if op = 1 then (if lt then a else b) else (if lt then b else a)

/-- Two floating-point values combined at a node (R338). -/
def combineVal (ty op : Nat) (a b : Val) : Val :=
  if op = 0 then vecVal ty (vecCode ty (a.add b)) else if op = 1 then a.minimum b else a.maximum b

/-- One level of the fixed tree, with the node of a type (R107, R338). -/
def treeLevel {α : Type} (f : α → α → α) : List α → List α
  | a :: b :: r => f a b :: treeLevel f r
  | l => l

/-- The fixed tree, with fuel for its levels (R107). -/
def tree {α : Type} (f : α → α → α) : Nat → List α → Option α
  | 0, l => l.head?
  | n + 1, l => match l with
    | [] => none
    | [a] => some a
    | l => tree f n (treeLevel f l)

/-- One element reduced over the ranks, in rank order; a NaN result is canonical (R338). -/
def reduceElem (ty op : Nat) (vs : List Nat) : Nat :=
  if ty ≤ 1 then vecCode ty ((tree (combineVal ty op) 11 (vs.map (vecVal ty))).getD .zero)
  else (tree (combineInt ty op) 11 vs).getD 0

/-- The bytes of one rank's contribution to a share, in packet order (R340, R341). -/
def stagedBytes (j : ColJob) (rank share : Nat) (n : Nat) : List (BitVec 8) :=
  (List.range n).flatMap (fun i =>
    ((j.staged.find? (fun x => x.1 == rank && x.2.1 == share && x.2.2.1 == i)).map (·.2.2.2)).getD [])

/-- The own share reduced over the contributions of ranks 0 to N - 1 (R337, R338). -/
def reduceShare (parts : List (List (BitVec 8))) (ty op : Nat) : List (BitVec 8) :=
  let w := elemSize ty
  let n := ((parts.head?).getD []).length / w
  (List.range n).flatMap (fun e => toBytes w (reduceElem ty op (parts.map (fun p => le p (w * e) w))))

/-! ### Packets (R339, R340, R342) -/

/-- The class header and the rest of slot 0 of a collective packet, from bit 64 (R339). -/
def colHeader (kind r rank tag phase share index units bitmap : Nat) : Nat :=
  kind + r % 32 * 2 ^ 4 + rank % 1024 * 2 ^ 9 + tag % 65536 * 2 ^ 19 + phase % 2 * 2 ^ 35 + share % 1024 * 2 ^ 36
    + index % 2 ^ 18 * 2 ^ 64 + units % 8 * 2 ^ 82 + bitmap % 2 ^ 64 * 2 ^ 85

/-- The module of a rank; an entry that nothing has written holds its own number (R350, R458). -/
def peerOf (s : State) (rank : Nat) : Nat := tabGet s.col.peers rank rank

/-- What a data packet carries: from the source region, or from the result for a reduced share (R340, R342). -/
def packetData (s : State) (r : Nat) (j : ColJob) (c : ColPkt) : List (BitVec 8) :=
  let whole := if c.phase = 1 ∧ (j.op = 0x80 ∨ (j.op = 0x83 ∧ s.col.rank ≠ colRoot j.body)) then j.result
    else partSource s r j c.share
  (whole.drop (448 * c.index)).take 448

/-- A data packet of a step (R339). -/
def dataPacket (s : State) (r : Nat) (j : ColJob) (c : ColPkt) : Packet :=
  let d := packetData s r j c
  makePacket s 3 (peerOf s c.dest) r (colHeader 1 r s.col.rank (colTag j.body) c.phase c.share c.index (d.length / 64 - 1) 0)
    c.epoch d

/-- The home logical rail of a rail site; L12 and L25 have none (R333). -/
def homeLogical (r : Nat) : Option Nat := if r < 12 then some r else if r = 12 ∨ r = 25 then none else some (r - 1)

/-- A data packet leaves, waits in its engine for the next boundary, or is returned undelivered (R263 to R265, R333). -/
def sendData (r : Nat) (j : ColJob) (c : ColPkt) (s : State) : ColPkt × State :=
  let p := dataPacket s r j c
  match chooseRail s c.epoch p.dst (p.dst + r) (homeLogical r) with
  | .rail q => ({ c with last := s.now, undelivered := false, waits := false }, sendFrom r q true p s)
  | .wait => (if c.undelivered then c else { c with waits := true }, s)
  | .none => ({ c with undelivered := true, waits := false }, s)

def State.modJob (s : State) (r : Nat) (f : ColJob → ColJob) : State :=
  s.modCol r (fun e => { e with job := e.job.map f })

/-- One packet of a phase is sent and kept until an ack covers it. A packet that is returned undelivered at once adds retry, one
that waits for a rail adds other (R264, R342, R343). -/
def emit (r dest phase share index : Nat) (s : State) : State :=
  match (s.colEng r).job with
  | none => s
  | some j =>
    let c : ColPkt := { dest := dest, phase := phase, share := share, index := index, last := s.now, epoch := s.railTop.epoch }
    let x := sendData r j c s
    x.2.modJob r (fun j => { j with unacked := j.unacked ++ [x.1], resent := j.resent || x.1.undelivered
                                    delayed := j.delayed || x.1.waits })

/-- The other ranks in the order of a round: a + 1, a + 2, … modulo N (R340). -/
def otherRanks (s : State) : List Nat :=
  (List.range (s.cut.ranks - 1)).map (fun i => (s.col.rank + 1 + i) % s.cut.ranks)

/-- A phase in rounds: round i carries packet i of each destination, with the share given for each (R340). -/
def emitRounds (r phase : Nat) (shareOf : Nat → Nat) (s : State) : State :=
  match (s.colEng r).job with
  | none => s
  | some j =>
    let ds := otherRanks s
    let rounds := (ds.map (fun d => partPackets s j (shareOf d))).foldl max 0
    (List.range rounds).foldl (fun s i =>
      ds.foldl (fun s d => if i < partPackets s j (shareOf d) then emit r d phase (shareOf d) i s else s) s) s

/-! ### Completion (R343) -/

/-- Every packet of a share or a block has been written (R341). -/
def partWritten (s : State) (j : ColJob) (share : Nat) : Bool :=
  (List.range (partPackets s j share)).all (fun i => j.written.contains (share, i))

/-- Every destination byte of the step is written (R343). -/
def destinationDone (s : State) (j : ColJob) : Bool :=
  let others := (List.range s.cut.ranks).filter (· != s.col.rank)
  if j.op = 0x82 then others.all (partWritten s j)
  else if j.op = 0x83 ∧ s.col.rank = colRoot j.body then true
  else if j.op = 0x81 then j.reduced
  else j.reduced && others.all (partWritten s j)

/-- A step leaves its engine with a status (R341, R343). -/
def endCol (r : Nat) (j : ColJob) (bad aborted : Bool) (s : State) : State :=
  let s := s.modCol r (fun e => { e with job := none, recent := (colTag j.body :: e.recent).take 16 })
  let m := 2 * b2n j.resent + 4 * b2n (j.delayed || aborted)
  modFlight (colEngine r) 4 (isStep j.op j.body) (fun f =>
    { f with done := true, err := f.err || bad, aborted := f.aborted || aborted, mask := f.mask ||| m }) s

/-- The step completes when its destination is written and its packets are acknowledged (R343). -/
def settleCol (r : Nat) (s : State) : State :=
  match (s.colEng r).job with
  | none => s
  | some j => if destinationDone s j && j.unacked.isEmpty then endCol r j j.uncorr false s else s

/-! ### Progress (R337, R340, R341) -/

/-- Every contribution to the own share is staged. -/
def shareStaged (s : State) (j : ColJob) : Bool :=
  let n := partPackets s j s.col.rank
  if j.op = 0x83 then (List.range n).all (fun i => j.staged.any (fun x => x.2.2.1 == i))
  else ((List.range s.cut.ranks).filter (· != s.col.rank)).all (fun k =>
    (List.range n).all (fun i => j.staged.any (fun x => x.1 == k && x.2.2.1 == i)))

/-- The own share is complete: it is reduced, written, and sent on in phase 1 (R337, R340). -/
def finishShare (r : Nat) (s : State) : State :=
  match (s.colEng r).job with
  | none => s
  | some j =>
    if j.op = 0x82 || j.reduced || !shareStaged s j || (j.op == 0x83 && s.col.rank == colRoot j.body) then s
    else
      let a := s.col.rank
      let n := partPackets s j a
      let out := if j.op = 0x83 then stagedBytes j (colRoot j.body) a n
        else reduceShare ((List.range s.cut.ranks).map (fun k => if k = a then partSource s r j a else stagedBytes j k a n))
          (colType j.body) (colOp j.body)
      let s := storeArea r (partOffset s j a) out s
      let s := s.modJob r (fun j => { j with result := out, reduced := true })
      if j.op = 0x81 then s else emitRounds r 1 (fun _ => a) s

/-- A step that starts: its own contribution takes its place, and its first phase is sent (R337, R340). -/
def beginSend (r : Nat) (s : State) : State :=
  match (s.colEng r).job with
  | none => s
  | some j =>
    let a := s.col.rank
    if j.op = 0x82 then
      emitRounds r 1 (fun _ => a) (storeArea r (partOffset s j a) (partSource s r j a) s)
    else if j.op = 0x83 then
      if a = colRoot j.body then
        let b := areaBytes s r (2048 * colSrc j.body) (2048 * colN j.body)
        let s := storeArea r (2048 * colDst j.body) b s
        emitRounds r 1 (fun _ => a) (emitRounds r 0 (fun d => d) s)
      else s
    else emitRounds r 0 (fun d => d) s

/-! ### Acknowledgements (R341, R342) -/

/-- The key of a group of 64 packets of one rank, phase and share (R341). -/
def groupKey (rank phase share g : Nat) : Nat := ((rank * 2 + phase) * 1024 + share) * 4096 + g

/-- A packet of the step is held already (R341). -/
def ColJob.holds (j : ColJob) (rank phase share i : Nat) : Bool :=
  if phase = 0 then j.staged.any (fun x => x.1 == rank && x.2.1 == share && x.2.2.1 == i) else j.written.contains (share, i)

/-- The bitmap of a group: the packets present (R339, R341). -/
def groupMap (j : ColJob) (rank phase share g : Nat) : Nat :=
  maskOf ((List.range 64).filter (fun k => j.holds rank phase share (64 * g + k)))

/-- The indices of a group that exist. -/
def groupSize (s : State) (j : ColJob) (share g : Nat) : Nat := min 64 (partPackets s j share - 64 * g)

/-- An ack of a group goes to a rank (R339, R341). -/
def sendAck (r rail rank tag phase share g bitmap : Nat) (s : State) : State :=
  sendBack rail (makePacket s 3 (peerOf s rank) r (colHeader 2 r s.col.rank tag phase share (64 * g) 0 bitmap)
    s.railTop.epoch []) s

/-- After a packet: its group is acknowledged when whole or on a duplicate, and otherwise its timer runs from its first
arrival (R341). -/
def ackGroup (r rail rank phase share g : Nat) (dup : Bool) (s : State) : State :=
  match (s.colEng r).job with
  | none => s
  | some j =>
    let k := groupKey rank phase share g
    let m := groupMap j rank phase share g
    let whole := decide (groupSize s j share g ≤ popcount 64 m)
    let groups := if whole then tabDel j.groups k
      else if (tabFind j.groups k).isSome || j.timed.contains k then j.groups else tabPut j.groups k s.now
    let s := s.modJob r (fun j => { j with groups := groups })
    if whole || dup then sendAck r rail rank (colTag j.body) phase share g m s else s

/-! ### Packets received (R339, R341) -/

def pkKind (p : Packet) : Nat := p.fld 64 4
def pkEngine (p : Packet) : Nat := p.fld 68 5
def pkRank (p : Packet) : Nat := p.fld 73 10
def pkTag (p : Packet) : Nat := p.fld 83 16
def pkPhase (p : Packet) : Nat := p.fld 99 1
def pkShare (p : Packet) : Nat := p.fld 100 10
def pkIndex (p : Packet) : Nat := p.fld 128 18
def pkUnits (p : Packet) : Nat := p.fld 146 3 + 1
def pkBitmap (p : Packet) : Nat := p.fld 149 64

/-- The layout of R339. -/
def colPacketOk (p : Packet) : Bool :=
  decide (pkEngine p < 26) && p.flow == pkEngine p && p.fld 110 18 == 0 && p.fld 213 299 == 0 &&
  (if pkKind p = 1 then pkUnits p ≤ 7 && p.slots.length == 1 + pkUnits p && pkBitmap p == 0
   else pkKind p == 2 && p.slots.length == 1 && pkUnits p == 1 && pkIndex p % 64 == 0)

/-- The packet comes from the module of a rank of the stook (R331). -/
def fromPeer (s : State) (p : Packet) : Bool := decide (pkRank p < s.cut.ranks) && peerOf s (pkRank p) == p.src

/-- A packet has a place in the current step: its share is one that this rank takes from that rank, and its index and
size are those of the share (R337, R340). -/
def packetFits (s : State) (j : ColJob) (p : Packet) : Bool :=
  let a := s.col.rank
  let k := pkRank p
  let sh := pkShare p
  k != a && decide (pkIndex p < partPackets s j sh) && pkUnits p == min 7 (partUnits s j sh - 7 * pkIndex p) &&
  (if pkPhase p = 0 then sh == a && (j.op == 0x80 || j.op == 0x81 || (j.op == 0x83 && k == colRoot j.body))
   else sh == k && j.op != 0x81)

/-- A data packet of the current step is staged or written, and its group acknowledged; one that came late, in a frame that
was resent, adds retry (R43, R254, R341). -/
def applyData (r rail : Nat) (p : Packet) (s : State) : State :=
  match (s.colEng r).job with
  | none => s
  | some j =>
    if !packetFits s j p then countStray r s
    else
      let k := pkRank p
      let sh := pkShare p
      let i := pkIndex p
      let dup := j.holds k (pkPhase p) sh i
      let d := p.data (64 * pkUnits p)
      let s := if p.late then s.modJob r (fun j => { j with resent := true }) else s
      let s := if dup then s
        else if pkPhase p = 0 then s.modJob r (fun j => { j with staged := j.staged ++ [(k, sh, i, d)] })
        else storeArea r (partOffset s j sh + 448 * i) d (s.modJob r (fun j => { j with written := j.written ++ [(sh, i)] }))
      settleCol r (finishShare r (ackGroup r rail k (pkPhase p) sh (i / 64) dup s))

/-- A later step of the queue, or one issued and not begun, carries the tag (R341). -/
def laterTag (s : State) (r tag : Nat) : Bool :=
  let g := s.engine (colEngine r)
  let col := fun (w : StepWord) => decide (0x80 ≤ stOpcode w ∧ stOpcode w ≤ 0x83) && colTag (stBody w) == tag
  g.queue.any (fun q => col q.word) || g.flight.any (fun f => !f.done && col f.step.word)

/-- A data packet is handled by its tag (R341). -/
def takeData (r rail : Nat) (p : Packet) (s : State) : State :=
  let e := s.colEng r
  let tag := pkTag p
  if e.job.any (fun j => colTag j.body == tag) then applyData r rail p s
  else if laterTag s r tag then
    if e.early.length < 1024 then s.modCol r (fun e => { e with early := e.early ++ [(p, rail)] })
    else raise 0x0805 (colEngine r) tag 0 0 0 (s.modCol r (fun e => { e with earlyFull := true }))
  else if e.recent.contains tag then
    sendAck r rail (pkRank p) tag (pkPhase p) (pkShare p) (pkIndex p / 64) (2 ^ 64 - 1) s
  else countStray r s

/-- An ack covers packets of the current step (R342). -/
def takeAck (r : Nat) (p : Packet) (s : State) : State :=
  let covered := fun (c : ColPkt) => c.dest == pkRank p && c.phase == pkPhase p && c.share == pkShare p
    && decide (pkIndex p ≤ c.index ∧ c.index < pkIndex p + 64) && (pkBitmap p).testBit (c.index - pkIndex p)
  match (s.colEng r).job with
  | none => s
  | some j =>
    if colTag j.body = pkTag p then
      settleCol r (s.modJob r (fun j => { j with unacked := j.unacked.filter (fun c => !covered c) }))
    else s

/-- A collective packet that a rail site has delivered, of a kind: its layout and its source are checked (R331, R339). -/
def receiveCol (rail kind : Nat) (f : Nat → Packet → State → State) (s : State) : State :=
  let mine := fun (p : Packet) => p.cls == 3 && (pkKind p == kind || (kind == 1 && pkKind p != 2))
  match takeArrived rail mine s with
  | none => s
  | some (p, s) =>
    if !colPacketOk p then s.modRail rail (fun x => { x with badPacket := satAdd x.badPacket 1 0xFF })
    else if !fromPeer s p then countStray (pkEngine p) s
    else f (pkEngine p) p s

/-- COLLECTIVE_DATA_RECEIVE: a data packet that arrived on a rail reaches its engine (R339, R341). -/
def execCollectiveDataReceive (rail : Fin 26) (s : State) : Host.Outcome State Fault Refusal :=
  .next (receiveCol rail.val 1 (fun r p s => takeData r rail.val p s) s)

/-- COLLECTIVE_ACK_RECEIVE: an ack reaches its engine (R342, R343). -/
def execCollectiveAckReceive (rail : Fin 26) (s : State) : Host.Outcome State Fault Refusal :=
  .next (receiveCol rail.val 2 takeAck s)

/-- COLLECTIVE_GROUP_ACK_TIMER: 4,096 grains after a group's first arrival the packets present are acknowledged (R341). -/
def execCollectiveGroupAckTimer (site : Fin 26) (srank : Fin 1024) (phase : Fin 2) (share : Fin 1024) (group : Fin 4096)
    (s : State) : Host.Outcome State Fault Refusal :=
  let r := site.val
  let k := groupKey srank.val phase.val share.val group.val
  .next (match (s.colEng r).job with
    | none => s
    | some j =>
      match tabFind j.groups k with
      | none => s
      | some g =>
        if g + 4096 ≤ s.now then
          let m := groupMap j srank.val phase.val share.val group.val
          sendAck r r srank.val (colTag j.body) phase.val share.val group.val m
            (s.modJob r (fun j => { j with groups := tabDel j.groups k, timed := setIns j.timed k }))
        else s)

/-- COLLECTIVE_RESEND: a packet returned undelivered is resent at a fleet sheaf boundary, one that waits for a rail is sent
there for the first time, and one that no ack has covered 2^17 grains after its last send is resent at once, with its epoch and
that epoch's map (R264, R342). -/
def execCollectiveResend (site : Fin 26) (dest : Fin 1024) (phase : Fin 2) (share : Fin 1024) (index : BitVec 18)
    (s : State) : Host.Outcome State Fault Refusal :=
  let r := site.val
  let is := fun (c : ColPkt) => c.dest == dest.val && c.phase == phase.val && c.share == share.val && c.index == index.toNat
  .next (match (s.colEng r).job with
    | none => s
    | some j =>
      match j.unacked.find? is with
      | none => s
      | some c =>
        let held := c.undelivered || c.waits
        if (held && s.atBoundary) || (!held && decide (c.last + 2 ^ 17 ≤ s.now)) then
          let x := sendData r j c s
          let sent := !x.1.undelivered && !x.1.waits
          let s := x.2.modJob r (fun j => { j with resent := j.resent || !c.waits || x.1.undelivered
                                                   unacked := j.unacked.map (fun y => if is y then x.1 else y) })
          if sent && !c.waits then s.modCol r (fun e => { e with resent := satAdd e.resent 1 0xFFFF }) else s
        else s)

/-- COL_TIMEOUT: a step not complete 2^24 grains after its issue completes with error and writes nothing more (R343). -/
def execColTimeout (site : Fin 26) (s : State) : Host.Outcome State Fault Refusal :=
  let r := site.val
  .next (match (s.colEng r).job with
    | none => s
    | some j =>
      if j.issued + 2 ^ 24 ≤ s.now then
        let s := s.modCol r (fun e => { e with timeout := true })
        endCol r j true false (raise 0x0804 (colEngine r) (colTag j.body) 0 0 0 s)
      else s)

/-! ### Steps (R333, R337) -/

/-- The source units of 64 bytes that a step reads (R337, R343). -/
def readsUnits (s : State) (op : Nat) (b : Body) : List Nat :=
  if op = 0x83 ∧ s.col.rank ≠ colRoot b then [] else (List.range (32 * colN b)).map (32 * colSrc b + ·)

/-- A collective step that has issued begins on its engine: its contribution is placed and sent, and what the early store
holds for it is applied; under a block reset of its site it completes aborted (R333, R337, R340, R341, R450). -/
def beginCol (r op : Nat) (b : Body) (delayed : Bool) (s : State) : State :=
  let e := s.colEng r
  if e.job.isSome || !(s.engine (colEngine r)).flight.any (fun f => f.unit == 4 && isStep op b f) then s
  else
    let bad := (readsUnits s op b).any (fun u => e.uncorrArea.contains u)
    let issued := ((flightOf (s.engine (colEngine r)) 4 (isStep op b)).map (·.issued)).getD s.now
    let j : ColJob := { op := op, body := b, issued := issued, uncorr := bad, delayed := delayed }
    let mine := e.early.filter (fun x => pkTag x.1 == colTag b)
    if s.railBlocked r then endCol r j false true s else
    let s := s.modCol r (fun e => { e with job := some j, tag := colTag b,
                                           early := e.early.filter (fun x => pkTag x.1 != colTag b) })
    let s := finishShare r (beginSend r (noteNarrow s))
    settleCol r (mine.foldl (fun s x => applyData r x.2 x.1 s) s)

/-- CALLRED: all-reduce (R334, R337). -/
def execCallred (site : Fin 26) (body : BitVec 80) (delayed : Bool) (s : State) : Host.Outcome State Fault Refusal :=
  .next (beginCol site.val 0x80 body delayed s)

/-- CRSCAT: reduce-scatter (R334, R337). -/
def execCrscat (site : Fin 26) (body : BitVec 80) (delayed : Bool) (s : State) : Host.Outcome State Fault Refusal :=
  .next (beginCol site.val 0x81 body delayed s)

/-- CAGATH: all-gather (R334, R337). -/
def execCagath (site : Fin 26) (body : BitVec 80) (delayed : Bool) (s : State) : Host.Outcome State Fault Refusal :=
  .next (beginCol site.val 0x82 body delayed s)

/-- CBCAST: broadcast from the root rank (R334, R337). -/
def execCbcast (site : Fin 26) (body : BitVec 80) (delayed : Bool) (s : State) : Host.Outcome State Fault Refusal :=
  .next (beginCol site.val 0x83 body delayed s)

/-! ### Posts between modules (R345, R346) -/

/-- The TOKEN word of a CPOST (R257, R345). -/
def tokenWord (s : State) (b : Body) (f : Flight) : Word256 :=
  ctlWord (0x10 + peerOf s (fld b 0 10) % 4096 * 2 ^ 8 + s.fab.module % 4096 * 2 ^ 20 + fld b 10 16 * 2 ^ 32
    + fld b 26 6 * 2 ^ 48 + b2n f.err * 2 ^ 54 + f.mask % 8 * 2 ^ 55)

/-- CPOST: a TOKEN word leaves on every ACTIVE rail, and the step completes; its post is in flight for Lt grains
(R345). -/
def execCpost (site : Fin 26) (body : BitVec 80) (s : State) : Host.Outcome State Fault Refusal :=
  let e := colEngine site.val
  .next (match flightOf (s.engine e) 4 (isStep 0x84 body) with
    | none => s
    | some f =>
      let s := putEvery (tokenWord s body f) s
      let s := { s with cut := { s.cut with cposts := s.cut.cposts ++ [s.now + Config.postLatency] } }
      modFlight e 4 (isStep 0x84 body) (fun f => { f with done := true }) s)

/-- TOKEN_WORD_RECEIVE: the first copy of a post is applied to its counter; later copies within 8,192 grains are
discarded, and one for an engine without a queue, or in a state without a run to come, is counted (R258, R346). -/
def execTokenWordReceive (rail : Fin 26) (word : BitVec 256) (s : State) : Host.Outcome State Fault Refusal :=
  .next (linkWord rail.val 0x10 word (fun s =>
    if ctl word 8 12 ≠ s.fab.module ∨ 3 < ctl word 58 3 then s
    else
      let src := ctl word 20 12
      let eng := ctl word 32 16
      let c := ctl word 48 6
      let seen := s.col.seen.filter (fun x => decide (s.now < x.2.2.2 + 8192))
      let s := { s with col := { s.col with seen := seen } }
      if seen.any (fun x => x.1 == src && x.2.1 == eng && x.2.2.1 == c) then s
      else match physEngine s.cut.logMap eng with
        | none => countStray rail.val s
        | some e =>
          if !(s.engine e).present || s.cut.state == .empty || s.cut.state == .loading || s.cut.state == .ended
              || s.cut.state == .halted then countStray rail.val s
          else
            let s := { s with col := { s.col with seen := seen ++ [(src, eng, c, s.now)] } }
            applyPost { dest := e, counter := c, mask := ctl word 55 3, err := bit word.toNat 54 } s) s)

end Sys2Proof.Machine
end

