-- ==== Sys2Proof/Machine/Params.lean ====
section
/-! DEFINITION. Every parameter as PARAM_READ returns it and PARAM_WRITE changes it (R5 to R8, R386, R387, and the
parameter sections of the chapters). -/

namespace Sys2Proof.Machine

/-! ### Parameter words that events and the I3C readout also carry -/

/-- A field for a word: low bit, length and value. -/
abbrev Fld := Nat × Nat × Nat

/-- The word made of fields (R4). -/
def packWord (l : List Fld) : Nat := l.foldl (fun a f => a + f.2.2 % 2 ^ f.2.1 * 2 ^ f.1) 0

/-- MOD.FLOOR.DIE (R24). -/
def floorWord (s : State) (d : Nat) : Nat :=
  let f := s.dieFloor d
  packWord [(0, 9, f.enabled.length), (9, 9, f.degraded.length), (18, 1, b2n f.belowGrade)]

/-- MOD.ID (R23). -/
def modId : Nat := packWord [(0, 16, 0x7232), (16, 2, 1), (24, 8, 1), (32, 32, Config.serial.toNat)]

/-- PWR.INPUT (R442). -/
def pwrInput (s : State) : Nat :=
  let p := s.pwr
  packWord [(0, 12, min (mean16 p.volts) 0xFFF), (12, 12, min (mean16 p.amps) 0xFFF),
    (24, 16, min (mean16 p.watts) 0xFFFF), (40, 1, b2n !p.alertN), (41, 1, b2n p.range), (42, 4, p.ceiling)]

/-- A temperature in an unsigned field: below 0 it shows 0, above the field its top (R442, log entry 23). -/
def tempField (t : Int) (n : Nat) : Nat := min t.toNat (2 ^ n - 1)

/-- PWR.TEMP (R443); both temperatures are held in 1/16 degree. -/
def pwrTemp (s : State) : Nat :=
  let p := s.pwr
  packWord [(0, 12, tempField p.tj 12), (12, 2, p.tjKind), (14, 8, p.tjWhere), (22, 8, tempField (p.th / 16) 8)]

/-- PWR.THROTTLE (R443). -/
def pwrThrottle (s : State) : Nat :=
  let p := s.pwr
  packWord [(0, 8, p.request), (8, 8, p.result), (16, 7, p.acc), (23, 1, b2n p.tallyMiss), (24, 2, p.stop),
    (32, 32, min p.idleTotal 0xFFFFFFFF)]

/-- CLK.PANEL (R427). -/
def panelWord (x : Panel) : Nat :=
  packWord [(0, 4, x.bin), (4, 4, x.maxBin), (8, 16, min (x.stretched / 1024) 0xFFFF), (24, 1, b2n x.warn),
    (25, 1, b2n x.overFlag), (26, 1, b2n x.changing)]

/-- CFG.STORE (R473). -/
def cfgStore (s : State) : Nat :=
  let r := s.rst
  packWord [(0, 1, b2n r.copy0Valid), (1, 1, b2n r.copy1Valid), (2, 1, r.selected), (3, 1, b2n r.baseline),
    (4, 1, b2n r.conflict), (5, 1, b2n r.busy), (6, 1, b2n r.writeFailed), (32, 32, r.seq)]

/-- CFG.TRIM (R473). -/
def cfgTrim (s : State) : Nat :=
  packWord [(0, 12, s.rst.trimRecords), (12, 8, min s.rst.trimRestarts 0xFF), (20, 1, b2n s.rst.trimBaseline)]

/-- SUP.STATE (R498). -/
def supState (s : State) : Nat :=
  let u := s.sup
  packWord [(0, 2, u.hold), (2, 2, u.phase), (4, 1, b2n u.bBooted), (5, 1, b2n u.failover), (6, 2, u.source),
    (8, 10, min u.takeover 1023)]

/-- Seconds left of an unlock (R488). -/
def unlockLeft (s : State) : Nat := if s.sec.unlocked then (s.sec.expiry - s.now) / 10 ^ 9 else 0

/-- SEC.STATUS (R488). -/
def secStatus (s : State) : Nat :=
  let x := s.sec
  packWord [(0, 1, x.slot), (1, 7, x.counter), (8, 7, x.svn), (15, 1, b2n x.identityOk), (16, 1, b2n x.unlocked),
    (17, 3, s.scopesNow), (20, 1, b2n x.wasUnlocked), (21, 1, b2n x.staged), (32, 32, unlockLeft s)]

/-- An error record as ERR.LOG, ERR.FAULT and ERR.PREV show it (R528). -/
def recordWord (r : Record) : Nat :=
  packWord [(0, 16, r.code), (16, 3, r.cls), (19, 1, b2n r.pend), (32, 32, r.eseq), (64, 64, r.grain),
    (128, 16, r.engine), (144, 8, r.raiser), (256, 64, r.w0), (320, 64, r.w1), (384, 64, r.w2), (448, 64, r.w3)]

/-- Faults of a processor within the last 10 s (R412). -/
def procFaults (s : State) (p : Nat) : Nat := ((s.proc p).faults.filter (fun g => decide (s.now < g + 10 ^ 10))).length

/-- A processor ID that is present (R398). -/
def procPresent (p : Nat) : Bool := decide (p < 6) || decide (8 ≤ p ∧ p < 16)

/-! ### Reading (R386, R387) -/

/-- A parameter as it stands: width, the bits that are not reserved as fields, value, and what a read clears (R5). -/
structure Param where
  /-- width in bits. -/
  width : Nat
  /-- low bit and length of every field that is not reserved. -/
  fields : List (Nat × Nat)
  /-- the value that a read returns. -/
  value : Nat
  /-- the state once the read has cleared its RS fields. -/
  after : State

/-- A parameter given field by field. -/
def Param.of (s : State) (width : Nat) (l : List Fld) : Param :=
  { width := width, fields := l.map (fun f => (f.1, f.2.1)), value := packWord l, after := s }

/-- A parameter given as a word. -/
def Param.word (s : State) (width v : Nat) (fields : List (Nat × Nat)) : Param :=
  { width := width, fields := fields, value := v, after := s }

/-- The same with the state that a read leaves. -/
def Param.clears (p : Param) (s : State) : Param := { p with after := s }

/-- The reserved bits of a parameter (R7). -/
def Param.reserved (p : Param) : Nat :=
  (2 ^ p.width - 1) - p.fields.foldl (fun a f => a + (2 ^ f.2 - 1) * 2 ^ f.1) 0

/-- Page 0x001 (R23, R24). -/
def readMod (s : State) (i : Nat) : Option Param :=
  if i = 0 then some (Param.word s 64 modId [(0, 16), (16, 2), (24, 8), (32, 32)])
  else if 0x10 ≤ i ∧ i ≤ 0x17 then some (Param.word s 32 (floorWord s (i - 0x10)) [(0, 9), (9, 9), (18, 1)])
  else none

/-- Page 0x002 (R33, R36, R44, R46). -/
def readTime (s : State) (i : Nat) : Option Param :=
  let ovr := [(0, 48), (48, 12), (60, 1), (61, 1), (62, 1), (63, 1), (64, 16), (80, 16)]
  match i with
  | 0x00 => some (Param.of s 64 [(0, 64, s.now)])
  | 0x01 => some ((Param.word s 32 (timeStatus s) [(0, 3), (3, 1), (4, 1), (5, 1), (6, 1), (8, 8), (16, 16)]).clears
      { s with time := { s.time with lostTol := false } })
  | 0x02 => some (Param.of s 32 [(0, 32, s.time.p0.delay)])
  | 0x03 => some (Param.of s 32 [(0, 32, s.time.p1.delay)])
  | 0x04 => some (Param.of s 16 [(0, 16, s.time.holdRate)])
  | 0x10 => some (Param.of s 64 [(0, 64, s.cut.runBase.toNat)])
  | 0x11 => some (Param.of s 64 [(0, 48, s.cut.sheaf)])
  | 0x12 => some (Param.of s 32 [(0, 32, min s.cut.idle 0xFFFFFFFF)])
  | 0x20 => some (Param.of s 32 [(0, 32, s.cut.ovrTotal)])
  | 0x21 => some (Param.of s 32 [(0, 32, s.cut.ovrOther)])
  | 0x22 => some (Param.word s 128 (Overrun.word s.cut.ovrFirst) ovr)
  | 0x23 => some (Param.word s 128 (Overrun.word s.cut.ovrLast) ovr)
  | _ => none

/-- Units of an engine that are busy, for units 0 to 3 (R88). -/
def busyUnits (g : Engine) : Nat := maskOf ((List.range 4).filter (unitBusy g))

/-- Page 0x003: the tiller's registers, and its partition's, which a disabled tiller keeps (R87 to R90, R129). -/
def readTiller (s : State) (i : Nat) : Option Param :=
  let d := bits i 17 3
  let p := bits i 8 9
  let k := d * 288 + p
  let e := tillerEngine k
  let t := s.tiller k
  let x := s.part k
  let on := (s.dieFloor d).enabled.contains p
  let z := fun (n : Nat) => if on then n else 0
  if 288 ≤ p then none
  else match bits i 0 8 with
    | 0x00 => some (Param.of s 32 [(0, 1, b2n on),
        (1, 1, b2n (if on then (s.dieFloor d).degraded.contains p else x.groups.any (fun g => g.2.half))),
        (2, 9, if on then t.logical.getD 0x1FF else 0x1FF), (11, 4, z (busyUnits (s.engine e))),
        (15, 7, z (s.engine e).queue.length)])
    | 0x01 => some ((Param.of s 32 [(0, 1, z (b2n t.lowLoss)), (1, 1, z (b2n t.highClamp)),
        (2, 1, z (b2n t.anchorMis)), (3, 1, z (b2n t.selRange)), (4, 1, z (b2n t.dataError)),
        (5, 1, z (b2n t.invalid))]).clears
        (if on then s.modTiller k (fun t => { t with lowLoss := false, highClamp := false, anchorMis := false,
                                                     selRange := false, dataError := false, invalid := false })
         else s))
    | 0x02 => some (Param.of s 64 [(0, 64, z (packWord ((List.range 8).map (fun j => (8 * j, 8, tabGet t.sel j 0)))))])
    | 0x03 => some (Param.of s 64 [(0, 64, z t.rng.toNat)])
    | 0x04 => some (Param.of s 32 [(0, 32, z (t.bank0.anchor.toNat + t.bank1.anchor.toNat * 2 ^ 16))])
    | 0x10 => some (Param.word s 32 (cribPart x) [(0, 8), (8, 8), (16, 8), (24, 2)])
    | 0x11 => some (Param.of s 32 [(0, 16, x.corrected), (16, 8, x.uncorrectable)])
    | 0x12 => some ((Param.of s 32 [(0, 16, x.retries), (16, 8, x.lanesFailed), (24, 1, b2n x.repaired)]).clears
        (s.modPart k (fun p => { p with repaired := false })))
    | _ => none

/-- Page 0x004 (R442 to R444). -/
def readPower (s : State) (i : Nat) : Option Param :=
  let p := s.pwr
  match i with
  | 0 => some ((Param.word s 64 (pwrInput s) [(0, 12), (12, 12), (24, 16), (40, 1), (41, 1), (42, 4)]).clears
      { s with pwr := { p with range := false } })
  | 1 => some (Param.of s 32 [(0, 14, p.limit), (14, 14, p.alertLimit)])
  | 2 => some ((Param.word s 64 (pwrThrottle s) [(0, 8), (8, 8), (16, 7), (23, 1), (24, 2), (32, 32)]).clears
      { s with pwr := { p with tallyMiss := false } })
  | 3 => some (Param.word s 32 (pwrTemp s) [(0, 12), (12, 2), (14, 8), (22, 8)])
  | _ =>
    let d := i - 0x100
    if 0x100 ≤ i ∧ d < 8 then
      let failed := (p.failedSensors.filter (fun f => decide (f.1 < 2) && f.2.1 == d)).length
      some (Param.of s 32 [(0, 12, tempField (tabGet p.dieLogic d 0) 12), (12, 12, tempField (tabGet p.dieCrib d 0) 12),
        (24, 5, min failed 31)])
    else none

/-- Page 0x005 (R130). -/
def readStack (s : State) (i : Nat) : Option Param :=
  let d := i / 256
  let k := s.cstack d
  if 8 ≤ d then none
  else match i % 256 with
    | 0 => some (Param.word s 32 (stkPower k) [(0, 12), (12, 11)])
    | 1 => some (Param.of s 32 [(0, 10, k.cap)])
    | 2 => some ((Param.word s 32 (stkClock k) [(0, 4), (4, 4), (8, 1), (9, 1)]).clears
        (s.modStack d (fun k => { k with limited := false, idleReq := false })))
    | _ => none

/-- Page 0x006 (R153). -/
def readMesh (s : State) (i : Nat) : Option Param :=
  let d := i / 256
  let m := s.mesh d
  let f := s.dieFloor d
  if 8 ≤ d then none
  else match i % 256 with
    | 0 => some ((Param.of s 32 [(0, 1, b2n m.epoch), (1, 1, b2n m.flipPending), (2, 1, b2n m.drainTimeout),
        (4, 6, f.maxHops), (10, 3, f.maxTurns)]).clears (s.modMesh d (fun m => { m with drainTimeout := false })))
    | 1 => some (Param.of s 32 [(0, 16, min m.drain 0xFFFF)])
    | 2 => some (Param.of s 32 [(0, 32, min m.divert 0xFFFFFFFF)])
    | _ => none

/-- Page 0x007 (R188 to R190). -/
def readSill (s : State) (i : Nat) : Option Param :=
  let x := s.sill
  match i with
  | 0 => some ((Param.of s 32 [(0, 1, b2n x.epoch), (1, 1, b2n x.pending), (2, 1, b2n x.latePlan),
      (3, 1, b2n x.heldFlag)]).clears { s with sill := { x with latePlan := false, heldFlag := false } })
  | 1 => some (Param.of s 32 [(0, 31, x.addr)])
  | 2 => some (Param.of s 64 [(0, 16, x.aborted), (16, 16, x.errors), (32, 32, x.retx)])
  | _ =>
    if 0x100 ≤ i ∧ i < 0x200 ∧ siteValid (i - 0x100) then
      some (Param.word s 32 (lanesWord s (i - 0x100)) [(0, 12), (12, 12), (24, 3)])
    else
      let j := i - 0x10000
      if 0x10000 ≤ i ∧ j < 0x4000 ∧ siteValid (j / 64) then
        some (Param.word s 32 (attachWord (j / 64) (j / 32 % 2) (j % 32)) [(0, 4), (4, 8)])
      else none

/-- Page 0x008 (R207, R208). -/
def readMem (s : State) (i : Nat) : Option Param :=
  let h := s.hbm
  let ready := (List.range 32).filter (fun k => (shownStack s k).state == 2)
  match i with
  | 0 => some (Param.of s 64 [(0, 41, h.size)])
  | 1 => some ((Param.of s 64 [(0, 32, maskOf ready), (32, 1, b2n (ready.length == 32)), (33, 1, b2n h.scrub),
      (34, 1, b2n h.ue)]).clears { s with hbm := { h with ue := false } })
  | 2 => some (Param.of s 128 [(5, 36, h.ueBurst), (41, 8, h.ueReq), (64, 64, h.ueGrain)])
  | _ =>
    let j := i - 0x10000
    let m := s.mstack (j / 256)
    if i < 0x10000 ∨ 32 ≤ j / 256 then none
    else match j % 256 with
      | 0 => some (Param.word s 32 (stackState (shownStack s (j / 256))) [(0, 2), (2, 1), (3, 8), (11, 6)])
      | 1 => some (Param.of s 32 [(0, 16, m.corrected), (16, 8, m.uncorrectable)])
      | 2 => some (Param.of s 32 [(0, 16, m.held), (16, 8, m.maxHold)])
      | _ => none

/-- Page 0x009 (R241, R242). -/
def readCut (s : State) (i : Nat) : Option Param :=
  let c := s.cut
  match i with
  | 0 => some (Param.of s 32 [(0, 3, c.state.code), (3, 1, c.kind), (4, 1, b2n c.pausePend), (5, 1, b2n c.prot),
      (8, 16, c.lastMark)])
  | 1 => some (Param.of s 64 [(0, 8, c.loadCode), (8, 8, c.loadSegment), (16, 16, c.loadQueue), (32, 28, c.loadStep)])
  | 2 => some (Param.of s 64 [(0, 41, c.base)])
  | 3 => some (Param.of s 512 [(0, 512, c.digest.toNat)])
  | 4 => some (Param.of s 256 [(0, 256, c.floorDigest.toNat)])
  | _ => none

/-- RAIL.MAP of an entry (R272). -/
def railMapWord (s : State) (i : Nat) : Nat := (tabGet s.railTop.map i 0x00FFFFFF).toNat

/-- Page 0x00A (R270 to R272). -/
def readRail (s : State) (i : Nat) : Option Param :=
  let t := s.railTop
  match i with
  | 0 =>
    let n := s.railCounts
    let standby := (s.rails.filter (fun p => p.2.state == 6)).length
    some ((Param.of s 32 [(0, 5, n.1), (5, 5, n.2.1), (10, 5, n.2.2), (15, 2, standby), (17, 1, b2n t.epoch),
      (18, 1, b2n t.flipPending), (19, 1, b2n t.drainTimeout)]).clears
      { s with railTop := { t with drainTimeout := false } })
  | 1 => some (Param.word s 64 (flipWord t) [(0, 52), (52, 1)])
  | 2 => some (Param.of s 32 [(0, 32, min (railDrain s) 0xFFFFFFFF)])
  | _ =>
    let r := i % 256
    let x := s.rail r
    if i / 256 = 1 ∧ r < 26 then some (Param.word s 32 (railWord x) [(0, 3), (3, 5), (8, 6), (14, 1), (15, 2)])
    else if i / 256 = 2 ∧ r < 26 then
      some (Param.of s 64 [(0, 24, x.corrected), (24, 12, x.uncorrectable), (36, 16, x.resent), (52, 8, x.badPacket)])
    else if 0x10000 ≤ i ∧ i < 0x12000 then
      some (Param.word s 32 (railMapWord s (i - 0x10000)) [(0, 24), (24, 5)])
    else none

/-- Page 0x00B (R296 to R298). -/
def readOpt (s : State) (i : Nat) : Option Param :=
  let o := s.opt
  match i with
  | 0 =>
    let ok := (List.range 8).filter (fun c => (s.comb c).state == 2)
    let single := combPairs.any (fun p => s.combFailed p.1 != s.combFailed p.2)
    some ((Param.of s 32 [(0, 8, maskOf ok), (8, 1, b2n single), (9, 1, b2n o.slope), (10, 1, b2n o.slip),
      (11, 1, b2n o.spareLost)]).clears { s with opt := { o with slope := false, slip := false, spareLost := false } })
  | 1 => some (Param.word s 128 (slipWord o) [(0, 8), (8, 5), (13, 6), (19, 1), (20, 1), (24, 8), (64, 64)])
  | _ =>
    let j := i % 256
    if i / 256 = 1 ∧ j < 8 then some (Param.word s 32 (combWord s j) [(0, 2), (2, 1), (3, 1), (4, 8), (12, 8)])
    else if i / 256 = 2 ∧ j < 52 then
      let f := s.fibre j
      some (Param.of s 256 [(0, 204, packWord ((List.range 34).map (fun w => (6 * w, 6, f.code w)))),
        (204, 6, f.spare.getD 0x3F), (210, 1, b2n f.rotating), (211, 6, f.slot)])
    else if i / 256 = 3 ∧ j < 26 then
      some (Param.of s 32 [(0, 12, tabGet o.slips j 0), (12, 12, tabGet o.cycles j 0)])
    else none

/-- Page 0x00C (R329, R330). -/
def readFab (s : State) (i : Nat) : Option Param :=
  let f := s.fab
  match i with
  | 0 => some (Param.of s 32 [(0, 12, f.module)])
  | 1 => some (Param.of s 32 [(0, 13, f.sources)])
  | 2 => some ((Param.of s 64 [(0, 16, f.busy), (16, 16, f.duplicates), (32, 16, f.undelivered),
      (48, 1, b2n f.streamsFull)]).clears { s with fab := { f with streamsFull := false } })
  | _ =>
    let e := i % 256
    if i / 256 = 1 ∧ e < 64 then
      let x := s.fabEng e
      some ((Param.of s 64 [(0, 1, b2n x.spelt), (1, 1, b2n x.batch.isSome), (2, 11, x.out.length),
        (13, 1, b2n x.badBatch), (14, 1, b2n x.timeout), (32, 32, min x.sent 0xFFFFFFFF)]).clears
        (s.modFab e (fun x => { x with badBatch := false, timeout := false })))
    else if i / 256 = 2 ∧ e < 32 then
      let p := tabGet f.ports e {}
      let n := p.queue.length
      some ((Param.of s 32 [(0, 13, n), (13, 13, p.peak), (26, 1, b2n p.overHalf)]).clears
        { s with fab := { f with ports := tabPut f.ports e { p with peak := n, overHalf := false } } })
    else none

/-- Page 0x00D (R350, R351). -/
def readCol (s : State) (i : Nat) : Option Param :=
  let c := s.col
  if i = 0 then some (Param.of s 32 [(0, 10, c.rank), (10, 16, c.stook)])
  else if 0x100 ≤ i ∧ i < 0x100 + 26 then
    let r := i - 0x100
    let e := s.colEng r
    some ((Param.of s 64 [(0, 1, b2n e.job.isSome), (1, 16, e.tag), (17, 11, e.early.length), (28, 1, b2n e.timeout),
      (29, 1, b2n e.earlyFull), (32, 16, e.resent), (48, 16, e.stray)]).clears
      (s.modCol r (fun e => { e with timeout := false, earlyFull := false })))
  else if 0x1000 ≤ i ∧ i < 0x1400 then some (Param.of s 32 [(0, 12, peerOf s (i - 0x1000))])
  else none

/-- Page 0x00F (R397). -/
def readCmd (s : State) (i : Nat) : Option Param :=
  let y := s.yuley
  if i = 0 then some (Param.of s 32 [(0, 1, b2n y.isOpen), (1, 2, y.gen), (3, 1, b2n y.headless)])
  else if i = 0x10 ∨ i = 0x11 then
    let p := s.yport (i - 0x10)
    some (Param.of s 64 [(0, 3, p.state), (3, 4, p.lanes), (7, 1, b2n (s.tport (i - 0x10)).valid), (8, 16, p.resent),
      (24, 16, p.rejected)])
  else if i = 0x20 then
    some (Param.of s 64 [(0, 11, y.events.length), (16, 16, y.lost), (32, 32, y.nextSeq)])
  else none

/-- Page 0x010 (R412, R413). -/
def readProc (s : State) (i : Nat) : Option Param :=
  let p := i / 256
  let x := s.proc p
  if !procPresent p then none
  else match i % 256 with
    | 0 => some ((Param.of s 32 [(0, 3, x.state), (3, 2, min (procFaults s p) 3), (5, 1, b2n x.restarted),
        (16, 16, x.heartbeat)]).clears (s.modProc p (fun x => { x with restarted := false })))
    | 1 => some (Param.of s 32 [(0, 16, x.hold), (16, 6, x.count), (22, 10, x.stuckTh)])
    | 2 => some (Param.of s 64 [(0, 64, x.pend.toNat)])
    | 3 => some (Param.of s 64 [(0, 64, x.enable.toNat)])
    | 4 => some (Param.of s 64 [(0, 64, x.ovr.toNat)])
    | 5 => some (Param.of s 64 [(0, 64, x.stuck.toNat)])
    | 6 => some (Param.of s 128 [(0, 128, packWord ((List.range 64).map (fun j => (2 * j, 2, tabGet x.latch j 0))))])
    | _ => none

/-- A panel's index on page 0x011, which is its key (R427). -/
def panelIndex (i : Nat) : Bool :=
  decide (i < 0x1000 ∧ i % 512 ≤ 288) || (decide (0x10000 ≤ i ∧ i < 0x10070) && siteValid (i - 0x10000))

/-- Page 0x011 (R427, R428). -/
def readClk (s : State) (i : Nat) : Option Param :=
  if panelIndex i then
    some ((Param.word s 32 (panelWord (s.panel i)) [(0, 4), (4, 4), (8, 16), (24, 1), (25, 1), (26, 1)]).clears
      (s.modPanel i (fun x => { x with stretched := 0, warn := false, overFlag := false })))
  else if 0x20000 ≤ i ∧ i < 0x20008 then some (Param.of s 32 [(0, 4, tabGet s.clk.targets (i - 0x20000) 8)])
  else none

/-- Page 0x012 (R472, R473). -/
def readCfg (s : State) (i : Nat) : Option Param :=
  let r := s.rst
  match i with
  | 0 => some (Param.word s 32 (cfgState s) [(0, 4), (4, 4), (8, 1), (9, 1), (10, 1), (11, 1), (12, 1), (13, 1),
      (14, 1), (15, 1), (16, 4)])
  | 1 => some (Param.of s 32 [(0, 2, Config.pinLevel), (2, 2, r.lastLevel), (4, 2, r.lastSource),
      (6, 1, b2n !r.blocks.isEmpty), (16, 16, min r.episodes 0xFFFF)])
  | 2 => some ((Param.word s 64 (cfgStore s) [(0, 1), (1, 1), (2, 1), (3, 1), (4, 1), (5, 1), (6, 1), (32, 32)]).clears
      { s with rst := { r with conflict := false, writeFailed := false } })
  | 3 => some (Param.of s 32 [(0, 1, b2n r.busy)])
  | 4 => some (Param.word s 32 (cfgTrim s) [(0, 12), (12, 8), (20, 1)])
  | 5 => some (Param.of s 64 [(0, 16, min r.fuseOnly 0xFFFF), (16, 16, min r.testOnly 0xFFFF),
      (32, 16, min r.meshDisabled 0xFFFF)])
  | _ => none

/-- Page 0x013 (R488). -/
def readSec (s : State) (i : Nat) : Option Param :=
  match i with
  | 0 => some (Param.word s 64 (secStatus s) [(0, 1), (1, 7), (8, 7), (15, 1), (16, 1), (17, 3), (20, 1), (21, 1),
      (32, 32)])
  | 1 => some (Param.of s 256 [(0, 256, s.sec.nonce.toNat)])
  | 2 => some (Param.of s 512 [(0, 512, s.sec.meas.toNat)])
  | _ => none

/-- Page 0x014 (R498). -/
def readSup (s : State) (i : Nat) : Option Param :=
  let u := s.sup
  match i with
  | 0 => some ((Param.word s 32 (supState s) [(0, 2), (2, 2), (4, 1), (5, 1), (6, 2), (8, 10)]).clears
      { s with sup := { u with failover := false } })
  | 1 => some (Param.of s 64 [(0, 32, u.saveSeq), (32, 16, min u.flashWrites 0xFFFF), (48, 1, b2n u.flashOk)])
  | _ => none

/-- Page 0x015 (R510). -/
def readDbg (s : State) (i : Nat) : Option Param :=
  let d := s.dbg
  if i = 0 then
    some ((Param.of s 32 [(0, 1, b2n d.testSeen), (1, 3, s.scopesNow), (4, 1, b2n d.tapActive),
      (5, 1, b2n d.refused)]).clears { s with dbg := { d with refused := false } })
  else if 0x10 ≤ i ∧ i < 0x20 then
    let o := tabGet d.obs (i - 0x10) {}
    some (Param.of s 32 [(0, 12, o.sel), (12, 1, b2n o.enable)])
  else if 0x20 ≤ i ∧ i < 0x30 then
    some (Param.of s 64 [(0, 48, (tabGet d.obs (i - 0x20) {}).count.toNat)])
  else if 0x40 ≤ i ∧ i < 0x49 then
    let t := tabGet d.trace (i - 0x40) {}
    some ((Param.of s 32 [(0, 2, t.mode), (2, 13, t.entries.length), (15, 1, b2n t.full),
      (16, 16, min t.dropped 0xFFFF)]).clears
      { s with dbg := { d with trace := tabPut d.trace (i - 0x40) { t with full := false } } })
  else none

/-- The fields of an error record (R528). -/
def recordFields : List (Nat × Nat) :=
  [(0, 16), (16, 3), (19, 1), (32, 32), (64, 64), (128, 16), (144, 8), (256, 64), (320, 64), (384, 64), (448, 64)]

/-- The lowest eseq that the log holds, 0 while it is empty (R537). -/
def oldestSeq (s : State) : Nat :=
  match s.err.log.map (fun p => p.2.eseq) with
  | [] => 0
  | x :: r => r.foldl min x

/-- Page 0x016 (R534, R537). -/
def readErr (s : State) (i : Nat) : Option Param :=
  let e := s.err
  let k := i % 0x10000
  if i = 0 then
    let n := (e.fault.filter (fun p => p.2.pend)).length
    some ((Param.of s 64 [(0, 32, oldestSeq s), (32, 16, e.overwritten), (48, 7, n), (55, 1, b2n e.faultFull)]).clears
      { s with err := { e with faultFull := false } })
  else if i = 1 then some (Param.of s 32 [(0, 32, e.ackReg)])
  else match i / 0x10000 with
    | 1 => if k < 4096 then some (Param.word s 512 (recordWord (tabGet e.log k {})) recordFields) else none
    | 2 => if k < 64 then some (Param.word s 512 (recordWord (tabGet e.fault k {})) recordFields) else none
    | 3 => if k < 64 then
        let r := tabGet e.prev k {}
        some (Param.word s 512 (recordWord (if r.pend then r else {})) recordFields)
      else none
    | 4 => if k < 256 then some (Param.of s 32 [(0, 16, tabGet e.thresh k 64), (16, 16, tabGet e.counts k 0)]) else none
    | _ => none

/-- A diagnostic page, which is reachable only while scope diag is in force (R387, R500). -/
def diagPage (id : Nat) : Bool := decide (0xF00 ≤ id / 2 ^ 20)

/-- A register of a diagnostic page: a mirror of a block register that DIAG_CATALOG names and the spec does not describe;
its value is free (R507, log entry 24). -/
def readDiag (s : State) (id : Nat) : Option Param :=
  match Config.diagWidth id with
  | some w =>
    let w := 8 + w % 57
    some ((Param.of s w [(0, w, Config.free s.free)]).clears s.takeFree.2)
  | none => none

/-- The parameter with an ID, or none where the ID is unknown (R386, R387). -/
def param (s : State) (id : Nat) : Option Param :=
  let i := id % 2 ^ 20
  match id / 2 ^ 20 with
  | 0x001 => readMod s i
  | 0x002 => readTime s i
  | 0x003 => readTiller s i
  | 0x004 => readPower s i
  | 0x005 => readStack s i
  | 0x006 => readMesh s i
  | 0x007 => readSill s i
  | 0x008 => readMem s i
  | 0x009 => readCut s i
  | 0x00A => readRail s i
  | 0x00B => readOpt s i
  | 0x00C => readFab s i
  | 0x00D => readCol s i
  | 0x00E => if i = 0 then
      some (Param.word s 32 (reproWord s) ((List.range 14).map (fun b => (b, 1)))) else none
  | 0x00F => readCmd s i
  | 0x010 => readProc s i
  | 0x011 => readClk s i
  | 0x012 => readCfg s i
  | 0x013 => readSec s i
  | 0x014 => readSup s i
  | 0x015 => readDbg s i
  | 0x016 => readErr s i
  | _ => if diagPage id then readDiag s id else none

/-- Bytes of a value on the line: its width rounded up to 8 bytes (R386). -/
def Param.bytes (p : Param) : Nat := 8 * cdiv p.width 64

/-- PARAM_READ over a list of IDs, in order: status, the bytes delivered, and the state (R5, R386). -/
def readParams : List Nat → State → Nat × List (BitVec 8) × State
  | [], s => (0, [], s)
  | id :: r, s =>
    if diagPage id && !bit s.scopesNow 0 then (0x0301, [], s)
    else match param s id with
      | none => (0x0104, [], s)
      | some p =>
        let x := readParams r p.after
        (x.1, toBytes p.bytes p.value ++ x.2.1, x.2.2)

/-! ### Writing (R386) -/

/-- The status that a parameter's owner gives a write, and the state once the write is applied: 0x0106 outside a stated
range, 0x0301 for a scope that is not in force, 0x0531 without a supervisor, 0x0202 where the state forbids it
(R386, R402, R495, R500). The parameters with a row of their own are not changed here. -/
def storeParam (id v : Nat) (s : State) : Nat × State :=
  let i := id % 2 ^ 20
  let noSup := s.sup.hold = 0
  let inRun := s.cut.state == .armed || s.cut.state == .running || s.cut.state == .paused
  match id / 2 ^ 20 with
  | 0x002 =>
    if i = 0x04 then
      let r := bits v 0 16
      if r < 1 ∨ 1000 < r then (0x0106, s) else (0, { s with time := { s.time with holdRate := r } })
    else (0, s)
  | 0x004 =>
    if i = 1 then
      let a := bits v 0 14
      let b := bits v 14 14
      if a < 6000 ∨ 12000 < a ∨ b < 3000 ∨ 12000 < b then (0x0106, s)
      else if noSup then (0x0531, s)
      else (0, { s with pwr := { s.pwr with limit := a, alertLimit := b } })
    else if noSup then (0x0531, s) else (0, s)
  | 0x005 =>
    if i % 256 = 1 then
      let c := bits v 0 10
      if c < 500 ∨ 960 < c then (0x0106, s)
      else if noSup then (0x0531, s) else (0, s.modStack (i / 256) (fun k => { k with cap := c }))
    else if noSup then (0x0531, s) else (0, s)
  | 0x00C =>
    if i = 0 then
      if inRun || s.fab.engs.any (fun e => !e.2.out.isEmpty) then (0x0202, s)
      else (0, { s with fab := { s.fab with module := bits v 0 12 } })
    else if i = 1 then
      let n := bits v 0 13
      if n < 1 ∨ 4096 < n then (0x0106, s) else (0, { s with fab := { s.fab with sources := n } })
    else if i / 256 = 1 then
      if (s.fabEng (i % 256)).batch.isSome then (0x0202, s)
      else (0, s.modFab (i % 256) (fun x => { x with spelt := bit v 0 }))
    else (0, s)
  | 0x00D =>
    if i = 0 then
      if inRun then (0x0202, s) else (0, { s with col := { s.col with rank := bits v 0 10, stook := bits v 10 16 } })
    else if 0x1000 ≤ i then
      if inRun then (0x0202, s)
      else (0, { s with col := { s.col with peers := tabPut s.col.peers (i - 0x1000) (bits v 0 12) } })
    else (0, s)
  | 0x010 => if i % 256 = 1 then (0x0202, s) else (0, s)
  | 0x011 =>
    if 0x20000 ≤ i then
      let t := bits v 0 4
      if 10 < t then (0x0106, s)
      else if noSup then (0x0531, s)
      else (0, { s with clk := { s.clk with targets := tabPut s.clk.targets (i - 0x20000) t } })
    else if noSup then (0x0531, s) else (0, s)
  | 0x015 =>
    if 0x10 ≤ i ∧ i < 0x20 then
      if !bit s.scopesNow 1 then (0x0301, s)
      else
        let o := tabGet s.dbg.obs (i - 0x10) {}
        let o := { o with sel := bits v 0 12, enable := bit v 12 }
        (0, { s with dbg := { s.dbg with obs := tabPut s.dbg.obs (i - 0x10) o } })
    else (0, s)
  | 0x016 =>
    if i / 0x10000 = 4 then
      (0, { s with err := { s.err with thresh := tabPut s.err.thresh (i % 0x10000) (bits v 0 16) } })
    else (0, s)
  | _ => if diagPage id then (0x0202, s) else (0, s)

/-- A parameter whose write is a row of its own: RAIL.FLIP, RAIL.MAP, CFG.COMMIT, DBG.CNT, DBG.TRACE, ERR.ACK, and the
entries of ERR.FAULT and ERR.PREV (log entry 19). -/
def ownRow (id : Nat) : Bool :=
  let i := id % 2 ^ 20
  match id / 2 ^ 20 with
  | 0x00A => i == 1 || decide (0x10000 ≤ i)
  | 0x012 => i == 3
  | 0x015 => decide (0x20 ≤ i)
  | 0x016 => i == 1 || i / 0x10000 == 2 || i / 0x10000 == 3
  | _ => false

/-- A write is checked as R386 states and then given to `f`, which applies it: the ID, the length, the reserved fields
(R7), and what the owner states. -/
def checkWrite (id : Nat) (val : List (BitVec 8)) (f : Nat → State → Nat × State) (s : State) : Nat × State :=
  if diagPage id && !bit s.scopesNow 0 then (0x0301, s)
  else match param s id with
    | none => (0x0104, s)
    | some p =>
      let v := ofBytes val % 2 ^ p.width
      if val.length ≠ p.bytes then (0x0103, s)
      else if v &&& p.reserved ≠ 0 then (0x0102, s)
      else f v s

end Sys2Proof.Machine
end

