-- ==== Sys2Proof/Machine/Cmd.lean ====
section
/-! DEFINITION. Command packets: the checks of R379, channels, sessions, parameters, memory transfers and run control
(R371 to R397). -/

namespace Sys2Proof

open Machine

/-! ### The packet (R378) -/

def CmdPkt.fld (p : CmdPkt) (lo len : Nat) : Nat := bits p.hdr.toNat lo len
def CmdPkt.gen (p : CmdPkt) : Nat := p.fld 0 2
def CmdPkt.channel (p : CmdPkt) : Nat := p.fld 4 3
def CmdPkt.opcode (p : CmdPkt) : Nat := p.fld 8 12
def CmdPkt.length (p : CmdPkt) : Nat := p.fld 64 32

/-- The key of the channel on which a packet came (R375). -/
def CmdPkt.chan (p : CmdPkt) : Nat := 8 * p.port + p.channel

/-- Slots that a packet fills (R378). -/
def CmdPkt.slots (p : CmdPkt) : Nat := cdiv (32 + p.payload.length) 64

/-- The command as its reply names it (R378). -/
def CmdPkt.ref (p : CmdPkt) : CmdRef :=
  { port := p.port, channel := p.channel, tag := p.fld 32 16, opcode := p.opcode, quiet := bit p.hdr.toNat 97, gen := p.gen }

/-- A little-endian field of the payload: `n` bytes from byte `i`. -/
def CmdPkt.arg (p : CmdPkt) (i n : Nat) : Nat := le p.payload i n

end Sys2Proof

namespace Sys2Proof.Machine

/-- What R384 says of an opcode's payload: shortest and longest length, a multiple, and the reserved bits of its head
of so many bytes. -/
structure Layout where
  lo : Nat
  hi : Nat
  mult : Nat := 1
  head : Nat := 0
  res : Nat := 0

/-- Bits `lo` to `hi` of a word. -/
def span (lo hi : Nat) : Nat := 2 ^ (hi + 1) - 2 ^ lo

/-- The payload of each assigned opcode (R381, R384, R391, R392, R394, R485, R507). -/
def layoutOf (op : Nat) : Option Layout :=
  match op with
  | 0x000 => some { lo := 8, hi := 8, head := 8, res := span 3 63 }
  | 0x001 => some { lo := 8, hi := 8 }
  | 0x100 => some { lo := 4, hi := 128, mult := 4 }
  | 0x101 => some { lo := 8, hi := 65536, head := 8, res := span 32 63 }
  | 0x200 => some { lo := 9, hi := 65536, head := 8, res := span 41 63 }
  | 0x201 => some { lo := 16, hi := 16, head := 16, res := span 41 63 + span 96 127 }
  | 0x202 => some { lo := 24, hi := 24, head := 24, res := span 41 63 + span 105 127 }
  | 0x300 => some { lo := 8, hi := 8, head := 8, res := span 41 63 }
  | 0x301 => some { lo := 16, hi := 16 }
  | 0x302 => some { lo := 0, hi := 0 }
  | 0x303 => some { lo := 8, hi := 8 }
  | 0x400 => some { lo := 8, hi := 8, head := 8, res := span 41 63 }
  | 0x401 => some { lo := 8, hi := 8, head := 8, res := span 41 63 }
  | 0x500 => some { lo := 8, hi := 8, head := 8, res := span 48 63 }
  | 0x501 => some { lo := 8, hi := 8, head := 8, res := span 16 63 }
  | 0x502 => some { lo := 0, hi := 0 }
  | 0x600 => some { lo := 32, hi := 32 }
  | 0x601 => some { lo := 0, hi := 0 }
  | 0x602 => some { lo := 8, hi := 65536, head := 8, res := span 32 63 }
  | 0x603 => some { lo := 0, hi := 0 }
  | 0x604 => some { lo := 3208, hi := 3208 }
  | 0x605 => some { lo := 0, hi := 0 }
  | 0x700 => some { lo := 40, hi := 40, head := 40, res := span 12 63 }
  | 0x701 => some { lo := 8, hi := 8, head := 8, res := span 8 63 }
  | 0xF00 => some { lo := 8, hi := 8, head := 8, res := span 8 63 }
  | 0xF02 => some { lo := 8, hi := 8, head := 8, res := span 4 63 }
  | _ => none

/-! ### The checks, in the order of R379 -/

/-- Steps 1 to 4: header, session, opcode, payload length and reserved fields (R7, R378 to R384). -/
def formStatus (s : State) (p : CmdPkt) : Nat :=
  let op := p.opcode
  if p.gen = 0 ∨ p.fld 2 2 ≠ 0 ∨ 65536 < p.length ∨ p.length ≠ p.payload.length then 0x0100
  else if (op = 0 ∧ p.gen ≠ 1) ∨ (op ≠ 0 ∧ s.yuley.isOpen ∧ p.gen ≠ s.yuley.gen) then 0x0100
  else if p.fld 7 1 ≠ 0 ∨ p.fld 20 12 ≠ 0 ∨ p.fld 48 16 ≠ 0 ∨ p.fld 96 1 ≠ 0 ∨ p.fld 98 158 ≠ 0 then 0x0102
  else if op ≠ 0 ∧ !s.yuley.isOpen then 0x0201
  else match layoutOf op with
    | none => 0x0101
    | some l =>
      if p.length < l.lo ∨ l.hi < p.length ∨ p.length % l.mult ≠ 0 then 0x0100
      else if p.arg 0 l.head &&& l.res ≠ 0 then 0x0102
      else 0

/-- Bytes that a memory transfer moves (R384). -/
def xferBytes (p : CmdPkt) : Nat :=
  match p.opcode with
  | 0x200 => p.length - 8
  | 0x201 => p.arg 8 4
  | _ => p.arg 8 8

/-- Number of blocks of a kind (R391). -/
def blockCount (kind : Nat) : Nat :=
  match kind with
  | 1 => 8 | 2 => 8 | 3 => 32 | 4 => 26 | 5 => 32 | 6 => 1 | _ => 0

/-- Number of indices of a CALIBRATE action (R392). -/
def calibCount (action : Nat) : Nat :=
  match action with
  | 1 => 1 | 2 => 26 | 3 => 26 | 4 => 2 | _ => 0

/-- Step 5: payload ranges (R193, R231, R363, R366, R381, R388, R391, R392, R507). -/
def rangeStatus (p : CmdPkt) : Nat :=
  match p.opcode with
  | 0x000 => if bit (p.arg 0 1) 0 then 0 else 0x0105
  | 0x200 => if hbmTop < p.arg 0 8 + xferBytes p then 0x0162 else 0
  | 0x201 =>
    if xferBytes p < 1 ∨ 2 ^ 24 < xferBytes p then 0x0103 else if hbmTop < p.arg 0 8 + xferBytes p then 0x0162 else 0
  | 0x202 =>
    if xferBytes p < 1 ∨ hbmTop < xferBytes p then 0x0103 else if hbmTop < p.arg 0 8 + xferBytes p then 0x0162 else 0
  | 0x300 => if p.arg 0 8 % 4096 ≠ 0 then 0x0103 else if hbmTop ≤ p.arg 0 8 then 0x0162 else 0
  | 0x400 => if p.arg 0 8 % 4096 ≠ 0 then 0x0103 else 0
  | 0x401 => if p.arg 0 8 % 4096 ≠ 0 then 0x0103 else 0
  | 0x500 =>
    if blockCount (p.arg 0 1) ≤ p.arg 1 1 ∨ 10000 < p.arg 2 4 then 0x0103
    else if p.arg 0 1 = 2 then 0x0107 else 0
  | 0x501 => if calibCount (p.arg 0 1) ≤ p.arg 1 1 then 0x0103 else 0
  | 0xF00 => if 1 < p.arg 0 1 then 0x0103 else 0
  | 0xF02 => if 8 < p.arg 0 1 then 0x0103 else 0
  | _ => 0

/-- Opcodes that Scribe executes while the module is headless (R385). -/
def headlessOps : List Nat := [0x000, 0x001, 0x100, 0x600, 0x601, 0x700, 0x701]

/-- Opcodes that Scribe executes before the ready state is reported (R462). -/
def earlyOps : List Nat := [0x000, 0x001, 0x100, 0x700, 0x701]

/-- A command needs a supervisor (R402): BLOCK_RESET, RECOVER and action 1 of CALIBRATE; writes of STK, PWR and CLK are
judged with their parameter. -/
def needsSupervisor (p : CmdPkt) : Bool :=
  p.opcode == 0x500 || p.opcode == 0x502 || (p.opcode == 0x501 && p.arg 0 1 == 1)

/-- Step 6: the diagnostics lock, and the presence of a supervisor (R385, R401, R495, R500). -/
def lockStatus (s : State) (p : CmdPkt) : Nat :=
  if 0xF00 ≤ p.opcode ∧ !bit s.scopesNow 0 then 0x0301
  else if s.yuley.headless ∧ p.opcode ∉ headlessOps then 0x0531
  else if s.sup.hold = 0 ∧ needsSupervisor p then 0x0531
  else 0

/-- Something besides a failed stack put the module in the state failed (R388, R468, log entry 56). -/
def failedElsewhere (s : State) : Bool := s.rst.state == 6 && (!s.rst.built || s.rst.dieFault || s.rst.procHalted)

/-- Step 7 as far as it concerns the module as a whole: before the ready state is reported, in the state failed, and before
memory has trained; a transfer is not refused for a failed stack, which it meets (R205, R388, R462, R468, R470, R471, log
entry 56). -/
def readyStatus (s : State) (p : CmdPkt) : Nat :=
  let op := p.opcode
  let isMem := op = 0x200 ∨ op = 0x201 ∨ op = 0x202
  if !s.reported ∧ op ∉ earlyOps then (if op = 0x300 then 0x0213 else 0x0202)
  else if isMem ∧ (s.hbm.size = 0 ∨ failedElsewhere s = true) then 0x0202
  else if op = 0x300 ∧ s.rst.state = 6 then 0x0213
  else if (op = 0x200 ∨ op = 0x202) ∧ s.protects (p.arg 0 8) (xferBytes p) then 0x0261
  else 0

/-- The first failure of the checks of R379 decides the status; 0 where all pass. -/
def cmdStatus (s : State) (p : CmdPkt) : Nat :=
  let a := formStatus s p
  if a ≠ 0 then a
  else
    let b := rangeStatus p
    if b ≠ 0 then b
    else
      let c := lockStatus s p
      if c ≠ 0 then c else readyStatus s p

/-! ### Starting a command (R375 to R377) -/

/-- The grain at which a command's last byte arrived: the one recorded with the first packet of its channel's buffer, or
the present one where the packet arrives at an empty buffer (R389). -/
def arrivalOf (p : CmdPkt) (s : State) : Nat :=
  match (s.chan p.chan).queue with
  | [] => s.now
  | q :: _ => q.2

/-- A run command that another channel could start arrived before this one; at the same grain a lower port, then a lower
channel, goes first (R389). -/
def raceLost (s : State) (p : CmdPkt) : Bool :=
  s.yuley.chans.any (fun x =>
    match x.2.queue with
    | [] => false
    | q :: _ => x.1 != p.chan && x.2.busy.isNone && x.2.held.isEmpty && q.1.opcode / 256 == 3 &&
        (decide (q.2 < arrivalOf p s) || (q.2 == arrivalOf p s && decide (x.1 < p.chan))))

/-- The channel of a packet starts it: nothing is in progress or held, and the packet is next in its buffer, or arrives on
an ACTIVE port at an empty one within credit (R375 to R377). Run commands are taken in order of arrival (R389). A faulted
Scribe starts nothing, and what needs a block under reset waits for the episode's end (R403, R449). -/
def canStart (s : State) (p : CmdPkt) : Bool :=
  let c := s.chan p.chan
  decide (p.port < 2) && s.procUp 3 && c.busy.isNone && c.held.isEmpty && !(p.opcode / 256 == 3 && raceLost s p) &&
    (s.rst.episode.isNone || decide (p.opcode < 0x300) || decide (0x600 ≤ p.opcode)) &&
    (match c.queue with
    | [] => s.portActive p.port && decide (c.used + p.slots ≤ 4096)
    | q :: _ => q.1 == p)

/-- REPRO.RUN once a command has arrived: a memory transfer during an active run, whatever becomes of it, is recorded (R206,
R360). -/
def reproArrived (p : CmdPkt) (s : State) : Repro :=
  { s.repro with transfer := s.repro.transfer || (p.opcode / 256 == 2 && s.runActive) }

/-- The packet leaves its buffer, and its slots count as freed (R372, R376); one that arrives at an empty buffer arrives
now. -/
def takePacket (p : CmdPkt) (s : State) : State :=
  let s := { s with repro := if (s.chan p.chan).queue.isEmpty then reproArrived p s else s.repro }
  s.modChan p.chan (fun c =>
    { c with busy := some p.ref, queue := c.queue.drop 1, used := c.used - p.slots, freed := (c.freed + p.slots) % 2 ^ 28 })

/-- A command row: the packet is the row's, its channel starts it, and the checks decide between their status and `f`
(R375, R379). -/
def runCmd (p : CmdPkt) (mine : Bool) (f : CmdRef → State → State) (s : State) : State :=
  if mine && canStart s p then
    let st := cmdStatus s p
    let s := takePacket p s
    if st = 0 then f p.ref s else finish p.ref st [] s
  else s

/-- COMMAND_OVER_CREDIT: a packet beyond its channel's credit is discarded and counted (R376). -/
def execCommandOverCredit (p : CmdPkt) (s : State) : Host.Outcome State Fault Refusal :=
  .next (if p.port < 2 ∧ s.portActive p.port ∧ 4096 < (s.chan p.chan).used + p.slots then
    s.modPort p.port (fun x => { x with rejected := satAdd x.rejected 1 0xFFFF })
  else s)

/-- COMMAND_UNASSIGNED: a command whose opcode is not assigned is answered 0x0101 (R379, R384). -/
def execCommandUnassigned (p : CmdPkt) (s : State) : Host.Outcome State Fault Refusal :=
  .next (runCmd p (layoutOf p.opcode).isNone (fun c s => finish c 0x0101 [] s) s)

/-! ### Session and parameters (R381 to R387) -/

/-- What HELLO answers: version, largest payload and MOD.ID (R384). -/
def helloReply : List (BitVec 8) := toBytes 16 (1 + 65536 * 2 ^ 32 + modId * 2 ^ 64)

/-- HELLO: the session opens or is renewed, with generation 0b01 (R381 to R383, R394). -/
def execHello (p : CmdPkt) (s : State) : Host.Outcome State Fault Refusal :=
  .next (runCmd p (p.opcode == 0x000) (fun c s =>
    let s := finish c 0 helloReply s
    let y := s.yuley
    { s with yuley := { y with isOpen := true, gen := 1, subs := if y.isOpen then y.subs else [] } }) s)

/-- PING: the value is echoed with TIME.NOW (R384). -/
def execPing (p : CmdPkt) (s : State) : Host.Outcome State Fault Refusal :=
  .next (runCmd p (p.opcode == 0x001) (fun c s => finish c 0 (p.payload.take 8 ++ toBytes 8 s.now) s) s)

/-- The IDs of a PARAM_READ (R384). -/
def readIds (p : CmdPkt) : List Nat := (List.range (p.length / 4)).map (fun i => p.arg (4 * i) 4)

/-- PARAM_READ: the parameters are read in list order; RS fields clear (R5, R386). -/
def execParamRead (p : CmdPkt) (s : State) : Host.Outcome State Fault Refusal :=
  .next (runCmd p (p.opcode == 0x100) (fun c s =>
    let r := readParams (readIds p) s
    finish c r.1 r.2.1 r.2.2) s)

/-- The ID and the value that a PARAM_WRITE carries (R384). -/
def writeId (p : CmdPkt) : Nat := p.arg 0 4
def writeVal (p : CmdPkt) : List (BitVec 8) := p.payload.drop 8

/-- A parameter write with a row of its own: `ids` are the row's parameters, `f` applies the value (R386). -/
def runWrite (p : CmdPkt) (ids : Nat → Bool) (f : Nat → State → Nat × State) (s : State) : State :=
  runCmd p (p.opcode == 0x101 && ids (writeId p)) (fun c s =>
    let r := checkWrite (writeId p) (writeVal p) f s
    finish c r.1 [] r.2) s

/-- PARAM_WRITE: a write of a parameter that has no row of its own (R5, R386). -/
def execParamWrite (p : CmdPkt) (s : State) : Host.Outcome State Fault Refusal :=
  .next (runWrite p (fun id => !ownRow id) (storeParam (writeId p)) s)

/-- RAIL_FLIP_WRITE: a flip is asked for: F lies at least 64 sheaves ahead, the epoch differs, and the previous flip has
drained (R267, R268, R270). -/
def execRailFlipWrite (p : CmdPkt) (s : State) : Host.Outcome State Fault Refusal :=
  .next (runWrite p (· == 0x00A00001) (fun v s =>
    let t := s.railTop
    let f := bits v 0 52
    if t.flipPending || decide (f < s.fleetSheaf + 64) || bit v 52 == t.epoch then (0x0202, s)
    else (0, { s with railTop := { t with flipSheaf := f, flipEpoch := bit v 52, flipPending := true,
                                          contributed := false, result := none, flippedAt := none } })) s)

/-- RAIL_MAP_WRITE: an entry of the map version that is not in use is written (R267, R268, R272). -/
def execRailMapWrite (p : CmdPkt) (s : State) : Host.Outcome State Fault Refusal :=
  .next (runWrite p (fun id => id / 2 ^ 20 == 0x00A && decide (0x10000 ≤ id % 2 ^ 20)) (fun v s =>
    let i := writeId p % 2 ^ 20 - 0x10000
    let t := s.railTop
    if 23 < bits v 24 5 then (0x0106, s)
    else if decide (4096 ≤ i) == t.epoch || t.flippedAt.isSome then (0x0202, s)
    else (0, { s with railTop := { t with map := tabPut t.map i (BitVec.ofNat 32 (v % 2 ^ 29)) } })) s)

/-! ### Memory transfers (R388) -/

/-- The bytes of a write are applied in ascending order up to the first burst that stops it: the bytes applied and the
final status (R198, R388). -/
def writeRange (a : Nat) (d : List (BitVec 8)) (req : Nat) (s : State) : Nat × Nat × State :=
  (burstsOf a d.length).foldl (fun (x : Nat × Nat × State) b =>
    if x.2.1 ≠ 0 then x
    else
      let p := burstPart a d b
      let y := writeBurst b p.1 p.2 req x.2.2
      if y.1 = 0 then (x.1 + p.2.length, 0, y.2)
      else (x.1, if y.1 = 1 then 0x0511 else 0x0412, y.2)) (0, 0, s)

/-- The bytes of a read in address order, the final status, and the state; an uncorrectable burst and a failed stack do
not stop it, a stack in block reset does (R196, R205, R388). -/
def readRange (a n req : Nat) (s : State) : List (BitVec 8) × Nat × State :=
  (burstsOf a n).foldl (fun (x : List (BitVec 8) × Nat × State) b =>
    if x.2.1 = 0x0412 then x
    else
      let lo := max a (32 * b)
      let hi := min (a + n) (32 * b + 32)
      let y := readBurst b req x.2.2
      if y.2.1 = 2 then (x.1, 0x0412, y.2.2)
      else (x.1 ++ (y.1.drop (lo - 32 * b)).take (hi - lo), if y.2.1 = 1 then 0x0511 else x.2.1, y.2.2)) ([], 0, s)

/-- The requester index of a port (R175, R206). -/
def portRequester (p : CmdPkt) : Nat := 154 + p.port

/-- The stacks that a range of bytes touches; 63 granules in a row touch every stack (R194). -/
def stacksOf (a n : Nat) : List Nat :=
  if n = 0 then []
  else setOf ((List.range (min 64 ((a + n - 1) / 2048 - a / 2048 + 1))).map (fun i => hbmStack (2048 * (a / 2048 + i))))

/-- The light between a Yuley site and an HBM site traverses bay (p, g): the service waveguides run along the girt of the
port's row from its west end, and along the post of the site's column (R155, R184, R538, log entry 53). -/
def servicePasses (port h p g : Nat) : Bool :=
  let edge := if port = 0 then 0 else 3
  let row := if h < 16 then 0 else 3
  (g == edge && decide (p ≤ h % 16 / 2)) || (p == h % 16 / 2 && decide (min edge row ≤ g ∧ g ≤ max edge row))

/-- A block of BLOCK_RESET kind and index lies under the stream of a transfer (R174, R184, R391). -/
def Xfer.touches (x : Xfer) (kind i : Nat) : Bool :=
  match kind with
  | 3 => (stacksOf x.addr x.len).contains i
  | 5 => (stacksOf x.addr x.len).any (fun h => servicePasses x.cmd.port h (i % 8) (i / 8))
  | 6 => true
  | _ => false

/-- The stream of a transfer of n bytes, with a tag that no other open stream has: a channel carries one command at a time
(R174, R206, log entry 53). -/
def openXfer (p : CmdPkt) (c : CmdRef) (read : Bool) (n : Nat) : Xfer :=
  { cmd := c, read := read, tag := 0xFF00 + p.chan % 16, addr := p.arg 0 8, len := n }

/-- The stream of a transfer would open through a Sill block under reset (R184, R450). -/
def xferBarred (s : State) (x : Xfer) : Bool :=
  s.rst.blocks.any (fun b => (b.kind == 5 || b.kind == 6) && x.touches b.kind b.index)

/-- The streams of the transfers that a block reset touches are aborted; a write that has stopped keeps its status (R184,
R388). -/
def abortXfers (kind i : Nat) (s : State) : State :=
  let stop := fun (x : Xfer) =>
    if x.touches kind i && (x.read || x.status == 0) then { x with status := 0x0412 } else x
  { s with hbm := { s.hbm with xfers := s.hbm.xfers.map stop } }

/-- A transfer has been checked and is under way; one that arrives during an active run is recorded (R206, R360). -/
def beginXfer (x : Xfer) (s : State) : State :=
  let s := if s.runActive then { s with repro := { s.repro with transfer := true } } else s
  stopScrub { s with hbm := { s.hbm with xfers := s.hbm.xfers ++ [x] } }

/-- A MEM_WRITE or MEM_FILL applies its bytes. -/
def writeXfer (p : CmdPkt) (c : CmdRef) (noise : List HbmUpset) (d : List (BitVec 8)) (s : State) : State :=
  let s := noise.foldl (fun s u => upsetBurst u s) s
  let x := openXfer p c false d.length
  if xferBarred s x then beginXfer { x with status := 0x0412 } s
  else
    let r := writeRange (p.arg 0 8) d (portRequester p) s
    beginXfer { x with applied := r.1, status := r.2.1 } r.2.2

/-- MEM_WRITE: the data is written in ascending order; the reply follows at MEM_TRANSFER_COMPLETE (R388). -/
def execMemWrite (p : CmdPkt) (noise : List HbmUpset) (s : State) : Host.Outcome State Fault Refusal :=
  .next (runCmd p (p.opcode == 0x200) (fun c s => writeXfer p c noise (p.payload.drop 8) s) s)

/-- MEM_READ: the data is read in address order; the reply packets follow at MEM_TRANSFER_COMPLETE (R388). -/
def execMemRead (p : CmdPkt) (noise : List HbmUpset) (s : State) : Host.Outcome State Fault Refusal :=
  .next (runCmd p (p.opcode == 0x201) (fun c s =>
    let s := noise.foldl (fun s u => upsetBurst u s) s
    let x := openXfer p c true (xferBytes p)
    if xferBarred s x then beginXfer { x with status := 0x0412 } s
    else
      let r := readRange (p.arg 0 8) (xferBytes p) (portRequester p) s
      beginXfer { x with data := r.1, status := r.2.1 } r.2.2) s)

/-- MEM_FILL: byte i of the range takes pattern byte (address + i) mod 8 (R388). -/
def execMemFill (p : CmdPkt) (noise : List HbmUpset) (s : State) : Host.Outcome State Fault Refusal :=
  .next (runCmd p (p.opcode == 0x202) (fun c s =>
    let pat := (p.payload.drop 16).take 8
    writeXfer p c noise ((List.range (xferBytes p)).map (fun i => pat.getD ((p.arg 0 8 + i) % 8) 0)) s) s)

/-- The data of a read leaves in packets of at most 65,536 bytes, the last with the final status (R384, R388). -/
def sendChunks : Nat → CmdRef → Nat → List (BitVec 8) → State → State
  | 0, c, st, d, s => finish c st d s
  | n + 1, c, st, d, s =>
    if d.length ≤ 65536 then finish c st d s
    else sendChunks n c st (d.drop 65536) (sendReply c 0 false (d.take 65536) s)

/-- MEM_TRANSFER_COMPLETE: a transfer has moved its bytes, and its reply is sent (R388). -/
def execMemTransferComplete (port : Fin 2) (channel : Fin 8) (s : State) : Host.Outcome State Fault Refusal :=
  let mine := fun (x : Xfer) => x.cmd.port == port.val && x.cmd.channel == channel.val
  .next (match s.hbm.xfers.find? mine with
    | none => s
    | some x =>
      let s := { s with hbm := { s.hbm with xfers := delFirst mine s.hbm.xfers } }
      if x.read then sendChunks 256 x.cmd x.status x.data s
      else finish x.cmd x.status (toBytes 8 x.applied) s)

/-! ### Run control (R37, R231, R367, R389, R390) -/

/-- A list may be loaded: the state is empty, loaded, ended or halted (R231). -/
def loadable (s : State) : Bool :=
  s.cut.state == .empty || s.cut.state == .loaded || s.cut.state == .ended || s.cut.state == .halted

/-- A LOAD is refused for the state it meets: CUT.LOAD shows code 0x15, outside any segment (R233, R234, R241). -/
def noteRefusedLoad (p : CmdPkt) (s : State) : State :=
  if p.opcode == 0x300 && canStart s p && (cmdStatus s p == 0x0213 || (cmdStatus s p == 0 && !loadable s)) then
    { s with cut := { s.cut with loadCode := 0x15, loadSegment := 0xFF, loadQueue := 0xFFFF, loadStep := 0 } }
  else s

/-- LOAD: accepted in empty, loaded, ended and halted; the channel is held until loading ends (R231, R233, R234, R389). -/
def execLoadList (p : CmdPkt) (s : State) : Host.Outcome State Fault Refusal :=
  .next (runCmd p (p.opcode == 0x300) (fun c s =>
    if loadable s then acceptLoad (p.arg 0 8) c s else finish c 0x0213 [] s) (noteRefusedLoad p s))

/-- The conditions of R331 on rank and peers. -/
def ranksOk (s : State) : Bool :=
  let n := s.cut.ranks
  let mods := (List.range n).map (peerOf s)
  decide (s.col.rank < n) && peerOf s s.col.rank == s.fab.module && decide (mods.Nodup)
    && !s.cut.cpostRanks.contains s.col.rank

/-- A start or resume grain is accepted: a multiple of 4,096 at least 16 sheaves after the grain at which the command
arrived (R37, R331, R367, R389). -/
def grainOk (s : State) (arrived g : Nat) : Bool :=
  g % 4096 == 0 && decide (arrived + 16 * 4096 ≤ g) && ranksOk s

/-- START: the loaded list is armed (R37, R389). -/
def execStartRun (p : CmdPkt) (s : State) : Host.Outcome State Fault Refusal :=
  let came := arrivalOf p s
  .next (runCmd p (p.opcode == 0x301) (fun c s =>
    if s.cut.state == .loaded && grainOk s came (p.arg 0 8) then
      finish c 0 [] { s with cut := { s.cut with state := .armed, startAt := some (p.arg 0 8), resumeMark := none,
                                                 seed := BitVec.ofNat 64 (p.arg 8 8) } }
    else finish c 0x0202 [] s) s)

/-- The first mark whose first CKPT has not issued on this module (R229). -/
def nextMark (s : State) : Option Nat :=
  (List.range s.cut.marks.length).find? (fun m => s.engines.all (fun e => e.2.ckpts.all (fun c => c.1 != m)))

/-- A pause is asked for at the next mark, where none is asked for yet (R229). -/
def askPause (s : State) : State :=
  if s.cut.pausePend then s
  else { s with cut := { s.cut with pausePend := true, pauseMark := nextMark s } }

/-- PAUSE: accepted in armed and running; it joins a pause that is pending (R229, R390, R438). -/
def execPauseRun (p : CmdPkt) (s : State) : Host.Outcome State Fault Refusal :=
  .next (runCmd p (p.opcode == 0x302) (fun c s =>
    if s.cut.state == .armed || s.cut.state == .running then
      let s := askPause s
      { s with cut := { s.cut with pauseCmds := s.cut.pauseCmds ++ [c] } }
    else finish c 0x0202 [] s) s)

/-- RESUME: a paused run is armed again at its resume grain (R367, R389). -/
def execResumeRun (p : CmdPkt) (s : State) : Host.Outcome State Fault Refusal :=
  let came := arrivalOf p s
  .next (runCmd p (p.opcode == 0x303) (fun c s =>
    if s.cut.state == .paused && grainOk s came (p.arg 0 8) then
      finish c 0 [] { s with cut := { s.cut with state := .armed, startAt := some (p.arg 0 8) } }
    else finish c 0x0202 [] s) s)

/-! ### Calibration (R182, R259, R262, R392) -/

/-- CALIBRATE action 1: Sill lane calibration; an action that R392 does not list is answered 0x0103 here. -/
def execCalibrateSillLanes (p : CmdPkt) (s : State) : Host.Outcome State Fault Refusal :=
  .next (runCmd p (p.opcode == 0x501 && (calibCount (p.arg 0 1) == 0 || p.arg 0 1 == 1)) (fun c s =>
    if s.cut.state == .armed || s.cut.state == .running then finish c 0x0202 [] s
    else { s with sill := { s.sill with calibrating := s.sill.calibrating ++ [c], calibOn := true } }) s)

/-- SILL_LANE_CALIBRATION_DONE: `failing` are the lanes found failing beside the parked ones, and `cals` what the calibration of
their rings measured; the commands complete (R182, R277, R392). -/
def execSillLaneCalibrationDone (failing : List (Fin 1064960)) (cals : RingCals) (s : State) : Host.Outcome State Fault Refusal :=
  .next (if s.sill.calibOn then
    let s := calibrateLanes (failing.map (·.val)) cals s
    let cs := s.sill.calibrating
    finishAll cs 0 { s with sill := { s.sill with calibrating := [], calibOn := false } }
  else s)

/-- A rail is trained afresh from DOWN or FAILED, with its attempts cleared (R259, R392). -/
def retrainRail (r : Nat) (s : State) : State :=
  let s := s.modRail r (fun x => { x with heldDown := false })
  let x := s.rail r
  if (x.state = 0 ∨ x.state = 7) ∧ !Config.railFusedBad r ∧ !x.reset ∧ !s.railHeld r ∧ !edgeDark s (railEdge r) then
    enterLink r 1 (s.modRail r (fun x => { x.fresh with attempts := 0 }))
  else s

/-- CALIBRATE action 2: a rail in DOWN or FAILED retrains, and the command completes at STANDBY or FAILED; in any other
state, or where the rail cannot train, it completes at once (R262, R392). -/
def execCalibrateRetrainRail (p : CmdPkt) (s : State) : Host.Outcome State Fault Refusal :=
  .next (runCmd p (p.opcode == 0x501 && p.arg 0 1 == 2) (fun c s =>
    let r := p.arg 1 1
    let st := (s.rail r).state
    if st = 0 ∨ st = 7 then
      let s := retrainRail r s
      if (s.rail r).state = 1 then s.modRail r (fun x => { x with calib := some c }) else finish c 0 [] s
    else finish c 0 [] s) s)

/-- CALIBRATE action 3: the rail is held DOWN, with RAIL_DOWN where it was ACTIVE; a retraining under way ends (R262,
R392). -/
def execCalibrateHoldDown (p : CmdPkt) (s : State) : Host.Outcome State Fault Refusal :=
  .next (runCmd p (p.opcode == 0x501 && p.arg 0 1 == 3) (fun c s =>
    let r := p.arg 1 1
    let s := railDown r 4 0 s
    finish c 0 [] (answerTrain r (s.modRail r (fun x => { x with heldDown := true })))) s)

/-- CALIBRATE action 4: the port's delay is measured again; the command completes with the measurement (R28, R392). -/
def execCalibrateRemeasureDelay (p : CmdPkt) (s : State) : Host.Outcome State Fault Refusal :=
  .next (runCmd p (p.opcode == 0x501 && p.arg 0 1 == 4) (fun c s =>
    addJob { port := p.arg 1 1, only := true, cmd := some c } s) s)

/-! ### Events (R393 to R395) -/

/-- EVT_SUBSCRIBE: the group's mask and channel are replaced (R394). -/
def execEvtSubscribe (p : CmdPkt) (s : State) : Host.Outcome State Fault Refusal :=
  .next (runCmd p (p.opcode == 0x700) (fun c s =>
    let v := p.arg 0 40
    let sub : Sub := { mask := BitVec.ofNat 256 (bits v 64 256), channel := bits v 8 3, enabled := bit v 11 }
    finish c 0 [] { s with yuley := { s.yuley with subs := tabPut s.yuley.subs (bits v 0 8) sub } }) s)

/-- A subscription as EVT_QUERY answers it (R384). -/
def subBytes (x : Sub) : List (BitVec 8) := toBytes 64 (x.channel + b2n x.enabled * 8 + x.mask.toNat * 2 ^ 256)

/-- EVT_QUERY: the group's subscription (R384). -/
def execEvtQuery (p : CmdPkt) (s : State) : Host.Outcome State Fault Refusal :=
  .next (runCmd p (p.opcode == 0x701) (fun c s =>
    finish c 0 (subBytes (tabGet s.yuley.subs (p.arg 0 1) {})) s) s)

/-- EVENT_RECORD: Scribe receives the first event that one raiser holds: it takes its eseq, and is logged and queued
(R393, R529 to R535). Nothing is received while Scribe is not running (R403, R529). -/
def execEventRecord (raiser : Fin 16) (s : State) : Host.Outcome State Fault Refusal :=
  let mine := fun (r : Record) => r.raiser == raiser.val
  .next (match s.err.raised.find? mine with
    | none => s
    | some r =>
      if !s.procUp 3 then s
      else recordEvent r { s with err := { s.err with raised := delFirst mine s.err.raised } })

/-- The payload of an EVENT packet (R393). -/
def eventPayload (r : Record) (lost : Nat) : List (BitVec 8) :=
  toBytes 64 (packWord [(0, 16, r.code), (32, 32, r.eseq), (64, 64, r.grain), (128, 16, r.engine), (144, 16, min lost 0xFFFF),
    (256, 64, r.w0), (320, 64, r.w1), (384, 64, r.w2), (448, 64, r.w3)])

/-- EVENT_SEND: the first event of the queue leaves on the subscribed channel, on port 0 while it is ACTIVE and otherwise
on port 1; an event whose group has been disabled since is not sent (R393 to R395, log entry 60). -/
def execEventSend (s : State) : Host.Outcome State Fault Refusal :=
  .next (match s.yuley.events, s.portFor 0 with
    | r :: rest, some q =>
      let y := s.yuley
      let sub := tabGet y.subs (r.code / 256) {}
      let p : YPacket := { port := q, channel := sub.channel, ptype := 2, opcode := 0x710,
                           overflow := decide (0 < y.dropped), payload := eventPayload r y.dropped }
      if sub.enabled then { s with yuley := { y with events := rest, dropped := 0, sent := y.sent ++ [p] } }
      else { s with yuley := { y with events := rest } }
    | _, _ => s)

/-- REPLY_RELEASE: a port is ACTIVE again, and the replies that a channel held are sent (R377). -/
def execReplyRelease (port : Fin 2) (channel : Fin 8) (s : State) : Host.Outcome State Fault Refusal :=
  let k := 8 * port.val + channel.val
  .next (match s.portFor port.val with
    | none => s
    | some q =>
      let out := (s.chan k).held.map (fun p => { p with port := q })
      let s := { s with yuley := { s.yuley with sent := s.yuley.sent ++ out } }
      s.modChan k (fun c => { c with held := [] }))

/-! ### Diagnostics (R505 to R507) -/

/-- DIAG_CATALOG: the part's catalogue of leaves or pages (R507, log entry 24). -/
def execDiagCatalog (p : CmdPkt) (s : State) : Host.Outcome State Fault Refusal :=
  .next (runCmd p (p.opcode == 0xF00) (fun c s => sendChunks 256 c 0 (Config.diagCatalog (p.arg 0 1)) s) s)

/-- TRACE_READ: the entries of a buffer, oldest first (R507). -/
def execTraceRead (p : CmdPkt) (s : State) : Host.Outcome State Fault Refusal :=
  .next (runCmd p (p.opcode == 0xF02) (fun c s =>
    sendChunks 256 c 0 ((tabGet s.dbg.trace (p.arg 0 1) {}).entries.flatMap (fun e => toBytes 16 e.toNat)) s) s)

/-- DBG_CNT_WRITE: a counter takes the value written (R505, R510). -/
def execDbgCntWrite (p : CmdPkt) (s : State) : Host.Outcome State Fault Refusal :=
  .next (runWrite p (fun id => decide (0x01500020 ≤ id ∧ id < 0x01500030)) (fun v s =>
    let n := writeId p - 0x01500020
    let o := tabGet s.dbg.obs n {}
    (0, { s with dbg := { s.dbg with obs := tabPut s.dbg.obs n { o with count := BitVec.ofNat 48 (v + b2n o.edge) } } })) s)

/-- DBG_TRACE_WRITE: a write of mode clears the buffer and starts or stops its capture; mode 3 is refused, and scope diag
is needed (R500, R506, R510). -/
def execDbgTraceWrite (p : CmdPkt) (s : State) : Host.Outcome State Fault Refusal :=
  .next (runWrite p (fun id => id / 2 ^ 20 == 0x015 && decide (0x30 ≤ id % 2 ^ 20)) (fun v s =>
    let n := writeId p - 0x01500040
    let m := bits v 0 2
    if m = 3 then (0x0106, s)
    else if !bit s.scopesNow 0 then (0x0301, s)
    else (0, { s with dbg := { s.dbg with trace := tabPut s.dbg.trace n { mode := m, capture := m != 0 } } })) s)

/-! ### Acknowledging records (R532, R533) -/

/-- ERR_ACK: every log record up to v is acknowledged; v lies between the oldest eseq held and the last (R532). -/
def execErrAck (p : CmdPkt) (s : State) : Host.Outcome State Fault Refusal :=
  .next (runWrite p (· == 0x01600001) (fun v s =>
    let v := v % 2 ^ 32
    if s.err.log.isEmpty ∨ v < oldestSeq s ∨ s.yuley.nextSeq ≤ v then (0x0106, s)
    else
      let log := s.err.log.map (fun r => (r.1, if r.2.eseq ≤ v then { r.2 with pend := false } else r.2))
      (0, { s with err := { s.err with log := log, ackReg := v } })) s)

/-- FAULT_ACK: a 1 written to pending acknowledges an entry of ERR.FAULT or ERR.PREV, unless its event falls in the same grain
(R5, R533). -/
def execFaultAck (p : CmdPkt) (s : State) : Host.Outcome State Fault Refusal :=
  .next (runWrite p (fun id => id / 2 ^ 16 == 0x0162 || id / 2 ^ 16 == 0x0163) (fun v s =>
    let k := writeId p % 2 ^ 16
    let e := s.err
    if !bit v 19 then (0, s)
    else if writeId p / 2 ^ 16 = 0x0162 then
      let r := tabGet e.fault k {}
      if r.pend && r.grain != s.now then
        (0, { s with err := { e with fault := tabPut e.fault k { r with pend := false },
                                     dirty := e.dirty.orElse (fun _ => some s.now) } })
      else (0, s)
    else
      let r := tabGet e.prev k {}
      if r.pend && r.grain != s.now then (0, { s with err := { e with prev := tabPut e.prev k { r with pend := false } } }) else (0, s)) s)

end Sys2Proof.Machine
end

