-- ==== Sys2Proof/Machine/Save.lean ====
section
/-! DEFINITION. Saving a paused run to a checkpoint image and restoring it (R363 to R368). -/

namespace Sys2Proof.Machine

/-! ### The image (R364, R365) -/

/-- Tiller slots of an image: 2,048 for a portable list, 2,304 for a placed one (R365). -/
def imgSlots (kind : Nat) : Nat := if kind = 0 then 2048 else 2304

/-- Where the sections of an image start, in the order of R365, and its length at the end. -/
def imgOffsets (kind : Nat) : List Nat :=
  let t := imgSlots kind
  let sizes := [4096, t * 1024, t * 295040, t * 1572864, t * 14680064, 262144, 26 * 16777216, 26 * 524288, 2097152]
  sizes.foldl (fun l n => l ++ [l.getLastD 0 + n]) [0]

def imgOff (kind i : Nat) : Nat := (imgOffsets kind).getD i 0

/-- The length of an image (R365). -/
def imgLen (kind : Nat) : Nat := imgOff kind 9

/-- The key of the tiller that a slot holds: by logical index under a portable list, by physical number under a placed
one (R365). -/
def slotKey (s : State) (k : Nat) : Option Nat :=
  if s.cut.kind = 0 then (mapPhys s.cut.logMap (k / 256) (k % 256)).map (fun p => k / 256 * 288 + p)
  else if (s.dieFloor (k / 288)).enabled.contains (k % 288) then some k else none

/-- The token counters of an engine as 64 words of 32 bits (R365). -/
def tokenBytes (g : Engine) : List (BitVec 8) :=
  (List.range 64).flatMap (fun c =>
    let t := countOf g c
    toBytes 4 (t.count % 2 ^ 16 + t.mask % 8 * 2 ^ 16 + b2n t.err * 2 ^ 19))

/-- The queue resume index: the step that follows the queue's CKPT for the mark (R228, R365). -/
def resumeIndex (s : State) (g : Engine) : Nat :=
  match g.ckpts.find? (fun c => some c.1 == s.cut.resumeMark) with
  | some c => c.2 + 1
  | none => 0

/-- The fields of TIL.FLAGS as a word (R89). -/
def flagBits (t : Tiller) : Nat :=
  b2n t.lowLoss + b2n t.highClamp * 2 + b2n t.anchorMis * 4 + b2n t.selRange * 8 + b2n t.dataError * 16
    + b2n t.invalid * 32

/-- A tiller's record of 1 KiB; without a queue every field is 0 (R365). -/
def tillerRecord (s : State) (key : Nat) : List (BitVec 8) :=
  let t := s.tiller key
  let g := s.engine (tillerEngine key)
  if !g.present then List.replicate 1024 0 else tokenBytes g ++ (List.range 8).flatMap (fun j => toBytes 1 (tabGet t.sel j 0)) ++ toBytes 8 t.rng.toNat
    ++ toBytes 6 g.cursor ++ toBytes 2 0 ++ toBytes 4 (resumeIndex s g) ++ toBytes 4 (flagBits t) ++ List.replicate 736 0

/-- The engine of a record of the engines section: stream engines, die sequencers, the Sill sequencer, collective
engines (R365). -/
def recordEngine (i : Nat) : Nat :=
  if i < 128 then 0x4000 + i else if i < 136 then 0x2000 + (i - 128) else if i = 136 then 0x3000 else 0x5000 + (i - 137)

/-- An engine's record of 1 KiB: counters, cursor at byte 256, resume index at 264, and for the Sill sequencer the peg-plan
epoch at 268 and its address at 272; without a queue every field is 0 (R365, log entry 25). -/
def engineRecord (s : State) (i : Nat) : List (BitVec 8) :=
  let g := s.engine (recordEngine i)
  let plan := i = 136
  if !g.present then List.replicate 1024 0
  else tokenBytes g ++ toBytes 8 g.cursor ++ toBytes 4 (resumeIndex s g)
    ++ toBytes 4 (if plan then b2n s.sill.epoch else 0) ++ toBytes 4 (if plan then s.sill.addr else 0)
    ++ List.replicate 748 0

/-- A packet of an early store in 512 bytes (R365). -/
def packetBytes (p : Packet) : List (BitVec 8) :=
  ((p.slots.flatMap (fun (x : BitVec 512) => toBytes 64 x.toNat)) ++ List.replicate 512 0).take 512

/-- The sequences word of an engine and a destination (R365). -/
def seqWord (s : State) (e m : Nat) : Nat :=
  let x := s.fabEng e
  let d := tabGet x.dests m {}
  d.next % 2 ^ 24 + d.window % 2 ^ 11 * 2 ^ 24 + b2n x.spelt * 2 ^ 35

/-- The header of an image, with a digest (R364). -/
def imgHeader (s : State) (digest : Nat) : List (BitVec 8) :=
  let c := s.cut
  toBytes 256 (packWord [(0, 32, 0x4B435146), (32, 8, 1), (40, 8, c.kind), (48, 16, c.ranks), (64, 10, s.col.rank),
    (80, 12, s.fab.module), (96, 16, c.resumeMark.getD 0), (128, 48, c.sheaf), (192, 32, min c.idle 0xFFFFFFFF),
    (224, 32, reproWord s), (256, 64, c.seed.toNat), (320, 64, imgLen c.kind), (384, 512, c.digest.toNat),
    (896, 256, if c.kind = 1 then c.floorDigest.toNat else 0), (1152, 512, digest)])

/-- The bytes of a tiller slot in a section, zeros where its tiller is disabled (R365). -/
def slotBytes (s : State) (n : Nat) (f : Nat → List (BitVec 8)) : List (BitVec 8) :=
  (List.range (imgSlots s.cut.kind)).flatMap (fun k =>
    match slotKey s k with | some key => f key | none => List.replicate n 0)

/-- The sections of an image behind its header (R365). -/
def imgBody (s : State) : List (BitVec 8) :=
  List.replicate 3840 0
    ++ slotBytes s 1024 (tillerRecord s)
    ++ slotBytes s 295040 (fun key => binRecord (s.tiller key).bank0 ++ binRecord (s.tiller key).bank1)
    ++ slotBytes s 1572864 (fun key => s.lsBytes (lsAddr key 0) 1572864)
    ++ slotBytes s 14680064 (fun key => memBytes 0 s.crib (cribAddr key 0) 14680064)
    ++ (List.range 163).flatMap (engineRecord s) ++ List.replicate (93 * 1024) 0
    ++ (List.range 26).flatMap (fun r => areaBytes s r 0 16777216)
    ++ (List.range 26).flatMap (fun r =>
      let e := (s.colEng r).early
      (List.range 1024).flatMap (fun i => packetBytes ((e[i]?).map (·.1) |>.getD {})))
    ++ (List.range 64).flatMap (fun e => (List.range 4096).flatMap (fun m => toBytes 8 (seqWord s e m)))

/-- The digest of an image: SHAKE256 over its bytes with the digest field taken as 0 (R364). -/
def imgDigest (b : List (BitVec 8)) : Nat := shakeNat (b.take 144 ++ List.replicate 64 0 ++ b.drop 208) 64

/-- The image of a paused run (R364, R365). -/
def imageOf (s : State) : List (BitVec 8) :=
  let body := imgBody s
  imgHeader s (imgDigest (imgHeader s 0 ++ body)) ++ body

/-- Two ranges of bytes overlap. -/
def overlaps (a n b m : Nat) : Bool := decide (a < b + m ∧ b < a + n)

/-- SAVE: accepted in paused, with a region that is mapped and clear of the cut-list image and of other saves (R363,
R366). -/
def execSaveImage (p : CmdPkt) (s : State) : Host.Outcome State Fault Refusal :=
  .next (runCmd p (p.opcode == 0x400) (fun c s =>
    let a := p.arg 0 8
    let n := imgLen s.cut.kind
    if s.cut.state != .paused then finish c 0x0221 [] s
    else if hbmTop < a + n ∨ overlaps a n s.cut.base s.cut.len ∨ s.cut.saves.any (fun j => overlaps a n j.addr j.len) then
      finish c 0x0172 [] s
    else { s with cut := { s.cut with saves := s.cut.saves ++ [{ cmd := c, addr := a, len := n }] } }) s)

/-- SAVE_COMPLETE: the image is written and the command completes with its length; the state stays paused (R363). -/
def execSaveComplete (port : Fin 2) (channel : Fin 8) (noise : List HbmUpset) (s : State) :
    Host.Outcome State Fault Refusal :=
  let mine := fun (j : SaveJob) => j.cmd.port == port.val && j.cmd.channel == channel.val
  .next (match s.cut.saves.find? mine with
    | none => s
    | some j =>
      let s := { s with cut := { s.cut with saves := delFirst mine s.cut.saves } }
      if s.cut.state != .paused then finish j.cmd 0x0221 [] s
      else
        let s := noise.foldl (fun s u => upsetBurst u s) s
        let r := writeRange j.addr (imageOf s) 171 s
        if r.2.1 = 0 then finish j.cmd 0 (toBytes 8 j.len) r.2.2 else finish j.cmd r.2.1 [] r.2.2)

/-! ### Restoring (R366) -/

/-- RESTORE: accepted in loaded; the checks follow as the image is read (R366). -/
def execRestoreImage (p : CmdPkt) (s : State) : Host.Outcome State Fault Refusal :=
  .next (runCmd p (p.opcode == 0x401) (fun c s =>
    if s.cut.state != .loaded || s.cut.restore.isSome then finish c 0x0221 [] s
    else { s with cut := { s.cut with restore := some { cmd := c, addr := p.arg 0 8 } } }) s)

/-- A field of the header of an image. -/
def ihdr (b : List (BitVec 8)) (lo len : Nat) : Nat := bits (le b 0 256) lo len

/-- Header fields valid under R364. -/
def imgHeaderOk (b : List (BitVec 8)) : Bool :=
  let k := ihdr b 40 8
  ihdr b 0 32 == 0x4B435146 && ihdr b 32 8 == 1 && decide (k ≤ 1) && ihdr b 74 6 == 0 && ihdr b 92 4 == 0
    && ihdr b 112 16 == 0 && ihdr b 176 16 == 0 && ihdr b 320 64 == imgLen k && (k == 1 || ihdr b 896 256 == 0)
    && ihdr b 1664 384 == 0

/-- The checks 3 to 5 of R366: list, floor plan, and module, rank and ranks. -/
def imgIdentity (s : State) (b : List (BitVec 8)) : Nat :=
  let k := ihdr b 40 8
  if ihdr b 384 512 ≠ s.cut.digest.toNat ∨ k ≠ s.cut.kind then 0x0222
  else if k = 1 ∧ ihdr b 896 256 ≠ s.cut.floorDigest.toNat then 0x0223
  else if k = 0 ∧ (List.range 8).any (fun d => decide ((s.dieFloor d).enabled.length < 256)) then 0x0223
  else if ihdr b 80 12 ≠ s.fab.module ∨ ihdr b 64 10 ≠ s.col.rank ∨ ihdr b 48 16 ≠ s.cut.ranks then 0x0224
  else 0

/-- Token counters from 64 words (R365). -/
def tokensOf (now : Nat) (f : Nat → Nat) : List (Nat × Token) :=
  (List.range 64).foldl (fun t c =>
    let w := f c
    if w = 0 then t
    else tabPut t c { count := bits w 0 16, mask := bits w 16 3, err := bit w 19, since := now }) []

/-- An engine of the loaded list as an image holds it: counters, cursor and resume index; its queue is refilled from there
(R228, R366). -/
def restoredEngine (s : State) (mark a : Nat) (cursor idx : Nat) (g : Engine) : Engine :=
  let hb := fun (x n : Nat) => memNat s.hbm.mem x n
  let n := min 64 (g.total - idx)
  let words := (List.range n).map (fun i => (BitVec.ofNat 128 (hb (g.array + 16 * (idx + i)) 16) : StepWord))
  let qs := qsteps idx cursor words
  { g with tokens := tokensOf s.now (fun c => hb (a + 4 * c) 4), cursor := cursor, queue := qs, next := idx + n, filled := idx + n,
           early := [],
           fetchCursor := (qs.getLast?.map (·.sheaf)).getD cursor, flight := [], stopped := false, ended := false,
           ckpts := (List.range (mark + 1)).map (fun m => (m, if m = mark then idx - 1 else 0)) }

/-- A bin bank from a raw record in memory (R67). -/
def memBank (s : State) (a : Nat) : Bank :=
  let hb := fun (x n : Nat) => memNat s.hbm.mem x n
  { anchor := BitVec.ofNat 16 (hb a 2), low := bit (hb (a + 2) 1) 0, high := bit (hb (a + 2) 1) 1
    bins := binTable (fun i => binInt (BitVec.ofNat 192 (hb (a + 64 + 24 * i) 24))) }

/-- One tiller takes its slot of every tiller section (R365, R366). -/
def restoreTiller (base mark : Nat) (s : State) (k : Nat) : State :=
  match slotKey s k with
  | none => s
  | some key =>
    let hb := fun (x n : Nat) => memNat s.hbm.mem x n
    let kind := s.cut.kind
    let a := base + imgOff kind 1 + 1024 * k
    let f := hb (a + 284) 4
    let bin := base + imgOff kind 2 + 295040 * k
    let s := s.modTiller key (fun t =>
      { t with sel := (List.range 8).map (fun j => (j, hb (a + 256 + j) 1)), rng := BitVec.ofNat 64 (hb (a + 264) 8)
               lowLoss := bit f 0, highClamp := bit f 1, anchorMis := bit f 2, selRange := bit f 3, dataError := bit f 4
               invalid := bit f 5, bank0 := memBank s bin, bank1 := memBank s (bin + 147520) })
    let e := tillerEngine key
    let s := if (s.engine e).present then
      s.modEngine e (restoredEngine s mark a (hb (a + 272) 6) (hb (a + 280) 4)) else s
    let ls := memBytes 0 s.hbm.mem (base + imgOff kind 3 + 1572864 * k) 1572864
    let cr := memBytes 0 s.hbm.mem (base + imgOff kind 4 + 14680064 * k) 14680064
    let lo := key * 57344
    { s with localStore := memStore 0 s.localStore (lsAddr key 0) ls, crib := memStore 0 s.crib (cribAddr key 0) cr,
             cribErr := s.cribErr.filter (fun r => decide (r.1 < lo ∨ lo + 57344 ≤ r.1)) }

/-- One engine takes its record of the engines section (R365, R366). -/
def restoreEngine (base mark : Nat) (s : State) (i : Nat) : State :=
  let a := base + imgOff s.cut.kind 5 + 1024 * i
  let e := recordEngine i
  if (s.engine e).present then
    s.modEngine e (restoredEngine s mark a (memNat s.hbm.mem (a + 256) 6) (memNat s.hbm.mem (a + 264) 4))
  else s

/-- The packets of an early store; the rail on which they came is not in the image (R365, log entry 25). -/
def restoreEarly (base : Nat) (s : State) (r : Nat) : State :=
  let at_ := fun (i : Nat) => base + imgOff s.cut.kind 7 + 524288 * r + 512 * i
  let pkt := fun (i : Nat) =>
    let sl := (List.range 8).map (fun j => BitVec.ofNat 512 (memNat s.hbm.mem (at_ i + 64 * j) 64))
    framePackets 1 sl
  s.modCol r (fun e => { e with early := ((List.range 1024).flatMap pkt).map (fun p => (p, 26)) })

/-- The sequences of an engine (R365, R366). -/
def restoreSeqs (base : Nat) (s : State) (e : Nat) : State :=
  let w := fun (m : Nat) => memNat s.hbm.mem (base + imgOff s.cut.kind 8 + 8 * (4096 * e + m)) 8
  let dests := (List.range 4096).map (fun m =>
    let q := bits (w m) 0 24
    (m, ({ next := q, done := q, window := bits (w m) 24 11 } : DestState)))
  s.modFab e (fun x => { x with dests := dests, spelt := bit (w 0) 35 })

/-- The fields of REPRO.RUN from an image (R360). -/
def reproOf (v : Nat) : Repro :=
  { loaded := true, stepError := bit v 2, binSat := bit v 3, transfer := bit v 4, timeTol := bit v 5, ceiling := bit v 6
    halfWidth := bit v 7, resumed := bit v 8, remoteIn := bit v 9, fadd := bit v 10, narrow := bit v 11
    remoteDelay := bit v 12, tallyMiss := bit v 13 }

/-- The peg plan of the image is in effect again: address 0 stands for the rest plan (R163, R365, log entry 25). -/
def restorePlan (base : Nat) (s : State) : State :=
  let a := base + imgOff s.cut.kind 5 + 1024 * 136
  let epoch := bit (memNat s.hbm.mem (a + 268) 1) 0
  let addr := memNat s.hbm.mem (a + 272) 4 % 2 ^ 31
  let plan := if addr = 0 then [] else (planPegs (memBytes 0 s.hbm.mem (1024 * addr) 1024)).1
  let x := s.sill
  let x := if epoch then { x with plan1 := plan } else { x with plan0 := plan }
  settlePegs { s with sill := { x with epoch := epoch, addr := addr, pending := false } }

/-- Every section goes into its place, and the run is paused at the image's mark (R366). -/
def restoreAll (base : Nat) (b : List (BitVec 8)) (s : State) : State :=
  let mark := ihdr b 96 16
  let s := (List.range (imgSlots s.cut.kind)).foldl (restoreTiller base mark) s
  let s := (List.range 163).foldl (restoreEngine base mark) s
  let s := (List.range 26).foldl (fun s r =>
    railStore r 0 (memBytes 0 s.hbm.mem (base + imgOff s.cut.kind 6 + 16777216 * r) 16777216) s) s
  let s := (List.range 26).foldl (restoreEarly base) s
  let s := (List.range 64).foldl (restoreSeqs base) s
  let s := restorePlan base s
  { s with
    repro := reproOf (ihdr b 224 32)
    cut := { s.cut with state := .paused, resumeMark := some mark, lastMark := mark, sheaf := ihdr b 128 48
                        idle := ihdr b 192 32, seed := BitVec.ofNat 64 (ihdr b 256 64) } }

/-- RESTORE_COMPLETE: the image is read and tested in the order of R366; the first check that fails decides the status and
keeps the state loaded. -/
def execRestoreComplete (noise : List HbmUpset) (s : State) : Host.Outcome State Fault Refusal :=
  .next (match s.cut.restore with
    | none => s
    | some j =>
      let s := { s with cut := { s.cut with restore := none } }
      if s.cut.state != .loaded then finish j.cmd 0x0221 [] s
      else
        let s := noise.foldl (fun s u => upsetBurst u s) s
        let h := readRange j.addr (min 256 (hbmTop - j.addr)) 171 s
        let s := h.2.2
        let n := ihdr h.1 320 64
        if h.2.1 = 0x0412 then finish j.cmd 0x0412 [] s
        else if !imgHeaderOk h.1 then finish j.cmd 0x0171 [] s
        else if hbmTop < j.addr + n ∨ overlaps j.addr n s.cut.base s.cut.len then finish j.cmd 0x0172 [] s
        else if imgIdentity s h.1 ≠ 0 then finish j.cmd (imgIdentity s h.1) [] s
        else
          let r := readRange (j.addr + 256) (n - 256) 171 s
          let s := r.2.2
          if r.2.1 = 0x0412 then finish j.cmd 0x0412 [] s
          else if imgDigest (h.1 ++ r.1) ≠ ihdr h.1 1152 512 then finish j.cmd 0x0321 [] s
          else if h.2.1 ≠ 0 ∨ r.2.1 ≠ 0 then finish j.cmd 0x0521 [] s
          else finish j.cmd 0 [] (restoreAll j.addr h.1 s))

end Sys2Proof.Machine
end

