-- ==== Sys2Proof/Machine/Proc.lean ====
section
/-! DEFINITION. The rows of the processors: mailboxes, faults and restarts, interrupts, sleep (16_processors.md). -/

namespace Sys2Proof.Machine

/-- A two-bit count in Gray code after so many more edges (R406). -/
def grayAdd (g : BitVec 2) (k : Nat) : BitVec 2 :=
  let n := (g.toNat ^^^ (g.toNat / 2)) + k
  BitVec.ofNat 2 (n % 4 ^^^ n % 4 / 2)

/-- The edge counter of a source counts, and the controller notes the grain and what it held before it (R406, R407). -/
def noteEdges (now src k : Nat) (x : Proc) : Proc :=
  let r := tabGet x.edges src {}
  let r := if r.grain = some now then { r with k := r.k + k }
    else { grain := some now, k := k, pend := bit x.pend.toNat src, ovr := bit x.ovr.toNat src }
  { x with gray := tabPut x.gray src (grayAdd (tabGet x.gray src 0) k), edges := tabPut x.edges src r }

/-- One source's edges reach its controller: a sleeping processor's latch counts them up to 3, and otherwise pending and
overrun change (R406, R410). -/
def sourceEdges (p src k : Nat) (s : State) : State :=
  let m := BitVec.ofNat 64 (2 ^ src)
  let now := s.now
  s.modProc p (fun x =>
    let x := if k = 0 then x else noteEdges now src k x
    if k = 0 then x
    else if x.state = 4 then { x with latch := tabPut x.latch src (min 3 (tabGet x.latch src 0 + k)) }
    else if bit x.pend.toNat src then { x with ovr := x.ovr ||| m }
    else if k = 1 then { x with pend := x.pend ||| m }
    else { x with pend := x.pend ||| m, ovr := x.ovr ||| m })

/-- A source line takes a level; a fall ends a stuck episode (R406, R409). -/
def sourceLine (p src : Nat) (high : Bool) (s : State) : State :=
  let m := BitVec.ofNat 64 (2 ^ src)
  s.modProc p (fun x =>
    if high then { x with line := x.line ||| m }
    else { x with line := x.line &&& ~~~m, episode := x.episode &&& ~~~m, cleared := tabDel x.cleared src })

/-! ### Mailboxes (R400 to R402) -/

def boxKey (src dst : Nat) : Nat := src * 16 + dst

/-- A mailbox rejects a send: its receiver has no power, or is a supervisor without the hold (R401). -/
def boxRejects (s : State) (dst : Nat) : Bool :=
  (s.proc dst).state == 0 || ((dst == 1 || dst == 2) && s.sup.hold != dst)

/-- A message joins its mailbox; a mailbox that becomes non-empty raises its source at the receiver (R400, R404). -/
def boxPut (src dst : Nat) (m : Msg) (s : State) : State :=
  let k := boxKey src dst
  let old := tabGet s.boxes k []
  let s := { s with boxes := tabPut s.boxes k (old ++ [m]) }
  if old.isEmpty then sourceEdges dst src 1 (sourceLine dst src true s) else s

/-- A send: rejected for good, taken, or failed on a full mailbox and kept by the sender (R400, R401). -/
def boxSend (src dst : Nat) (m : Msg) (s : State) : State :=
  let k := boxKey src dst
  if boxRejects s dst then s
  else if (tabGet s.boxes k []).length < 16 then boxPut src dst m s
  else { s with resend := s.resend ++ [(k, s.now, m)] }

/-- A processor that executes: booting, running or idle (R412). -/
def procRuns (s : State) (p : Nat) : Bool := decide (1 ≤ (s.proc p).state ∧ (s.proc p).state ≤ 3)

/-- MAILBOX_SEND: a processor sends a message of 64 bytes (R400, R401). -/
def execMailboxSend (src dst : Fin 16) (msg : BitVec 512) (s : State) : Host.Outcome State Fault Refusal :=
  if !procPresent src.val || !procPresent dst.val || src == dst then .fault .absentUnit
  else .next (if procRuns s src.val then boxSend src.val dst.val { data := toBytes 64 msg.toNat } s else s)

/-- MAILBOX_RETRY: the first message that a sender has kept for a mailbox is sent again, after the sender's next
interrupt or 1,000 grains (R400). -/
def execMailboxRetry (src dst : Fin 16) (s : State) : Host.Outcome State Fault Refusal :=
  if !procPresent src.val || !procPresent dst.val || src == dst then .fault .absentUnit
  else
    let mine := fun (x : Nat × Nat × Msg) => x.1 == boxKey src.val dst.val
    .next (match s.resend.find? mine with
      | none => s
      | some (_, g, m) =>
        let due := decide (g + 1000 ≤ s.now) || (match (s.proc src.val).delivered with | some d => decide (g ≤ d) | none => false)
        if due && procRuns s src.val then
          boxSend src.val dst.val m { s with resend := delFirst mine s.resend }
        else s)

/-! ### Faults and restarts (R403) -/

/-- A link state of training (R259). -/
def training (st : Nat) : Bool := decide (1 ≤ st ∧ st ≤ 4)

/-- Training, handovers and a pending flip are abandoned with Joiner (R267, R403). -/
def abandonJoiner (s : State) : State :=
  let s := (List.range 26).foldl (fun s r =>
    if training (s.rail r).state then failAttempt r s else s) s
  let s := (List.range 2).foldl (fun s p =>
    if training (s.yport p).state then failPort p s else s) s
  let fibres := s.opt.fibres.map (fun (k, f) => (k, { f with moving := none, reports := [] }))
  let s := { s with opt := { s.opt with fibres := fibres } }
  let t := s.railTop
  if t.flipPending && t.flippedAt.isNone then
    raise 0x0606 0 (flipWord t) 0 0 0 { s with railTop := { t with flipPending := false, result := none } }
  else s

/-- A processor faults: it stops, the third fault within 10 s leaves it halted, PROC_FAULT is raised, and what R403 gives
for the processor follows. -/
def takeFault (p cause w3 : Nat) (s : State) : State :=
  let recent := (s.proc p).faults.filter (fun g => decide (s.now < g + 10 ^ 10))
  let n := recent.length + 1
  let s := s.modProc p (fun x => { x with state := if 3 ≤ n then 6 else 5, faults := recent ++ [s.now], presented := 0,
                                          timerAt := none })
  let s := raise 0x0901 0 p cause (min n 3) w3 s
  let s := if p = 0 then
      finishOpt s.sec.committing 0x0501 { s with sec := { s.sec with committing := none } }
    else if p = 4 then abandonJoiner s
    else if p = 5 ∨ 8 ≤ p then haltRun 5 p s
    else s
  evalReady s

/-- PROC_FAULT: an illegal instruction (cause 0), an access outside SRAM or the granted registers (1), or an
uncorrectable SRAM error (2) (R403, R536). -/
def execProcFault (proc : Fin 16) (cause : Fin 3) (address data : BitVec 32) (s : State) :
    Host.Outcome State Fault Refusal :=
  if !procPresent proc.val then .fault .absentUnit
  else .next (if procRuns s proc.val then
    takeFault proc.val cause.val (address.toNat + (if cause.val = 1 then data.toNat * 2 ^ 32 else 0)) s
  else s)

/-- WATCHDOG_EXPIRE: a running processor has not written PROC.STATE for 2^24 grains (R403). -/
def execWatchdogExpire (proc : Fin 16) (address : BitVec 32) (s : State) : Host.Outcome State Fault Refusal :=
  if !procPresent proc.val then .fault .absentUnit
  else
    let x := s.proc proc.val
    .next (if x.state = 2 ∧ x.written + 2 ^ 24 ≤ s.now then takeFault proc.val 3 address.toNat s else s)

/-- WATCHDOG_WARNING: half of the watchdog's time has passed, and source 50 rises (R403, R404). -/
def execWatchdogWarning (proc : Fin 16) (s : State) : Host.Outcome State Fault Refusal :=
  if !procPresent proc.val then .fault .absentUnit
  else
    let x := s.proc proc.val
    .next (if x.state = 2 ∧ x.written + 2 ^ 23 ≤ s.now ∧ !x.warned then
      sourceEdges proc.val 50 1 (s.modProc proc.val (fun x => { x with warned := true }))
    else s)

/-- Every command in progress is answered 0x0501 (R403). -/
def answerBusy (s : State) : State :=
  let cs := s.yuley.chans.filterMap (fun p => p.2.busy)
  finishAll cs 0x0501 { s with hbm := { s.hbm with xfers := [] } }

/-- PROC_RESTART: a faulted processor runs again; Square, Scribe and Joiner are restarted by the supervisor that holds the
hold, and Scribe answers the commands that were in progress (R398, R403). -/
def execProcRestart (proc : Fin 16) (s : State) : Host.Outcome State Fault Refusal :=
  let p := proc.val
  if !procPresent p then .fault .absentUnit
  else .next (
    if (s.proc p).state = 5 ∧ p ≠ 1 ∧ p ≠ 2 ∧ (s.sup.hold ≠ 0 ∨ p = 5 ∨ 8 ≤ p) then
      let s := s.modProc p (fun x => { x with state := 2, restarted := true, written := s.now, warned := false,
                                              presented := 0, timerAt := none })
      if p = 3 then answerBusy s else s
    else s)

/-! ### Interrupts (R404 to R409) -/

/-- A source that occurs at a processor's controller, mailboxes and its own timers apart (R404, R405). -/
def inputUsed (p src : Nat) : Bool :=
  src == 48 || decide (16 ≤ src ∧ src ≤ (match p with
    | 0 => 18 | 1 | 2 => 44 | 3 => 20 | 4 => 47 | 5 => 19 | _ => 19))

/-- IRQ_SOURCE_EDGE: a subsystem input or the sheaf strobe makes `edges` rising edges in a grain and stands at a level;
mailbox sources, the local timer and the watchdog rise with their own rows (R404 to R406). -/
def execIrqSourceEdge (proc : Fin 16) (source : Fin 64) (edges : Fin 3) (high : Bool) (s : State) :
    Host.Outcome State Fault Refusal :=
  let p := proc.val
  if !procPresent p then .fault .absentUnit
  else .next (
    if inputUsed p source.val ∧ (s.proc p).state ≠ 0 ∧ (source.val = 48 → s.atBoundary) then
      sourceEdges p source.val edges.val (sourceLine p source.val high s)
    else s)

/-- The sources that a controller may deliver: pending, enabled, and not in a stuck episode (R408, R409). -/
def deliverable (x : Proc) : BitVec 64 := x.pend &&& x.enable &&& ~~~x.episode

/-- Deliverable sources that end the hold; a field of 0 means 64 (R412). -/
def Proc.batch (x : Proc) : Nat := if x.count = 0 then 64 else x.count

/-- A condition of R408 for a delivery holds. -/
def mayDeliver (s : State) (p : Nat) : Bool :=
  let x := s.proc p
  let d := deliverable x
  x.state == 3 || (match x.delivered with | some g => decide (g + x.hold ≤ s.now) | none => true)
    || decide (x.batch ≤ popcount 64 d.toNat)
    || ((p == 1 || p == 2) && (bit d.toNat 32 || bit d.toNat 35 || bit d.toNat 50))

/-- IRQ_DELIVER: every deliverable source is presented at once, outside a handler (R408). -/
def execIrqDeliver (proc : Fin 16) (s : State) : Host.Outcome State Fault Refusal :=
  let p := proc.val
  if !procPresent p then .fault .absentUnit
  else
    let x := s.proc p
    .next (if (x.state = 2 ∨ x.state = 3) ∧ x.presented = 0 ∧ deliverable x ≠ 0 ∧ mayDeliver s p then
      s.modProc p (fun x => { x with state := 2, presented := deliverable x, delivered := some s.now,
                                     deliveries := x.deliveries + 1 })
    else s)

/-- One message is read from a mailbox; an empty mailbox's source falls (R400, R404). -/
def boxRead (dst : Nat) (s : State) (src : Fin 16) : State :=
  let k := boxKey src.val dst
  let l := (tabGet s.boxes k []).drop 1
  let s := { s with boxes := if l.isEmpty then tabDel s.boxes k else tabPut s.boxes k l }
  if l.isEmpty then sourceLine dst src.val false s else s

/-- What firmware does in the handler beside its acknowledge (log entry 26). -/
def procAct (p : Nat) (act : ProcAct) (s : State) : State :=
  let s := act.reads.foldl (boxRead p) s
  let now := s.now
  let s := s.modProc p (fun x => { x with
    enable := act.enable.getD x.enable
    timerAt := (act.timer.map (·.toNat)).orElse (fun _ => x.timerAt) })
  let s := if act.beat then
      s.modProc p (fun x => { x with heartbeat := (x.heartbeat + 1) % 65536, written := now, warned := false })
    else s
  if act.after.val = 0 then s
  else s.modProc p (fun x => { x with presented := 0, state := if act.after.val = 2 then 3 else x.state })

/-- A source's edges fell in the present grain (R407). -/
def EdgeRec.fresh (now : Nat) (r : EdgeRec) : Bool := r.grain == some now && decide (1 ≤ r.k)

/-- An acknowledged source whose edges fell in the same grain: the acknowledge came first, so that pending is set again, and
overrun only by two edges (R407). -/
def reEdge (now : Nat) (x : Proc) (i : Nat) : Proc :=
  let r := tabGet x.edges i {}
  let m := BitVec.ofNat 64 (2 ^ i)
  if r.fresh now then
    { x with pend := x.pend ||| m, edges := tabPut x.edges i { r with pend := false }
             ovr := if r.ovr || decide (2 ≤ r.k) then x.ovr ||| m else x.ovr &&& ~~~m }
  else x

/-- The overrun bits that the edges of the present grain have set (R407). -/
def newOverruns (now : Nat) (x : Proc) : BitVec 64 :=
  BitVec.ofNat 64 (maskOf ((List.range 64).filter (fun i =>
    let r := tabGet x.edges i {}
    r.fresh now && (r.pend || decide (2 ≤ r.k)))))

/-- IRQ_ACKNOWLEDGE: a running processor clears pending bits by writing 1; a bit whose line stays high starts its stuck
time (R407, R409). -/
def execIrqAcknowledge (proc : Fin 16) (bits : BitVec 64) (act : ProcAct) (s : State) :
    Host.Outcome State Fault Refusal :=
  let p := proc.val
  if !procPresent p then .fault .absentUnit
  else .next (
    if (s.proc p).state = 2 then
      let now := s.now
      let s := s.modProc p (fun x =>
        let held := setBits 64 (bits &&& x.pend &&& x.line).toNat
        let cleared := held.foldl (fun t i => tabPut t i now) x.cleared
        (setBits 64 bits.toNat).foldl (reEdge now) { x with pend := x.pend &&& ~~~bits, cleared := cleared })
      procAct p act s
    else s)

/-- IRQ_OVERRUN_CLEAR: a running processor clears overrun bits; a new overrun of the same grain stays (R407). -/
def execIrqOverrunClear (proc : Fin 16) (bits : BitVec 64) (s : State) : Host.Outcome State Fault Refusal :=
  let p := proc.val
  if !procPresent p then .fault .absentUnit
  else .next (
    let now := s.now
    if (s.proc p).state = 2 then s.modProc p (fun x => { x with ovr := x.ovr &&& ~~~(bits &&& ~~~newOverruns now x) }) else s)

/-- IRQ_STUCK: a line has stayed high for stuck x 1,024 grains after its pending bit was cleared (R409). -/
def execIrqStuck (proc : Fin 16) (source : Fin 64) (s : State) : Host.Outcome State Fault Refusal :=
  let p := proc.val
  let i := source.val
  if !procPresent p then .fault .absentUnit
  else
    let x := s.proc p
    let due := match tabFind x.cleared i with
      | some g => decide (g + x.stuckTh * 1024 ≤ s.now)
      | none => false
    let m := BitVec.ofNat 64 (2 ^ i)
    .next (if x.stuckTh != 0 && due && bit x.line.toNat i && !bit x.episode.toNat i && x.state != 4 then
      raise 0x0902 0 p i 0 0 (s.modProc p (fun x => { x with stuck := x.stuck ||| m, episode := x.episode ||| m }))
    else s)

/-- IRQ_STUCK_CLEAR: a running processor clears stuck bits (R409). -/
def execIrqStuckClear (proc : Fin 16) (bits : BitVec 64) (s : State) : Host.Outcome State Fault Refusal :=
  let p := proc.val
  if !procPresent p then .fault .absentUnit
  else .next (if (s.proc p).state = 2 then s.modProc p (fun x => { x with stuck := x.stuck &&& ~~~bits }) else s)

/-- STUCK_EPISODE_END: the line of a stuck source falls (R409). -/
def execStuckEpisodeEnd (proc : Fin 16) (source : Fin 64) (s : State) : Host.Outcome State Fault Refusal :=
  let p := proc.val
  if !procPresent p then .fault .absentUnit
  else .next (if bit (s.proc p).episode.toNat source.val then sourceLine p source.val false s else s)

/-- LOCAL_TIMER: the local timer expires, and source 49 rises (R404, R411). -/
def execLocalTimer (proc : Fin 16) (s : State) : Host.Outcome State Fault Refusal :=
  let p := proc.val
  if !procPresent p then .fault .absentUnit
  else .next (match (s.proc p).timerAt with
    | some g => if g ≤ s.now then sourceEdges p 49 1 (s.modProc p (fun x => { x with timerAt := none })) else s
    | none => s)

/-! ### Sleep (R410, R411) -/

/-- PROC_SLEEP: an idle processor sleeps, where R410 lets it: its controller's state is retained. -/
def execProcSleep (proc : Fin 16) (s : State) : Host.Outcome State Fault Refusal :=
  let p := proc.val
  if !procPresent p then .fault .absentUnit
  else
    let x := s.proc p
    let allowed := if p = 1 ∨ p = 2 then x.sleepOk else p ≠ 3 || !s.yuley.isOpen
    let left := match x.delivered with
      | some g => x.hold - (s.now - g)
      | none => 0
    .next (if x.state = 3 ∧ allowed then
      let r : Retained := { pend := x.pend, ovr := x.ovr, enable := x.enable, stuck := x.stuck, left := left, hold := x.hold,
                            count := x.count, stuckTh := x.stuckTh, sleepOk := x.sleepOk, gray := x.gray }
      s.modProc p (fun x => { x with state := 4, latch := [], retained := some r })
    else s)

/-- A latch merges into the restored bits with its count as k (R406, R411). -/
def mergeLatch (x : Proc) (c : Nat × Nat) : Proc :=
  let m := BitVec.ofNat 64 (2 ^ c.1)
  if c.2 = 0 then x
  else if bit x.pend.toNat c.1 then { x with ovr := x.ovr ||| m }
  else if c.2 = 1 then { x with pend := x.pend ||| m }
  else { x with pend := x.pend ||| m, ovr := x.ovr ||| m }

/-- PROC_WAKE: an enabled source's latch is not zero, the local timer has expired, or the reset controller orders it
(`ordered`); the retained state returns and the latches merge (R411). -/
def execProcWake (proc : Fin 16) (ordered : Bool) (s : State) : Host.Outcome State Fault Refusal :=
  let p := proc.val
  if !procPresent p then .fault .absentUnit
  else
    let x := s.proc p
    .next (match x.state == 4, x.retained with
      | true, some r =>
        let due := ordered || x.latch.any (fun c => c.2 != 0 && (bit r.enable.toNat c.1 || c.1 == 49))
        if due then
          let y := { x with pend := r.pend, ovr := r.ovr, enable := r.enable, stuck := r.stuck, hold := r.hold, count := r.count,
                            stuckTh := r.stuckTh, sleepOk := r.sleepOk }
          let y := x.latch.foldl mergeLatch y
          let delivered := x.delivered.map (fun _ => s.now + r.left - x.hold)
          s.modProc p (fun _ => { y with latch := [], retained := none, state := 3, delivered := delivered })
        else s
      | _, _ => s)

end Sys2Proof.Machine
end

