-- ==== Sys2Proof/Machine/Store.lean ====
section
/-! DEFINITION. The serial flash: configuration copies, their selection and commit, trims, and bundle slots (R453 to R459,
R475 to R478). -/

namespace Sys2Proof.Machine

/-! ### The flash (R455, R475) -/

def flashBytes (s : State) (a n : Nat) : List (BitVec 8) := memBytes Config.erasedByte s.rst.flash a n
def flashStore (a : Nat) (b : List (BitVec 8)) (s : State) : State :=
  { s with rst := { s.rst with flash := memStore Config.erasedByte s.rst.flash a b } }
def flashErase (a n : Nat) (s : State) : State :=
  { s with rst := { s.rst with flash := memClear s.rst.flash a (a + n) } }

/-- Bytes padded with zeros to a multiple of 64. -/
def pad64 (b : List (BitVec 8)) : List (BitVec 8) := b ++ List.replicate ((64 - b.length % 64) % 64) 0

/-- Sequence number a is newer than b (R458). -/
def newer (a b : Nat) : Bool :=
  let d := (a + 2 ^ 32 - b % 2 ^ 32) % 2 ^ 32
  decide (1 ≤ d ∧ d < 2 ^ 31)

/-! ### Configuration copies (R455 to R458) -/

def copyBase (k : Nat) : Nat := 0x100000 + k * 0x100000

/-- A section of a copy: its type, where it starts, and its body length (R456). -/
structure Section where
  kind : Nat
  off : Nat
  body : Nat
deriving DecidableEq, Repr

/-- Bytes that a section fills: header, body, a vendor section's signature, and padding (R456). -/
def Section.size (x : Section) : Nat :=
  let n := 64 + x.body + (if x.kind = 0x0100 then 0 else 1280)
  cdiv n 64 * 64

/-- The sections that follow each other in some bytes, from an offset. -/
def sectionsAt (b : List (BitVec 8)) : Nat → Nat → List Section
  | 0, _ => []
  | n + 1, off =>
    let x : Section := { kind := le b off 2, off := off, body := le b (off + 4) 4 }
    if b.length < off + 64 then [] else x :: sectionsAt b n (off + x.size)

/-- The 16-byte records of a section's body, as numbers. -/
def sectionRecords (b : List (BitVec 8)) (x : Section) : List Nat :=
  (List.range (x.body / 16)).map (fun i => le b (x.off + 64 + 16 * i) 16)

/-- A section header and the reserved fields of its records meet R456. -/
def sectionOk (b : List (BitVec 8)) (x : Section) : Bool :=
  let h := le b x.off 64
  (x.kind == 1 || x.kind == 2 || x.kind == 3 || x.kind == 0x0100)
    && (bit h 16 == (x.kind != 0x0100)) && bits h 17 15 == 0 && bits h 64 448 == 0
    && x.body % 16 == 0 && decide (x.off + x.size ≤ b.length)
    && (x.kind == 2 || (sectionRecords b x).all (fun r => bits r 32 32 == 0))
    && (x.kind != 2 || (x.body == 16 && bits (le b (x.off + 64) 16) 4 12 == 0 && bits (le b (x.off + 64) 16) 48 80 == 0))

/-- A vendor section carries a signature that verifies under the key of the booted bundle (R456, R457, R480). -/
def sectionSigned (key : Nat) (b : List (BitVec 8)) (x : Section) : Bool :=
  x.kind == 0x0100 ||
    Config.falconVerify key (shake256 ((b.drop x.off).take (64 + x.body)) 64) ((b.drop (x.off + 64 + x.body)).take 1280)

/-- The digest of a copy: over its bytes with the digest field taken as 0 (R455). -/
def copyDigest (b : List (BitVec 8)) : Nat := shakeNat (b.take 16 ++ List.replicate 64 0 ++ b.drop 80) 64

/-- The bytes of copy k, as many as its header states, at most 1 MiB. -/
def copyBytes (s : State) (k : Nat) : List (BitVec 8) :=
  flashBytes s (copyBase k) (min (le (flashBytes s (copyBase k) 16) 12 4) 0x100000)

def copySeq (b : List (BitVec 8)) : Nat := le b 8 4

def copySections (b : List (BitVec 8)) : List Section := sectionsAt b (le b 80 2) 128

/-- The header of a copy meets R455. -/
def copyHeaderOk (b : List (BitVec 8)) : Bool :=
  le b 0 4 == 0x47435146 && le b 4 1 == 1 && le b 5 3 == 0 && le b 12 4 == b.length && b.length % 64 == 0
    && decide (128 ≤ b.length) && decide (1 ≤ le b 80 2 ∧ le b 80 2 ≤ 64) && le b 82 46 == 0

/-- A copy is valid (R457). -/
def copyOk (key : Nat) (b : List (BitVec 8)) : Bool :=
  let l := copySections b
  copyHeaderOk b && l.length == le b 80 2 && l.all (sectionOk b) && copyDigest b == le b 16 64
    && l.all (sectionSigned key b) && decide (l.map (·.kind)).Nodup

/-- The bytes of the selected copy; none under the factory baseline (R458). -/
def selectedCopy (s : State) : Option (List (BitVec 8)) :=
  if s.rst.baseline then none else some (copyBytes s s.rst.selected)

/-- Records of every section of a kind of the selected copy. -/
def selectedRecords (s : State) (kinds : List Nat) : List Nat :=
  match selectedCopy s with
  | none => []
  | some b => ((copySections b).filter (fun x => kinds.contains x.kind)).flatMap (sectionRecords b)

/-- The key that signed the booted bundle, read as one number (R476, R480). -/
def bootedKey (s : State) : Nat := ofBytes (flashBytes s (0x400000 + s.sec.slot * 0xC00000 + 512) 1793)

/-- The copies are validated, and one of them or the factory baseline is selected (R458). -/
def selectConfig (s : State) : State :=
  let b0 := copyBytes s 0
  let b1 := copyBytes s 1
  let v0 := copyOk (bootedKey s) b0
  let v1 := copyOk (bootedKey s) b1
  let q0 := copySeq b0
  let q1 := copySeq b1
  let pick : Option Nat :=
    if v0 && v1 then
      if newer q1 q0 then some 1
      else if newer q0 q1 then some 0
      else if q0 == q1 && b0 == b1 then some 0 else none
    else if v0 then some 0 else if v1 then some 1 else none
  let b := match pick with | some 1 => b1 | _ => b0
  let digest := match pick with | some _ => le b 16 64 | none => shakeNat Config.romSections 64
  let policy := match pick with
    | some _ => match (copySections b).find? (fun x => x.kind == 2) with
      | some x => le b (x.off + 64) 16
      | none => 0x15180000F
    | none => 0x15180000F
  let r := { s.rst with copy0Valid := v0, copy1Valid := v1, selected := pick.getD 0, baseline := pick.isNone,
                        seq0 := q0, seq1 := q1, seq := (if pick.isSome then copySeq b else 0),
                        conflict := s.rst.conflict || (pick.isNone && v0 && v1), cfgDigest := BitVec.ofNat 512 digest }
  let s := { s with rst := r, sec := { s.sec with policy := BitVec.ofNat 128 policy } }
  if pick.isSome then s
  else if v0 && v1 then raise 0x0B02 0 (cfgStore s) 0 0 0 s
  else raise 0x0B03 0 (cfgStore s) 0 0 0 s

/-- One record of an integrator or supervisor-policy section takes its place, for every field whose reset reads cfg
(R456, R458). -/
def applyCfg (s : State) (r : Nat) : State :=
  let id := bits r 0 32
  let v := bits r 64 64
  let i := id % 2 ^ 20
  match id / 2 ^ 20 with
  | 0x005 =>
    if i % 256 = 2 then s.modStack (i / 256) (fun k => { k with ceiling := min (bits v 4 4) 10 })
    else (storeParam id v s).2
  | 0x00A =>
    if 0x10000 ≤ i then { s with railTop := { s.railTop with map := tabPut s.railTop.map (i - 0x10000) (BitVec.ofNat 32 v) } }
    else s
  | 0x010 =>
    if i % 256 = 1 then s.modProc (i / 256) (fun x => { x with hold := bits v 0 16, count := bits v 16 6, stuckTh := bits v 22 10 })
    else s
  | 0x002 | 0x004 | 0x00C | 0x00D | 0x011 | 0x016 => (storeParam id v s).2
  | _ => s

/-- The parameters take the values of the selected copy; those it does not hold keep their baseline values (R458). -/
def applyConfig (s : State) : State := (selectedRecords s [3, 0x0100]).foldl applyCfg s

/-- The cfg value of a stack's ceiling, after a level-2 reset (R130, R448, R458). -/
def cfgCeiling (s : State) (d : Nat) : Nat :=
  ((selectedRecords s [3, 0x0100]).filter (fun r => bits r 0 32 == 0x00500002 + 256 * d)).foldl
    (fun _ r => min (bits r 68 4) 10) 10

/-- A processor's record with the cfg values of PROC.IRQ.CFG, after a reset that clears it (R6, R412, R458). -/
def cfgIrq (s : State) (p : Nat) : Proc :=
  ((selectedRecords s [3, 0x0100]).filter (fun r => bits r 0 32 == 0x01000001 + 256 * p)).foldl
    (fun x r => { x with hold := bits r 64 16, count := bits r 80 6, stuckTh := bits r 86 10 }) {}

/-! ### Trims (R453, R454) -/

/-- A trim record as target and value. -/
def trimRecord (r : Nat) : Nat × Nat := (bits r 0 16 * 65536 + bits r 16 16, bits r 64 64)

def trimOk (t : Nat × Nat) : Bool :=
  match Config.trimRange t.1 with
  | some (lo, hi) => decide (lo ≤ t.2 ∧ t.2 ≤ hi)
  | none => false

/-- Trims are loaded into shadows, checked as a whole and committed at once, or replaced by the fused records (R453). -/
def loadTrims (s : State) : State :=
  let put := fun (t : List (Nat × Nat)) (x : Nat × Nat) => tabPut t x.1 x.2
  let own := (selectedRecords s [1]).map trimRecord
  let fused := Config.fusedTrims.foldl put []
  let all := own.foldl put fused
  if all.all trimOk then
    { s with rst := { s.rst with trims := all, shadow := [], trimBaseline := false,
                                 trimRecords := min (Config.fusedTrims.length + own.length) 0xFFF } }
  else
    let s := { s with rst := { s.rst with trims := fused, shadow := [], trimBaseline := true,
                                          trimRecords := min Config.fusedTrims.length 0xFFF } }
    raise 0x0B01 0 (cfgTrim s) 0 0 0 s

/-! ### Commits (R459) -/

/-- Every RW field whose reset reads cfg, as parameter ID and value (R458, R459). -/
def liveRecords (s : State) : List (Nat × Nat) :=
  [(0x00200004, s.time.holdRate), (0x00400001, s.pwr.limit + s.pwr.alertLimit * 2 ^ 14),
   (0x00C00000, s.fab.module), (0x00C00001, s.fab.sources), (0x00D00000, s.col.rank + s.col.stook * 2 ^ 10)]
    ++ (List.range 8).map (fun d => (0x00500001 + 256 * d, (s.cstack d).cap))
    ++ (List.range 8).map (fun d => (0x01120000 + d, tabGet s.clk.targets d 8))
    ++ (List.range 64).map (fun e => (0x00C00100 + e, b2n (s.fabEng e).spelt))
    ++ (List.range 1024).map (fun j => (0x00D01000 + j, tabGet s.col.peers j j))
    ++ (List.range 8192).map (fun i => (0x00A10000 + i, railMapWord s i))
    ++ (List.range 256).map (fun g => (0x01640000 + g, tabGet s.err.thresh g 64))

/-- The integrator section of a new copy. -/
def integratorSection (s : State) : List (BitVec 8) :=
  let l := liveRecords s
  pad64 (toBytes 64 (0x0100 + 16 * l.length * 2 ^ 32) ++ l.flatMap (fun r => toBytes 16 (r.1 + r.2 * 2 ^ 64)))

/-- A copy of sections with a sequence number (R455). -/
def makeCopy (seq n : Nat) (body : List (BitVec 8)) : List (BitVec 8) :=
  let head := fun (digest : Nat) =>
    toBytes 128 (0x47435146 + 2 ^ 32 + seq * 2 ^ 64 + (128 + body.length) * 2 ^ 96 + digest * 2 ^ 128 + n * 2 ^ 640)
  head (shakeNat (head 0 ++ body) 64) ++ body

/-- The vendor sections of some bytes, as they stand, and their number. -/
def vendorBytes (b : List (BitVec 8)) (l : List Section) : List (BitVec 8) × Nat :=
  let v := l.filter (fun x => x.kind != 0x0100)
  (v.flatMap (fun x => (b.drop x.off).take x.size), v.length)

/-- The copy that a commit writes: its place and sequence number (R459). -/
def commitPlace (s : State) : Nat × Nat :=
  let r := s.rst
  if !r.baseline then (1 - r.selected, (r.seq + 1) % 2 ^ 32)
  else if r.copy0Valid && r.copy1Valid then
    (if r.seq1 < r.seq0 then 1 else if r.seq0 < r.seq1 then 0 else 1, (max r.seq0 r.seq1 + 1) % 2 ^ 32)
  else (0, 1)

/-- The bytes of the copy that a commit writes (R459). -/
def commitBytes (s : State) : List (BitVec 8) :=
  let v := match selectedCopy s with
    | some b => vendorBytes b (copySections b)
    | none => (Config.romSections, Config.romCount)
  makeCopy (commitPlace s).2 (v.2 + 1) (v.1 ++ integratorSection s)

/-- CFG_COMMIT: a write of 1 starts a commit; one is refused while another writes (R459, R473). -/
def execCfgCommit (p : CmdPkt) (s : State) : Host.Outcome State Fault Refusal :=
  .next (runWrite p (· == 0x01200003) (fun v s =>
    if !bit v 0 then (0, s)
    else if s.rst.busy then (0x0202, s)
    else
      let k := commitPlace s
      let job := (k.1, k.2, commitBytes s)
      let s := flashErase (copyBase k.1) 0x100000 s
      (0, { s with rst := { s.rst with busy := true, commit := some job,
                                       copy0Valid := s.rst.copy0Valid && k.1 != 0,
                                       copy1Valid := s.rst.copy1Valid && k.1 != 1 } })) s)

/-! ### Bundle slots (R475 to R478) -/

def slotBase (k : Nat) : Nat := 0x400000 + k * 0xC00000
def recordAt (k : Nat) : Nat := slotBase k + 0xBFFFC0

/-- The header of a bundle slot, read as one number (R476). -/
def slotHead (s : State) (k : Nat) : Nat := ofBytes (flashBytes s (slotBase k) 512)
def bhLength (h : Nat) : Nat := bits h 64 32
def bhSvn (h : Nat) : Nat := bits h 40 8
def bhKey (h : Nat) : Nat := bits h 48 2

/-- Entries of a bundle's directory (R476). -/
def bhEntries (h : Nat) : List Nat := (List.range (bits h 96 4 + 1)).map (fun i => bits h (2048 + 128 * i) 128)

/-- The signed bytes of a slot, at most as many as a slot may hold (R476). -/
def signedBytes (s : State) (k : Nat) : List (BitVec 8) :=
  flashBytes s (slotBase k) (min (bhLength (slotHead s k)) 0xBFEAC0)

/-- The commit record is present and its digest matches (R477, R478). -/
def commitRecordOk (s : State) (k : Nat) : Bool :=
  let r := ofBytes (flashBytes s (recordAt k) 64)
  bits r 0 32 == 0x4D435146 && bits r 320 192 == 0 && bits r 64 256 == shakeNat (signedBytes s k) 32

def recordSeq (s : State) (k : Nat) : Nat := le (flashBytes s (recordAt k) 8) 4 4

/-- The header meets R476. -/
def bundleHeadOk (s : State) (k : Nat) : Bool :=
  let h := slotHead s k
  let n := bits h 96 4 + 1
  let ids := (bhEntries h).map (fun e => bits e 0 8)
  bits h 0 32 == 0x57465146 && bits h 32 8 == 1 && decide (bhSvn h ≤ 64) && bits h 50 14 == 0
    && bhLength h % 64 == 0 && decide (bhLength h ≤ 0xBFEAC0) && bits h 100 28 == 0 && bits h 198 1850 == 0
    && (bhEntries h).all (fun e => bits e 8 24 == 0 && bits e 96 32 == 0 && bits e 32 32 % 64 == 0
      && decide (bits e 32 32 + bits e 64 32 ≤ bhLength h))
    && bits h (2048 + 128 * n) (2048 - 128 * n) == 0
    && [0, 1, 2, 3, 4, 5, 8].all (fun i => ids.count i == 1) && decide (ids.count 0xFF ≤ 1)
    && ids.all (fun i => decide (i < 6) || i == 8 || i == 0xFF)
    && ofBytes (flashBytes s (slotBase k + 2305) 63) == 0

/-- The first condition of R477 that a slot fails, 1 to 6 in list order, or 0; `committed` asks for its commit record. -/
def slotFault (s : State) (k : Nat) (committed : Bool) : Nat :=
  let h := slotHead s k
  let key := flashBytes s (slotBase k + 512) 1793
  let b := signedBytes s k
  if committed && !commitRecordOk s k then 1
  else if !bundleHeadOk s k then 2
  else if shakeNat key 32 ≠ Config.fwKeyDigest (bhKey h) ∨ bit s.sec.revokeFw (bhKey h) then 3
  else if bit (bits h 192 4) (bhKey h) then 4
  else if !Config.falconVerify (ofBytes key) (shake256 b 64) (flashBytes s (slotBase k + bhLength h) 1280) then 5
  else if bhSvn h < s.sec.counter then 6
  else 0

end Sys2Proof.Machine
end

