-- ==== Sys2Proof/Machine/Secure.lean ====
section
/-! DEFINITION. The rows of secure boot, attestation and debug tokens (20_security.md). -/

namespace Sys2Proof.Machine

/-- A 256-bit random value, and the state with its counter advanced (R486, log entry 8). -/
def freshNonce (s : State) : State :=
  let n := BitVec.ofNat 256 (Config.free s.free)
  { s with free := s.free + 1, sec := { s.sec with nonce := n } }

/-! ### Boot (R479 to R482) -/

def blobBase : Nat := 0x300000
def blobBytes (s : State) : List (BitVec 8) := flashBytes s blobBase 5406
def identityPublic (s : State) : List (BitVec 8) := flashBytes s (blobBase + 2333) 1793

/-- The images of a slot, by processor ID (R476). -/
def slotImages (s : State) (k : Nat) : List (Nat × List (BitVec 8)) :=
  (bhEntries (slotHead s k)).map (fun e => (bits e 0 8, flashBytes s (slotBase k + bits e 32 32) (bits e 64 32)))

/-- Vendor sections that a bundle carries replace those of a configuration copy; a copy whose header or sections do not
hold together is left (R481, DEDUCED). -/
def putVendor (img : List (BitVec 8)) (s : State) (k : Nat) : State :=
  let b := copyBytes s k
  let l := copySections b
  if copyHeaderOk b && l.length == le b 80 2 && l.all (sectionOk b) then
    let v := vendorBytes img (sectionsAt img 64 0)
    let own := (l.filter (fun x => x.kind == 0x0100)).flatMap (fun x => (b.drop x.off).take x.size)
    let n := v.2 + (l.filter (fun x => x.kind == 0x0100)).length
    flashStore (copyBase k) (makeCopy (copySeq b) n (v.1 ++ own)) s
  else s

/-- Square boots a slot: fuses, images, measurement, nonce and identity (R479, R481, R482). -/
def bootSlot (k : Nat) (s : State) : State :=
  let h := slotHead s k
  let images := slotImages s k
  let x := { s.sec with slot := k, svn := bhSvn h, counter := max s.sec.counter (bhSvn h),
                        revokeFw := s.sec.revokeFw ||| bits h 192 4, revokeDbg := s.sec.revokeDbg ||| bits h 196 2,
                        meas := BitVec.ofNat 512 (shakeNat (signedBytes s k) 64), bootSeq := recordSeq s k,
                        booted := true, staged := false, images := images.filter (fun p => p.1 != 0xFF) }
  let s := freshNonce { s with sec := x }
  let s := match images.find? (fun p => p.1 == 0xFF) with
    | some p => [0, 1].foldl (putVendor p.2) s
    | none => s
  if Config.identityOpens (blobBytes s) modId then { s with sec := { s.sec with identityOk := true } }
  else raise 0x0C02 0 0 0 0 0 { s with sec := { s.sec with identityOk := false } }

/-- Square judges both slots and boots the newer bootable one; with none it will judge again after 10 s (R479, R480). -/
def secureBoot (s : State) : State :=
  let f0 := slotFault s 0 true
  let f1 := slotFault s 1 true
  let s := if f0 = 0 then s else raise 0x0C01 0 0 f0 0 0 s
  let s := if f1 = 0 then s else raise 0x0C01 0 1 f1 0 0 s
  if f0 = 0 ∧ f1 = 0 then bootSlot (if newer (recordSeq s 1) (recordSeq s 0) then 1 else 0) s
  else if f0 = 0 then bootSlot 0 s
  else if f1 = 0 then bootSlot 1 s
  else { s with sec := { s.sec with nextJudge := s.now + 10 ^ 10 } }

/-! ### Firmware (R481) -/

/-- A command for Square, answered 0x0501 while Square has faulted (R403). -/
def runSquare (p : CmdPkt) (op : Nat) (f : CmdRef → State → State) (s : State) : State :=
  runCmd p (p.opcode == op) (fun c s => if s.procUp 0 then f c s else finish c 0x0501 [] s) s

/-- FW_STAGE: bytes go into the slot that did not boot; offset 0 erases it first (R481). -/
def execFwStage (p : CmdPkt) (s : State) : Host.Outcome State Fault Refusal :=
  .next (runSquare p 0x602 (fun c s =>
    let off := p.arg 0 4
    let d := p.payload.drop 8
    let k := 1 - s.sec.slot
    if off ≠ 0 ∧ (off % 64 ≠ 0 ∨ d.length % 64 ≠ 0 ∨ 0xBFFFC0 < off + d.length) then finish c 0x0103 [] s
    else if s.sec.committing.isSome then finish c 0x0202 [] s
    else
      let s := if off = 0 then
          flashErase (slotBase k) 0xC00000 { s with sec := { s.sec with staged := false } }
        else s
      finish c 0 [] (flashStore (slotBase k + off) d s)) s)

/-- FW_COMMIT: judging of the inactive slot begins; one commit runs at a time (R481). -/
def execFwCommit (p : CmdPkt) (s : State) : Host.Outcome State Fault Refusal :=
  .next (runSquare p 0x603 (fun c s =>
    if s.sec.committing.isSome then finish c 0x0202 [] s
    else { s with sec := { s.sec with committing := some c } }) s)

/-- A commit record: its magic, its seq and the digest of the slot's signed bytes (R478). -/
def commitRecord (seq digest : Nat) : List (BitVec 8) := toBytes 64 (0x4D435146 + seq % 2 ^ 32 * 2 ^ 32 + digest * 2 ^ 64)

/-- FW_COMMIT_COMPLETE: the inactive slot has been judged, and a slot that passes has its commit record (R478, R481). -/
def execFwCommitComplete (s : State) : Host.Outcome State Fault Refusal :=
  .next (match s.sec.committing with
    | none => s
    | some c =>
      let k := 1 - s.sec.slot
      let f := slotFault s k false
      let s := { s with sec := { s.sec with committing := none } }
      if f = 6 then finish c 0x0303 [] s
      else if f ≠ 0 then finish c 0x0302 [] s
      else
        let rec_ := commitRecord (s.sec.bootSeq + 1) (shakeNat (signedBytes s k) 32)
        finish c 0 [] (flashStore (recordAt k) rec_ { s with sec := { s.sec with staged := true } }))

/-! ### Attestation (R483, R484) -/

/-- The report body (R484). -/
def reportWord (s : State) (nonce : Nat) : Nat :=
  packWord [(0, 32, 0x52415146), (32, 8, 1), (40, 8, s.sec.svn), (48, 8, s.sec.counter), (56, 1, b2n s.sec.unlocked),
    (57, 1, b2n s.sec.wasUnlocked), (58, 1, b2n s.rst.baseline), (59, 1, b2n s.yuley.headless), (64, 64, modId),
    (128, 64, s.now), (192, 256, nonce), (448, 512, s.sec.meas.toNat), (960, 512, s.rst.cfgDigest.toNat),
    (1472, 512, s.cut.digest.toNat), (1984, 256, s.cut.floorDigest.toNat), (2240, 3, s.cut.state.code),
    (2243, 1, s.cut.kind)]

/-- The bytes of a report (R484). -/
def reportBytes (s : State) (nonce : Nat) : List (BitVec 8) := toBytes 512 (reportWord s nonce)

/-- ATTEST: the report and the identity key's signature (R482, R484). -/
def execAttest (p : CmdPkt) (s : State) : Host.Outcome State Fault Refusal :=
  .next (runSquare p 0x600 (fun c s =>
    if !s.sec.identityOk then finish c 0x0501 [] s
    else
      let body := reportBytes s (p.arg 0 32)
      let sig := (Config.falconSign (shake256 body 64) s.free ++ List.replicate 1280 0).take 1280
      finish c 0 (body ++ sig) { s with free := s.free + 1 }) s)

/-- IDENTITY: MOD.ID, the identity public key and Foquin's signature (R482, R483). -/
def execIdentity (p : CmdPkt) (s : State) : Host.Outcome State Fault Refusal :=
  .next (runSquare p 0x601 (fun c s =>
    if !s.sec.identityOk then finish c 0x0501 [] s
    else finish c 0 (toBytes 8 modId ++ flashBytes s (blobBase + 2333) 3073) s) s)

/-! ### Debug tokens (R485, R486, R509) -/

/-- The FLASH path is open: scope jtag, or no slot is bootable (R480, R500). -/
def flashOpen (s : State) : Bool :=
  bit s.scopesNow 2 || (s.rst.state == 1 && s.rst.step == 1 && s.sec.nextJudge != 0)

/-- FLASH or INTSCAN is selected and no longer available: TDO shifts zeros (R503). -/
def closeJtag (s : State) : State :=
  if (s.dbg.ir == 0x10 && !flashOpen s) || (s.dbg.ir == 0x11 && !bit s.scopesNow 2) then { s with dbg := { s.dbg with dr := 0 } }
  else s

/-- Scopes end: traces stop capture with scope diag, counters with scope obs count no more, and FLASH and INTSCAN close with
scope jtag (R503, R505, R506, R509). -/
def endCapture (s : State) : State :=
  let s := closeJtag s
  if bit s.scopesNow 0 then s
  else { s with dbg := { s.dbg with trace := s.dbg.trace.map (fun t => (t.1, { t.2 with capture := false })) } }

/-- An unlock in force ends, for a reason of R536. -/
def endUnlock (why : Nat) (s : State) : State :=
  if s.sec.unlocked then
    endCapture (raise 0x0C04 0 why 0 0 0 { s with sec := { s.sec with unlocked := false, scopes := 0, expiry := 0 } })
  else s

/-- A token is accepted (R486). -/
def tokenOk (s : State) (b : List (BitVec 8)) : Bool :=
  let h := le b 0 128
  let key := (b.drop 128).take 1793
  let slot := bits h 40 1
  let scopes := bits h 48 3
  let life := bits h 64 32
  let pol := s.sec.policy.toNat
  bits h 0 32 == 0x54445146 && bits h 32 8 == 1 && bits h 41 7 == 0 && bits h 51 13 == 0 && bits h 96 32 == 0
    && bits h 704 320 == 0 && decide (1 ≤ life ∧ life ≤ 86400)
    && le b 1921 7 == 0
    && bits h 128 64 == modId && bits h 192 256 == shakeNat (identityPublic s) 32
    && bits h 448 256 == s.sec.nonce.toNat
    && shakeNat key 32 == Config.dbgKeyDigest slot && !bit s.sec.revokeDbg slot
    && Config.falconVerify (ofBytes key) (shake256 (b.take 1928) 64) ((b.drop 1928).take 1280)
    && bit pol 0 && (scopes &&& bits pol 1 3) == scopes && decide (life ≤ bits pol 16 32)

/-- DEBUG_UNLOCK: the nonce is replaced whatever the outcome, and an accepted token replaces any unlock in force (R485,
R486). -/
def execDebugUnlock (p : CmdPkt) (s : State) : Host.Outcome State Fault Refusal :=
  .next (runSquare p 0x604 (fun c s =>
    let ok := tokenOk s p.payload
    let s := freshNonce s
    if !ok then finish c 0x0302 [] s
    else
      let h := le p.payload 0 128
      let s := endUnlock 2 s
      let s := { s with sec := { s.sec with unlocked := true, wasUnlocked := true, scopes := bits h 48 3,
                                            expiry := s.now + bits h 64 32 * 10 ^ 9 } }
      finish c 0 [] (raise 0x0C03 0 (bits h 48 3) (bits h 64 32) 0 0 s)) s)

/-- DEBUG_LOCK: any unlock ends, and the nonce is replaced (R486). -/
def execDebugLock (p : CmdPkt) (s : State) : Host.Outcome State Fault Refusal :=
  .next (runSquare p 0x605 (fun c s => finish c 0 [] (freshNonce (endUnlock 1 s))) s)

/-- DEBUG_EXPIRE: the lifetime of the unlock has passed (R486). -/
def execDebugExpire (s : State) : Host.Outcome State Fault Refusal :=
  .next (if s.sec.unlocked && decide (s.sec.expiry ≤ s.now) then endUnlock 0 s else s)

end Sys2Proof.Machine
end

