-- ==== Sys2Proof/Machine/Mirror.lean ====
section
/-! DEFINITION. The flash mirror of the fault table, and the rate windows (R531, R534, R535). -/

namespace Sys2Proof.Machine

def mirrorBase (k : Nat) : Nat := 0x320000 + k * 0x2000

/-- A mirror slot is valid when its digest checks (R531). -/
def mirrorOk (s : State) (k : Nat) : Bool :=
  le (flashBytes s (mirrorBase k + 4128) 32) 0 32 == shakeNat (flashBytes s (mirrorBase k) 4128) 32

def mirrorSeq (s : State) (k : Nat) : Nat := ofBytes (flashBytes s (mirrorBase k + 4096) 4)

/-- The newest valid slot (R531). -/
def mirrorNewest (s : State) : Option Nat :=
  if mirrorOk s 0 ∧ mirrorOk s 1 then some (if newer (mirrorSeq s 1) (mirrorSeq s 0) then 1 else 0)
  else if mirrorOk s 0 then some 0 else if mirrorOk s 1 then some 1 else none

/-- FAULT_MIRROR_WRITE: the fault table goes into the older slot, once ERR.PREV has been filled (R531, R534). -/
def execFaultMirrorWrite (s : State) : Host.Outcome State Fault Refusal :=
  .next (if s.err.dirty.isSome && s.err.prevCopied then
    let last := mirrorNewest s
    let k := match last with | some 0 => 1 | _ => 0
    let seq := match last with | some j => (mirrorSeq s j + 1) % 2 ^ 32 | none => 0
    let body := (List.range 64).flatMap (fun i => toBytes 64 (recordWord (tabGet s.err.fault i {})))
      ++ toBytes 4 seq ++ List.replicate 28 0
    let slot := body ++ shake256 body 32 ++ List.replicate (8192 - 4160) 0
    flashStore (mirrorBase k) slot { s with err := { s.err with dirty := none } }
  else s)

/-- A record from its 64 bytes (R528). -/
def recordOf (v : Nat) : Record :=
  { code := bits v 0 16, cls := bits v 16 3, pend := bit v 19, eseq := bits v 32 32, grain := bits v 64 64,
    engine := bits v 128 16, raiser := bits v 144 8, w0 := bits v 256 64, w1 := bits v 320 64, w2 := bits v 384 64,
    w3 := bits v 448 64 }

/-- The pending entries of the newest valid slot become ERR.PREV (R534). -/
def restoreFaults (s : State) : State :=
  let prev := match mirrorNewest s with
    | some k =>
      let l := (List.range 64).map (fun i => (i, recordOf (ofBytes (flashBytes s (mirrorBase k + 64 * i) 64))))
      l.filter (fun p => p.2.pend && p.2.code != 0)
    | none => []
  let dirty := if s.err.fault.isEmpty then s.err.dirty else some (s.err.dirty.getD s.now)
  { s with err := { s.err with prev := prev, prevCopied := true, dirty := dirty } }

/-- ERR_RATE_WINDOW: a window of 2^30 grains begins, and every count restarts (R535). -/
def execErrRateWindow (s : State) : Host.Outcome State Fault Refusal :=
  .next (if s.now / 2 ^ 30 ≠ s.err.window then
    { s with err := { s.err with window := s.now / 2 ^ 30, counts := [], rateDone := [] } }
  else s)

end Sys2Proof.Machine
end

