-- ==== Sys2Proof/Machine/Reset.lean ====
section
/-! DEFINITION. Reset sources, episodes and what each level clears (R445 to R449, R471). -/

namespace Sys2Proof.Machine

/-! ### What a level clears (R445, R448) -/

/-- The processors that every level clears (R398). -/
def seqProcs : List Nat := 5 :: (List.range 8).map (· + 8)

/-- A processor is cleared: PROC.IRQ.CFG is loaded from the configuration store, and a halt lasts until a level-3 reset
(R6, R403, R411 to R413). -/
def clearProc (s : State) (p : Nat) : State :=
  let gone := fun (k : Nat) => k / 16 == p || k % 16 == p
  let s := { s with boxes := s.boxes.filter (fun b => !gone b.1), resend := s.resend.filter (fun b => !gone b.1) }
  let z := cfgIrq s p
  s.modProc p (fun x =>
    let y : Proc := { z with sleepOk := x.sleepOk }
    if x.state = 6 then { y with state := 6, faults := x.faults } else y)

/-- A processor that was cleared runs again from its verified image (R398). -/
def startProc (s : State) (p : Nat) : State :=
  let now := s.now
  s.modProc p (fun x => if x.state = 6 then x else { x with state := 2, written := now, sleepOk := Config.sleepOk p })

/-- Block resets of the kinds that a level clears end with 0x0411 (R452). -/
def endBlocks (gone : Nat → Bool) (s : State) : State :=
  let out := s.rst.blocks.filter (fun b => gone b.kind)
  let s := { s with rst := { s.rst with blocks := s.rst.blocks.filter (fun b => !gone b.kind) } }
  out.foldl (fun s b => finishAll b.cmds 0x0411 s) s

/-- The peg plan returns to the rest plan (R184). -/
def restPlan (s : State) : State :=
  let now := s.now
  let x := s.sill
  { s with sill := { x with plan0 := [], plan1 := [], pegs := [], deferred := [], pending := false, pendingErr := false,
                            late := false, addr := 0, changed := x.pegs.foldl (fun t n => tabPut t n now) x.changed } }

/-- Batches stop without a post; what is outstanding runs to a final status that nothing takes (R322). -/
def stopBatches (s : State) : State :=
  let stop := fun (x : FabEng) =>
    let out := x.out.map (fun o => { o with recNo := 2047 })
    { x with batch := none, out := out }
  { s with fab := { s.fab with engs := s.fab.engs.map (fun e => (e.1, stop e.2)) } }

/-- Collective steps and early stores are discarded (R348). -/
def dropCollectives (s : State) : State :=
  { s with col := { s.col with engs := s.col.engs.map (fun e => (e.1, { e.2 with job := none, early := [] })) } }

/-- The commands that a level-1 reset ends: LOAD, PAUSE, SAVE and RESTORE (R233, R449). -/
def endSeqCommands (s : State) : State :=
  let c := s.cut
  let s := { s with cut := { c with loadCmd := none, saves := [], restore := none } }
  let s := finishOpt c.loadCmd 0x0411 s
  let s := finishAll (c.saves.map (·.cmd)) 0x0411 s
  let s := finishOpt (c.restore.map (·.cmd)) 0x0411 s
  endPauses 0x0411 s

/-- What a level-1 reset clears; of the TIME page it clears TIME.RUN, and the overrun parameters stay (R445, R448). -/
def clear1 (s : State) : State :=
  let s := endBlocks (· == 6) (endSeqCommands (stopMoves none s))
  let s := quietMeshes (clearCrossings (fun _ => true) (dropCollectives (stopBatches (restPlan s))))
  let s := seqProcs.foldl clearProc s
  let mems := s.hbm.mstacks.map (fun m => (m.1, { m.2 with held := 0, maxHold := 0 }))
  let traces := s.dbg.trace.map (fun t => (t.1, { t.2 with capture := false }))
  let left := s.railTop.outstanding.filter (fun o => o.kind == 0x23)
  let c := s.cut
  let cut : Cut := { floorDigest := c.floorDigest, ovrTotal := c.ovrTotal, ovrOther := c.ovrOther, ovrFirst := c.ovrFirst,
                     ovrLast := c.ovrLast, ovrGrain := c.ovrGrain, ovrLastGrain := c.ovrLastGrain }
  { s with engines := [], tillers := [], cut := cut, repro := {},
           hbm := { s.hbm with mstacks := mems }, sill := { s.sill with streams := [], repeats := [] },
           dbg := { s.dbg with trace := traces }, railTop := { s.railTop with outstanding := left },
           pwr := { s.pwr with stop := (if s.pwr.stop = 1 then 0 else s.pwr.stop), tallied := [], results := [] } }

/-- A partition after its stack has been cleared: spares and half width stay, counts and waiting repairs go (R127,
R465). -/
def clearPart (p : Partition) : Partition :=
  let fresh := fun (g : Group) => { g with faults := [], scans := 0, repair := [], declared := 0 }
  { p with groups := p.groups.map (fun g => (g.1, fresh g.2)), corrected := 0, uncorrectable := 0, retries := 0,
           lanesFailed := 0, repaired := false }

/-- A panel back in reset at bin 0; its trained table stays (R423, R425). -/
def clearPanel (x : Panel) : Panel := { maxBin := x.maxBin }

/-- A tiller or mesh panel of a die, by its key (R427). -/
def diePanel (d key : Nat) : Bool := decide (key < 65536) && key / 512 == d

/-- The crib and local store of a tiller are set to 0 (R127, R445). -/
def clearStores (key : Nat) (s : State) : State :=
  { s with crib := memClear s.crib (key * 14680064) ((key + 1) * 14680064),
           localStore := memClear s.localStore (key * 1572864) ((key + 1) * 1572864),
           cribErr := s.cribErr.filter (fun p => p.1 / 57344 != key),
           writeback := s.writeback.filter (fun r => r / 57344 != key) }

/-- One compute stack is cleared: its stores, dowel counts, mesh and panels (R127, R153, R445, R451). -/
def clearStack (s : State) (d : Nat) : State :=
  let s := (List.range 288).foldl (fun s p => clearStores (d * 288 + p) s) s
  let parts := s.parts.map (fun p => (p.1, if p.1 / 288 = d then clearPart p.2 else p.2))
  let panels := s.clk.panels.map (fun p => (p.1, if diePanel d p.1 then clearPanel p.2 else p.2))
  clearCrossings (diePanel d) { s with parts := parts, meshes := tabDel s.meshes d, clk := { s.clk with panels := panels } }

/-- What a level-2 reset clears: everything of level 1, and the eight compute stacks (R184, R445, R448). -/
def clear2 (s : State) : State :=
  let s := endBlocks (fun k => k == 1 || k == 2) (abortStreams 0x10 (fun _ => true) s)
  let s := clear1 s
  let s := (List.range 8).foldl clearStack s
  (List.range 8).foldl (fun s d =>
    let top := cfgCeiling s d
    s.modStack d (fun k => { cap := k.cap, ceiling := top })) s

/-- What a level-3 reset keeps: fuses, flash, retained records, pin levels, the test access port, CFG.RESET, committed
trims, the partitions whose tillers the next self-test disables, and the trip latch unless power-on detection asserts it; what has already left the module stays as sent (R440,
R445, R454, R472, R493). -/
def clear3 (por : Bool) (s : State) : State :=
  let z : State := {}
  let r := s.rst
  let loading := r.state == 1 && r.step == 3
  let rst := { z.rst with episode := r.episode, resetN := r.resetN, pwrOk := r.pwrOk, flash := r.flash, lastLevel := r.lastLevel,
                          lastSource := r.lastSource, episodes := r.episodes, trims := r.trims, dowelFailed := r.dowelFailed,
                          trimRestarts := if loading then satAdd r.trimRestarts 1 0xFF else 0 }
  let sec := { z.sec with counter := s.sec.counter, revokeFw := s.sec.revokeFw, revokeDbg := s.sec.revokeDbg,
                          lockedEvent := s.sec.lockedEvent || s.sec.unlocked }
  let dbg := { z.dbg with testEn := s.dbg.testEn, ir := s.dbg.ir, dr := s.dbg.dr, boundary := s.dbg.boundary,
                          extest := s.dbg.extest, tapActive := s.dbg.tapActive, scanned := s.dbg.scanned,
                          i3cAddr := s.dbg.i3cAddr, i3cOffset := s.dbg.i3cOffset, i3cOut := s.dbg.i3cOut, ibi := s.dbg.ibi,
                          nacks := s.dbg.nacks }
  let pwr := { z.pwr with trip := s.pwr.trip && !por, alertN := s.pwr.alertN, lockout := s.pwr.lockout, aux := s.pwr.aux || por }
  { z with pending := s.pending, free := s.free, rst := rst, sec := sec, dbg := dbg, pwr := pwr,
           time := { z.time with refclk := s.time.refclk, sentReq := s.time.sentReq, lines := s.time.lines },
           sup := { z.sup with retained := s.sup.retained, flashRecs := s.sup.flashRecs },
           yuley := { z.yuley with sent := s.yuley.sent, framed := s.yuley.sent.length },
           sill := { z.sill with words := s.sill.words },
           railTop := { z.railTop with words := s.railTop.words, frames := s.railTop.frames } }

/-- What a level clears. -/
def clearLevel (level : Nat) (por : Bool) (s : State) : State :=
  match level with
  | 1 => clear1 s
  | 2 =>
    let c := s.rst.recovery
    let s := finishOpt c 0x0411 { s with rst := { s.rst with recovery := none, recovering := false, warm := false } }
    let s := clear2 s
    { s with rst := { s.rst with state := 0, step := 0 } }
  | _ => clear3 por s

/-! ### Sources and episodes (R446, R447) -/

/-- A source asserts a level: an episode begins, or widens to a higher level at once (R447). -/
def assertSource (level : Nat) (por : Bool) (s : State) : State :=
  let old := s.rst.episode
  let was := match old with | some ep => ep.level | none => 0
  let ep := old.getD {}
  let ep := { ep with level := max was level, pin := ep.pin || !por, por := ep.por || por, sawPin := ep.sawPin || !por,
                      sawPor := ep.sawPor || por }
  let n := if old.isSome then s.rst.episodes else satAdd s.rst.episodes 1 0xFFFF
  let s := { s with rst := { s.rst with episode := some ep, episodes := n } }
  if was < level then clearLevel level por s
  else if por then { s with pwr := { s.pwr with trip := false, aux := true } }
  else s

/-- The level of RESET_N, 1 to 3 (R446). -/
def pinLevel : Nat := if Config.pinLevel = 1 then 1 else if Config.pinLevel = 3 then 3 else 2

/-- RESET_N_ASSERT: the pin has been low for 1 us (R446). -/
def execResetNAssert (s : State) : Host.Outcome State Fault Refusal :=
  .next (if s.rst.resetN then assertSource pinLevel false { s with rst := { s.rst with resetN := false } } else s)

/-- RESET_N_RELEASE: the pin has been high for 1 us (R446). -/
def execResetNRelease (s : State) : Host.Outcome State Fault Refusal :=
  .next (if s.rst.resetN then s
  else
    let ep := s.rst.episode.map (fun ep => { ep with pin := false })
    { s with rst := { s.rst with resetN := true, episode := ep } })

/-- Power-on detection asserts: a level-3 source that clears the trip latch and restores AUX_1V8 (R440, R446, R514). -/
def powerOnAssert (s : State) : State :=
  if (match s.rst.episode with | some ep => ep.por | none => false) then s else assertSource 3 true s

/-- POWER_ON_DETECT_ASSERT: the always-on supply is low (cause 0), the input is locked out (1), or PWR_OK is low (2); with
the supply go CFG.RESET, the live trims and the retained records (R446, R472, R493). -/
def execPowerOnDetectAssert (cause : Fin 3) (s : State) : Host.Outcome State Fault Refusal :=
  let s := if cause.val = 2 then { s with rst := { s.rst with pwrOk := false } } else s
  let s := if cause.val = 1 then { s with pwr := { s.pwr with lockout := true } } else s
  let s := powerOnAssert s
  .next (if cause.val = 0 then
    { s with rst := { s.rst with lastLevel := 0, lastSource := 0, episodes := 0, trims := [], trimRestarts := 0 },
             sup := { s.sup with retained := [] } }
  else s)

/-- POWER_ON_DETECT_RELEASE: every condition has been clear for 10 ms, and the converters may start (R433, R446). -/
def execPowerOnDetectRelease (s : State) : Host.Outcome State Fault Refusal :=
  .next (match s.rst.episode with
    | some ep =>
      if ep.por then
        { s with rst := { s.rst with episode := some { ep with por := false }, pwrOk := true },
                 pwr := { s.pwr with lockout := false, stagesOff := false } }
      else s
    | none => s)

/-- The alignment grain of panels released at a grain: the first multiple of 64 at least 64 grains on (R423). -/
def alignAt (g : Nat) : Nat := (g + 127) / 64 * 64

/-- A panel's regulator is off: a tiller or mesh panel has a domain of its own, and a Sill panel that of its site (R432). -/
def panelDark (s : State) (k : Nat) : Bool :=
  s.pwr.regFaults.contains (if k < 65536 then (0, k) else (3, k - 65536))

/-- The panels that satisfy a condition and have power are released, to align together, and the crossings that touch them
are empty (R423, R424, R432). -/
def releasePanels (p : Nat → Bool) (g : Nat) (s : State) : State :=
  let a := alignAt g
  let go := fun (x : Panel) => { x with inReset := true, align := some a, bin := 0, changing := false, lowerAt := none }
  let panels := s.clk.panels.map (fun x => (x.1, if p x.1 && !x.2.stopped && !panelDark s x.1 then go x.2 else x.2))
  clearCrossings p { s with clk := { s.clk with panels := panels } }

/-- The longest table route of an enabled set, in hops and turns (R140, R153). -/
def routeLimits (en : List Nat) : Nat × Nat :=
  let nodes := 288 :: en
  nodes.foldl (fun m d =>
    let t := distances en d
    nodes.foldl (fun m r =>
      let w := routeWalk en t d 289 r none
      (max m.1 w.1, max m.2 w.2)) m) (0, 0)

/-- MESH.STATUS shows the limits of the routes of a die's floor plan (R153). -/
def measureMesh (s : State) (d : Nat) : State :=
  let w := routeLimits (s.dieFloor d).enabled
  s.modFloor d (fun f => { f with maxHops := w.1, maxTurns := w.2 })

/-- The mesh of a die is built from its stored floor plan, as it is after a reset (R137, R153, R201, R451). -/
def buildMesh (s : State) (d : Nat) : State :=
  let en := (s.dieFloor d).enabled
  (measureMesh s d).modMesh d (fun _ => { plan0 := en, plan1 := en, powered := en })

/-- A level-1 episode ends: the sequencers that have power restart (R445, R471); after a trip nothing
has power (R440). -/
def endLevel1 (s : State) : State :=
  if s.pwr.trip then s else
  let r := s.rst
  let powered := fun (p : Nat) => r.state != 1 || (if p = 5 then decide (3 ≤ r.step) else decide (8 ≤ r.step))
  (seqProcs.filter powered).foldl startProc s

/-- The warm fast path begins: sequencers, stacks, meshes and panels (R433, R469). -/
def beginWarm (s : State) : State :=
  if s.pwr.trip then s else
  let s := (List.range 8).foldl buildMesh (seqProcs.foldl startProc s)
  releasePanels (fun k => decide (k < 65536)) s.now { s with rst := { s.rst with state := 2, step := 0, warm := true } }

/-- Cold bring-up begins with step 0 (R322, R460). -/
def beginCold (s : State) : State :=
  { s with rst := { s.rst with state := 1, step := 0, stepSince := s.now },
           fab := { s.fab with silentTo := s.now + 2 ^ 24 }, pwr := { s.pwr with stagesOff := false } }

/-- RESET_EPISODE_END: both sources have released, so the blocks of the effective level are released; a level-2 episode
with no floor plan built is carried out as level 3 (R447, R469, R471). -/
def execResetEpisodeEnd (s : State) : Host.Outcome State Fault Refusal :=
  .next (match s.rst.episode with
    | none => s
    | some ep =>
      if ep.pin || ep.por then s
      else
        let level := if ep.level = 2 ∧ !s.rst.built then 3 else ep.level
        let s := if level ≠ ep.level then clearLevel 3 false s else s
        let s := { s with rst := { s.rst with episode := none, lastLevel := level,
                                              lastSource := b2n ep.sawPin + 2 * b2n ep.sawPor } }
        if level = 1 then endLevel1 s else if level = 2 then beginWarm s else beginCold s)

/-- WARM_BRINGUP_COMPLETE: degraded marks follow from the stored half-width states, and the ready state is evaluated again
(R465, R469). -/
def execWarmBringupComplete (s : State) : Host.Outcome State Fault Refusal :=
  .next (if s.rst.state = 2 ∧ s.rst.warm ∧ s.sup.hold ≠ 0 then
    let s := s.parts.foldl (fun s p => markDegraded p.1 s) s
    setReady { s with rst := { s.rst with warm := false } }
  else s)

end Sys2Proof.Machine
end

