-- ==== Sys2Proof/Machine/Bringup.lean ====
section
/-! DEFINITION. Tests, the floor plan, cold bring-up and recovery (R460 to R471). -/

namespace Sys2Proof.Machine

/-! ### Tests and calibrations (R122, R123, R426) -/

/-- A dowel group as calibration leaves it: the lanes that showed an error spared, at half width where a half has more
than its 16 spares, failed where both have (R119 to R122). -/
def calibrateGroup (bad : List Nat) : Group :=
  let b0 := bad.filter (· % 2 == 0)
  let b1 := bad.filter (· % 2 == 1)
  { bad0 := b0, bad1 := b1, half := decide (16 < b0.length) || decide (16 < b1.length),
    failed := decide (16 < b0.length) && decide (16 < b1.length) }

/-- A partition as calibration leaves it (R122, R123). -/
def calibratePart (old : Partition) (t : TillerTest) : Partition :=
  let lanes := fun (g : Nat) => setOf ((t.bad.filter (fun x => x.1.val == g)).map (·.2.val))
  { old with groups := (List.range 8).map (fun g => (g, calibrateGroup (lanes g))), fellAt := none,
             clockDowel := match t.clock with | some c => c.val | none => 0 }

/-- Every dowel group is calibrated afresh; a tiller fails when its clock dowels or both halves of a group fail (R122,
R123, R463). -/
def calibrateDowels (test : BringTest) (s : State) : State :=
  let fresh := s.parts.map (fun p => (p.1, { p.2 with groups := [], clockDowel := 0, fellAt := none }))
  let s := { s with parts := fresh }
  test.tillers.foldl (fun s t =>
    let key := tKey t.tiller
    let s := s.modPart key (fun p => calibratePart p t)
    let failed := t.clock.isNone || (s.part key).groups.any (fun g => g.2.failed)
    let d := t.tiller.die.val
    if failed then
      { s with rst := { s.rst with tests := tabMod s.rst.tests d {} (fun x => { bad := setIns x.bad t.tiller.phys.val }) } }
    else s) s

/-- The highest bins of the panels of a die, by tiller and mesh panel (R426). -/
def binsOf (test : BringTest) (d p : Nat) : Nat :=
  if p = 288 then match test.meshes.find? (fun m => m.1.val == d) with | some m => m.2.val | none => 10
  else match test.tillers.find? (fun t => t.tiller.die.val == d && t.tiller.phys.val == p) with
    | some t => t.maxBin.val
    | none => 10

/-- Self-test and the bin sweep: max_bin of every panel, the tillers that fail, and those under which a dowel group has
failed in service (R121, R426, R463). -/
def selfTest (test : BringTest) (s : State) : State :=
  let panels := s.clk.panels.map (fun x =>
    (x.1, if x.1 < 65536 then { x.2 with maxBin := binsOf test (x.1 / 512) (x.1 % 512) } else x.2))
  let worn := s.rst.dowelFailed.foldl (fun t k => tabMod t (k / 288) {} (fun x => { bad := setIns x.bad (k % 288) })) s.rst.tests
  let s := { s with clk := { s.clk with panels := panels }, rst := { s.rst with tests := worn, dowelFailed := [] } }
  test.tillers.foldl (fun s t =>
    if t.pass && decide (8 ≤ t.maxBin.val) then s
    else
      let d := t.tiller.die.val
      { s with rst := { s.rst with tests := tabMod s.rst.tests d {} (fun x => { bad := setIns x.bad t.tiller.phys.val }) } }) s

/-! ### The floor plan (R140, R463, R464) -/

/-- Enabled tillers that are connected to node 288 (R140). -/
def connected (en : List Nat) : List Nat :=
  let t := distances en 288
  en.filter (fun p => (distOf t p).isSome)

/-- The ends of the routes that break a limit (R140). -/
def routeEnds (en : List Nat) : List Nat :=
  let nodes := 288 :: en
  nodes.foldl (fun l d =>
    let t := distances en d
    nodes.foldl (fun l r =>
      let w := routeWalk en t d 289 r none
      if 40 < w.1 ∨ 4 < w.2 then setIns (setIns l d) r else l) l) []

/-- Tillers are disabled until the mesh conditions hold: the unconnected first, then the highest end of a violating route
at a time (R140). -/
def trimMesh : Nat → List Nat → List Nat
  | 0, en => en
  | n + 1, en =>
    let en := connected en
    match ((routeEnds en).filter (· < 288)).getLast? with
    | none => en
    | some p => trimMesh n (setDel en p)

/-- The floor plan of one die is built (R463, R464). -/
def buildDie (s : State) (d : Nat) : State :=
  let fused := setOf (Config.fusedTillers d)
  let bad := (tabGet s.rst.tests d {}).bad
  let tested := fused.filter (fun p => !bad.contains p)
  let en := trimMesh 289 tested
  let half := en.filter (fun p => (s.part (d * 288 + p)).groups.any (fun g => g.2.half))
  let passed := (List.range 288).filter (fun p => !fused.contains p && !bad.contains p)
  let meshBad := decide ((s.panel (d * 512 + 288)).maxBin < 8)
  let s := { s with rst := { s.rst with
    fuseOnly := s.rst.fuseOnly + passed.length
    testOnly := s.rst.testOnly + (fused.length - tested.length)
    meshDisabled := s.rst.meshDisabled + (tested.length - en.length) } }
  let s := s.modFloor d (fun f => { f with enabled := en, degraded := half, belowGrade := decide (en.length < 256),
                                           fault := meshBad || en.isEmpty })
  if en.length < 256 then raise 0x0206 0 d (floorWord s d) 0 0 s else s

/-- The floor plan is built and stored, with CUT.FLOOR (R153, R216, R463, R465). -/
def buildFloor (s : State) : State :=
  let s := { s with rst := { s.rst with fuseOnly := 0, testOnly := 0, meshDisabled := 0 } }
  let s := (List.range 8).foldl buildDie s
  let s := { s with cut := { s.cut with floorDigest := BitVec.ofNat 256 (floorDigest s) },
                    rst := { s.rst with built := true, tests := [] } }
  (List.range 8).foldl measureMesh s

/-! ### Cold bring-up (R460 to R462) -/

/-- The limit of a step in grains (R460). -/
def stepLimit (n : Nat) : Nat :=
  match n with
  | 0 => 100000000 | 1 => 8000000000 | 2 => 1000000000 | 3 => 1000000000 | 4 => 1000000000 | 5 => 5000000000
  | 6 => 2000000000 | 7 => 10000000 | 8 => 3000000000 | 9 => 40000000000 | 10 => 1000000000 | 11 => 5000000000
  | _ => 2000000000

/-- The panels of the compute stacks, and those of the Sill sites (R414, R427). -/
def stackPanels : List Nat := (List.range 8).flatMap (fun d => (List.range 289).map (fun p => d * 512 + p))
def sillPanels : List Nat :=
  ((List.range 8) ++ (List.range 32).map (· + 0x10) ++ (List.range 26).map (· + 0x40) ++ [0x60, 0x61]).map (· + 65536)

/-- Panels come into being, in reset, to align together (R423, R433). -/
def addPanels (l : List Nat) (top : Nat) (s : State) : State :=
  let now := s.now
  let put := fun (t : List (Nat × Panel)) k => tabPut t k { maxBin := top, align := some (alignAt now) }
  { s with clk := { s.clk with panels := l.foldl put s.clk.panels } }

/-- The first step that overran or failed is recorded, with BRINGUP_FAIL (R461). -/
def failBringup (n : Nat) (s : State) : State :=
  if n ≤ 10 ∧ s.rst.failStep = 0 then
    let s := { s with rst := { s.rst with failStep := n + 1 } }
    raise 0x0B04 0 (cfgState s) 0 0 0 s
  else s

/-- The work of a step of cold bring-up, as it stands when the step ends; a stack whose training fails makes step 6 fail
(R202, R460, R461). -/
def stepWork (n : Nat) (test : BringTest) (s : State) : State :=
  match n with
  | 0 => startProc s 0
  | 1 => s
  | 2 =>
    let s := [1, 3, 4, 5].foldl startProc s
    let s := { s with sup := { s.sup with hold := 1, phase := 0, beat := s.now, aReleased := false, released := none } }
    if s.sec.lockedEvent then raise 0x0C04 0 3 0 0 0 { s with sec := { s.sec with lockedEvent := false } } else s
  | 3 => restoreFaults (loadTrims (applyConfig (selectConfig s)))
  | 4 => addPanels sillPanels 8 { s with pwr := { s.pwr with domainsOff := false } }
  | 5 =>
    let power := fun (c : Nat) => match test.power.find? (fun p => p.1.val == c) with | some p => p.2.toNat | none => 0
    let lit := (List.range 8).map (fun c => (c, ({ state := 2, power := power c } : Comb)))
    let s := { s with opt := { s.opt with combs := lit } }
    let s := calibrateLanes (test.lanes.map (·.val)) test.rings s
    test.combs.foldl (fun s c => if (s.comb c.val).state = 3 then s else combFails c.val s) s
  | 6 =>
    let s := (List.range 32).foldl (fun s h =>
      let fix := match test.repaired.find? (fun r => r.1.val == h) with | some r => r.2.val | none => 0
      s.modMem h (fun m => { m with state := if m.state = 3 then 3 else 2, repaired := fix })) s
    let s := { s with hbm := { s.hbm with mem := [], errs := [] } }
    let s := test.hbm.foldl (fun s h => if (s.mstack h.val).state = 3 then s else failStack h.val s) s
    if (List.range 32).all (fun h => (s.mstack h).state == 2) then { s with hbm := { s.hbm with size := hbmTop } }
    else failBringup 6 { s with hbm := { s.hbm with size := 0 } }
  | 7 => addPanels stackPanels 0 ((List.range 8).foldl (fun s d => startProc s (8 + d)) s)
  | 8 => calibrateDowels test s
  | 9 => selfTest test s
  | 10 => (List.range 8).foldl buildMesh (buildFloor s)
  | 11 => formRails (assignRails false (assignHomes { s with railTop := { s.railTop with assigned := true } }))
  | 12 => s
  | _ => s

/-- TEST_EN high in step 1 is kept (R499, R510). -/
def noteTestEn (s : State) : State :=
  if s.rst.state = 1 ∧ s.rst.step = 1 ∧ s.dbg.testEn then
    { s with sec := { s.sec with wasUnlocked := true }, dbg := { s.dbg with testSeen := true } }
  else s

/-- A step starts; in step 5 the combs lock, and in step 6 the stacks train (R208, R297, R460). -/
def startStep (n : Nat) (s : State) : State :=
  let s := noteTestEn { s with rst := { s.rst with step := n, stepSince := s.now } }
  if n = 5 then { s with opt := { s.opt with combs := (List.range 8).map (fun c => (c, ({ state := 1 } : Comb))) } }
  else if n = 6 then (List.range 32).foldl (fun s h => s.modMem h (fun m => { m with state := if m.state = 3 then 3 else 1 })) s else s

/-- A step has ended and the next starts; after step 13 the ready state stands (R460, R468). -/
def endStep (n : Nat) (test : BringTest) (s : State) : State :=
  let s := stepWork n test s
  if n < 13 then startStep (n + 1) s else setReady s

/-- The bring-up may go on: it is under way, no episode holds it, the domains have power, and from step 3 on a supervisor
holds the hold (R440, R460, R497). -/
def coldRuns (s : State) : Bool :=
  s.rst.state == 1 && s.rst.episode.isNone && !s.pwr.trip && !s.pwr.stagesOff
    && (decide (s.rst.step ≤ 2) || s.sup.hold != 0)

/-- BRINGUP_STEP_DONE: the step in progress ends; step 1 ends only with a bootable slot, and step 12 with the time locked
(R460, R479, R480). -/
def execBringupStepDone (test : BringTest) (s : State) : Host.Outcome State Fault Refusal :=
  let n := s.rst.step
  .next (if !coldRuns s then s
  else if n = 1 then
    if s.sec.nextJudge ≠ 0 then s
    else
      let s := secureBoot s
      if s.sec.booted then endStep 1 test s else s
  else if n = 12 then (if s.time.st = .locked then endStep 12 test s else s)
  else endStep n test s)

/-- FW_SLOT_REJUDGE: with no bootable slot, Square judges the slots again every 10 s (R480). -/
def execFwSlotRejudge (s : State) : Host.Outcome State Fault Refusal :=
  .next (if coldRuns s && s.rst.step == 1 && s.sec.nextJudge != 0 && decide (s.sec.nextJudge ≤ s.now) then
    let s := secureBoot s
    if s.sec.booted then endStep 1 {} { s with sec := { s.sec with nextJudge := 0 } } else s
  else s)

/-- BRINGUP_STEP_TIMEOUT: a step overran its limit and is handled as R461 states: steps 0, 1, 7 and 10 go on, steps 2 to 5
stop the sequence in the state failed, and the others end with what is unfinished counted as failed (`test`). -/
def execBringupStepTimeout (test : BringTest) (s : State) : Host.Outcome State Fault Refusal :=
  let n := s.rst.step
  .next (if coldRuns s && decide (s.rst.stepSince + stepLimit n < s.now) && n != 13 then
    let s := failBringup n s
    if 2 ≤ n ∧ n ≤ 5 then
      let before := cfgState s
      let s := { s with rst := { s.rst with state := 6, step := 0 } }
      raise 0x0B05 0 before (cfgState s) 0 0 s
    else if n = 6 ∨ n = 8 ∨ n = 9 ∨ 11 ≤ n then endStep n test s
    else s
  else s)

/-! ### Recovery (R470, R471) -/

/-- RECOVER: a level-2 reset, block resets of the failed stacks, retraining of failed rails and the measurement of both
delays begin; refused in loading, armed and running (R392, R470). -/
def execRecover (p : CmdPkt) (s : State) : Host.Outcome State Fault Refusal :=
  .next (runCmd p (p.opcode == 0x502) (fun c s =>
    if s.cut.state == .loading || s.cut.state == .armed || s.cut.state == .running || s.rst.recovering then
      finish c 0x0202 [] s
    else
      let s := clear2 s
      let s := (List.range 8).foldl buildMesh (seqProcs.foldl startProc s)
      let s := releasePanels (fun k => decide (k < 65536)) s.now s
      let failed := (List.range 32).filter (fun h => (s.mstack h).state == 3)
      let jobs := failed.map (fun h =>
        ({ kind := 3, index := h, phase := 1, start := s.now, since := s.now, limit := 60000000 } : BlockJob))
      let s := failed.foldl (fun s h => s.modMem h (fun m => { m with state := 1, selfRefresh := true })) s
      let r : Rst := { s.rst with state := 3, step := 0, recovery := some c, recovering := true,
                                  blocks := s.rst.blocks ++ jobs }
      let s := stopScrub { s with rst := r }
      let s := (List.range 26).foldl (fun s r =>
        if (s.rail r).state = 7 ∧ !(s.rail r).heldDown then retrainRail r s else s) s
      addJob { port := 1, only := true } (addJob { port := 0, only := true } s)) s)

/-- Everything that recovery waits for has come to its end (R470). -/
def recovered (s : State) : Bool :=
  !s.rst.blocks.any (fun b => b.kind == 3) && s.rails.all (fun r => !training r.2.state)
    && s.time.locks.isEmpty && s.time.jobs.isEmpty

/-- RECOVERY_COMPLETE: dowels, Sill lanes and tillers have been calibrated and tested, the floor plan is rebuilt, the ready
state is reported, and RECOVER completes; a die whose floor plan has changed takes its new tables by a flip (R142, R463,
R470). -/
def execRecoveryComplete (test : BringTest) (s : State) : Host.Outcome State Fault Refusal :=
  .next (if s.rst.state = 3 ∧ s.rst.recovering ∧ recovered s ∧ s.sup.hold ≠ 0 then
    let c := s.rst.recovery
    let s := calibrateLanes (test.lanes.map (·.val)) test.rings (calibrateDowels test s)
    let s := buildFloor (selfTest test s)
    finishOpt c 0 (setReady { s with rst := { s.rst with recovering := false, recovery := none } })
  else s)

end Sys2Proof.Machine
end

