-- ==== Sys2Proof/Machine/Block.lean ====
section
/-! DEFINITION. Block resets (R391, R450 to R452). -/

namespace Sys2Proof.Machine

/-- The requests outstanding at the engines homed at a rail site, each with its engine (R299, R322). -/
def homedOut (s : State) (r : Nat) : List (Nat × Outreq) :=
  s.fab.engs.flatMap (fun e => if fabSite e.1 = r then e.2.out.map (fun o => (e.1, o)) else [])

/-- Steps in progress on an engine, barriers that wait apart. -/
def stepsRun (s : State) (e : Nat) : Bool := (s.engine e).flight.any (fun f => f.unit != 5)

/-- A block reports idle (R450). -/
def blockIdle (s : State) (kind i : Nat) : Bool :=
  let open_ := s.sill.streams.any (fun st => st.live && (streamDescs s st).any (fun d => d.touches kind i))
    || s.hbm.xfers.any (fun x => x.touches kind i)
  let clear := match kind with
    | 1 => !s.engines.any (fun e => engKind e.1 == 1 && engDie e.1 == some i && stepsRun s e.1) && (s.mesh i).flits.isEmpty
        && s.clk.crossings.all (fun c => !(crossPanels c.1).any (diePanel i) || c.2.idle)
    | 3 => s.cut.loadCmd.isNone && s.cut.saves.isEmpty && s.cut.restore.isNone
        && (tabGet s.fab.ports i {}).queue.isEmpty && !s.fab.holdPool.any (fun r => reqStack r.pkt == i)
    | 4 => (s.colEng i).job.isNone && (homedOut s i).isEmpty && (s.rail i).replay.isEmpty
    | 6 => s.sill.streams.all (fun st => !st.live) && !stepsRun s sillSeq
    | _ => true
  clear && !open_

/-- The streams that the reset of a block aborts: with a stack or the sequencer every one through it, at once; else those
still open, whose last frame may still arrive in the same grain. The transfers through the block abort too (R184, R186,
R450). -/
def abortBlock (kind i : Nat) (s : State) : State :=
  let through := fun (st : Stream) => (streamDescs s st).any (fun d => d.touches kind i)
  abortXfers kind i (if kind = 1 ∨ kind = 6 then abortStreams kind through s
  else (s.sill.streams.filter (fun st => through st && st.live && st.closed.isNone)).foldl
    (fun s st => abortSoon kind st s) s)

/-- A compute stack and its logic die are reset: an armed or running list halts, a loaded or paused one is unloaded
(R127, R451). -/
def resetStack (d : Nat) (s : State) : State :=
  let s := haltRun 7 (1 + 256 * d) s
  let s := if s.cut.state = .loaded ∨ s.cut.state = .paused then unloadList s else s
  let scanned := (s.clk.panels.filter (fun p => diePanel d p.1 && p.2.stopped)).map (·.1)
  let posts := s.cut.posts.filter (fun p => engDie p.dest != some d)
  let engs := s.engines.filter (fun e => engDie e.1 != some d)
  let tils := s.tillers.filter (fun t => t.1 / 288 != d)
  let s := clearStack { s with cut := { s.cut with posts := posts }, engines := engs, tillers := tils } d
  let s := clearProc (s.modStack d (fun k => { k with bin := 0, stretchDue := none })) (8 + d)
  let s := scanned.foldl (fun s k => s.modPanel k (fun x => { x with stopped := true })) s
  releasePanels (fun k => diePanel d k) (s.now + 1000) s

/-- Requests queued or held for a stack end with 0x0464 (R322). -/
def dropRequests (h : Nat) (s : State) : State :=
  let p := tabGet s.fab.ports h {}
  let held := s.fab.holdPool.filter (fun r => reqStack r.pkt == h)
  let s := { s with fab := { s.fab with ports := tabPut s.fab.ports h { p with queue := [] },
                                        holdPool := s.fab.holdPool.filter (fun r => reqStack r.pkt != h) } }
  (p.queue ++ held).foldl (fun s r => settleRequest r 0x0464 0 [] s) s

/-- A rail site is reset: its collective step completes aborted, the requests of its engines end, its rail goes DOWN, and
its collective area is set to 0 (R263, R322, R348, R451). -/
def resetRail (r : Nat) (s : State) : State :=
  let s := (homedOut s r).foldl (fun s o => endRequest o.1 o.2.dest o.2.seq 0x0464 0 [] s) s
  let s := match (s.colEng r).job with | some j => endCol r j false true s | none => s
  let area := memClear s.col.area (bufAddr r 0) (bufAddr (r + 1) 0)
  let s := s.modCol r (fun e => { e with uncorrArea := [] })
  let s := railDown r 6 0 { s with col := { s.col with area := area } }
  s.modRail r (fun x => { x with reset := true })

/-- A Sill path block is reset: the pegs of its bay turn off (R184). -/
def resetPath (i : Nat) (s : State) : State :=
  let now := s.now
  let off := s.sill.pegs.filter (fun n => n / 256 == i)
  { s with sill := { s.sill with pegs := s.sill.pegs.filter (fun n => n / 256 != i),
                                 changed := off.foldl (fun t n => tabPut t n now) s.sill.changed } }

/-- The Sill sequencer is reset: the run halts, and the rest plan stands (R184, R451). -/
def resetSequencer (s : State) : State :=
  let s := restPlan (haltRun 7 6 s)
  clearProc { s with engines := tabDel s.engines sillSeq } 5

/-- The reset of a block is asserted for 1 us and released: what is still open ends, and the block starts its restoration
(R450, R451). -/
def assertBlock (kind i : Nat) (forced : Bool) (s : State) : State :=
  let at_ := s.now + 1000
  let mine := fun (b : BlockJob) => b.kind == kind && b.index == i
  let s := { s with rst := { s.rst with blocks := s.rst.blocks.map (fun b =>
    if mine b then { b with phase := 1, since := at_, forced := forced } else b) } }
  let s := abortBlock kind i s
  match kind with
  | 1 => resetStack i s
  | 3 =>
    let s := if s.cut.state = .loading then rejectLoad { code := 0x16 } s else s
    dropRequests i (s.modMem i (fun m => { m with state := 1, selfRefresh := true }))
  | 4 => resetRail i s
  | 5 => resetPath i s
  | 6 => resetSequencer s
  | _ => s

/-- A block reset under way, by kind, index and phase. -/
def blockJob (s : State) (kind i phase : Nat) : Option BlockJob :=
  s.rst.blocks.find? (fun b => b.kind == kind && b.index == i && b.phase == phase)

def endJob (kind i : Nat) (s : State) : State :=
  { s with rst := { s.rst with blocks := s.rst.blocks.filter (fun b => !(b.kind == kind && b.index == i)) } }

/-- A BLOCK_RESET starts, or joins the one under way for its block (R391, R450, R452). -/
def runBlock (kind : Nat) (p : CmdPkt) (s : State) : State :=
  runCmd p (p.opcode == 0x500 && p.arg 0 1 == kind) (fun c s =>
    let i := p.arg 1 1
    let same := fun (b : BlockJob) => b.kind == kind && b.index == i
    let t := if p.arg 2 4 = 0 then 100 else p.arg 2 4
    let join := fun (b : BlockJob) => if same b then { b with cmds := b.cmds ++ [c] } else b
    let l := if s.rst.blocks.any same then s.rst.blocks.map join
      else s.rst.blocks ++ [{ kind := kind, index := i, start := s.now, limit := 1000 * t, cmds := [c] }]
    stopScrub { s with rst := { s.rst with blocks := l } }) s

/-- BLOCK_RESET_COMPUTE_STACK (R184, R391, R451). A kind that no block has is refused here (R379, R391). -/
def execBlockResetComputeStack (p : CmdPkt) (s : State) : Host.Outcome State Fault Refusal :=
  .next (if p.arg 0 1 = 0 ∨ 6 < p.arg 0 1 then runCmd p (p.opcode == 0x500) (fun c s => finish c 0x0103 [] s) s
  else runBlock 1 p s)

/-- BLOCK_RESET_CRIB: a crib alone is refused with 0x0107 (R128, R391). -/
def execBlockResetCrib (p : CmdPkt) (s : State) : Host.Outcome State Fault Refusal :=
  .next (runCmd p (p.opcode == 0x500 && p.arg 0 1 == 2) (fun c s => finish c 0x0107 [] s) s)

/-- BLOCK_RESET_HBM_SITE (R204, R391, R451). -/
def execBlockResetHbmSite (p : CmdPkt) (s : State) : Host.Outcome State Fault Refusal := .next (runBlock 3 p s)

/-- BLOCK_RESET_RAIL_SITE (R391, R451). -/
def execBlockResetRailSite (p : CmdPkt) (s : State) : Host.Outcome State Fault Refusal := .next (runBlock 4 p s)

/-- BLOCK_RESET_SILL_PATH (R184, R391, R451). -/
def execBlockResetSillPath (p : CmdPkt) (s : State) : Host.Outcome State Fault Refusal := .next (runBlock 5 p s)

/-- BLOCK_RESET_SILL_SEQUENCER (R184, R391, R451). -/
def execBlockResetSillSequencer (p : CmdPkt) (s : State) : Host.Outcome State Fault Refusal := .next (runBlock 6 p s)

/-- BLOCK_IDLE: a block in quiesce reports idle, and its reset is asserted (R450). -/
def execBlockIdle (kind : Fin 8) (index : Fin 32) (s : State) : Host.Outcome State Fault Refusal :=
  .next (match blockJob s kind.val index.val 0 with
    | none => s
    | some _ => if blockIdle s kind.val index.val then assertBlock kind.val index.val false s else s)

/-- BLOCK_QUIESCE_TIMEOUT: the quiesce timeout ends, and the reset is asserted regardless (R450). -/
def execBlockQuiesceTimeout (kind : Fin 8) (index : Fin 32) (s : State) : Host.Outcome State Fault Refusal :=
  .next (match blockJob s kind.val index.val 0 with
    | none => s
    | some b => if b.start + b.limit ≤ s.now then assertBlock kind.val index.val true s else s)

/-- What a block's restoration leaves; a stack or an HBM site has its failed domains back, and the lanes that the retraining
of an HBM site replaced (`fixed`) are counted (R184, R204, R208, R432, R451). -/
def restoreBlock (kind i fixed : Nat) (s : State) : State :=
  let cured := fun (x : Nat × Nat) => (kind == 1 && x.1 == 0 && diePanel i x.2) || (kind == 3 && x == (1, i))
  let back := s.pwr.regFaults.filter cured
  let s := { s with pwr := { s.pwr with regFaults := s.pwr.regFaults.filter (fun x => !cured x) } }
  let s := releasePanels (fun k => decide (k < 65536) && back.contains (0, k)) s.now s
  match kind with
  | 1 => buildMesh (startProc s (8 + i)) i
  | 3 => evalReady (s.modMem i (fun m => { m with state := 2, selfRefresh := false, repaired := fixed }))
  | 4 => s.modRail i (fun x => { x with reset := false })
  | 6 => startProc s 5
  | _ => s

/-- The rail of a site is trained, or is held or fused out (R259, R262). -/
def railSettled (s : State) (r : Nat) : Bool :=
  (s.rail r).state == 5 || (s.rail r).state == 6 || (s.rail r).heldDown || Config.railFusedBad r

/-- The rings of a bay's pegs and relay take the measurements of their calibration (R184, R295). -/
def calibrateBay (i : Nat) (cals : RingCals) (s : State) : State :=
  calibrateRings (cals.filter (fun c => match c.1.place with
    | .peg n => n.val / 256 == i | .relay n => n.val == i | _ => false)) s

/-- BLOCK_READY: a block reports ready, and its BLOCK_RESET completes; `fixed` are the lanes of a retrained stack that its
lane repair replaced, and `cals` what the calibration of a bay's rings measured (R202, R204, R295, R391, R451). -/
def execBlockReady (kind : Fin 8) (index : Fin 32) (fixed : Fin 64) (cals : RingCals) (s : State) : Host.Outcome State Fault Refusal :=
  .next (match blockJob s kind.val index.val 1 with
    | none => s
    | some b =>
      if b.since ≤ s.now ∧ (kind.val ≠ 4 ∨ railSettled s index.val) then
        let s := if kind.val = 5 then calibrateBay index.val cals s else s
        finishAll b.cmds (if b.forced then 2 else 0) (restoreBlock kind.val index.val fixed.val (endJob kind.val index.val s))
      else s)

/-- Grains after its release within which a block reports ready (R451). -/
def readyBound (kind : Nat) : Nat :=
  match kind with
  | 3 => 60000000 | 4 => 5000000000 | 5 => 2000000 | _ => 50000000

/-- A block that has not come back is failed (R205, R451). -/
def failBlock (kind i : Nat) (s : State) : State :=
  match kind with
  | 3 => failStack i (s.modMem i (fun m => { m with selfRefresh := false }))
  | 4 => s.modRail i (fun x => { x.fresh with state := 7, stateSince := s.now, reset := false })
  | _ => s

/-- BLOCK_READY_TIMEOUT: a block has not reported ready within its bound, and its BLOCK_RESET completes with 0x0501
(R391, R451). -/
def execBlockReadyTimeout (kind : Fin 8) (index : Fin 32) (s : State) : Host.Outcome State Fault Refusal :=
  .next (match blockJob s kind.val index.val 1 with
    | none => s
    | some b =>
      if b.since + readyBound kind.val < s.now then
        finishAll b.cmds 0x0501 (failBlock kind.val index.val (endJob kind.val index.val s))
      else s)

end Sys2Proof.Machine
end

