-- ==== Sys2Proof/Machine/Clock.lean ====
section
/-! DEFINITION. Panels: stretch, bins and alignment (R414 to R428). -/

namespace Sys2Proof.Machine

/-! ### Stretch (R416, R417) -/

/-- The steps of 1/16 period that keep a period of bin k within 833.3 ps, at most 4 (R415, R416). -/
def stretchSteps (bin : Nat) : Nat := min 4 (4 * bin / 3)

/-- The periods of a panel after some unstretched ones and one of so many steps, newest first (R416). -/
def stretchNote (x : Panel) (since steps : Nat) : List Nat :=
  (steps :: (List.replicate (min since 64) 0 ++ x.recent)).take 64

/-- An event of the clocks is due again: the last lies at least 1,024 fleet sheaves back (R416, R417). -/
def clockDue (last : Option Nat) (s : State) : Bool :=
  match last with | some f => decide (f + 1024 ≤ s.fleetSheaf) | none => true

/-- A panel could not stretch enough: stretch_over, CLK_STRETCH_EXCESS, and a lowering of its stack's ceiling (R416). -/
def stretchExcess (k : Nat) (s : State) : State :=
  let now := s.now
  let s := s.modPanel k (fun x => { x with overFlag := true })
  let s := if k < 65536 then s.modStack (k / 512) (fun y => { y with stretchDue := some now, calm := 0 }) else s
  if clockDue s.clk.excessAt s then
    raise 0x0903 0 (0x01100000 + k) (panelWord (s.panel k)) 0 0
      { s with clk := { s.clk with excessAt := some s.fleetSheaf } }
  else s

/-- More than 8 of 64 periods of a panel were stretched: warn and CLK_MARGIN_WARN (R417). -/
def marginWarn (k : Nat) (s : State) : State :=
  let s := s.modPanel k (fun x => { x with warn := true })
  if clockDue s.clk.warnAt s then
    raise 0x0904 0 (0x01100000 + k) (panelWord (s.panel k)) 0 0 { s with clk := { s.clk with warnAt := some s.fleetSheaf } }
  else s

/-- PANEL_MARGIN_LOW: the smallest replica margin of a period is below 10 %, and `need` steps would restore it; the next
period is stretched, within the limits of the bin and of the window (R416, R417). `since` periods have passed unstretched
since the last stretched one. -/
def execPanelMarginLow (panel : BitVec 17) (need : Fin 6) (since : Nat) (s : State) : Host.Outcome State Fault Refusal :=
  let k := panel.toNat
  match tabFind s.clk.panels k with
  | none => if panelIndex k then .next s else .fault .absentUnit
  | some x =>
    .next (if need.val = 0 ∨ x.inReset then s
    else
      let window := ((List.replicate (min since 64) 0 ++ x.recent).take 63).sum
      let want := min need.val (stretchSteps x.bin)
      let took := min want (64 - window)
      let l := stretchNote x since took
      let s := s.modPanel k (fun y => { y with recent := l, stretched := satAdd y.stretched (min took 1) (0x10000 * 1024 - 1) })
      let s := if 4 < need.val ∨ 64 < window + want then stretchExcess k s else s
      if 8 < (l.filter (0 < ·)).length then marginWarn k s else s)

/-- STRETCH_CEILING_LOWER: at the boundary after a stretch excess, and at most once in 16 sheaves from the last change, the
ceiling of the panel's stack falls one bin (R416). -/
def execStretchCeilingLower (die : Fin 8) (s : State) : Host.Outcome State Fault Refusal :=
  let k := s.cstack die.val
  match k.stretchDue with
  | none => .next s
  | some g =>
    let due := match k.changed with | some f => decide (f + 16 ≤ s.fleetSheaf) | none => true
    .next (if s.atBoundary && decide (g < s.now) && due && s.sup.hold != 0 then
      s.modStack die.val (fun y =>
        { y with stretchDue := none, ceiling := y.ceiling - 1,
                 changed := if y.ceiling = 0 then y.changed else some s.fleetSheaf })
    else s)

/-! ### Bins (R418, R419) -/

/-- The bin that R418 gives a panel. -/
def wantedBin (s : State) (k : Nat) (x : Panel) : Nat :=
  if k < 65536 then
    let policy := if s.pwr.policyZero then 0 else s.pwr.ceiling
    min (min (tabGet s.clk.targets (k / 512) 8) policy) (min (s.cstack (k / 512)).ceiling x.maxBin)
  else 8

/-- STK.CLOCK shows the bin of a stack's mesh panel (R130, R419). -/
def showBin (k b : Nat) (s : State) : State :=
  if k < 65536 ∧ k % 512 = 288 then s.modStack (k / 512) (fun y => { y with bin := b }) else s

/-- A panel runs at a bin (R419). -/
def setBin (k b : Nat) (s : State) : State := showBin k b (s.modPanel k (fun x => { x with bin := b }))

/-- The change of a panel's bin computed at a boundary: down at once, up once the regulator has settled (R419). -/
def changePanel (w now : Nat) (x : Panel) : Panel :=
  if x.inReset then x
  else if w < x.bin then { x with bin := w, changing := false, decided := none, settled := true, lowerAt := some now }
  else if w = x.bin then
    (if x.changing then { x with changing := false, decided := none, settled := true, setPoint := w } else x)
  else if x.changing ∧ x.target = w then x
  else { x with changing := true, target := w, decided := some now, settled := false, lowerAt := none, setPoint := w }

/-- Every panel's change is computed (R418, R419). -/
def changeBins (s : State) : State :=
  let now := s.now
  let panels := s.clk.panels.map (fun p => (p.1, changePanel (wantedBin s p.1 p.2) now p.2))
  panels.foldl (fun s p => showBin p.1 p.2.bin s) { s with clk := { s.clk with panels := panels } }

/-- REGULATOR_LOWER: 200 grains after a down-switch the regulator lowers its set point (R419). -/
def execRegulatorLower (panel : BitVec 17) (s : State) : Host.Outcome State Fault Refusal :=
  let k := panel.toNat
  match tabFind s.clk.panels k with
  | none => if panelIndex k then .next s else .fault .absentUnit
  | some x =>
    match x.lowerAt with
    | none => .next s
    | some g => .next (if g + 200 ≤ s.now then s.modPanel k (fun y => { y with setPoint := y.bin, lowerAt := none }) else s)

/-- BIN_SWITCH_UP: at a boundary after the one that computed it, with the regulator settled, a panel switches to its
higher bin (R419). -/
def execBinSwitchUp (panel : BitVec 17) (s : State) : Host.Outcome State Fault Refusal :=
  let k := panel.toNat
  match tabFind s.clk.panels k with
  | none => if panelIndex k then .next s else .fault .absentUnit
  | some x =>
    match x.decided with
    | none => .next s
    | some g =>
      .next (if s.atBoundary && decide (g < s.now) && x.changing && !x.inReset then
        setBin k x.target (s.modPanel k (fun y => { y with changing := false, decided := none, settled := true }))
      else s)

/-- PANEL_ALIGN: the alignment grain is reached, and every panel released for it leaves reset at bin 0 with
bits [63:16] of the counter loaded (R34, R423, R424). -/
def execPanelAlign (s : State) : Host.Outcome State Fault Refusal :=
  let now := s.now
  let due := fun (x : Panel) => !x.stopped && (match x.align with | some a => decide (a ≤ now) | none => false)
  .next ((s.clk.panels.filter (fun p => due p.2)).foldl (fun s p =>
    setBin p.1 0 (s.modPanel p.1 (fun x => { x with inReset := false, align := none, changing := false, decided := none,
                                                    lowerAt := none, high := BitVec.ofNat 48 (now / 65536) }))) s)

end Sys2Proof.Machine
end

