-- ==== Sys2Proof/Machine/Power.lean ====
section
/-! DEFINITION. Input, conversion, limits and the trip (R429 to R440, R514). -/

namespace Sys2Proof.Machine

/-! ### Input (R429, R430) -/

/-- PWR_INPUT_RANGE: the input voltage, in 0.05 V, enters or leaves a band of marginal operation, 62 V to 66 V or 78 V to
80 V; each episode is raised once (R429). -/
def execPwrInputRange (volts : BitVec 12) (s : State) : Host.Outcome State Fault Refusal :=
  let v := volts.toNat
  let marginal := decide (1240 ≤ v ∧ v < 1320) || decide (1560 < v ∧ v ≤ 1600)
  .next (if marginal then
      if s.pwr.rangeEpisode then s
      else
        let s := { s with pwr := { s.pwr with range := true, rangeEpisode := true } }
        raise 0x0A01 0 (pwrInput s) 0 0 0 s
    else { s with pwr := { s.pwr with rangeEpisode := false } })

/-- Every conversion stage is off, and power-on detection asserts (R429, R432). -/
def losePower (s : State) : State :=
  let s := powerOnAssert s
  { s with pwr := { s.pwr with stagesOff := true, domainsOff := true } }

/-- INPUT_LOCKOUT: the input has been outside its lockout limits for 10 us (R429). -/
def execInputLockout (s : State) : Host.Outcome State Fault Refusal :=
  .next (losePower { s with pwr := { s.pwr with lockout := true } })

/-- SUPPLY_STAGE_FAULT: a stage-1 or stage-2 fault turns every stage off (R432). -/
def execSupplyStageFault (s : State) : Host.Outcome State Fault Refusal := .next (losePower s)

/-- ALERT_N_FALL: the pin is low, from the next boundary on (R430). -/
def execAlertNFall (s : State) : Host.Outcome State Fault Refusal :=
  .next { s with pwr := { s.pwr with alertN := false } }

/-- ALERT_N_RISE: the pin is high, from the next boundary on (R430). -/
def execAlertNRise (s : State) : Host.Outcome State Fault Refusal :=
  .next { s with pwr := { s.pwr with alertN := true } }

/-- MODULE_CEILING_LOWER: at the boundary after the decision the module ceiling falls one bin; PWR_LIMIT is raised at the
first lowering in any span of 1,024 fleet sheaves (R430). -/
def execModuleCeilingLower (s : State) : Host.Outcome State Fault Refusal :=
  match s.pwr.lowerDue with
  | none => .next s
  | some g =>
    .next (if s.atBoundary && decide (g < s.now) && s.sup.hold != 0 then
      let f := s.fleetSheaf
      let s := { s with pwr := { s.pwr with ceiling := s.pwr.ceiling - 1, changed := some f, lowerDue := none } }
      if clockDue s.pwr.raisedAt s then raise 0x0A02 0 (pwrInput s) 0 0 0 { s with pwr := { s.pwr with raisedAt := some f } }
      else s
    else s)

/-- MODULE_CEILING_RAISE: after 256 sheaves well under both limits the module ceiling rises one bin (R430). -/
def execModuleCeilingRaise (s : State) : Host.Outcome State Fault Refusal :=
  match s.pwr.raiseDue with
  | none => .next s
  | some g =>
    .next (if s.atBoundary && decide (g ≤ s.now) && s.sup.hold != 0 then
      let f := s.fleetSheaf
      { s with pwr := { s.pwr with ceiling := min 10 (s.pwr.ceiling + 1), raiseDue := none, under := 0,
                                   changed := if s.pwr.ceiling < 10 then some f else s.pwr.changed } }
    else s)

/-! ### Stage-3 domains (R432) -/

/-- A stage-3 domain exists: panels by their `CLK.PANEL` index, HBM stacks, combs, and Sill blocks by their site (R431). -/
def domainOk (kind i : Nat) : Bool :=
  match kind with
  | 0 => decide (i < 0x1000 ∧ i % 512 ≤ 288)
  | 1 => decide (i < 32)
  | 2 => decide (i < 8)
  | _ => siteValid i

/-- A panel without power is in reset. -/
def panelOff (k : Nat) (s : State) : State :=
  match tabFind s.clk.panels k with
  | some _ => s.modPanel k clearPanel
  | none => s

/-- What the loss of a domain takes with it; the interface of a stack without power loses its training (R205, R262, R275,
R373, R432, DEDUCED, log entry 31). -/
def domainOff (kind i : Nat) (s : State) : State :=
  match kind with
  | 0 => panelOff i s
  | 1 => failStack i s
  | 2 => combFails i s
  | _ =>
    let s := panelOff (65536 + i) s
    if 0x60 ≤ i then portDown (i - 0x60) 0 s
    else if 0x40 ≤ i then railDown (i - 0x40) 0 0 s
    else if 0x10 ≤ i then failStack (i - 0x10) s
    else s

/-- The panel domain of a tiller that holds no logical index under the loaded list (R432). -/
def unusedTiller (s : State) (kind i : Nat) : Bool :=
  kind == 0 && i % 512 != 288 && ((s.tiller (i / 512 * 288 + i % 512)).logical).isNone

/-- PWR_REG_FAULT: a stage-3 regulator turns its domain off; an armed or running list that uses the domain halts
(R432). -/
def execPwrRegFault (kind : Fin 4) (index : BitVec 16) (s : State) : Host.Outcome State Fault Refusal :=
  let k := kind.val
  let i := index.toNat
  if domainOk k i then
    .next (if s.pwr.domainsOff || s.pwr.regFaults.contains (k, i) then s
    else
      let s := { s with pwr := { s.pwr with regFaults := s.pwr.regFaults ++ [(k, i)] } }
      let s := raise 0x0A03 0 (k + i * 256) 0 0 0 s
      let s := if unusedTiller s k i then s else haltRun 6 (k + i * 256) s
      domainOff k i s)
  else .fault .absentUnit

/-! ### Temperature (R439, R440) -/

/-- THERMAL_COOLDOWN: T_j and T_h have stayed below 95 degrees for 256 fleet sheaves, and the thermal-policy bin returns to
the module ceiling (R439). -/
def execThermalCooldown (s : State) : Host.Outcome State Fault Refusal :=
  .next (if 256 ≤ s.pwr.cool ∧ s.sup.hold ≠ 0 ∧ (s.pwr.policyZero ∨ 2 ≤ s.pwr.stop) then
    { s with pwr := { s.pwr with policyZero := false, stop := if s.pwr.stop = 1 then 1 else 0 } }
  else s)

/-- Every stage-3 domain outside the always-on domain has lost power: what the always-on domain holds stays (R440). -/
def domainsLost (s : State) : State :=
  let z := clear3 false s
  let rst := { s.rst with blocks := [], recovery := none, recovering := false, warm := false, commit := none, busy := false }
  let pwr := { s.pwr with domainsOff := true }
  let dbg := { z.dbg with snapshot := s.dbg.snapshot, testSeen := s.dbg.testSeen }
  { z with rst := rst, pwr := pwr, dbg := dbg, time := s.time, sup := s.sup, sec := s.sec, floor := s.floor }

/-- THERMAL_TRIP: a comparator fires; the trip latch drives THERM_TRIP_N low, turns the domains off and raises the in-band
interrupt 0x02; nothing else is said, and only power-on detection clears it (R440, R508). -/
def execThermalTrip (s : State) : Host.Outcome State Fault Refusal :=
  .next (if s.pwr.trip || s.pwr.stagesOff then s
  else
    let s := domainsLost s
    { s with pwr := { s.pwr with trip := true }, dbg := { s.dbg with ibi := s.dbg.ibi ++ [2] } })

/-- AUX_1V8_OVERCURRENT: the limiter turns AUX_1V8 off until the next power-on detection (R514). -/
def execAux1v8Overcurrent (s : State) : Host.Outcome State Fault Refusal :=
  .next { s with pwr := { s.pwr with aux := false } }

end Sys2Proof.Machine
end

