-- ==== Sys2Proof/Machine/Debug.lean ====
section
/-! DEFINITION. Test access, OBS outputs and I3C (R491, R499 to R508). -/

namespace Sys2Proof.Machine

/-- TEST_EN_CHANGE: the level of TEST_EN; it is ignored from the end of step 1 on (R499). -/
def execTestEnChange (high : Bool) (s : State) : Host.Outcome State Fault Refusal :=
  .next (endCapture (noteTestEn { s with dbg := { s.dbg with testEn := high } }))

/-! ### Pins (R491, R503, R504, R515) -/

/-- SUP_HOLD as the interlock reports it: high for A, low for B, toggling every 1 ms for neither (R491). -/
def holdPin (s : State) : Bool :=
  match s.sup.hold with
  | 1 => true
  | 2 => false
  | _ =>
    let g := s.sup.released.getD 0
    Config.holdPhase g != decide ((s.now - g) / 1000000 % 2 = 1)

/-- OBS pin n: low without scope obs or without its enable (R500, R504, R510). -/
def obsPin (s : State) (n : Nat) : Bool :=
  let o := tabGet s.dbg.obs n {}
  bit s.scopesNow 1 && o.enable && o.pin

/-- The pins as the boundary register captures them: OBS in bits 15 to 0, then TEST_EN, SUP_HOLD, THERM_TRIP_N, ALERT_N,
PWR_OK and RESET_N, the cell nearest TDI (R501); under EXTEST the outputs come from the register (R503). -/
def pinWord (s : State) : Nat :=
  let b := s.dbg.boundary.toNat
  let outs := if s.dbg.extest then bits b 0 16 + bits b 17 2 * 2 ^ 17
    else maskOf ((List.range 16).filter (obsPin s)) + b2n (holdPin s) * 2 ^ 17 + 2 ^ 18
  let outs := if s.pwr.trip && bit outs 18 then outs - 2 ^ 18 else outs
  outs + b2n s.dbg.testEn * 2 ^ 16 + b2n s.pwr.alertN * 2 ^ 19 + b2n s.rst.pwrOk * 2 ^ 20 + b2n s.rst.resetN * 2 ^ 21

/-! ### JTAG (R500 to R503) -/

/-- An instruction is in force, with what its data register captured. -/
def jtagTake (ir dr : Nat) (s : State) : State :=
  { s with dbg := { s.dbg with ir := ir, dr := dr, extest := ir == 0, tapActive := true } }

/-- An instruction that is unknown or not available acts as BYPASS and sets refused (R501). -/
def jtagRefuse (s : State) : State :=
  let s := jtagTake 0xFF 0 s
  { s with dbg := { s.dbg with refused := true } }

/-- TRST_N_ASSERT: the TAP goes to Test-Logic-Reset, which selects IDCODE (R501). -/
def execTrstNAssert (s : State) : Host.Outcome State Fault Refusal :=
  .next { s with dbg := { s.dbg with ir := 1, dr := 0x172327AB, extest := false, tapActive := false } }

/-- EXTEST: the boundary register is captured, shifted and drives the output pins (R501, R503). -/
def execJtagExtest (shift : BitVec 22) (s : State) : Host.Outcome State Fault Refusal :=
  let s := jtagTake 0 (pinWord s) s
  .next { s with dbg := { s.dbg with boundary := shift } }

/-- IDCODE: the 32-bit identity is selected (R501). -/
def execJtagIdcode (s : State) : Host.Outcome State Fault Refusal := .next (jtagTake 1 0x172327AB s)

/-- SAMPLE/PRELOAD: the pins are captured and the boundary register is loaded (R501). -/
def execJtagSamplePreload (shift : BitVec 22) (s : State) : Host.Outcome State Fault Refusal :=
  let s := jtagTake 2 (pinWord s) s
  .next { s with dbg := { s.dbg with boundary := shift } }

/-- BYPASS: the 1-bit register; every code that R501 does not list acts so and sets refused (R501). -/
def execJtagBypass (code : BitVec 8) (s : State) : Host.Outcome State Fault Refusal :=
  let c := code.toNat
  .next (if c = 0xFF then jtagTake 0xFF 0 s
  else if c = 0 ∨ c = 1 ∨ c = 2 ∨ c = 0x10 ∨ c = 0x11 then s
  else jtagRefuse s)

/-- The bundle slots and their commit records (R475, R502). -/
def inSlots (a : Nat) : Bool := decide (0x400000 ≤ a ∧ a < 0x1C00000)

/-- JTAG_FLASH: eight bytes of the bundle slots are read or written, or 4 KiB are erased; outside the slots a byte reads 0
and nothing is written (R500 to R502). -/
def execJtagFlash (address : BitVec 24) (command : BitVec 8) (data : BitVec 64) (s : State) :
    Host.Outcome State Fault Refusal :=
  let a := address.toNat
  let at_ := (List.range 8).map (a + ·)
  let word := fun (d : Nat) => a + command.toNat * 2 ^ 24 + d * 2 ^ 32
  .next (if !flashOpen s then jtagRefuse s
  else match command.toNat with
    | 1 =>
      let d := at_.map (fun i => if inSlots i then (flashBytes s i 1).headD 0 else 0)
      jtagTake 0x10 (word (ofBytes d)) s
    | 2 =>
      let d := at_.zip (toBytes 8 data.toNat)
      let s := d.foldl (fun s x => if inSlots x.1 then flashStore x.1 [x.2] s else s) s
      jtagTake 0x10 (word data.toNat) s
    | 3 =>
      let s := if inSlots a then flashErase (a / 4096 * 4096) 4096 s else s
      jtagTake 0x10 (word data.toNat) s
    | _ => jtagTake 0x10 (word data.toNat) s)

/-- INTSCAN: the clock of a panel stops for the scan, and the panel is left in reset (R500 to R502). -/
def execJtagIntscan (panel : BitVec 16) (s : State) : Host.Outcome State Fault Refusal :=
  let k := panel.toNat
  let st := s.cut.state
  .next (if !bit s.scopesNow 2 || st == .armed || st == .running || st == .paused || !decide (k < 0x1000 ∧ k % 512 ≤ 288) then
    jtagRefuse s
  else
    let n := tabGet s.dbg.scanned k 0
    let s := { s with dbg := { s.dbg with scanned := tabPut s.dbg.scanned k (n + 1) } }
    let s := match tabFind s.clk.panels k with
      | some _ => s.modPanel k (fun x => { clearPanel x with stopped := true })
      | none => s
    jtagTake 0x11 (Config.scanBits k n) s)

/-! ### OBS (R504, R505) -/

/-- Level of a leaf at the present grain (R504). -/
def leafOf (s : State) (n l : Nat) : Bool :=
  match l with
  | 0 => false
  | 1 => s.atBoundary
  | 2 => s.time.st == .locked
  | 3 => s.pwr.trip
  | 4 => s.sup.hold == 1
  | 5 => s.rst.episode.isSome
  | 6 => s.runActive
  | 7 => s.cut.idleNow
  | _ => Config.leafLevel (n * 4096 + l) s.now

/-- At each grain the leaves are resampled, and the counters count rising edges while scope obs is in force (R504,
R505). -/
def sampleObs (s : State) : State :=
  let on := bit s.scopesNow 1
  let step := fun (n : Nat) (o : Obs) =>
    let l := leafOf s n o.live
    let e := on && l && !o.level && decide (o.since < s.now)
    { o with level := l, pin := l, edge := e, count := if e then o.count + 1 else o.count }
  { s with dbg := { s.dbg with obs := s.dbg.obs.map (fun p => (p.1, step p.1 p.2)) } }

/-- At a fleet sheaf boundary new selections take effect; the pins hold their level through that grain (R504, R505). -/
def selectObs (s : State) : State :=
  let take := fun (n : Nat) (o : Obs) =>
    if o.live = o.sel then o else { o with live := o.sel, since := s.now, level := leafOf s n o.sel, edge := false }
  { s with dbg := { s.dbg with obs := s.dbg.obs.map (fun p => (p.1, take p.1 p.2)) } }

/-! ### I3C (R508) -/

/-- The readout that a snapshot holds (R508). -/
def snapshotOf (s : State) : List (BitVec 8) :=
  let p := s.pwr
  let flags := b2n p.trip + 2 * b2n s.yuley.headless + 4 * b2n (s.portActive 0 || s.portActive 1)
  toBytes 2 0x7232 ++ toBytes 2 (wrap p.tj 16) ++ toBytes 2 (tempField (p.th / 16) 8) ++ toBytes 1 (s.rst.state % 16)
    ++ toBytes 1 (s.rst.step % 16) ++ toBytes 1 (supState s % 256) ++ toBytes 1 flags ++ List.replicate 6 0
    ++ toBytes 4 (secStatus s % 2 ^ 32) ++ List.replicate 12 0
    ++ (List.range 8).flatMap (fun d => toBytes 2 (wrap (tabGet p.dieLogic d 0) 16))

/-- I3C_DYNAMIC_ADDRESS: ENTDAA or SETDASA assigns the address (R508). -/
def execI3cDynamicAddress (address : BitVec 7) (s : State) : Host.Outcome State Fault Refusal :=
  .next { s with dbg := { s.dbg with i3cAddr := address.toNat } }

/-- I3C_OFFSET_WRITE: one byte sets the offset, and a longer write is NACKed (R508). -/
def execI3cOffsetWrite (data : List (BitVec 8)) (s : State) : Host.Outcome State Fault Refusal :=
  .next (match data with
    | [] => s
    | [b] => { s with dbg := { s.dbg with i3cOffset := b.toNat } }
    | _ => { s with dbg := { s.dbg with nacks := s.dbg.nacks + 1 } })

/-- I3C_READ: bytes of the snapshot from the offset on, which moves with them; bytes past 0x2F read 0 (R508). -/
def execI3cRead (count : Nat) (s : State) : Host.Outcome State Fault Refusal :=
  let snap := if s.dbg.snapshot.isEmpty then snapshotOf s else s.dbg.snapshot
  let o := s.dbg.i3cOffset
  let out := (List.range count).map (fun i => snap.getD ((o + i) % 256) 0)
  .next { s with dbg := { s.dbg with i3cOut := s.dbg.i3cOut ++ out, i3cOffset := (o + count) % 256 } }

end Sys2Proof.Machine
end

