-- ==== Sys2Proof/Machine/Sup.lean ====
section
/-! DEFINITION. The supervisors, their interlock and the saved state; the end of a configuration commit (R459, R489 to
R498). -/

namespace Sys2Proof.Machine

/-! ### Saved state (R492, R493) -/

/-- The items that a saved-state record holds (R492). -/
def savedOf (s : State) (seq : Nat) : Saved :=
  let p := s.pwr
  let stacks_ := (List.range 8).map (fun d =>
    let k := s.cstack d
    (d, k.ceiling, [k.under, k.overZero, k.excess]))
  { seq := seq % 2 ^ 32, grain := s.now, ceiling := p.ceiling, counters := [p.under, p.overZero, p.excess],
    stackStates := stacks_, policyZero := p.policyZero, request := p.request, stop := p.stop, sensors := p.failedSensors,
    regFaults := p.regFaults, procs := s.procs.map (fun x => (x.1, procFaults s x.1, b2n (x.2.state == 6))),
    blocks := s.rst.blocks, recovery := s.rst.recovery, selected := s.rst.selected, baseline := s.rst.baseline }

/-- The record of a place is out of date: an item has changed since it was written (R493). -/
def savedStale (s : State) (l : List Saved) : Bool :=
  match l with
  | [] => true
  | r :: _ => decide ({ savedOf s r.seq with grain := r.grain, valid := r.valid } ≠ r)

/-- The holding supervisor runs (R489, R403). -/
def supRuns (s : State) : Bool := s.sup.hold != 0 && procRuns s s.sup.hold

/-- A record goes to flash, over the older slot (R493). -/
def saveFlash (ok : Bool) (s : State) : State :=
  let r := savedOf s ((s.sup.flashRecs.map (·.seq)).headD 0 + 1)
  { s with sup := { s.sup with flashRecs := ({ r with valid := ok } :: s.sup.flashRecs).take 2, flashAt := s.now,
                               flashWrites := satAdd s.sup.flashWrites 1 0xFFFF, flashOk := ok } }

/-- SAVED_STATE_WRITE: at the first boundary after a change, and every 1,024 fleet sheaves, a record goes to the retained
SRAM, over the older slot (R493). -/
def execSavedStateWrite (s : State) : Host.Outcome State Fault Refusal :=
  let l := s.sup.retained
  .next (if supRuns s && s.atBoundary && (savedStale s l || decide (s.sup.savedAt + 1024 * 4096 ≤ s.now))
      && (decide (s.sup.savedAt < s.now) || l.isEmpty) then
    let r := savedOf s ((l.map (·.seq)).headD 0 + 1)
    { s with sup := { s.sup with retained := (r :: l).take 2, saveSeq := r.seq, savedAt := s.now } }
  else s)

/-- SAVED_STATE_FLASH_WRITE: every 10 s a record goes to flash; `ok` is its read-back (R493). -/
def execSavedStateFlashWrite (ok : Bool) (s : State) : Host.Outcome State Fault Refusal :=
  .next (if supRuns s && decide (s.sup.flashAt + 10 ^ 10 ≤ s.now) then saveFlash ok s else s)

/-- CFG_COMMIT_DONE: the flash write of a commit ends: the new copy is selected and a record goes to flash, or, with a
failed read-back, write_failed is set and the copy stays invalid (R459, R493). -/
def execCfgCommitDone (ok : Bool) (s : State) : Host.Outcome State Fault Refusal :=
  .next (match s.rst.commit with
    | none => s
    | some (k, seq, b) =>
      let s := { s with rst := { s.rst with commit := none, busy := false } }
      if ok then
        let r := s.rst
        let r := if k = 0 then { r with copy0Valid := true, seq0 := seq } else { r with copy1Valid := true, seq1 := seq }
        let r := { r with selected := k, baseline := false, seq := seq }
        saveFlash true (flashStore (copyBase k) b { s with rst := r })
      else { s with rst := { s.rst with writeFailed := true } })

/-! ### The interlock (R489, R490) -/

/-- SUP_HEARTBEAT: the holding supervisor writes the interlock's heartbeat register (R490, R497). -/
def execSupHeartbeat (s : State) : Host.Outcome State Fault Refusal :=
  .next (if supRuns s then { s with sup := { s.sup with beat := s.now } } else s)

/-- A commit under way at the release ends unfinished (R495). -/
def endCommit (s : State) : State :=
  if s.rst.commit.isSome then { s with rst := { s.rst with commit := none, busy := false, writeFailed := true } } else s

/-- HEARTBEAT_TIMEOUT: 10 ms without a write release the hold and take the supervisor's power; B starts after A, and after
B the module becomes headless (R490, R495, R496). -/
def execHeartbeatTimeout (s : State) : Host.Outcome State Fault Refusal :=
  let now := s.now
  .next (if s.sup.hold = 0 ∨ now < s.sup.beat + 10 ^ 7 then s
  else
    let p := s.sup.hold
    let s := endCommit s
    let s := (clearProc s p).modProc p (fun x => { x with state := 0 })
    if p = 1 then
      startProc { s with sup := { s.sup with hold := 0, phase := 1, aReleased := true, released := some now, bBooted := true } } 2
    else { s with sup := { s.sup with hold := 0, phase := 1, released := some now, headlessDue := some now } })

/-- The record from which B goes on: the newest valid retained one, else the newest valid flash one, with its source
(R494). -/
def chooseSaved (s : State) : Option Saved × Nat :=
  let pick := fun (l : List Saved) => (l.filter (·.valid)).foldl (fun b r =>
    match b with | none => some r | some x => if newer r.seq x.seq then some r else some x) (none : Option Saved)
  match pick s.sup.retained with
  | some r => (some r, 0)
  | none => (match pick s.sup.flashRecs with | some r => (some r, 1) | none => (none, 2))

/-- Policy goes on from a record; from the factory baseline every ceiling stands at bin 0. The ceilings hold for the 16
fleet sheaves that the limiters need to measure afresh (R494). -/
def resumePolicy (r : Option Saved) (s : State) : State :=
  let f := s.fleetSheaf
  let x := r.getD { ceiling := 0 }
  let c := fun (l : List Nat) i => l.getD i 0
  let p := { s.pwr with ceiling := x.ceiling, under := c x.counters 0, overZero := c x.counters 1, excess := c x.counters 2,
                        policyZero := x.policyZero, request := x.request, stop := x.stop, failedSensors := x.sensors,
                        changed := some f, lowerDue := none, raiseDue := none }
  let put := fun (s : State) (d : Nat) =>
    let y := match x.stackStates.find? (fun y => y.1 == d) with | some y => y.2 | none => (0, [])
    s.modStack d (fun k => { k with ceiling := y.1, under := c y.2 0, overZero := c y.2 1, excess := c y.2 2,
                                    changed := some f, lowerDue := none, raiseDue := none })
  (List.range 8).foldl put { s with pwr := p }

/-- SUP_FAILOVER: B, running, takes the hold within 500 ms of A's release and resumes policy; bring-up and recovery run
their step again, and block resets under way go on (R489, R494, R497). -/
def execSupFailover (s : State) : Host.Outcome State Fault Refusal :=
  let now := s.now
  let u := s.sup
  let g := u.released.getD 0
  .next (if u.phase = 1 ∧ u.hold = 0 ∧ u.aReleased ∧ u.headlessDue.isNone ∧ u.bBooted ∧ now ≤ g + 500000000 ∧ procRuns s 2
      ∧ s.rst.episode.all (fun ep => ep.level != 3) then
    let r := chooseSaved s
    let u := { u with hold := 2, phase := 0, failover := true, source := r.2, takeover := min 1023 ((now - g) / 1000000),
                      beat := now }
    let s := resumePolicy r.1 { s with sup := u, rst := { s.rst with stepSince := now } }
    raise 0x0D01 0 (supState s) 0 0 0 s
  else s)

/-! ### Headless (R496) -/

/-- HEADLESS_TIMEOUT: B has not taken the hold within 500 ms of the release (R496). -/
def execHeadlessTimeout (s : State) : Host.Outcome State Fault Refusal :=
  let now := s.now
  .next (match s.sup.released with
    | some g =>
      if s.sup.phase = 1 ∧ s.sup.hold = 0 ∧ s.sup.headlessDue.isNone ∧ g + 500000000 < now then
        { s with sup := { s.sup with headlessDue := some now } }
      else s
    | none => s)

/-- Every stack's ceiling is at bin 0 (R496). -/
def ceilingsZero (s : State) : State :=
  let f := s.fleetSheaf
  (List.range 8).foldl (fun s d => s.modStack d (fun k => { k with ceiling := 0, changed := some f })) s

/-- The module becomes headless: commands recorded in progress complete with 0x0531, and compute stops (R385, R496). -/
def becomeHeadless (s : State) : State :=
  let cs := s.rst.blocks.flatMap (·.cmds)
  let c := s.rst.recovery
  let jobs := s.rst.blocks.map (fun b => { b with cmds := [] })
  let s := { s with sup := { s.sup with phase := 2, headlessDue := none }, yuley := { s.yuley with headless := true },
                    rst := { s.rst with blocks := jobs, recovery := none } }
  let s := raise 0x0D02 0 (supState s) 0 0 0 s
  let s := finishOpt c 0x0531 (finishAll cs 0x0531 s)
  if s.cut.state = .running then { s with cut := { s.cut with safeDue := true } }
  else
    let s := ceilingsZero s
    if s.cut.state = .armed then haltRun 9 0 s else s

/-- No step, stream or collective step is in progress (R496). -/
def drained (s : State) : Bool :=
  s.engines.all (fun e => e.2.flight.isEmpty) && s.sill.streams.all (fun st => !st.live)
    && s.col.engs.all (fun e => e.2.job.isNone)

/-- SUP_HEADLESS: at the boundary after the decision the module becomes headless; at the next schedule sheaf boundary no
step issues any more and the ceilings go to bin 0; and once nothing is in progress the run halts; a run that has paused or
ended before needs no stop (R385, R496). -/
def execSupHeadless (s : State) : Host.Outcome State Fault Refusal :=
  .next (match s.sup.headlessDue with
    | some g => if s.atBoundary && decide (g < s.now) then becomeHeadless s else s
    | none =>
      if s.sup.phase ≠ 2 then s
      else if s.cut.state ≠ .running then
        (if s.cut.safeDue then ceilingsZero { s with cut := { s.cut with safeDue := false } } else s)
      else if s.cut.safeDue ∧ s.schedBoundary then
        ceilingsZero { s with cut := { s.cut with safeDue := false, safeStop := true } }
      else if s.cut.safeStop ∧ drained s then haltRun 9 0 s
      else s)

end Sys2Proof.Machine
end

