-- ==== Sys2Proof/Machine/Boundary.lean ====
section
/-! DEFINITION. The fleet sheaf boundary: limiters, temperatures, throttling and idle sheaves (R34, R48, R125, R126, R430,
R434 to R439). -/

namespace Sys2Proof.Machine

/-! ### Limiters (R125, R126, R430) -/

/-- At least 16 fleet sheaves have passed since a ceiling last changed. -/
def heldLong (changed : Option Nat) (f : Nat) : Bool :=
  match changed with | some c => decide (c + 16 ≤ f) | none => true

/-- The limiter of one stack: the mean of 16 sheaves against the cap, the decisions it leads to, and the stack's excess.
The count of 256 sheaves starts again after each raise, which the spec does not say (R125, R126, R416, log entry 55). -/
def limitStack (r : SheafReadings) (s : State) (d : Nat) : State :=
  let f := s.fleetSheaf
  let now := s.now
  let w := match r.stackPower.find? (fun x => x.1.val == d) with | some x => (x.2.1.toNat, x.2.2.toNat) | none => (0, 0)
  let k := s.cstack d
  let power := (w.1 :: k.power).take 16
  let sum := power.sum
  let above := decide (16 * k.cap < sum)
  let calm := min 256 (k.calm + 1)
  let under := if sum + 640 < 16 * k.cap then k.under + 1 else 0
  let raise_ := decide (256 ≤ under) && decide (256 ≤ calm)
  let overZero := if above && k.ceiling == 0 then k.overZero + 1 else 0
  let excess := if 16 ≤ overZero then min 25 (cdiv (sum - 16 * k.cap) 160) else 0
  s.modStack d (fun y => { y with
    power := power, crib := (w.2 :: y.crib).take 16, calm := calm, under := if raise_ then 0 else under,
    overZero := overZero, excess := excess, idleReq := y.idleReq || decide (16 ≤ overZero),
    lowerDue := if above && heldLong k.changed f && k.lowerDue.isNone && decide (0 < k.ceiling) then some now else k.lowerDue,
    raiseDue := if raise_ then some now else k.raiseDue })

/-- The power limit in force, in W (R430). -/
def powerLimit (p : Power) : Nat := if p.alertInForce then min p.limit p.alertLimit else p.limit

/-- The input limiter: the means of 16 sheaves against the limits in force; the count of 256 sheaves starts again after a
raise (R430, log entry 55). -/
def limitInput (r : SheafReadings) (s : State) : State :=
  let f := s.fleetSheaf
  let now := s.now
  let p := { s.pwr with alertInForce := !s.pwr.alertN, volts := (r.volts.toNat :: s.pwr.volts).take 16,
                        amps := (r.amps.toNat :: s.pwr.amps).take 16, watts := (r.watts.toNat :: s.pwr.watts).take 16 }
  let w := p.watts.sum
  let a := p.amps.sum
  let top := 16 * powerLimit p
  let above := decide (top < w) || decide (16 * 1820 < a)
  let under := if w + 4800 < top ∧ a < 16 * 1750 then p.under + 1 else 0
  let raise_ := decide (256 ≤ under)
  let overZero := if above && p.ceiling == 0 then p.overZero + 1 else 0
  let excess := if 16 ≤ overZero then max (cdiv (w - top) 1600) (cdiv (a - 16 * 1820) 160) else 0
  { s with pwr := { p with
    under := if raise_ then 0 else under, overZero := overZero, excess := excess,
    lowerDue := if above && heldLong p.changed f && p.lowerDue.isNone && decide (0 < p.ceiling) then some now else p.lowerDue,
    raiseDue := if raise_ then some now else p.raiseDue } }

/-! ### Temperatures (R434, R508) -/

/-- Sensors a unit of a kind holds; they are numbered unit by unit in PWR_SENSOR_FAIL (R434, R536). -/
def sensorsOf (kind : Nat) : Nat :=
  match kind with
  | 0 => 304 | 1 => 72 | 2 => 8 | 6 => 16 | _ => 1

end Sys2Proof.Machine

namespace Sys2Proof

/-- A reading's value as a signed number of 1/16 degree. -/
def SensorReading.degrees (x : SensorReading) : Int := match x.value with | some v => v.toInt | none => 0

/-- A reading that judges its sensor failed (R434). -/
def SensorReading.bad (x : SensorReading) : Bool :=
  match x.value with
  | none => true
  | some v => decide (v.toInt < -640) || decide (2400 < v.toInt)

def SensorReading.id (x : SensorReading) : Nat × Nat × Nat := (x.kind.val, x.unit, x.index)

end Sys2Proof

namespace Sys2Proof.Machine

/-- A sensor whose reading is bad is failed, with PWR_SENSOR_FAIL (R434). -/
def judgeSensor (s : State) (x : SensorReading) : State :=
  if x.bad && !s.pwr.failedSensors.contains x.id then
    raise 0x0A04 0 (x.kind.val + (x.unit * sensorsOf x.kind.val + x.index) % 65536 * 256) 0 0 0
      { s with pwr := { s.pwr with failedSensors := s.pwr.failedSensors ++ [x.id] } }
  else s

/-- Failed sensors of a compute die (R434, R444). -/
def dieFailed (s : State) (d : Nat) : Nat := (s.pwr.failedSensors.filter (fun x => x.1 < 2 && x.2.1 == d)).length

/-- The highest reading of a list. -/
def highest (l : List SensorReading) : Option SensorReading :=
  l.foldl (fun b x => match b with
    | none => some x
    | some y => if y.degrees < x.degrees then some x else some y) none

/-- The highest reading of a unit of a kind, kept where none is listed. -/
def dieHigh (l : List SensorReading) (kind : Nat) (t : List (Nat × Int)) : List (Nat × Int) :=
  (List.range 8).foldl (fun t d =>
    match highest (l.filter (fun x => x.kind.val == kind && x.unit == d)) with
    | some x => tabPut t d x.degrees
    | none => t) t

/-- The correction of a reference at a temperature in 1/16 degree, interpolated between the points of its table (R441). -/
def compAt (ref : Nat) (t : Int) : Int :=
  let n := (max 0 (min 1920 t)).toNat
  let c := Config.compPoint ref
  c (n / 32) + (c (n / 32 + 1) - c (n / 32)) * (n % 32 : Nat) / 32

/-- Every reference takes the correction of its nearest sensor's reading, by a step of at most 0.05 % (R441). -/
def compensate (l : List SensorReading) (t : List (Nat × Int)) : List (Nat × Int) :=
  let step := fun (old goal : Int) => max (old - 500000) (min (old + 500000) goal)
  l.foldl (fun t x => (Config.refsNear x.id).foldl (fun t n => tabMod t n 0 (fun c => step c (compAt n x.degrees))) t) t

/-- The sensors are read: T_j, T_h and the readings of the dies, stacks and combs; the references are corrected, and a rise
of T_j through 110 degrees raises the in-band interrupt 0x01 (R191, R297, R434, R441, R508). -/
def readTemps (r : SheafReadings) (s : State) : State :=
  let old := s.pwr.tj
  let s := r.sensors.foldl judgeSensor s
  let l := r.sensors.filter (fun x => !s.pwr.failedSensors.contains x.id)
  let s := (l.filter (fun x => x.kind.val == 4)).foldl (fun s x =>
    s.modMem x.unit (fun m => { m with temp := min 255 (x.degrees / 16).toNat, temp16 := x.degrees })) s
  let heat := fun (t : List (Nat × Comb)) (x : SensorReading) =>
    tabMod t x.unit {} (fun c => { c with temp := min 255 (x.degrees / 16).toNat })
  let combs := (l.filter (fun x => x.kind.val == 5 && decide (x.unit < 8))).foldl heat s.opt.combs
  let hot := (List.range 8).any (fun d => decide (8 < dieFailed s d))
  let p := s.pwr
  let j := highest (l.filter (fun x => x.kind.val ≤ 2))
  let p : Power := match j with | some x => { p with tj := x.degrees, tjKind := x.kind.val, tjWhere := x.unit } | none => p
  let p : Power := if hot && decide (p.tj < 1760) then { p with tj := (1760 : Int) } else p
  let p : Power := match highest (l.filter (fun x => x.kind.val == 4)) with | some x => { p with th := x.degrees } | none => p
  let p : Power := { p with dieLogic := dieHigh l 0 p.dieLogic, dieCrib := dieHigh l 1 p.dieCrib,
                              tjHist := (p.tj :: p.tjHist).take 65, thHist := (p.th :: p.thHist).take 65 }
  let ibi := if old < 1760 ∧ 1760 ≤ p.tj then s.dbg.ibi ++ [1] else s.dbg.ibi
  let comp := compensate l s.clk.comp
  { s with pwr := p, opt := { s.opt with combs := combs }, clk := { s.clk with comp := comp }, dbg := { s.dbg with ibi := ibi } }

/-! ### The throttle (R435 to R437) -/

/-- Degrees by which a temperature exceeds 95, rounded up, at most 25 (R435). -/
def over95 (t : Int) : Nat := min 25 (cdiv (t - 1520).toNat 16)

/-- The throttle request v (R435). -/
def throttleRequest (s : State) : Nat :=
  let st := (List.range 8).foldl (fun m d => max m (min 25 (s.cstack d).excess)) 0
  max (max (over95 s.pwr.tj) (over95 s.pwr.th)) (max st (min 25 s.pwr.excess))

/-- The request of the sheaf is kept, and sent as TALLY where the module tallies (R257, R258, R436). -/
def sendTally (s : State) : State :=
  let f := s.fleetSheaf
  let v := s.pwr.request
  let own := (tabPut s.pwr.own f v).filter (fun x => decide (f < x.1 + 16))
  let s := { s with pwr := { s.pwr with own := own } }
  if s.tallies then contributeTally f v { s with pwr := { s.pwr with tallied := s.pwr.tallied ++ [f] } } else s

/-- The result for F is applied at the boundary that begins F + 4: the tally's, at most 25, or the module's own where none
was asked for or none has come; a miss stays listed for TALLY_MISS (R436). -/
def applyTally (s : State) : State :=
  let p := s.pwr
  let t := s.fleetSheaf - 4
  let own := if s.fleetSheaf < 4 then 0 else tabGet p.own t 0
  let got := if p.tallied.contains t then tabFind p.results t else none
  let p := match got with
    | some v => { p with result := min 25 v, tallied := setDel p.tallied t }
    | none => { p with result := own }
  { s with pwr := { p with results := p.results.filter (fun x => decide (t < x.1)) } }

/-- TALLY_MISS: no result for F came by F + 4; the module's own v has been applied, the miss is recorded and
PWR_TALLY_MISSED is raised (R360, R436). -/
def execTallyMiss (s : State) : Host.Outcome State Fault Refusal :=
  .next (match s.time.strobed with
    | none => s
    | some g =>
      match s.pwr.tallied.find? (fun f => decide (f + 4 ≤ g / 4096)) with
      | none => s
      | some f =>
        let s := { s with pwr := { s.pwr with tallied := setDel s.pwr.tallied f, tallyMiss := true } }
        let s := if s.runActive then { s with repro := { s.repro with tallyMiss := true } } else s
        raise 0x0A05 0 f 0 0 0 s)

/-- IDLE_SHEAF_INSERT: the fleet sheaf that begins is inserted idle (R38, R39, R437). -/
def execIdleSheafInsert (s : State) : Host.Outcome State Fault Refusal :=
  .next (if s.cut.state == .running && s.cut.idleDue && s.atBoundary then
    let k := schedNow s
    let c := s.cut
    { s with cut := { c with idleDue := false, idleNow := true, idles := c.idles ++ [k], idle := satAdd c.idle 1 0xFFFFFFFF },
             pwr := { s.pwr with idleTotal := satAdd s.pwr.idleTotal 1 0xFFFFFFFF } }
  else s)

/-! ### The thermal decision (R438, R439) -/

/-- The rise over at most 64 fleet sheaves, and how many they are. -/
def riseOf (l : List Int) : Int × Nat := (l.headD 0 - l.getLastD 0, l.length - 1)

/-- The grains to the mark, that many in G, leave 1,000,000 before a limit is reached at the present rise; none where the
rise is not positive (R438). -/
def meetsTrip (g : Option Nat) (limit : Int) (l : List Int) : Option Bool :=
  let r := riseOf l
  if r.1 ≤ 0 then none
  else match g with
    | none => some false
    | some n => some (decide (((n : Int) + 1000000) * r.1 ≤ (limit - l.headD 0) * (r.2 * 4096 : Nat)))

/-- The grains to the mark that a pause would reach; none where it is unbounded (R438). -/
def marksAway (s : State) : Option Nat :=
  let m := if s.cut.pausePend then s.cut.pauseMark else nextMark s
  match m with
  | none => none
  | some m =>
    if 25 ≤ s.pwr.result then none
    else some (cdiv (4096 * (s.cut.marks.getD m 0 - s.cut.sheaf) * 100) (100 - 4 * s.pwr.result))

/-- An orderly stop: a pause at the next mark, with THERM_STOP once (R229, R438). -/
def thermStop (s : State) : State :=
  let first := s.pwr.stop != 1
  let s := askPause { s with pwr := { s.pwr with stop := 1 } }
  if first then raise 0x0A06 0 (s.cut.pauseMark.getD 0) (pwrTemp s) 0 0 s else s

/-- An immediate halt: THERM_HALT, then the halt (R438, R526). -/
def thermHalt (s : State) : State :=
  let s := raise 0x0A07 0 (pwrTemp s) 0 0 0 s
  haltRun 8 0 { s with pwr := { s.pwr with stop := 3 } }

/-- In an active run that has become hot the supervisor decides at every boundary between an orderly stop and a halt; where
both temperatures decide, the stricter outcome stands (R438). -/
def thermalDecision (s : State) : State :=
  if !s.runActive then { s with pwr := { s.pwr with hotJ := false, hotH := false } }
  else
    let p := { s.pwr with hotJ := s.pwr.hotJ || decide (1760 ≤ s.pwr.tj), hotH := s.pwr.hotH || decide (1680 ≤ s.pwr.th) }
    let s := { s with pwr := p }
    let g := marksAway s
    let l := (if p.hotJ then [meetsTrip g 1888 p.tjHist] else []) ++ (if p.hotH then [meetsTrip g 1808 p.thHist] else [])
    let l := l.filterMap id
    if l.isEmpty then s else if l.all id then thermStop s else thermHalt s

/-- The thermal-policy bin is 0 after a stop or a halt, and while T_j is 110 degrees or more outside an active run; the
sheaves in which both temperatures stay below 95 degrees are counted (R439). -/
def thermalPolicy (s : State) : State :=
  let p := s.pwr
  let cool := if p.tj < 1520 ∧ p.th < 1520 then min 256 (p.cool + 1) else 0
  let zero := p.policyZero || decide (2 ≤ p.stop) || (decide (1760 ≤ p.tj) && !s.runActive)
  { s with pwr := { p with cool := cool, policyZero := zero } }

/-! ### The boundary -/

/-- The sensors are read at every boundary, and what the holding supervisor does there; in the gap and headless the last
request stands, and no decision is taken (R434, R435, R438, R439, R495). -/
def supervise (r : SheafReadings) (s : State) : State :=
  if !supRuns s then readTemps r s
  else
    let s := limitInput r ((List.range 8).foldl (limitStack r) s)
    let s := readTemps r s
    { s with pwr := { s.pwr with request := throttleRequest s } }

/-- Lanes that have been requalified rejoin the dealing of frames (R288). -/
def rejoinLanes (s : State) (r : Nat) : State :=
  let x := s.rail r
  if x.trainMask = 0 then s
  else
    let back := setBits 32 x.trainMask.toNat
    let s := s.modRail r (fun x => { x with
      parked := x.parked &&& ~~~x.trainMask, trainMask := 0, laneRej := x.laneRej.filter (fun l => !back.contains (l.1 % 64)),
      laneUnc := x.laneUnc.filter (fun l => !back.contains l.1) })
    let s := s.modFibre (2 * r) (fun f => { f with requal := none })
    evalReady (pump r s)

/-- The rails at a boundary: U is formed, what waits is tried again, and requalified lanes rejoin (R263, R265, R288). -/
def boundRails (s : State) : State :=
  (s.rails.map (·.1)).foldl rejoinLanes (sendWaiting (formRails s))

/-- FLEET_SHEAF_BOUNDARY: the sheaf strobe, and every per-sheaf action of the module (R22, R28, R31, R34, R48, R125, R126,
R265, R418, R419, R430, R434 to R439, R441, R495, R504, R508). -/
def execFleetSheafBoundary (r : SheafReadings) (s : State) : Host.Outcome State Fault Refusal :=
  .next (if !s.atBoundary || s.time.strobed == some s.now || s.rst.episode.any (fun ep => ep.level == 3) then s
  else
    let s := { s with time := { s.time with strobed := some s.now }, arb := { s.arb with pointers := [] },
                      cut := { s.cut with idleNow := false } }
    let s := checkTol (slewOnce (growErr (giveUpPort0 (sendRequest (sendRequest s 0) 1))))
    let s := applyTally (sendTally (supervise r s))
    let s := if s.cut.state = .running then accumulate s else s
    let s := if !supRuns s then s else thermalPolicy (thermalDecision s)
    let s := noteBins (if s.sup.phase = 1 then s else changeBins s)
    let s := boundRails (selectObs s)
    { s with dbg := { s.dbg with snapshot := snapshotOf s } })

end Sys2Proof.Machine
end

