-- ==== Sys2Proof/Machine/Yuley.lean ====
section
/-! DEFINITION. Frames received on a Yuley port, and the byte stream of commands they carry (R371 to R378). -/

namespace Sys2Proof.Machine

/-- A command packet that has arrived joins its channel's buffer, or, beyond the credit, is discarded and counted (R375,
R376). The grain of its arrival stays with it (R389). -/
def queuePacket (p : CmdPkt) (s : State) : State :=
  if (s.chan p.chan).used + p.slots ≤ 4096 then
    State.modChan { s with repro := reproArrived p s } p.chan (fun c => { c with queue := c.queue ++ [(p, s.now)], used := c.used + p.slots })
  else s.modPort p.port (fun x => { x with rejected := satAdd x.rejected 1 0xFFFF })

/-- The packet that begins at a slot, of so many slots; one whose length is invalid is its header alone (R378, R379, log
entry 19). -/
def packetAt (port : Nat) (head : BitVec 512) (l : List (BitVec 512)) : Nat × CmdPkt :=
  let h := bits head.toNat 0 256
  let len := bits h 64 32
  let len := if 65536 < len then 0 else len
  let n := cdiv (32 + len) 64
  let b := (l.take n).flatMap (fun x => toBytes 64 x.toNat)
  (n, { port := port, hdr := BitVec.ofNat 256 h, payload := (b.drop 32).take len })

/-- The slots of the byte stream are parsed as far as they hold whole packets; a slot that begins with 0 is padding
(R378). -/
def parseSlots : Nat → Nat → State → State
  | 0, _, s => s
  | n + 1, port, s =>
    match (s.yport port).slots with
    | [] => s
    | x :: r =>
      let rest := fun (l : List (BitVec 512)) => s.modPort port (fun y => { y with slots := l })
      if bits x.toNat 0 8 = 0 then parseSlots n port (rest r)
      else
        let k := packetAt port x (x :: r)
        if (x :: r).length < k.1 then s
        else parseSlots n port (queuePacket k.2 (rest ((x :: r).drop k.1)))

/-- Frames held for order join the byte stream while the next is there (R252, R378). -/
def joinFrames : Nat → Nat → State → State
  | 0, _, s => s
  | n + 1, port, s =>
    let x := s.yport port
    match tabFind x.reorder x.rxNext with
    | none => s
    | some slots_ =>
      joinFrames n port (s.modPort port (fun x => { x with
        reorder := tabDel x.reorder x.rxNext, rxNext := (x.rxNext + 1) % 65536, laneRej := tabDel x.laneRej x.rxNext,
        slots := x.slots ++ slots_ }))

/-- A data frame of a port is taken in: duplicates are discarded, gaps are named for a resend, and what is in order is
parsed (R252 to R254, R372). -/
def takeYuley (port q : Nat) (slots_ : List (BitVec 512)) (s : State) : State :=
  let x := s.yport port
  let d := seqDist x.rxNext q
  if 2048 ≤ d ∨ (tabFind x.reorder q).isSome then s
  else
    let gaps := ((List.range d).map (fun i => (x.rxNext + i) % 65536)).filter
      (fun g => (tabFind x.reorder g).isNone && !x.naks.contains g)
    let s := s.modPort port (fun x => { x with reorder := tabPut x.reorder q slots_,
                                                naks := setDel (gaps.foldl setIns x.naks) q, asks := x.asks ++ gaps })
    let s := joinFrames 2048 port s
    parseSlots ((s.yport port).slots.length + 1) port s

/-- A data frame is rejected: it is named for a resend, and at the eighth rejection the port goes DOWN (R253, R373). -/
def rejectYuley (port : Nat) (due : Option (BitVec 16)) (s : State) : State :=
  match due with
  | none => s
  | some q =>
    if (s.yport port).state ≠ 5 then s else
    let n := tabGet (s.yport port).laneRej q.toNat 0 + 1
    if 8 ≤ n then portDown port 0 s
    else s.modPort port (fun x => { x with laneRej := tabPut x.laneRej q.toNat n, naks := setIns x.naks q.toNat,
                                            asks := x.asks ++ [q.toNat] })

/-- An ACK word of a port: it frees the replay buffer up to a frame, and a frame it names is to be sent again, or, rejected
for the eighth time, takes the port DOWN (R253, R257, R373). -/
def ackYuley (port : Nat) (s : State) (w : Word256) : State :=
  let x := s.yport port
  let kept := x.replay.filter (fun f => 2048 ≤ seqDist f.seq (ctl w 8 16))
  let s := s.modPort port (fun x => { x with replay := kept })
  match if bit w.toNat 40 then kept.find? (fun f => f.seq == ctl w 24 16) else none with
  | none => s
  | some f =>
    if 8 ≤ f.rejects + 1 then portDown port 0 s
    else s.modPort port (fun x => { x with
      replay := modFirst (fun y => y.seq == f.seq) (fun y => { y with again := true, rejects := y.rejects + 1 }) x.replay })

/-- The link words of an idle frame (R253, R257, R372). -/
def linkYuley (port : Nat) (f : BitVec 4160) (s : State) : State :=
  let words : List Word256 := (List.range 8).map (fun i => BitVec.ofNat 256 (f.toNat / 2 ^ (96 + 256 * i)))
  (words.filter (fun w => ctlValid w && ctlKind w == 1)).foldl (ackYuley port) s

/-- The ring of a data lane's receiver (R371). -/
def yuleyRing (port lane : Nat) : RingId := railRing (26 + port) 1 (10 + lane)

/-- The identity that a Yuley frame shows: its chan field, or its identity block (R283, R284, R372). -/
def yuleyIdentity (f : BitVec 4160) : Nat := if bits f.toNat 0 2 = 1 then bits f.toNat 2 6 else bits f.toNat 32 6

/-- The receiver of a data lane takes a frame (R247, R249, R252, R284, R372). -/
def hearYuley (p l : Nat) (f : BitVec 4160) (due : Option (BitVec 16)) (s : State) : State :=
  let key := 60 + 2 * p + 1
  let x := tabGet (s.yport p).rx (10 + l) {}
  let put := fun (g : LaneRx → LaneRx) (s : State) => s.modPort p (fun y => { y with rx := tabMod y.rx (10 + l) {} g })
  let v := f.toNat
  let type := bits v 0 2
  if !x.sound || bits v 4128 32 != railCrc f || type == 0 || bits v 25 7 != 0 then
    rejectYuley p due (put LaneRx.skip s)
  else
    let s := put (fun y => y.pass (bit v 8) (type == 3)) s
    if !x.framed then s
    else
      let s := s.modFibre key (fun g => { g with map := tabPut g.map (10 + l) l })
      let s := observe key (10 + l) (yuleyIdentity f) (yuleyRing p l) s
      if bits v 2 6 ≠ l then rejectYuley p due s
      else if (s.yport p).state ≠ 5 ∨ !bit (s.yport p).lanes l then s
      else if type = 1 then takeYuley p (bits v 9 16) (frameSlots f) s
      else if type = 2 then linkYuley p f s
      else s

/-- YULEY_FRAME_RECEIVE: the receiver of a data lane has decoded the codewords `codes`, each given by its symbols in error, and
with them a frame; `due` is the data frame that the lane's rotation has due there (R246, R249, R252 to R254, R289, R371 to
R373). -/
def execYuleyFrameReceive (port : Fin 2) (lane : Fin 4) (frame : BitVec 4160) (due : Option (BitVec 16))
    (codes : List (Fin 545)) (s : State) : Host.Outcome State Fault Refusal :=
  let p := port.val
  let l := lane.val
  let st := (s.yport p).state
  .next (if st < 2 ∨ 5 < st then s
  else
    let c := codes.map (·.val)
    let s := s.modPort p (fun y => { y with rx := tabMod y.rx (10 + l) {} (fun x => (x.codes c).1) })
    hearYuley p l frame due (missCodewords (60 + 2 * p + 1) (10 + l) c (yuleyRing p l) s))

end Sys2Proof.Machine
end

