-- ==== Sys2Proof/Machine/Dispatch.lean ====
section
/-! DEFINITION. The dispatch: one arm for each constructor of `Instr`, each a direct call of that row's meaning. -/

namespace Sys2Proof.Machine

/-- The effect of a command on everything but the queue. -/
def exec (i : Instr) (s : State) : Host.Outcome State Fault Refusal :=
  match i with
  | .fleetSheafBoundary r => Sys2Proof.Machine.execFleetSheafBoundary r s
  | .timeMark port msg frac => Sys2Proof.Machine.execTimeMark port msg frac s
  | .timeMarkMissing port => Sys2Proof.Machine.execTimeMarkMissing port s
  | .delayResponse port msg frac => Sys2Proof.Machine.execDelayResponse port msg frac s
  | .timeFreqRecovered port => Sys2Proof.Machine.execTimeFreqRecovered port s
  | .timeFreqLost => Sys2Proof.Machine.execTimeFreqLost s
  | .holdoverToDrift => Sys2Proof.Machine.execHoldoverToDrift s
  | .refclkAbsent => Sys2Proof.Machine.execRefclkAbsent s
  | .slewDone => Sys2Proof.Machine.execSlewDone s
  | .runStartGrain => Sys2Proof.Machine.execRunStartGrain s
  | .stepIssue eng => Sys2Proof.Machine.execStepIssue eng s
  | .overrunPaced => Sys2Proof.Machine.execOverrunPaced s
  | .tillerFlagPaced => Sys2Proof.Machine.execTillerFlagPaced s
  | .tokenPost eng counter flip => Sys2Proof.Machine.execTokenPost eng counter flip s
  | .stepComplete eng unit => Sys2Proof.Machine.execStepComplete eng unit s
  | .idleSheafInsert => Sys2Proof.Machine.execIdleSheafInsert s
  | .mma t body => Sys2Proof.Machine.execMma t body s
  | .mout t body => Sys2Proof.Machine.execMout t body s
  | .bexp t body => Sys2Proof.Machine.execBexp t body s
  | .badd t body => Sys2Proof.Machine.execBadd t body s
  | .vbin t body => Sys2Proof.Machine.execVbin t body s
  | .vfma t body => Sys2Proof.Machine.execVfma t body s
  | .vfun t body => Sys2Proof.Machine.execVfun t body s
  | .vred t body => Sys2Proof.Machine.execVred t body s
  | .vpack t body => Sys2Proof.Machine.execVpack t body s
  | .vunpack t body => Sys2Proof.Machine.execVunpack t body s
  | .vrng t body => Sys2Proof.Machine.execVrng t body s
  | .vsetsel t body => Sys2Proof.Machine.execVsetsel t body s
  | .vpos t body => Sys2Proof.Machine.execVpos t body s
  | .cload t body noise => Sys2Proof.Machine.execCload t body noise s
  | .cstore t body noise => Sys2Proof.Machine.execCstore t body noise s
  | .msend t body => Sys2Proof.Machine.execMsend t body s
  | .cribWriteback t row => Sys2Proof.Machine.execCribWriteback t row s
  | .laneScan t group lanes => Sys2Proof.Machine.execLaneScan t group lanes s
  | .dowelRepairApply t => Sys2Proof.Machine.execDowelRepairApply t s
  | .stackCeilingLower die => Sys2Proof.Machine.execStackCeilingLower die s
  | .stackCeilingRaise die => Sys2Proof.Machine.execStackCeilingRaise die s
  | .meshControlFlit die flit => Sys2Proof.Machine.execMeshControlFlit die flit s
  | .meshDataFlit die flit => Sys2Proof.Machine.execMeshDataFlit die flit s
  | .meshCreditReturn die node port channel => Sys2Proof.Machine.execMeshCreditReturn die node port channel s
  | .flitDivert die flit => Sys2Proof.Machine.execFlitDivert die flit s
  | .stagingGrant die node => Sys2Proof.Machine.execStagingGrant die node s
  | .meshFlipRequest die => Sys2Proof.Machine.execMeshFlipRequest die s
  | .meshEpochFlip die => Sys2Proof.Machine.execMeshEpochFlip die s
  | .meshDrainZero die => Sys2Proof.Machine.execMeshDrainZero die s
  | .meshDrainTimeout die => Sys2Proof.Machine.execMeshDrainTimeout die s
  | .pegset noise => Sys2Proof.Machine.execPegset noise s
  | .pegPlanEffect => Sys2Proof.Machine.execPegPlanEffect s
  | .smread eng noise crib waited => Sys2Proof.Machine.execSmread eng noise crib waited s
  | .smwrite eng crib waited => Sys2Proof.Machine.execSmwrite eng crib waited s
  | .ssend eng crib => Sys2Proof.Machine.execSsend eng crib s
  | .srecv eng crib => Sys2Proof.Machine.execSrecv eng crib s
  | .slout eng crib => Sys2Proof.Machine.execSlout eng crib s
  | .slin eng crib => Sys2Proof.Machine.execSlin eng crib s
  | .streamOpen eng => Sys2Proof.Machine.execStreamOpen eng s
  | .streamUnmatched eng => Sys2Proof.Machine.execStreamUnmatched eng s
  | .sillFrameReceive site port wl tag seq frame hops => Sys2Proof.Machine.execSillFrameReceive site port wl tag seq frame hops s
  | .sillRetryRequest site port wl tag seq link flip => Sys2Proof.Machine.execSillRetryRequest site port wl tag seq link flip s
  | .controlWordOpen word => Sys2Proof.Machine.execControlWordOpen word s
  | .controlWordClose word => Sys2Proof.Machine.execControlWordClose word s
  | .controlWordAbort word => Sys2Proof.Machine.execControlWordAbort word s
  | .controlWordRepeat word => Sys2Proof.Machine.execControlWordRepeat word s
  | .refreshSlot stack pc => Sys2Proof.Machine.execRefreshSlot stack pc s
  | .refreshEnd stack pc bank => Sys2Proof.Machine.execRefreshEnd stack pc bank s
  | .refreshModeChange stack => Sys2Proof.Machine.execRefreshModeChange stack s
  | .scrubBurst noise => Sys2Proof.Machine.execScrubBurst noise s
  | .memTrainingLost stack => Sys2Proof.Machine.execMemTrainingLost stack s
  | .waitg eng => Sys2Proof.Machine.execWaitg eng s
  | .waitStep eng => Sys2Proof.Machine.execWaitStep eng s
  | .barrier eng => Sys2Proof.Machine.execBarrier eng s
  | .barrierArrival eng flip => Sys2Proof.Machine.execBarrierArrival eng flip s
  | .barrierTimeout eng => Sys2Proof.Machine.execBarrierTimeout eng s
  | .selectStep eng => Sys2Proof.Machine.execSelectStep eng s
  | .streamSelect eng => Sys2Proof.Machine.execStreamSelect eng s
  | .ckpt eng => Sys2Proof.Machine.execCkpt eng s
  | .endStep eng => Sys2Proof.Machine.execEndStep eng s
  | .runPause => Sys2Proof.Machine.execRunPause s
  | .runEnd => Sys2Proof.Machine.execRunEnd s
  | .queueRefill eng noise => Sys2Proof.Machine.execQueueRefill eng noise s
  | .loadComplete noise => Sys2Proof.Machine.execLoadComplete noise s
  | .railFrameReceive rail lane wave frame due codes => Sys2Proof.Machine.execRailFrameReceive rail lane wave frame due codes s
  | .railControlLockLost rail => Sys2Proof.Machine.execRailControlLockLost rail s
  | .railAck rail word => Sys2Proof.Machine.execRailAck rail word s
  | .railCredit rail word => Sys2Proof.Machine.execRailCredit rail word s
  | .railTrainWord rail word => Sys2Proof.Machine.execRailTrainWord rail word s
  | .railTrainStepDone link tx rx cals => Sys2Proof.Machine.execRailTrainStepDone link tx rx cals s
  | .railTrainTimeout link => Sys2Proof.Machine.execRailTrainTimeout link s
  | .railSubstitute => Sys2Proof.Machine.execRailSubstitute s
  | .railEscapeMove rail channel => Sys2Proof.Machine.execRailEscapeMove rail channel s
  | .railFlipWrite p => Sys2Proof.Machine.execRailFlipWrite p s
  | .railMapWrite p => Sys2Proof.Machine.execRailMapWrite p s
  | .epochContribute => Sys2Proof.Machine.execEpochContribute s
  | .epochResult rail word => Sys2Proof.Machine.execEpochResult rail word s
  | .railEpochFlip => Sys2Proof.Machine.execRailEpochFlip s
  | .railDrainZero => Sys2Proof.Machine.execRailDrainZero s
  | .railDrainTimeout => Sys2Proof.Machine.execRailDrainTimeout s
  | .tallyResult rail word => Sys2Proof.Machine.execTallyResult rail word s
  | .timechkResult rail word => Sys2Proof.Machine.execTimechkResult rail word s
  | .barrierResult rail word => Sys2Proof.Machine.execBarrierResult rail word s
  | .tallyMiss => Sys2Proof.Machine.execTallyMiss s
  | .strayCombinedWord rail word => Sys2Proof.Machine.execStrayCombinedWord rail word s
  | .combFail comb => Sys2Proof.Machine.execCombFail comb s
  | .ringLoopTick ring tbank hi lo => Sys2Proof.Machine.execRingLoopTick ring tbank hi lo s
  | .ringLocked ring => Sys2Proof.Machine.execRingLocked ring s
  | .ringUnlocked ring => Sys2Proof.Machine.execRingUnlocked ring s
  | .ringReacquired ring trim power => Sys2Proof.Machine.execRingReacquired ring trim power s
  | .identSend rail => Sys2Proof.Machine.execIdentSend rail s
  | .identWord rail word => Sys2Proof.Machine.execIdentWord rail word s
  | .rotationSlotEnd rail dir uncorrectable errors cal combs => Sys2Proof.Machine.execRotationSlotEnd rail dir uncorrectable errors cal combs s
  | .ringSlipRecoveryDone ring => Sys2Proof.Machine.execRingSlipRecoveryDone ring s
  | .ringRecoveryTimeout ring => Sys2Proof.Machine.execRingRecoveryTimeout ring s
  | .batchStart eng => Sys2Proof.Machine.execBatchStart eng s
  | .remoteRecordIssue eng => Sys2Proof.Machine.execRemoteRecordIssue eng s
  | .fabFence eng => Sys2Proof.Machine.execFabFence eng s
  | .remoteRequestAdmit rail => Sys2Proof.Machine.execRemoteRequestAdmit rail s
  | .fabLoad stack entry noise => Sys2Proof.Machine.execFabLoad stack entry noise s
  | .fabStore stack entry noise => Sys2Proof.Machine.execFabStore stack entry noise s
  | .fabAdd stack entry noise => Sys2Proof.Machine.execFabAdd stack entry noise s
  | .fabSmin stack entry noise => Sys2Proof.Machine.execFabSmin stack entry noise s
  | .fabSmax stack entry noise => Sys2Proof.Machine.execFabSmax stack entry noise s
  | .fabUmin stack entry noise => Sys2Proof.Machine.execFabUmin stack entry noise s
  | .fabUmax stack entry noise => Sys2Proof.Machine.execFabUmax stack entry noise s
  | .fabSwap stack entry noise => Sys2Proof.Machine.execFabSwap stack entry noise s
  | .fabCas stack entry noise => Sys2Proof.Machine.execFabCas stack entry noise s
  | .fabFadd32 stack entry noise => Sys2Proof.Machine.execFabFadd32 stack entry noise s
  | .remoteResponse rail => Sys2Proof.Machine.execRemoteResponse rail s
  | .remoteUndelivered eng dest seq => Sys2Proof.Machine.execRemoteUndelivered eng dest seq s
  | .remoteBusyResend eng dest seq => Sys2Proof.Machine.execRemoteBusyResend eng dest seq s
  | .remoteResponseTimeout eng dest seq => Sys2Proof.Machine.execRemoteResponseTimeout eng dest seq s
  | .fabTimeout eng dest seq => Sys2Proof.Machine.execFabTimeout eng dest seq s
  | .streamRecordFree src flow => Sys2Proof.Machine.execStreamRecordFree src flow s
  | .callred site body delayed => Sys2Proof.Machine.execCallred site body delayed s
  | .crscat site body delayed => Sys2Proof.Machine.execCrscat site body delayed s
  | .cagath site body delayed => Sys2Proof.Machine.execCagath site body delayed s
  | .cbcast site body delayed => Sys2Proof.Machine.execCbcast site body delayed s
  | .cpost site body => Sys2Proof.Machine.execCpost site body s
  | .tokenWordReceive rail word => Sys2Proof.Machine.execTokenWordReceive rail word s
  | .collectiveDataReceive rail => Sys2Proof.Machine.execCollectiveDataReceive rail s
  | .collectiveAckReceive rail => Sys2Proof.Machine.execCollectiveAckReceive rail s
  | .collectiveGroupAckTimer site srank phase share group => Sys2Proof.Machine.execCollectiveGroupAckTimer site srank phase share group s
  | .collectiveResend site dest phase share index => Sys2Proof.Machine.execCollectiveResend site dest phase share index s
  | .colTimeout site => Sys2Proof.Machine.execColTimeout site s
  | .yuleyFrameReceive port lane frame due codes => Sys2Proof.Machine.execYuleyFrameReceive port lane frame due codes s
  | .commandOverCredit p => Sys2Proof.Machine.execCommandOverCredit p s
  | .commandUnassigned p => Sys2Proof.Machine.execCommandUnassigned p s
  | .hello p => Sys2Proof.Machine.execHello p s
  | .ping p => Sys2Proof.Machine.execPing p s
  | .paramRead p => Sys2Proof.Machine.execParamRead p s
  | .paramWrite p => Sys2Proof.Machine.execParamWrite p s
  | .memWrite p noise => Sys2Proof.Machine.execMemWrite p noise s
  | .memRead p noise => Sys2Proof.Machine.execMemRead p noise s
  | .memFill p noise => Sys2Proof.Machine.execMemFill p noise s
  | .loadList p => Sys2Proof.Machine.execLoadList p s
  | .startRun p => Sys2Proof.Machine.execStartRun p s
  | .pauseRun p => Sys2Proof.Machine.execPauseRun p s
  | .resumeRun p => Sys2Proof.Machine.execResumeRun p s
  | .saveImage p => Sys2Proof.Machine.execSaveImage p s
  | .restoreImage p => Sys2Proof.Machine.execRestoreImage p s
  | .blockResetComputeStack p => Sys2Proof.Machine.execBlockResetComputeStack p s
  | .blockResetCrib p => Sys2Proof.Machine.execBlockResetCrib p s
  | .blockResetHbmSite p => Sys2Proof.Machine.execBlockResetHbmSite p s
  | .blockResetRailSite p => Sys2Proof.Machine.execBlockResetRailSite p s
  | .blockResetSillPath p => Sys2Proof.Machine.execBlockResetSillPath p s
  | .blockResetSillSequencer p => Sys2Proof.Machine.execBlockResetSillSequencer p s
  | .blockIdle kind index => Sys2Proof.Machine.execBlockIdle kind index s
  | .blockQuiesceTimeout kind index => Sys2Proof.Machine.execBlockQuiesceTimeout kind index s
  | .blockReady kind index fixed cals => Sys2Proof.Machine.execBlockReady kind index fixed cals s
  | .blockReadyTimeout kind index => Sys2Proof.Machine.execBlockReadyTimeout kind index s
  | .calibrateSillLanes p => Sys2Proof.Machine.execCalibrateSillLanes p s
  | .calibrateRetrainRail p => Sys2Proof.Machine.execCalibrateRetrainRail p s
  | .calibrateHoldDown p => Sys2Proof.Machine.execCalibrateHoldDown p s
  | .calibrateRemeasureDelay p => Sys2Proof.Machine.execCalibrateRemeasureDelay p s
  | .recover p => Sys2Proof.Machine.execRecover p s
  | .attest p => Sys2Proof.Machine.execAttest p s
  | .identity p => Sys2Proof.Machine.execIdentity p s
  | .fwStage p => Sys2Proof.Machine.execFwStage p s
  | .fwCommit p => Sys2Proof.Machine.execFwCommit p s
  | .debugUnlock p => Sys2Proof.Machine.execDebugUnlock p s
  | .debugLock p => Sys2Proof.Machine.execDebugLock p s
  | .debugExpire => Sys2Proof.Machine.execDebugExpire s
  | .evtSubscribe p => Sys2Proof.Machine.execEvtSubscribe p s
  | .evtQuery p => Sys2Proof.Machine.execEvtQuery p s
  | .diagCatalog p => Sys2Proof.Machine.execDiagCatalog p s
  | .traceRead p => Sys2Proof.Machine.execTraceRead p s
  | .eventRecord raiser => Sys2Proof.Machine.execEventRecord raiser s
  | .eventSend => Sys2Proof.Machine.execEventSend s
  | .replyRelease port channel => Sys2Proof.Machine.execReplyRelease port channel s
  | .mailboxSend src dst msg => Sys2Proof.Machine.execMailboxSend src dst msg s
  | .mailboxRetry src dst => Sys2Proof.Machine.execMailboxRetry src dst s
  | .procFault proc cause address data => Sys2Proof.Machine.execProcFault proc cause address data s
  | .watchdogExpire proc address => Sys2Proof.Machine.execWatchdogExpire proc address s
  | .watchdogWarning proc => Sys2Proof.Machine.execWatchdogWarning proc s
  | .procRestart proc => Sys2Proof.Machine.execProcRestart proc s
  | .irqSourceEdge proc source edges high => Sys2Proof.Machine.execIrqSourceEdge proc source edges high s
  | .irqDeliver proc => Sys2Proof.Machine.execIrqDeliver proc s
  | .irqAcknowledge proc bits act => Sys2Proof.Machine.execIrqAcknowledge proc bits act s
  | .irqOverrunClear proc bits => Sys2Proof.Machine.execIrqOverrunClear proc bits s
  | .irqStuck proc source => Sys2Proof.Machine.execIrqStuck proc source s
  | .irqStuckClear proc bits => Sys2Proof.Machine.execIrqStuckClear proc bits s
  | .localTimer proc => Sys2Proof.Machine.execLocalTimer proc s
  | .procSleep proc => Sys2Proof.Machine.execProcSleep proc s
  | .procWake proc ordered => Sys2Proof.Machine.execProcWake proc ordered s
  | .panelMarginLow panel need since => Sys2Proof.Machine.execPanelMarginLow panel need since s
  | .stretchCeilingLower die => Sys2Proof.Machine.execStretchCeilingLower die s
  | .regulatorLower panel => Sys2Proof.Machine.execRegulatorLower panel s
  | .binSwitchUp panel => Sys2Proof.Machine.execBinSwitchUp panel s
  | .panelAlign => Sys2Proof.Machine.execPanelAlign s
  | .moduleCeilingLower => Sys2Proof.Machine.execModuleCeilingLower s
  | .moduleCeilingRaise => Sys2Proof.Machine.execModuleCeilingRaise s
  | .alertNFall => Sys2Proof.Machine.execAlertNFall s
  | .pwrInputRange volts => Sys2Proof.Machine.execPwrInputRange volts s
  | .inputLockout => Sys2Proof.Machine.execInputLockout s
  | .supplyStageFault => Sys2Proof.Machine.execSupplyStageFault s
  | .pwrRegFault kind index => Sys2Proof.Machine.execPwrRegFault kind index s
  | .thermalCooldown => Sys2Proof.Machine.execThermalCooldown s
  | .thermalTrip => Sys2Proof.Machine.execThermalTrip s
  | .resetNAssert => Sys2Proof.Machine.execResetNAssert s
  | .resetNRelease => Sys2Proof.Machine.execResetNRelease s
  | .powerOnDetectAssert cause => Sys2Proof.Machine.execPowerOnDetectAssert cause s
  | .powerOnDetectRelease => Sys2Proof.Machine.execPowerOnDetectRelease s
  | .resetEpisodeEnd => Sys2Proof.Machine.execResetEpisodeEnd s
  | .bringupStepDone test => Sys2Proof.Machine.execBringupStepDone test s
  | .bringupStepTimeout test => Sys2Proof.Machine.execBringupStepTimeout test s
  | .fwSlotRejudge => Sys2Proof.Machine.execFwSlotRejudge s
  | .cfgCommit p => Sys2Proof.Machine.execCfgCommit p s
  | .cfgCommitDone ok => Sys2Proof.Machine.execCfgCommitDone ok s
  | .supHeartbeat => Sys2Proof.Machine.execSupHeartbeat s
  | .heartbeatTimeout => Sys2Proof.Machine.execHeartbeatTimeout s
  | .supFailover => Sys2Proof.Machine.execSupFailover s
  | .headlessTimeout => Sys2Proof.Machine.execHeadlessTimeout s
  | .supHeadless => Sys2Proof.Machine.execSupHeadless s
  | .savedStateWrite => Sys2Proof.Machine.execSavedStateWrite s
  | .savedStateFlashWrite ok => Sys2Proof.Machine.execSavedStateFlashWrite ok s
  | .faultMirrorWrite => Sys2Proof.Machine.execFaultMirrorWrite s
  | .errAck p => Sys2Proof.Machine.execErrAck p s
  | .faultAck p => Sys2Proof.Machine.execFaultAck p s
  | .errRateWindow => Sys2Proof.Machine.execErrRateWindow s
  | .trstNAssert => Sys2Proof.Machine.execTrstNAssert s
  | .jtagExtest shift => Sys2Proof.Machine.execJtagExtest shift s
  | .jtagIdcode => Sys2Proof.Machine.execJtagIdcode s
  | .jtagSamplePreload shift => Sys2Proof.Machine.execJtagSamplePreload shift s
  | .jtagBypass code => Sys2Proof.Machine.execJtagBypass code s
  | .jtagFlash address command data => Sys2Proof.Machine.execJtagFlash address command data s
  | .jtagIntscan panel => Sys2Proof.Machine.execJtagIntscan panel s
  | .dbgCntWrite p => Sys2Proof.Machine.execDbgCntWrite p s
  | .dbgTraceWrite p => Sys2Proof.Machine.execDbgTraceWrite p s
  | .i3cDynamicAddress address => Sys2Proof.Machine.execI3cDynamicAddress address s
  | .i3cOffsetWrite data => Sys2Proof.Machine.execI3cOffsetWrite data s
  | .i3cRead count => Sys2Proof.Machine.execI3cRead count s
  | .refclkReturn => Sys2Proof.Machine.execRefclkReturn s
  | .stuckEpisodeEnd proc source => Sys2Proof.Machine.execStuckEpisodeEnd proc source s
  | .testEnChange high => Sys2Proof.Machine.execTestEnChange high s
  | .alertNRise => Sys2Proof.Machine.execAlertNRise s
  | .saveComplete port channel noise => Sys2Proof.Machine.execSaveComplete port channel noise s
  | .restoreComplete noise => Sys2Proof.Machine.execRestoreComplete noise s
  | .recoveryComplete test => Sys2Proof.Machine.execRecoveryComplete test s
  | .warmBringupComplete => Sys2Proof.Machine.execWarmBringupComplete s
  | .fwCommitComplete => Sys2Proof.Machine.execFwCommitComplete s
  | .memTransferComplete port channel => Sys2Proof.Machine.execMemTransferComplete port channel s
  | .sillLaneCalibrationDone failing cals => Sys2Proof.Machine.execSillLaneCalibrationDone failing cals s
  | .aux1v8Overcurrent => Sys2Proof.Machine.execAux1v8Overcurrent s

end Sys2Proof.Machine
end

