-- ==== Sys2Proof/WellFormed.lean ====
section
/-! DEFINITION. Well-formed commands: those whose operands name what the module has. Register numbers, lanes and ports that
the spec bounds by a number are bounded by their types already. -/

namespace Sys2Proof

open Machine

/-- A packet comes on one of the two ports, and its payload is no longer than the longest of R378. -/
def CmdPkt.wf (p : CmdPkt) : Bool := decide (p.port < 2) && decide (p.payload.length ≤ 65536)

/-- The burst that is upset is mapped (R193). -/
def HbmUpset.wf (u : HbmUpset) : Bool := decide (u.burst < hbmTop / 32)

/-- Noise names at most the three transmissions that a row transfer has (R117). -/
def CribNoise.wf (n : CribNoise) : Bool := n.fails.all (fun f => decide (f.flips.length ≤ 3))

/-- The ring stands at a site of R154. -/
def RingId.wf (r : RingId) : Bool :=
  match r.place with
  | .port site _ _ => siteValid site.toNat
  | .control site _ => siteValid site.toNat
  | .fibre _ _ => true
  | .peg _ => true
  | .relay _ => true
  | .comb _ => true

/-- The unit and the sensor that a reading names exist (R434); a bank of rings is numbered by firmware. -/
def SensorReading.wf (x : SensorReading) : Bool :=
  match x.kind.val with
  | 0 => decide (x.unit < 8 ∧ x.index < 304)
  | 1 => decide (x.unit < 8 ∧ x.index < 72)
  | 2 => decide (x.index < 8)
  | 4 => decide (x.unit < 32 ∧ x.index = 0)
  | 5 => decide (x.unit < 8 ∧ x.index = 0)
  | 6 => decide (x.unit = 0 ∧ x.index < 16)
  | _ => true

/-- The readings name existing units, and no stack twice. -/
def SheafReadings.wf (r : SheafReadings) : Bool :=
  r.sensors.all SensorReading.wf && decide ((r.stackPower.map (·.1)).Nodup)

/-- A bring-up test reports each tiller once. -/
def BringTest.wf (t : BringTest) : Bool := decide ((t.tillers.map (·.tiller)).Nodup)

/-- A handler reads the mailboxes of processors that exist. -/
def ProcAct.wf (a : ProcAct) : Bool := a.reads.all (fun p => procPresent p.val)

/-- The operands of a command name what the module has. -/
def Instr.wf : Instr → Bool
  | .fleetSheafBoundary r => r.wf
  | .timeMark _ _ _ => true
  | .timeMarkMissing _ => true
  | .delayResponse _ _ _ => true
  | .timeFreqRecovered _ => true
  | .timeFreqLost => true
  | .holdoverToDrift => true
  | .refclkAbsent => true
  | .slewDone => true
  | .runStartGrain => true
  | .stepIssue eng => engValid eng.toNat
  | .overrunPaced => true
  | .tillerFlagPaced => true
  | .tokenPost eng _ _ => engValid eng.toNat
  | .stepComplete eng _ => engValid eng.toNat
  | .idleSheafInsert => true
  | .mma _ _ => true
  | .mout _ _ => true
  | .bexp _ _ => true
  | .badd _ _ => true
  | .vbin _ _ => true
  | .vfma _ _ => true
  | .vfun _ _ => true
  | .vred _ _ => true
  | .vpack _ _ => true
  | .vunpack _ _ => true
  | .vrng _ _ => true
  | .vsetsel _ _ => true
  | .vpos _ _ => true
  | .cload _ _ noise => noise.wf
  | .cstore _ _ noise => noise.wf
  | .msend _ _ => true
  | .cribWriteback _ _ => true
  | .laneScan _ _ _ => true
  | .dowelRepairApply _ => true
  | .stackCeilingLower _ => true
  | .stackCeilingRaise _ => true
  | .meshControlFlit _ _ => true
  | .meshDataFlit _ _ => true
  | .meshCreditReturn _ _ _ _ => true
  | .flitDivert _ _ => true
  | .stagingGrant _ _ => true
  | .meshFlipRequest _ => true
  | .meshEpochFlip _ => true
  | .meshDrainZero _ => true
  | .meshDrainTimeout _ => true
  | .pegset noise => noise.all HbmUpset.wf
  | .pegPlanEffect => true
  | .smread eng noise crib _ => engValid eng.toNat && noise.all HbmUpset.wf && crib.wf
  | .smwrite eng crib _ => engValid eng.toNat && crib.wf
  | .ssend eng crib => engValid eng.toNat && crib.wf
  | .srecv eng crib => engValid eng.toNat && crib.wf
  | .slout eng crib => engValid eng.toNat && crib.wf
  | .slin eng crib => engValid eng.toNat && crib.wf
  | .streamOpen eng => engValid eng.toNat
  | .streamUnmatched eng => engValid eng.toNat
  | .sillFrameReceive site _ _ _ _ _ _ => siteValid site.toNat
  | .sillRetryRequest site _ _ _ _ _ _ => siteValid site.toNat
  | .controlWordOpen _ => true
  | .controlWordClose _ => true
  | .controlWordAbort _ => true
  | .controlWordRepeat _ => true
  | .refreshSlot _ _ => true
  | .refreshEnd _ _ _ => true
  | .refreshModeChange _ => true
  | .scrubBurst noise => noise.all HbmUpset.wf
  | .memTrainingLost _ => true
  | .waitg eng => engValid eng.toNat
  | .waitStep eng => engValid eng.toNat
  | .barrier eng => engValid eng.toNat
  | .barrierArrival eng _ => engValid eng.toNat
  | .barrierTimeout eng => engValid eng.toNat
  | .selectStep eng => engValid eng.toNat
  | .streamSelect eng => engValid eng.toNat
  | .ckpt eng => engValid eng.toNat
  | .endStep eng => engValid eng.toNat
  | .runPause => true
  | .runEnd => true
  | .queueRefill eng noise => engValid eng.toNat && noise.all HbmUpset.wf
  | .loadComplete noise => noise.all HbmUpset.wf
  | .railFrameReceive _ _ _ _ _ _ => true
  | .railControlLockLost _ => true
  | .railAck _ _ => true
  | .railCredit _ _ => true
  | .railTrainWord _ _ => true
  | .railTrainStepDone _ _ _ _ => true
  | .railTrainTimeout _ => true
  | .railSubstitute => true
  | .railEscapeMove _ _ => true
  | .railFlipWrite p => p.wf
  | .railMapWrite p => p.wf
  | .epochContribute => true
  | .epochResult _ _ => true
  | .railEpochFlip => true
  | .railDrainZero => true
  | .railDrainTimeout => true
  | .tallyResult _ _ => true
  | .timechkResult _ _ => true
  | .barrierResult _ _ => true
  | .tallyMiss => true
  | .strayCombinedWord _ _ => true
  | .combFail _ => true
  | .ringLoopTick ring _ _ _ => ring.wf
  | .ringLocked ring => ring.wf
  | .ringUnlocked ring => ring.wf
  | .ringReacquired ring _ _ => ring.wf
  | .identSend _ => true
  | .identWord _ _ => true
  | .rotationSlotEnd _ _ _ _ _ _ => true
  | .ringSlipRecoveryDone ring => ring.wf
  | .ringRecoveryTimeout ring => ring.wf
  | .batchStart _ => true
  | .remoteRecordIssue _ => true
  | .fabFence _ => true
  | .remoteRequestAdmit _ => true
  | .fabLoad _ _ noise => noise.all HbmUpset.wf
  | .fabStore _ _ noise => noise.all HbmUpset.wf
  | .fabAdd _ _ noise => noise.all HbmUpset.wf
  | .fabSmin _ _ noise => noise.all HbmUpset.wf
  | .fabSmax _ _ noise => noise.all HbmUpset.wf
  | .fabUmin _ _ noise => noise.all HbmUpset.wf
  | .fabUmax _ _ noise => noise.all HbmUpset.wf
  | .fabSwap _ _ noise => noise.all HbmUpset.wf
  | .fabCas _ _ noise => noise.all HbmUpset.wf
  | .fabFadd32 _ _ noise => noise.all HbmUpset.wf
  | .remoteResponse _ => true
  | .remoteUndelivered _ _ _ => true
  | .remoteBusyResend _ _ _ => true
  | .remoteResponseTimeout _ _ _ => true
  | .fabTimeout _ _ _ => true
  | .streamRecordFree _ _ => true
  | .callred _ _ _ => true
  | .crscat _ _ _ => true
  | .cagath _ _ _ => true
  | .cbcast _ _ _ => true
  | .cpost _ _ => true
  | .tokenWordReceive _ _ => true
  | .collectiveDataReceive _ => true
  | .collectiveAckReceive _ => true
  | .collectiveGroupAckTimer _ _ _ _ _ => true
  | .collectiveResend _ _ _ _ _ => true
  | .colTimeout _ => true
  | .yuleyFrameReceive _ _ _ _ _ => true
  | .commandOverCredit p => p.wf
  | .commandUnassigned p => p.wf
  | .hello p => p.wf
  | .ping p => p.wf
  | .paramRead p => p.wf
  | .paramWrite p => p.wf
  | .memWrite p noise => p.wf && noise.all HbmUpset.wf
  | .memRead p noise => p.wf && noise.all HbmUpset.wf
  | .memFill p noise => p.wf && noise.all HbmUpset.wf
  | .loadList p => p.wf
  | .startRun p => p.wf
  | .pauseRun p => p.wf
  | .resumeRun p => p.wf
  | .saveImage p => p.wf
  | .restoreImage p => p.wf
  | .blockResetComputeStack p => p.wf
  | .blockResetCrib p => p.wf
  | .blockResetHbmSite p => p.wf
  | .blockResetRailSite p => p.wf
  | .blockResetSillPath p => p.wf
  | .blockResetSillSequencer p => p.wf
  | .blockIdle kind index => decide (index.val < blockCount kind.val)
  | .blockQuiesceTimeout kind index => decide (index.val < blockCount kind.val)
  | .blockReady kind index _ _ => decide (index.val < blockCount kind.val)
  | .blockReadyTimeout kind index => decide (index.val < blockCount kind.val)
  | .calibrateSillLanes p => p.wf
  | .calibrateRetrainRail p => p.wf
  | .calibrateHoldDown p => p.wf
  | .calibrateRemeasureDelay p => p.wf
  | .recover p => p.wf
  | .attest p => p.wf
  | .identity p => p.wf
  | .fwStage p => p.wf
  | .fwCommit p => p.wf
  | .debugUnlock p => p.wf
  | .debugLock p => p.wf
  | .debugExpire => true
  | .evtSubscribe p => p.wf
  | .evtQuery p => p.wf
  | .diagCatalog p => p.wf
  | .traceRead p => p.wf
  | .eventRecord _ => true
  | .eventSend => true
  | .replyRelease _ _ => true
  | .mailboxSend src dst _ => procPresent src.val && procPresent dst.val && src != dst
  | .mailboxRetry src dst => procPresent src.val && procPresent dst.val && src != dst
  | .procFault proc _ _ _ => procPresent proc.val
  | .watchdogExpire proc _ => procPresent proc.val
  | .watchdogWarning proc => procPresent proc.val
  | .procRestart proc => procPresent proc.val
  | .irqSourceEdge proc _ _ _ => procPresent proc.val
  | .irqDeliver proc => procPresent proc.val
  | .irqAcknowledge proc _ act => procPresent proc.val && act.wf
  | .irqOverrunClear proc _ => procPresent proc.val
  | .irqStuck proc _ => procPresent proc.val
  | .irqStuckClear proc _ => procPresent proc.val
  | .localTimer proc => procPresent proc.val
  | .procSleep proc => procPresent proc.val
  | .procWake proc _ => procPresent proc.val
  | .panelMarginLow panel _ _ => panelIndex panel.toNat
  | .stretchCeilingLower _ => true
  | .regulatorLower panel => panelIndex panel.toNat
  | .binSwitchUp panel => panelIndex panel.toNat
  | .panelAlign => true
  | .moduleCeilingLower => true
  | .moduleCeilingRaise => true
  | .alertNFall => true
  | .pwrInputRange _ => true
  | .inputLockout => true
  | .supplyStageFault => true
  | .pwrRegFault kind index => domainOk kind.val index.toNat
  | .thermalCooldown => true
  | .thermalTrip => true
  | .resetNAssert => true
  | .resetNRelease => true
  | .powerOnDetectAssert _ => true
  | .powerOnDetectRelease => true
  | .resetEpisodeEnd => true
  | .bringupStepDone test => test.wf
  | .bringupStepTimeout test => test.wf
  | .fwSlotRejudge => true
  | .cfgCommit p => p.wf
  | .cfgCommitDone _ => true
  | .supHeartbeat => true
  | .heartbeatTimeout => true
  | .supFailover => true
  | .headlessTimeout => true
  | .supHeadless => true
  | .savedStateWrite => true
  | .savedStateFlashWrite _ => true
  | .faultMirrorWrite => true
  | .errAck p => p.wf
  | .faultAck p => p.wf
  | .errRateWindow => true
  | .trstNAssert => true
  | .jtagExtest _ => true
  | .jtagIdcode => true
  | .jtagSamplePreload _ => true
  | .jtagBypass _ => true
  | .jtagFlash _ _ _ => true
  | .jtagIntscan _ => true
  | .dbgCntWrite p => p.wf
  | .dbgTraceWrite p => p.wf
  | .i3cDynamicAddress _ => true
  | .i3cOffsetWrite _ => true
  | .i3cRead _ => true
  | .refclkReturn => true
  | .stuckEpisodeEnd proc _ => procPresent proc.val
  | .testEnChange _ => true
  | .alertNRise => true
  | .saveComplete _ _ noise => noise.all HbmUpset.wf
  | .restoreComplete noise => noise.all HbmUpset.wf
  | .recoveryComplete test => test.wf
  | .warmBringupComplete => true
  | .fwCommitComplete => true
  | .memTransferComplete _ _ => true
  | .sillLaneCalibrationDone _ _ => true
  | .aux1v8Overcurrent => true

end Sys2Proof
end

