-- ==== Sys2Proof/Safety.lean ====
section
/-! DEFINITION. What the claims say of a state: its memories are in canonical form, and its queue holds well-formed
commands. -/

namespace Sys2Proof.Machine

/-- Every memory of the module is in its canonical form: addresses strictly rising, and no entry equal to what an unlisted
byte reads as. -/
structure MemOk (s : State) : Prop where
  localStore : memWf 0 s.localStore = true
  crib : memWf 0 s.crib = true
  hbm : memWf 0 s.hbm.mem = true
  area : memWf 0 s.col.area = true
  window : memWf 0 s.fab.window = true
  flash : memWf Config.erasedByte s.rst.flash = true

/-- Every command that waits is well formed. -/
def QueueOk (s : State) : Prop := s.pending.all Instr.wf = true

/-- A command packet of an opcode that its channel starts and that passes the checks of R379. -/
def Accepted (op : Nat) (p : CmdPkt) (s : State) : Prop :=
  p.opcode = op ∧ canStart s p = true ∧ cmdStatus s p = 0

/-- The command row to which a packet belongs, by its opcode and its action, kind or parameter (R384, R386, R391, R392). -/
def IsRow (p : CmdPkt) : Instr → Prop
  | .commandUnassigned q => q = p ∧ (layoutOf p.opcode).isNone = true
  | .hello q => q = p ∧ p.opcode = 0x000
  | .ping q => q = p ∧ p.opcode = 0x001
  | .paramRead q => q = p ∧ p.opcode = 0x100
  | .paramWrite q => q = p ∧ p.opcode = 0x101 ∧ ownRow (writeId p) = false
  | .railFlipWrite q => q = p ∧ p.opcode = 0x101 ∧ writeId p = 0x00A00001
  | .railMapWrite q => q = p ∧ p.opcode = 0x101 ∧ writeId p / 2 ^ 20 = 0x00A ∧ 0x10000 ≤ writeId p % 2 ^ 20
  | .cfgCommit q => q = p ∧ p.opcode = 0x101 ∧ writeId p = 0x01200003
  | .dbgCntWrite q => q = p ∧ p.opcode = 0x101 ∧ 0x01500020 ≤ writeId p ∧ writeId p < 0x01500030
  | .dbgTraceWrite q => q = p ∧ p.opcode = 0x101 ∧ writeId p / 2 ^ 20 = 0x015 ∧ 0x30 ≤ writeId p % 2 ^ 20
  | .errAck q => q = p ∧ p.opcode = 0x101 ∧ writeId p = 0x01600001
  | .faultAck q => q = p ∧ p.opcode = 0x101 ∧ (writeId p / 2 ^ 16 = 0x0162 ∨ writeId p / 2 ^ 16 = 0x0163)
  | .memWrite q _ => q = p ∧ p.opcode = 0x200
  | .memRead q _ => q = p ∧ p.opcode = 0x201
  | .memFill q _ => q = p ∧ p.opcode = 0x202
  | .loadList q => q = p ∧ p.opcode = 0x300
  | .startRun q => q = p ∧ p.opcode = 0x301
  | .pauseRun q => q = p ∧ p.opcode = 0x302
  | .resumeRun q => q = p ∧ p.opcode = 0x303
  | .saveImage q => q = p ∧ p.opcode = 0x400
  | .restoreImage q => q = p ∧ p.opcode = 0x401
  | .blockResetComputeStack q => q = p ∧ p.opcode = 0x500 ∧ (p.arg 0 1 < 2 ∨ 6 < p.arg 0 1)
  | .blockResetCrib q => q = p ∧ p.opcode = 0x500 ∧ p.arg 0 1 = 2
  | .blockResetHbmSite q => q = p ∧ p.opcode = 0x500 ∧ p.arg 0 1 = 3
  | .blockResetRailSite q => q = p ∧ p.opcode = 0x500 ∧ p.arg 0 1 = 4
  | .blockResetSillPath q => q = p ∧ p.opcode = 0x500 ∧ p.arg 0 1 = 5
  | .blockResetSillSequencer q => q = p ∧ p.opcode = 0x500 ∧ p.arg 0 1 = 6
  | .calibrateSillLanes q => q = p ∧ p.opcode = 0x501 ∧ (p.arg 0 1 < 2 ∨ 4 < p.arg 0 1)
  | .calibrateRetrainRail q => q = p ∧ p.opcode = 0x501 ∧ p.arg 0 1 = 2
  | .calibrateHoldDown q => q = p ∧ p.opcode = 0x501 ∧ p.arg 0 1 = 3
  | .calibrateRemeasureDelay q => q = p ∧ p.opcode = 0x501 ∧ p.arg 0 1 = 4
  | .recover q => q = p ∧ p.opcode = 0x502
  | .attest q => q = p ∧ p.opcode = 0x600
  | .identity q => q = p ∧ p.opcode = 0x601
  | .fwStage q => q = p ∧ p.opcode = 0x602
  | .fwCommit q => q = p ∧ p.opcode = 0x603
  | .debugUnlock q => q = p ∧ p.opcode = 0x604
  | .debugLock q => q = p ∧ p.opcode = 0x605
  | .evtSubscribe q => q = p ∧ p.opcode = 0x700
  | .evtQuery q => q = p ∧ p.opcode = 0x701
  | .diagCatalog q => q = p ∧ p.opcode = 0xF00
  | .traceRead q => q = p ∧ p.opcode = 0xF02
  | _ => False

/-- An accepted PARAM_WRITE of the value v to a parameter, its length right and its reserved fields 0 (R7, R386). -/
def Writes (id v : Nat) (p : CmdPkt) (s : State) : Prop :=
  Accepted 0x101 p s ∧ writeId p = id ∧ (diagPage id = true → bit s.scopesNow 0 = true) ∧
    (param (takePacket p s) id).any (fun q =>
      decide ((writeVal p).length = q.bytes ∧ v = ofBytes (writeVal p) % 2 ^ q.width ∧ v &&& q.reserved = 0)) = true

/-- A rail in LINK or later holds a link word as the oldest of its kind that has come (R255 to R257). -/
def GoodWord (rail kind : Nat) (w : BitVec 256) (s : State) : Prop :=
  3 ≤ (s.rail rail).state ∧ (s.rail rail).state ≠ 7 ∧ (s.rail rail).rxWords.find? (fun v => ctlKind v == kind) = some w

/-- The state in which a rail has consumed a link word. -/
def withoutWord (rail : Nat) (w : BitVec 256) (s : State) : State :=
  s.modRail rail (fun x => { x with rxWords := delFirst (fun v => v == w) x.rxWords })

/-- A combined result of this stook for a key that is outstanding (R258). -/
def GoodResult (rail kind key : Nat) (w : BitVec 256) (s : State) : Prop :=
  GoodWord rail kind w s ∧ combinedOk s w = true ∧ isOutstanding s kind key = true

/-- The state in which the line arbiter of a stack serves an entry of its queue: the entry has left it, and the read's
upsets have happened (R206, R315). -/
def servedLine (h i : Nat) (noise : List HbmUpset) (s : State) : State :=
  let s := noise.foldl (fun s u => upsetBurst u s) s
  { s with fab := { s.fab with ports := tabMod s.fab.ports h {} (fun p => { p with queue := dropAt p.queue i }) } }

/-- A run of so many steps from a state is safe: no step faults or is refused. -/
def SafeFor : Nat → State → Prop
  | 0, _ => True
  | n + 1, s => ∃ t, step s = .next t ∧ SafeFor n t

end Sys2Proof.Machine
end

