-- ==== Sys2Proof/Certificates/Slice0/Obligations.lean ====
section
/-! DEFINITION. The statements about the model, from the numbered rules of the spec. -/

open Sys2Proof Sys2Proof.Machine

/-- For every command c, every rest of the queue and every state, step of the state whose queue is c followed by that
rest is exec of c on the state with the queue's rest. (The queue is the model's own, log entry 19.) (This states of
R375 only what is said here.) (15_commands.md, 95_what_each_step_holds.md) -/
def Obligations.StepRunsFirstCommand : Prop :=
    ∀ (c : Instr) (rest : List Instr) (s : State),
      step { s with pending := c :: rest } = exec c { s with pending := rest }

/-- With an empty queue, nothing in a crossing or on a ring and no stream under abort: away from a level-3 reset a
step answers a next state in which the grain counter has advanced by 1 (modulo 2^64), the queue is empty, and the run,
the engines, the local stores, the cribs, the HBM3E memory and the event records are as before; of a counter retarded
outside an active run every seventeenth such grain holds the counter instead, and its offset falls by 1 grain; during
a level-3 reset the time base is as before. What a step does on an empty queue is the model's choice (DESIGN CHOICE,
log entry 1). (This states of R31, R34 and R420 only what is said here.) (02_fleet_time.md, 17_clocking.md) -/
def Obligations.EmptyQueueCountsOneGrain : Prop :=
    (∀ s : State, s.pending = [] → (s.time.retard = false ∨ s.runActive = true ∨ s.time.retardPhase < 16) →
      (∀ ep, s.rst.episode = some ep → ep.level ≠ 3) →
      s.clk.crossings = [] → s.railTop.bus = [] → (∀ st ∈ s.sill.streams, st.abortAt = none) →
      ∃ t, step s = .next t ∧ t.time.now = s.time.now + 1 ∧ t.pending = [] ∧ t.cut = s.cut ∧ t.engines = s.engines ∧
        t.localStore = s.localStore ∧ t.crib = s.crib ∧ t.hbm = s.hbm ∧ t.err = s.err) ∧
    (∀ s : State, s.pending = [] → s.time.retard = true → s.runActive = false → 16 ≤ s.time.retardPhase →
      (∀ ep, s.rst.episode = some ep → ep.level ≠ 3) →
      s.clk.crossings = [] → s.railTop.bus = [] → (∀ st ∈ s.sill.streams, st.abortAt = none) →
      ∃ t, step s = .next t ∧ t.time.now = s.time.now ∧ t.time.offset = s.time.offset - 64 ∧ t.time.retardPhase = 0 ∧
        t.pending = [] ∧ t.cut = s.cut ∧ t.engines = s.engines ∧ t.localStore = s.localStore ∧ t.crib = s.crib ∧
        t.hbm = s.hbm ∧ t.err = s.err) ∧
    (∀ (s : State) (ep : Episode), s.pending = [] → s.rst.episode = some ep → ep.level = 3 →
      s.clk.crossings = [] → s.railTop.bus = [] → (∀ st ∈ s.sill.streams, st.abortAt = none) →
      ∃ t, step s = .next t ∧ t.time = s.time)

/-- In State.reset the grain counter is 0 and the time state unset; no cut list is held (state empty), no engine has a
queue, no tiller flag is set, the memories list nothing, no HBM stack is in service and MEM.SIZE.size is 0; the rails
are DOWN; REPRO.RUN is clear; no session is open; no event is raised, logged or queued; the trip latch is not set; and
no command waits. A reset episode is under way and MOD.STATUS.state is 0 (reset). That reset begins with power-on
detection asserted is the model's choice (log entry 3). (This states of R33, R36, R42, R86, R153, R208, R242, R270,
R297, R360, R397 and R473 only what is said here.) (02_fleet_time.md, 03_tiller.md, 06_die_mesh.md, 08_memory.md,
09_cut_lists.md, 10_rail_links.md, 11_optical_control.md, 14_reproducibility.md, 15_commands.md,
19_reset_and_bringup.md) -/
def Obligations.ResetStateValues : Prop :=
    State.reset.time.now = 0 ∧ State.reset.time.st = .unset ∧ State.reset.cut.state = .empty ∧
    State.reset.engines = [] ∧ State.reset.tillers = [] ∧ State.reset.localStore = [] ∧ State.reset.crib = [] ∧
    State.reset.hbm.mem = [] ∧ State.reset.col.area = [] ∧ State.reset.fab.window = [] ∧ State.reset.rst.flash = [] ∧
    State.reset.hbm.size = 0 ∧ (∀ h < 32, (State.reset.mstack h).state = 0) ∧
    (∀ r < 26, (State.reset.rail r).state = 0) ∧ reproWord State.reset = 0 ∧ State.reset.yuley.isOpen = false ∧
    State.reset.err.raised = [] ∧ State.reset.err.log = [] ∧ State.reset.err.fault = [] ∧
    State.reset.yuley.events = [] ∧ State.reset.yuley.nextSeq = 0 ∧ State.reset.pwr.trip = false ∧
    State.reset.rst.episode.isSome = true ∧ State.reset.rst.state = 0 ∧ State.reset.pending = []

/-- The local stores, the cribs, the HBM3E memory, the collective areas, the remote windows and the configuration
flash are in canonical form in State.reset: addresses rise strictly, and no entry equals what an unlisted address
reads as. (05_crib_and_dowels.md, 08_memory.md) -/
def Obligations.ResetMemoriesCanonical : Prop :=
    MemOk State.reset

/-- From every state whose memories are in canonical form, reached or not, and whatever command is at the front of its
queue, a step that answers a next state answers one whose memories are in canonical form. The read of a byte after any
write therefore has one answer, and equal memories are equal data. (05_crib_and_dowels.md, 08_memory.md,
12_memory_fabric.md, 19_reset_and_bringup.md) -/
def Obligations.EveryStepKeepsMemoriesCanonical : Prop :=
    ∀ s t : State, MemOk s → step s = .next t → MemOk t

/-- Whatever the state, a step that answers a next state leaves in the queue exactly the commands that stood behind
the first one, in their order: no command of any family adds, drops or reorders a waiting command. (This states of
R375 only what is said here.) (15_commands.md) -/
def Obligations.EveryStepTakesOneCommand : Prop :=
    ∀ s t : State, step s = .next t → t.pending = s.pending.tail

/-- In every state with the trip latch set, a step that answers a next state leaves the latch set, unless the command
at the front asserts power-on detection: POWER_ON_DETECT_ASSERT itself, a lockout of the input, or a stage-1 or
stage-2 supply fault, which is treated as a loss of power. No other command does, whatever its family: no reset from
the RESET_N pin, bring-up, recovery, processor, debug or control-node command clears it. (This states of R429, R432,
R440, R446 and R515 only what is said here.) (18_power_thermal.md, 19_reset_and_bringup.md, 23_physical.md) -/
def Obligations.OnlyPowerOnDetectionClearsTrip : Prop :=
    ∀ s t : State, (∀ cause, s.pending.head? ≠ some (.powerOnDetectAssert cause)) →
      s.pending.head? ≠ some .inputLockout → s.pending.head? ≠ some .supplyStageFault →
      s.pwr.trip = true → step s = .next t → t.pwr.trip = true

/-- Whatever the state and the command, a step that answers a next state leaves SEC.SVN's blown-bit count where it was
or higher; its fuses are blown one way. (This states of R479 and R488 only what is said here.) (20_security.md) -/
def Obligations.AntiRollbackCounterNeverFalls : Prop :=
    ∀ s t : State, step s = .next t → s.sec.counter ≤ t.sec.counter

/-- TIME_MARK: a mark that passes the model's check of R30 (markOk, log entry 22) ends the run of rejections on its
port, is its last mark, with its error, counts for a measurement in progress (lockMark), and travels on from the
port's site as a control word of type 0x7 to every site (log entry 53); one that fails it is rejected (rejectMark) for
this sheaf. TIME_MARK_MISSING: a mark that is due on a port with frequency or with valid timing, and has not come, is
rejected for its boundary. DELAY_RESPONSE: a valid response to an open request of the port's measurement takes that
request, and adds its round trip minus residence; the 64th completes the measurement (finishJob). TIME_FREQ_RECOVERED
sets the port's frequency flag and, where the time state is unset, makes it locking and changes nothing outside the
time base; where it is not, and the port's timing is valid, it does nothing else. TIME_FREQ_LOST from locking returns
to unset with both flags clear and no measurement left, and changes nothing but the time base and REPRO; from another
state it clears both flags and does nothing else. HOLDOVER_TO_DRIFT in holdover with err_est above 1 grain enters
drift (loseTol). REFCLK_ABSENT clears the presence flag, and from holdover enters drift (loseTol). REFCLK_RETURN sets
the flag and does nothing else. SLEW_DONE, while slewing with an offset of at most 1 grain, enters locked (enterTime)
with retarding off. (This states of R25, R28, R30, R31, R32 and R517 only what is said here.) (02_fleet_time.md,
23_physical.md) -/
def Obligations.TimeBaseRowsComplete : Prop :=
  (∀ (port : Fin 2) (msg : Word128) (frac : Fin 64) (s : State), markOk s port.val msg frac.val = true →
     exec (.timeMark port msg frac) s = .next (lockMark port.val (tmGrain msg) ((sendWord (controlWord 0x7 (0x60 + port.val) 0xFF 0 (tmGrain msg)) s).modTport port.val (fun t =>
       { t with
             rejRun := 0, lastMark := some (tmGrain msg), markSheaf := some (tmGrain msg / 4096),
             markOff := markError s port.val (tmGrain msg) frac.val })))) ∧
  (∀ (port : Fin 2) (msg : Word128) (frac : Fin 64) (s : State), markOk s port.val msg frac.val = false →
     exec (.timeMark port msg frac) s = .next (rejectMark port.val (s.modTport port.val (fun t =>
       { t with markSheaf := some (s.now / 4096) })))) ∧
  (∀ (port : Fin 2) (s : State) (k : Nat), markDue s port.val = some k →
     ((s.tport port.val).freq = true ∨ (s.tport port.val).valid = true) → (s.tport port.val).markSheaf = none →
     exec (.timeMarkMissing port) s = .next (rejectMark port.val (s.modTport port.val (fun t =>
       { t with markSheaf := some k })))) ∧
  (∀ (port : Fin 2) (s : State) (k m : Nat), markDue s port.val = some k →
     ((s.tport port.val).freq = true ∨ (s.tport port.val).valid = true) → (s.tport port.val).markSheaf = some m →
     m < k →
     exec (.timeMarkMissing port) s = .next (rejectMark port.val (s.modTport port.val (fun t =>
       { t with markSheaf := some k })))) ∧
  (∀ (port : Fin 2) (msg : Word128) (frac : Fin 64) (s : State) (j : LockJob) (q : Nat × Nat),
     s.lockOf port.val = some j → j.isOpen.find? (fun q => q.1 == tmSeq msg) = some q → checkOk msg = true →
     tmType msg = 3 → tmReservedOk msg = true →
     ∃ u : LockJob, u.isOpen = delFirst (fun x => x.1 == q.1) j.isOpen ∧ u.port = j.port ∧
       u.trips = j.trips ++ [((s.now * 64 + frac.val : Nat) : Int) - (q.2 : Int) - tmResidence msg] ∧
       exec (.delayResponse port msg frac) s =
         .next (if 64 ≤ u.trips.length then finishJob u s else { s with
               time := { s.time with locks := tabPut s.time.locks port.val u } })) ∧
  (∀ (port : Fin 2) (s : State), s.time.st ≠ .unset → (s.tport port.val).valid = true →
     exec (.timeFreqRecovered port) s = .next (s.modTport port.val (fun t => { t with freq := true }))) ∧
  (∀ (port : Fin 2) (s : State), s.time.st = .unset →
     ∃ t, exec (.timeFreqRecovered port) s = .next t ∧ t.time.st = .locking ∧ (t.tport port.val).freq = true ∧ t.time.now = s.time.now ∧
       t = { s with time := t.time }) ∧
  (∀ (s : State), s.time.st ≠ .locking →
     exec .timeFreqLost s = .next { s with
           time := { s.time with p0 := { s.time.p0 with freq := false }, p1 := { s.time.p1 with freq := false } } }) ∧
  (∀ (s : State), s.time.st = .locking →
     ∃ t, exec .timeFreqLost s = .next t ∧ t.time.st = .unset ∧ t.time.locks = [] ∧ t.time.jobs = [] ∧
       t.time.p0.freq = false ∧ t.time.p1.freq = false ∧ t = { s with time := t.time, repro := t.repro }) ∧
  (∀ (s : State), s.time.st = .holdover → 1000000000 < s.time.errAs →
     exec .holdoverToDrift s = .next (loseTol .drift s)) ∧
  (∀ (s : State), s.time.st = .holdover →
     exec .refclkAbsent s = .next (loseTol .drift { s with time := { s.time with refclk := false } })) ∧
  (∀ (s : State), s.time.st ≠ .holdover →
     exec .refclkAbsent s = .next { s with time := { s.time with refclk := false } }) ∧
  (∀ (s : State),
     exec .refclkReturn s = .next { s with time := { s.time with refclk := true } }) ∧
  (∀ (s : State), s.time.st = .slewing → s.time.offset.natAbs ≤ 64 →
     exec .slewDone s = .next (enterTime .locked { s with time := { s.time with retard := false } }))

/-- In holdover with err_est above 1 grain, HOLDOVER_TO_DRIFT leaves the time state drift with lost_tol set; the first
event it raises is TIME_TOLERANCE (0x0101), at this grain; after it at most READY_CHANGE is raised; and the memories,
the engines and the session are as before. (This states of R32, R33 and R536 only what is said here.)
(02_fleet_time.md, 24_faults.md) -/
def Obligations.LosingToleranceIsReported : Prop :=
  ∀ (s : State), s.time.st = .holdover → 1000000000 < s.time.errAs →
    ∃ t r l, exec .holdoverToDrift s = .next t ∧ t.time.st = .drift ∧ t.time.lostTol = true ∧
      t.err.raised = s.err.raised ++ r :: l ∧ r.code = 0x0101 ∧ r.grain = s.now ∧ (∀ x ∈ l, x.code = 0x0B05) ∧
      t = { s with time := t.time, err := t.err, rst := t.rst, repro := t.repro, opt := t.opt }

/-- At a fleet sheaf boundary that has not been strobed, outside a level-3 reset, FLEET_SHEAF_BOUNDARY answers a next
state in which this grain is recorded as strobed and the snapshot that the control node reads is that of the new
state. A second strobe at the same grain, or one away from a boundary, changes nothing (the latter is the model's
choice, log entry 2). (This states of R22, R34 and R449 only what is said here.) (01_module_overview.md,
02_fleet_time.md, 19_reset_and_bringup.md) -/
def Obligations.SheafBoundaryStrobesOnce : Prop :=
  (∀ (r : SheafReadings) (s : State), s.atBoundary = true → s.time.strobed ≠ some s.now → ((∀ ep,
     s.rst.episode = some ep → ep.level ≠ 3)) →
     ∃ t, exec (.fleetSheafBoundary r) s = .next t ∧ t.time.strobed = some s.now ∧ t.dbg.snapshot = snapshotOf t) ∧
  (∀ (r : SheafReadings) (s : State), (s.atBoundary = false ∨ s.time.strobed = some s.now) →
     exec (.fleetSheafBoundary r) s = .next s)

/-- RUN_START_GRAIN at or after the start grain g of an armed list with no resume mark (and, where this grain has been
strobed, before g + 4,096) answers a next state in which the run is running, no start grain waits, B (runBase) is g,
the schedule sheaf is 0, no idle sheaf is under way or inserted, the counter is not retarded, and the engines, local
stores, cribs and HBM3E memory are as before. With a resume mark m (and, where this grain has been strobed, before g +
4,096 and with the mark's sheaf and the idle sheaves below 2^52 together) the same holds, but B is g less 4,096 times
the sum of the sheaf of mark m and the idle sheaves inserted before, the schedule sheaf is that of mark m, and the
resumed bit of REPRO.RUN is set. Before g it changes nothing. IDLE_SHEAF_INSERT at a boundary of a running list for
which an idle sheaf is due marks the fleet sheaf idle, adds the schedule sheaf of this boundary to the list of idle
sheaves, adds 1 to the counts of idle sheaves of the run and of the module, each saturating at 2^32 - 1, and changes
nothing else. (This states of R37, R38, R367 and R437 only what is said here.) (02_fleet_time.md,
14_reproducibility.md, 18_power_thermal.md) -/
def Obligations.RunStartsAtItsGrain : Prop :=
  (∀ (s : State) (g : Nat), s.cut.state = .armed → s.cut.startAt = some g → g ≤ s.now → s.cut.resumeMark = none →
     (s.time.strobed = some s.now → s.now < g + 4096) →
     ∃ t, exec .runStartGrain s = .next t ∧ t.cut.state = .running ∧ t.cut.startAt = none ∧ t.cut.sheaf = 0 ∧
       t.cut.runBase = BitVec.ofNat 64 g ∧ t.cut.idleNow = false ∧ t.cut.idles = [] ∧ t.time.retard = false ∧
       t.engines = s.engines ∧ t.localStore = s.localStore ∧ t.crib = s.crib ∧ t.hbm.mem = s.hbm.mem) ∧
  (∀ (s : State) (g m : Nat), s.cut.state = .armed → s.cut.startAt = some g → g ≤ s.now →
     s.cut.resumeMark = some m → (s.time.strobed = some s.now → s.now < g + 4096 ∧
     s.cut.marks.getD m 0 + s.cut.idle < 2 ^ 52) →
     ∃ t, exec .runStartGrain s = .next t ∧ t.cut.state = .running ∧ t.cut.startAt = none ∧ t.cut.sheaf = s.cut.marks.getD m 0 ∧
       t.cut.runBase = BitVec.ofInt 64 ((g : Int) - 4096 * (s.cut.marks.getD m 0 + s.cut.idle : Nat)) ∧
       t.cut.idleNow = false ∧ t.cut.idles = [] ∧ t.time.retard = false ∧ t.repro.resumed = true ∧
       t.engines = s.engines ∧ t.localStore = s.localStore ∧ t.crib = s.crib ∧ t.hbm.mem = s.hbm.mem) ∧
  (∀ (s : State) (g : Nat), s.cut.state = .armed → s.cut.startAt = some g → s.now < g →
     exec .runStartGrain s = .next s) ∧
  (∀ (s : State), s.cut.state = .running → s.cut.idleDue = true → s.atBoundary = true →
     exec .idleSheafInsert s = .next
       { s with
             cut := { s.cut with idleDue := false, idleNow := true, idles := s.cut.idles ++ [schedNow s], idle := satAdd s.cut.idle 1 0xFFFFFFFF },
             pwr := { s.pwr with idleTotal := satAdd s.pwr.idleTotal 1 0xFFFFFFFF } })

/-- For each engine, STEP_ISSUE issues a head step that may issue under R42 (the operation issueHead: its counts are
consumed, its lateness recorded, and it is in flight or, as a control step other than BARRIER, complete); WAITG, WAIT,
BARRIER, SELECT (on a tiller), STREAM_SELECT (on a stream engine), CKPT and END do so for a head step of their opcode.
A head step that may not issue yet stays, and nothing changes. (This states of R42, R221, R222, R224, R226, R227, R228
and R230 only what is said here.) (02_fleet_time.md, 09_cut_lists.md) -/
def Obligations.QueueHeadStepsComplete : Prop :=
  (∀ (eng : BitVec 16) (s : State) (q : QStep) (rest : List QStep), engValid eng.toNat = true →
     (s.engine eng.toNat).queue = q :: rest → canIssue s eng.toNat (s.engine eng.toNat) q rest = true →
     exec (.stepIssue eng) s = .next (issueHead eng.toNat q rest s)) ∧
  (∀ (eng : BitVec 16) (s : State) (q : QStep) (rest : List QStep), engValid eng.toNat = true →
     (s.engine eng.toNat).queue = q :: rest → stOpcode q.word = 0x01 →
     canIssue s eng.toNat (s.engine eng.toNat) q rest = true →
     exec (.waitg eng) s = .next (issueHead eng.toNat q rest s)) ∧
  (∀ (eng : BitVec 16) (s : State) (q : QStep) (rest : List QStep), engValid eng.toNat = true →
     (s.engine eng.toNat).queue = q :: rest → stOpcode q.word = 0x02 →
     canIssue s eng.toNat (s.engine eng.toNat) q rest = true →
     exec (.waitStep eng) s = .next (issueHead eng.toNat q rest s)) ∧
  (∀ (eng : BitVec 16) (s : State) (q : QStep) (rest : List QStep), engValid eng.toNat = true →
     (s.engine eng.toNat).queue = q :: rest → stOpcode q.word = 0x03 →
     canIssue s eng.toNat (s.engine eng.toNat) q rest = true →
     exec (.barrier eng) s = .next (issueHead eng.toNat q rest s)) ∧
  (∀ (eng : BitVec 16) (s : State) (q : QStep) (rest : List QStep), engValid eng.toNat = true →
     engKind eng.toNat = 1 → (s.engine eng.toNat).queue = q :: rest → stOpcode q.word = 0x04 →
     canIssue s eng.toNat (s.engine eng.toNat) q rest = true →
     exec (.selectStep eng) s = .next (issueHead eng.toNat q rest s)) ∧
  (∀ (eng : BitVec 16) (s : State) (q : QStep) (rest : List QStep), engValid eng.toNat = true →
     engKind eng.toNat = 4 → (s.engine eng.toNat).queue = q :: rest → stOpcode q.word = 0x04 →
     canIssue s eng.toNat (s.engine eng.toNat) q rest = true →
     exec (.streamSelect eng) s = .next (issueHead eng.toNat q rest s)) ∧
  (∀ (eng : BitVec 16) (s : State) (q : QStep) (rest : List QStep), engValid eng.toNat = true →
     (s.engine eng.toNat).queue = q :: rest → stOpcode q.word = 0x05 →
     canIssue s eng.toNat (s.engine eng.toNat) q rest = true →
     exec (.ckpt eng) s = .next (issueHead eng.toNat q rest s)) ∧
  (∀ (eng : BitVec 16) (s : State) (q : QStep) (rest : List QStep), engValid eng.toNat = true →
     (s.engine eng.toNat).queue = q :: rest → stOpcode q.word = 0x06 →
     canIssue s eng.toNat (s.engine eng.toNat) q rest = true →
     exec (.endStep eng) s = .next (issueHead eng.toNat q rest s)) ∧
  (∀ (eng : BitVec 16) (s : State) (q : QStep) (rest : List QStep), engValid eng.toNat = true →
     (s.engine eng.toNat).queue = q :: rest → canIssue s eng.toNat (s.engine eng.toNat) q rest = false →
     exec (.stepIssue eng) s = .next s)

/-- Where STEP_ISSUE changes anything, the run is running, no idle sheaf is under way, and the counter is at or after
the scheduled point of the head step; every wait counter of that step holds at least 1; and the local stores, the
cribs and the HBM3E memory are as before. (This states of R42 and R238 only what is said here.) (02_fleet_time.md,
09_cut_lists.md) -/
def Obligations.StepNeverIssuesEarly : Prop :=
  ∀ (eng : BitVec 16) (s t : State), exec (.stepIssue eng) s = .next t → t ≠ s →
    s.cut.state = .running ∧ s.cut.idleNow = false ∧ t.localStore = s.localStore ∧ t.crib = s.crib ∧ t.hbm = s.hbm ∧
    ∃ q rest, (s.engine eng.toNat).queue = q :: rest ∧ s.dueGrain q.sheaf (stOffset q.word) ≤ s.now ∧
      (∀ c ∈ stWaits q.word, 1 ≤ (countOf (s.engine eng.toNat) c).count)

/-- TOKEN_POST, for the first post in flight to a counter of a valid engine. A post that no control word carries
leaves flight. A counter that holds less than 0xFFFF then holds one count more; one that holds 0xFFFF stays there,
step_error of REPRO.RUN is set and one event, TOKEN_OVERFLOW (0x0103), is raised for its engine and counter. In both
cases the post's cause mask and error bit are ORed into the counter's, and the other counters of the engine, the other
engines and everything else are as before. A post that a control word carries, not waiting to be repeated and not in
the dark: where the word, with the flipped bits of the row, passes its check, it ends the failure counts of its sender
and receiver, passes the crossing of its site, leaves flight and is counted (applyPost); where it fails, it is
discarded (discardWord) and stays in flight. While its word waits to be repeated, nothing changes. (This states of
R40, R43, R56, R178, R179 and R420 only what is said here.) (02_fleet_time.md, 03_tiller.md, 07_sill_fabric.md,
17_clocking.md) -/
def Obligations.TokenPostCounts : Prop :=
  (∀ (eng : BitVec 16) (counter : Fin 64) (flip : Word128) (s : State) (x : Post), engValid eng.toNat = true →
     s.cut.posts.find? (fun p => p.dest == eng.toNat && p.counter == counter.val) = some x → x.word = none →
     (countOf (s.engine eng.toNat) counter.val).count < 0xFFFF →
     ∃ t, exec (.tokenPost eng counter flip) s = .next t ∧
       (countOf (t.engine eng.toNat) counter.val).count = (countOf (s.engine eng.toNat) counter.val).count + 1 ∧
       (countOf (t.engine eng.toNat) counter.val).mask = (countOf (s.engine eng.toNat) counter.val).mask ||| x.mask ∧
       (countOf (t.engine eng.toNat) counter.val).err = ((countOf (s.engine eng.toNat) counter.val).err || x.err) ∧
       (∀ c, c ≠ counter.val → countOf (t.engine eng.toNat) c = countOf (s.engine eng.toNat) c) ∧
       t.engine eng.toNat = { s.engine eng.toNat with tokens := (t.engine eng.toNat).tokens } ∧
       (∀ e, e ≠ eng.toNat → t.engine e = s.engine e) ∧
       t.cut = { s.cut with
             posts := delFirst (fun p => p.dest == eng.toNat && p.counter == counter.val) s.cut.posts } ∧
       t = { s with cut := t.cut, engines := t.engines }) ∧
  (∀ (eng : BitVec 16) (counter : Fin 64) (flip : Word128) (s : State) (x : Post), engValid eng.toNat = true →
     s.cut.posts.find? (fun p => p.dest == eng.toNat && p.counter == counter.val) = some x → x.word = none →
     (countOf (s.engine eng.toNat) counter.val).count = 0xFFFF →
     ∃ t r, exec (.tokenPost eng counter flip) s = .next t ∧ (countOf (t.engine eng.toNat) counter.val).count = 0xFFFF ∧
       (countOf (t.engine eng.toNat) counter.val).mask = (countOf (s.engine eng.toNat) counter.val).mask ||| x.mask ∧
       (countOf (t.engine eng.toNat) counter.val).err = ((countOf (s.engine eng.toNat) counter.val).err || x.err) ∧
       (∀ c, c ≠ counter.val → countOf (t.engine eng.toNat) c = countOf (s.engine eng.toNat) c) ∧
       t.engine eng.toNat = { s.engine eng.toNat with tokens := (t.engine eng.toNat).tokens } ∧
       (∀ e, e ≠ eng.toNat → t.engine e = s.engine e) ∧
       t.err = { s.err with raised := s.err.raised ++ [r] } ∧ r.code = 0x0103 ∧ r.engine = eng.toNat ∧ r.w0 = counter.val ∧
       t.cut = { s.cut with
             posts := delFirst (fun p => p.dest == eng.toNat && p.counter == counter.val) s.cut.posts } ∧ t.repro = { s.repro with stepError := true } ∧
       t = { s with cut := t.cut, engines := t.engines, repro := t.repro, err := t.err }) ∧
  (∀ (eng : BitVec 16) (counter : Fin 64) (flip : Word128) (s : State) (x : Post) (w : Word128),
     engValid eng.toNat = true →
     s.cut.posts.find? (fun p => p.dest == eng.toNat && p.counter == counter.val) = some x → x.word = some w →
     awaitsRepeat s w = false → wordUnlit s w = false → checkOk (w ^^^ flip) = true →
     ∃ u, u = countWord w false (siteCross 5 (cwDst w) s) ∧
       exec (.tokenPost eng counter flip) s = .next (applyPost x { u with
             cut := { u.cut with posts := delFirst (fun p => p.dest == eng.toNat && p.counter == counter.val) u.cut.posts } })) ∧
  (∀ (eng : BitVec 16) (counter : Fin 64) (flip : Word128) (s : State) (x : Post) (w : Word128),
     engValid eng.toNat = true →
     s.cut.posts.find? (fun p => p.dest == eng.toNat && p.counter == counter.val) = some x → x.word = some w →
     awaitsRepeat s w = false → wordUnlit s w = false → checkOk (w ^^^ flip) = false →
     exec (.tokenPost eng counter flip) s = .next (discardWord w s)) ∧
  (∀ (eng : BitVec 16) (counter : Fin 64) (flip : Word128) (s : State) (x : Post) (w : Word128),
     engValid eng.toNat = true →
     s.cut.posts.find? (fun p => p.dest == eng.toNat && p.counter == counter.val) = some x → x.word = some w →
     awaitsRepeat s w = true →
     exec (.tokenPost eng counter flip) s = .next s)

/-- For a step in flight on the matrix unit of any tiller that has still to take effect, MMA, MOUT, BEXP and BADD
answer the state with the step's effect on that tiller, and the step marked as having taken effect, to be completed by
STEP_COMPLETE. (The effects' contents are those of the functions named; what they leave alone is stated in
TillerStepsWriteOnlyTheirResult.) (This states of R53, R54, R55, R63, R66, R68 and R69 only what is said here.)
(03_tiller.md) -/
def Obligations.MatrixStepsComplete : Prop :=
  (∀ (t : TillerId) (body : Body) (s : State) (f : Flight),
     flightOf (s.engine (tEng t)) 0 (isStep 0x10 body) = some f →
     exec (.mma t body) s = .next
       (modFlight (tEng t) 0 (isStep 0x10 body) (fun x => { x with done := true }) (mmaEffect (tKey t) body s))) ∧
  (∀ (t : TillerId) (body : Body) (s : State) (f : Flight),
     flightOf (s.engine (tEng t)) 0 (isStep 0x11 body) = some f →
     exec (.mout t body) s = .next
       (modFlight (tEng t) 0 (isStep 0x11 body) (fun x => { x with done := true }) (moutEffect (tKey t) body s))) ∧
  (∀ (t : TillerId) (body : Body) (s : State) (f : Flight),
     flightOf (s.engine (tEng t)) 0 (isStep 0x12 body) = some f →
     exec (.bexp t body) s = .next
       (modFlight (tEng t) 0 (isStep 0x12 body) (fun x => { x with done := true }) (bexpEffect (tKey t) body s))) ∧
  (∀ (t : TillerId) (body : Body) (s : State) (f : Flight),
     flightOf (s.engine (tEng t)) 0 (isStep 0x13 body) = some f →
     exec (.badd t body) s = .next
       (modFlight (tEng t) 0 (isStep 0x13 body) (fun x => { x with done := true }) (baddEffect (tKey t) body s)))

/-- For a step in flight on the vector unit of any tiller that has still to take effect, VBIN, VFMA, VFUN, VRED,
VPACK, VUNPACK, VRNG, VSETSEL and VPOS answer the state with the step's effect on that tiller, and the step marked as
having taken effect, to be completed by STEP_COMPLETE. (This states of R53, R54, R55, R71, R72, R73, R75, R76, R82 and
R85 only what is said here.) (03_tiller.md) -/
def Obligations.VectorStepsComplete : Prop :=
  (∀ (t : TillerId) (body : Body) (s : State) (f : Flight),
     flightOf (s.engine (tEng t)) 1 (isStep 0x20 body) = some f →
     exec (.vbin t body) s = .next
       (modFlight (tEng t) 1 (isStep 0x20 body) (fun x => { x with done := true }) (vbinEffect (tKey t) body s))) ∧
  (∀ (t : TillerId) (body : Body) (s : State) (f : Flight),
     flightOf (s.engine (tEng t)) 1 (isStep 0x21 body) = some f →
     exec (.vfma t body) s = .next
       (modFlight (tEng t) 1 (isStep 0x21 body) (fun x => { x with done := true }) (vfmaEffect (tKey t) body s))) ∧
  (∀ (t : TillerId) (body : Body) (s : State) (f : Flight),
     flightOf (s.engine (tEng t)) 1 (isStep 0x22 body) = some f →
     exec (.vfun t body) s = .next
       (modFlight (tEng t) 1 (isStep 0x22 body) (fun x => { x with done := true }) (vfunEffect (tKey t) body s))) ∧
  (∀ (t : TillerId) (body : Body) (s : State) (f : Flight),
     flightOf (s.engine (tEng t)) 1 (isStep 0x23 body) = some f →
     exec (.vred t body) s = .next
       (modFlight (tEng t) 1 (isStep 0x23 body) (fun x => { x with done := true }) (vredEffect (tKey t) body s))) ∧
  (∀ (t : TillerId) (body : Body) (s : State) (f : Flight),
     flightOf (s.engine (tEng t)) 1 (isStep 0x24 body) = some f →
     exec (.vpack t body) s = .next
       (modFlight (tEng t) 1 (isStep 0x24 body) (fun x => { x with done := true }) (vpackEffect (tKey t) body s))) ∧
  (∀ (t : TillerId) (body : Body) (s : State) (f : Flight),
     flightOf (s.engine (tEng t)) 1 (isStep 0x25 body) = some f →
     exec (.vunpack t body) s = .next
       (modFlight (tEng t) 1 (isStep 0x25 body) (fun x => { x with done := true }) (vunpackEffect (tKey t) body s))) ∧
  (∀ (t : TillerId) (body : Body) (s : State) (f : Flight),
     flightOf (s.engine (tEng t)) 1 (isStep 0x26 body) = some f →
     exec (.vrng t body) s = .next
       (modFlight (tEng t) 1 (isStep 0x26 body) (fun x => { x with done := true }) (vrngEffect (tKey t) body s))) ∧
  (∀ (t : TillerId) (body : Body) (s : State) (f : Flight),
     flightOf (s.engine (tEng t)) 1 (isStep 0x27 body) = some f →
     exec (.vsetsel t body) s = .next
       (modFlight (tEng t) 1 (isStep 0x27 body) (fun x => { x with done := true }) (vsetselEffect (tKey t) body s))) ∧
  (∀ (t : TillerId) (body : Body) (s : State) (f : Flight),
     flightOf (s.engine (tEng t)) 1 (isStep 0x28 body) = some f →
     exec (.vpos t body) s = .next
       (modFlight (tEng t) 1 (isStep 0x28 body) (fun x => { x with done := true }) (vposEffect (tKey t) body s)))

/-- While the clock of its partition's panel runs: CLOAD and CSTORE in flight have their effect on their tiller with
the noise given (cloadEffect, cstoreEffect) and are marked done; CRIB_WRITEBACK of a row on the list takes it off the
list and clears the row's single-bit errors, and keeps the words that are in error beyond correction; LANE_SCAN of a
group that owes a scan pays one and, lane by lane, handles those it finds in error (faultLane). A scan that finds none
does nothing else, and one that finds a single lane adds 1 to that lane's faults and changes only the record of the
partitions. While that clock is stopped, the four rows change nothing. DOWEL_REPAIR_APPLY at a fleet sheaf boundary
applies the waiting repairs of the eight groups in order (applyRepairs) and then marks the partition degraded where
that is due (markDegraded); away from a boundary it changes nothing (log entry 2). (This states of R78, R79, R113,
R114, R118, R119, R120, R121 and R123 only what is said here.) (03_tiller.md, 05_crib_and_dowels.md) -/
def Obligations.CribStepsComplete : Prop :=
  (∀ (t : TillerId) (body : Body) (noise : CribNoise) (s : State) (f : Flight),
     flightOf (s.engine (tEng t)) 2 (isStep 0x30 body) = some f → partRuns s (tKey t) = true →
     exec (.cload t body noise) s = .next
       (modFlight (tEng t) 2 (isStep 0x30 body) (fun x => { x with done := true }) (cloadEffect (tKey t) body noise s))) ∧
  (∀ (t : TillerId) (body : Body) (noise : CribNoise) (s : State) (f : Flight),
     flightOf (s.engine (tEng t)) 2 (isStep 0x31 body) = some f → partRuns s (tKey t) = true →
     exec (.cstore t body noise) s = .next
       (modFlight (tEng t) 2 (isStep 0x31 body) (fun x => { x with done := true }) (cstoreEffect (tKey t) body noise s))) ∧
  (∀ (t : TillerId) (row : Fin 57344) (s : State), rowKey (tKey t) row.val ∈ s.writeback →
     partRuns s (tKey t) = true → (tabGet s.cribErr (rowKey (tKey t) row.val) {}).multi = [] →
     exec (.cribWriteback t row) s = .next { s with
           writeback := setDel s.writeback (rowKey (tKey t) row.val),
           cribErr := tabDel s.cribErr (rowKey (tKey t) row.val) }) ∧
  (∀ (t : TillerId) (row : Fin 57344) (s : State) (e : RowErr), rowKey (tKey t) row.val ∈ s.writeback →
     partRuns s (tKey t) = true → tabGet s.cribErr (rowKey (tKey t) row.val) {} = e → e.multi ≠ [] →
     exec (.cribWriteback t row) s = .next { s with
           writeback := setDel s.writeback (rowKey (tKey t) row.val),
           cribErr := tabPut s.cribErr (rowKey (tKey t) row.val) { e with single := [] } }) ∧
  (∀ (t : TillerId) (group : Fin 8) (lanes : List (Fin 2372)) (s : State),
     0 < ((s.part (tKey t)).group group.val).scans → partRuns s (tKey t) = true →
     exec (.laneScan t group lanes) s = .next ((scanned lanes).foldl (faultLane (tKey t) group.val)
       (s.modGroup (tKey t) group.val (fun x => { x with scans := x.scans - 1 }))) ∧
     exec (.laneScan t group []) s = .next (s.modGroup (tKey t) group.val (fun x => { x with scans := x.scans - 1 }))) ∧
  (∀ (t : TillerId) (group : Fin 8) (l : Fin 2372) (s : State), 0 < ((s.part (tKey t)).group group.val).scans →
     partRuns s (tKey t) = true → (l.val < 2336 ∨ 2340 ≤ l.val) →
     ∃ u, exec (.laneScan t group [l]) s = .next u ∧
       tabGet ((u.part (tKey t)).group group.val).faults l.val 0 = tabGet ((s.part (tKey t)).group group.val).faults l.val 0 + 1 ∧
       ((u.part (tKey t)).group group.val).scans = ((s.part (tKey t)).group group.val).scans - 1 ∧ u = { s with parts := u.parts }) ∧
  (∀ (t : TillerId) (body : Body) (noise : CribNoise) (row : Fin 57344) (group : Fin 8) (lanes : List (Fin 2372)) (s : State),
     partRuns s (tKey t) = false →
     exec (.cload t body noise) s = .next s ∧ exec (.cstore t body noise) s = .next s ∧
       exec (.cribWriteback t row) s = .next s ∧ exec (.laneScan t group lanes) s = .next s) ∧
  (∀ (t : TillerId) (s : State), s.atBoundary = true →
     exec (.dowelRepairApply t) s = .next (markDegraded (tKey t) ((List.range 8).foldl (applyRepairs (tKey t)) s))) ∧
  (∀ (t : TillerId) (s : State), s.atBoundary = false →
     exec (.dowelRepairApply t) s = .next s)

/-- Frame of the thirteen matrix and vector rows, for every body and every state in which they answer: the bytes of
every local store outside the result region that the body names (its destination granule, and the size its format and
counts give) read as before; MMA, BADD and VSETSEL store to no memory; the records of the other tillers and of the
other engines are unchanged; and of the rest only the cut-list state, the events, REPRO.RUN and the counter of free
values can differ: cribs, HBM3E, mesh, rails, processors, power, reset, security, debug and session state are as
before. (This states of R63, R66, R68, R69, R71, R72, R73, R75, R76, R82 and R85 only what is said here.)
(03_tiller.md) -/
def Obligations.TillerStepsWriteOnlyTheirResult : Prop :=
  (∀ (t : TillerId) (body : Body) (s u : State), exec (.mma t body) s = .next u →
     u.localStore = s.localStore ∧ (∀ k, k ≠ tKey t → u.tiller k = s.tiller k) ∧
       (∀ e, e ≠ tEng t → u.engine e = s.engine e) ∧ u = { s with
             localStore := u.localStore, tillers := u.tillers, engines := u.engines, cut := u.cut, err := u.err,
             repro := u.repro, free := u.free }) ∧
  (∀ (t : TillerId) (body : Body) (s u : State), exec (.badd t body) s = .next u →
     u.localStore = s.localStore ∧ (∀ k, k ≠ tKey t → u.tiller k = s.tiller k) ∧
       (∀ e, e ≠ tEng t → u.engine e = s.engine e) ∧ u = { s with
             localStore := u.localStore, tillers := u.tillers, engines := u.engines, cut := u.cut, err := u.err,
             repro := u.repro, free := u.free }) ∧
  (∀ (t : TillerId) (body : Body) (s u : State), exec (.vsetsel t body) s = .next u →
     u.localStore = s.localStore ∧ (∀ k, k ≠ tKey t → u.tiller k = s.tiller k) ∧
       (∀ e, e ≠ tEng t → u.engine e = s.engine e) ∧ u = { s with
             localStore := u.localStore, tillers := u.tillers, engines := u.engines, cut := u.cut, err := u.err,
             repro := u.repro, free := u.free }) ∧
  (∀ (t : TillerId) (body : Body) (s u : State), exec (.mout t body) s = .next u →
     (∀ a, a < lsAddr (tKey t) (fld body 0 15) ∨ lsAddr (tKey t) (fld body 0 15) + (if fmtMx (fld body 15 4) then 6144 * fmtBits (fld body 15 4) / 8 + 192 else 6144 * fmtBits (fld body 15 4) / 8) ≤ a →
         memRead 0 u.localStore a = memRead 0 s.localStore a) ∧ (∀ k, k ≠ tKey t → u.tiller k = s.tiller k) ∧
       (∀ e, e ≠ tEng t → u.engine e = s.engine e) ∧ u = { s with
             localStore := u.localStore, tillers := u.tillers, engines := u.engines, cut := u.cut, err := u.err,
             repro := u.repro, free := u.free }) ∧
  (∀ (t : TillerId) (body : Body) (s u : State), exec (.bexp t body) s = .next u →
     (∀ a, a < lsAddr (tKey t) (fld body 0 15) ∨ lsAddr (tKey t) (fld body 0 15) + 147520 ≤ a →
         memRead 0 u.localStore a = memRead 0 s.localStore a) ∧ (∀ k, k ≠ tKey t → u.tiller k = s.tiller k) ∧
       (∀ e, e ≠ tEng t → u.engine e = s.engine e) ∧ u = { s with
             localStore := u.localStore, tillers := u.tillers, engines := u.engines, cut := u.cut, err := u.err,
             repro := u.repro, free := u.free }) ∧
  (∀ (t : TillerId) (body : Body) (s u : State), exec (.vbin t body) s = .next u →
     (∀ a, a < lsAddr (tKey t) (fld body 30 15) ∨ lsAddr (tKey t) (fld body 30 15) + vecBytes (fld body 67 1) * (fld body 45 16 + 1) ≤ a →
         memRead 0 u.localStore a = memRead 0 s.localStore a) ∧ (∀ k, k ≠ tKey t → u.tiller k = s.tiller k) ∧
       (∀ e, e ≠ tEng t → u.engine e = s.engine e) ∧ u = { s with
             localStore := u.localStore, tillers := u.tillers, engines := u.engines, cut := u.cut, err := u.err,
             repro := u.repro, free := u.free }) ∧
  (∀ (t : TillerId) (body : Body) (s u : State), exec (.vfma t body) s = .next u →
     (∀ a, a < lsAddr (tKey t) (fld body 45 15) ∨ lsAddr (tKey t) (fld body 45 15) + vecBytes (fld body 76 1) * (fld body 60 16 + 1) ≤ a →
         memRead 0 u.localStore a = memRead 0 s.localStore a) ∧ (∀ k, k ≠ tKey t → u.tiller k = s.tiller k) ∧
       (∀ e, e ≠ tEng t → u.engine e = s.engine e) ∧ u = { s with
             localStore := u.localStore, tillers := u.tillers, engines := u.engines, cut := u.cut, err := u.err,
             repro := u.repro, free := u.free }) ∧
  (∀ (t : TillerId) (body : Body) (s u : State), exec (.vfun t body) s = .next u →
     (∀ a, a < lsAddr (tKey t) (fld body 15 15) ∨ lsAddr (tKey t) (fld body 15 15) + vecBytes (fld body 51 1) * (fld body 30 16 + 1) ≤ a →
         memRead 0 u.localStore a = memRead 0 s.localStore a) ∧ (∀ k, k ≠ tKey t → u.tiller k = s.tiller k) ∧
       (∀ e, e ≠ tEng t → u.engine e = s.engine e) ∧ u = { s with
             localStore := u.localStore, tillers := u.tillers, engines := u.engines, cut := u.cut, err := u.err,
             repro := u.repro, free := u.free }) ∧
  (∀ (t : TillerId) (body : Body) (s u : State), exec (.vred t body) s = .next u →
     (∀ a, a < lsAddr (tKey t) (fld body 15 15) ∨ lsAddr (tKey t) (fld body 15 15) + (if fld body 54 2 = 3 then 4 else vecBytes (fld body 58 1)) * (fld body 46 8 + 1) ≤ a →
         memRead 0 u.localStore a = memRead 0 s.localStore a) ∧ (∀ k, k ≠ tKey t → u.tiller k = s.tiller k) ∧
       (∀ e, e ≠ tEng t → u.engine e = s.engine e) ∧ u = { s with
             localStore := u.localStore, tillers := u.tillers, engines := u.engines, cut := u.cut, err := u.err,
             repro := u.repro, free := u.free }) ∧
  (∀ (t : TillerId) (body : Body) (s u : State), exec (.vpack t body) s = .next u →
     (∀ a, a < lsAddr (tKey t) (fld body 15 15) ∨ lsAddr (tKey t) (fld body 15 15) + opndBytes (fld body 30 7 + 1) (fld body 37 8) (fld body 45 4) ≤ a →
         memRead 0 u.localStore a = memRead 0 s.localStore a) ∧ (∀ k, k ≠ tKey t → u.tiller k = s.tiller k) ∧
       (∀ e, e ≠ tEng t → u.engine e = s.engine e) ∧ u = { s with
             localStore := u.localStore, tillers := u.tillers, engines := u.engines, cut := u.cut, err := u.err,
             repro := u.repro, free := u.free }) ∧
  (∀ (t : TillerId) (body : Body) (s u : State), exec (.vunpack t body) s = .next u →
     (∀ a, a < lsAddr (tKey t) (fld body 15 15) ∨ lsAddr (tKey t) (fld body 15 15) + vecBytes (fld body 49 1) * ((fld body 30 7 + 1) * (32 * (fld body 37 8 + 1))) ≤ a →
         memRead 0 u.localStore a = memRead 0 s.localStore a) ∧ (∀ k, k ≠ tKey t → u.tiller k = s.tiller k) ∧
       (∀ e, e ≠ tEng t → u.engine e = s.engine e) ∧ u = { s with
             localStore := u.localStore, tillers := u.tillers, engines := u.engines, cut := u.cut, err := u.err,
             repro := u.repro, free := u.free }) ∧
  (∀ (t : TillerId) (body : Body) (s u : State), exec (.vrng t body) s = .next u →
     (∀ a, a < lsAddr (tKey t) (fld body 0 15) ∨ lsAddr (tKey t) (fld body 0 15) + (if fld body 31 2 ≤ 1 then 4 else 2) * (fld body 15 16 + 1) ≤ a →
         memRead 0 u.localStore a = memRead 0 s.localStore a) ∧ (∀ k, k ≠ tKey t → u.tiller k = s.tiller k) ∧
       (∀ e, e ≠ tEng t → u.engine e = s.engine e) ∧ u = { s with
             localStore := u.localStore, tillers := u.tillers, engines := u.engines, cut := u.cut, err := u.err,
             repro := u.repro, free := u.free }) ∧
  (∀ (t : TillerId) (body : Body) (s u : State), exec (.vpos t body) s = .next u →
     (∀ a, a < lsAddr (tKey t) (fld body 0 15) ∨ lsAddr (tKey t) (fld body 0 15) + 4 * (fld body 15 16 + 1) ≤ a →
         memRead 0 u.localStore a = memRead 0 s.localStore a) ∧ (∀ k, k ≠ tKey t → u.tiller k = s.tiller k) ∧
       (∀ e, e ≠ tEng t → u.engine e = s.engine e) ∧ u = { s with
             localStore := u.localStore, tillers := u.tillers, engines := u.engines, cut := u.cut, err := u.err,
             repro := u.repro, free := u.free })

/-- For a VSETSEL in flight on a tiller, the selector register its body names then holds the smaller of 255 and the
little-endian 32-bit element that its body names in local store, and every other selector register is as before. For a
VRNG in flight, the tiller's RNG counter has advanced by 1, modulo 2^64. (This states of R76 and R82 only what is said
here.) (03_tiller.md) -/
def Obligations.SelectorHoldsMinOfValue : Prop :=
  (∀ (t : TillerId) (body : Body) (s : State) (f : Flight),
     flightOf (s.engine (tEng t)) 1 (isStep 0x27 body) = some f →
     ∃ u, exec (.vsetsel t body) s = .next u ∧
       tabGet (u.tiller (tKey t)).sel (fld body 19 3) 0 = min (s.lsNat (lsAddr (tKey t) (fld body 0 15) + 4 * fld body 15 4) 4) 255 ∧
       (∀ r, r ≠ fld body 19 3 → tabGet (u.tiller (tKey t)).sel r 0 = tabGet (s.tiller (tKey t)).sel r 0)) ∧
  (∀ (t : TillerId) (body : Body) (s : State) (f : Flight),
     flightOf (s.engine (tEng t)) 1 (isStep 0x26 body) = some f →
     ∃ u, exec (.vrng t body) s = .next u ∧ (u.tiller (tKey t)).rng = (s.tiller (tKey t)).rng + 1)

/-- With a supervisor holding, at a boundary of the fleet: STACK_CEILING_LOWER, at a boundary after the decision,
lowers the stack's ceiling (lowerStack). STACK_CEILING_RAISE, at or after the decision, adds 1 to the stack's ceiling
where it lies below the CLK.TARGET of the stack (log entry 55), and the count of sheaves under the cap starts again;
STRETCH_CEILING_LOWER, after the decision and 16 or more sheaves after the last change of the stack's ceiling, takes 1
from that ceiling unless it is 0; in both nothing but the stack's record changes. MODULE_CEILING_LOWER, after the
decision, takes 1 from the module's ceiling unless it is 0, and notes the sheaf; only the power and event records
change. MODULE_CEILING_RAISE, at or after the decision, adds 1 to it unless it is 10, and the count of sheaves starts
again; only the power record changes. With a supervisor holding, THERMAL_COOLDOWN after 256 cool sheaves ends the
thermal-policy bin and a stop of value 2 or more; only the power record changes. PANEL_MARGIN_LOW of a panel out of
reset whose sensors ask for one or more steps stretches a period by as many of them as the panel's bin allows
(stretchSteps) and as its last 63 periods leave of 64 steps, counts the period if it was stretched, handles an excess
where more than 4 steps were asked for or the window held too few (stretchExcess), and then warns where more than 8 of
the last 64 periods were stretched (marginWarn). REGULATOR_LOWER 200 grains or more after a down-switch lowers the set
point to the bin. BIN_SWITCH_UP at a boundary later than the decision switches a changing panel out of reset to its
target bin (setBin). PANEL_ALIGN lets every panel that is not stopped, and whose alignment grain is reached, out of
reset at bin 0 with bits [63:16] of the counter, in the order of the list, and changes nothing else. (This states of
R34, R125, R416, R417, R419, R423, R424, R428, R430 and R439 only what is said here.) (02_fleet_time.md,
05_crib_and_dowels.md, 17_clocking.md, 18_power_thermal.md) -/
def Obligations.CeilingAndPanelRowsComplete : Prop :=
  (∀ (die : Fin 8) (s : State) (g : Nat), (s.cstack die.val).lowerDue = some g → s.atBoundary = true → g < s.now →
     s.sup.hold ≠ 0 →
     exec (.stackCeilingLower die) s = .next (lowerStack die.val s)) ∧
  (∀ (die : Fin 8) (s : State) (g : Nat), (s.cstack die.val).raiseDue = some g → s.atBoundary = true → g ≤ s.now →
     s.sup.hold ≠ 0 →
     ∃ t, exec (.stackCeilingRaise die) s = .next t ∧ (t.cstack die.val).raiseDue = none ∧ (t.cstack die.val).under = 0 ∧
       (t.cstack die.val).ceiling = (if (s.cstack die.val).ceiling < tabGet s.clk.targets die.val 8 then (s.cstack die.val).ceiling + 1
         else (s.cstack die.val).ceiling) ∧ (∀ d, d ≠ die.val → t.cstack d = s.cstack d) ∧ t = { s with cstacks := t.cstacks }) ∧
  (∀ (die : Fin 8) (s : State) (g : Nat), (s.cstack die.val).stretchDue = some g → s.atBoundary = true →
     g < s.now → s.sup.hold ≠ 0 → (∀ f, (s.cstack die.val).changed = some f → f + 16 ≤ s.fleetSheaf) →
     ∃ t, exec (.stretchCeilingLower die) s = .next t ∧ (t.cstack die.val).stretchDue = none ∧
       (t.cstack die.val).ceiling = (s.cstack die.val).ceiling - 1 ∧ (∀ d, d ≠ die.val → t.cstack d = s.cstack d) ∧
       t = { s with cstacks := t.cstacks }) ∧
  (∀ (s : State) (g : Nat), s.pwr.lowerDue = some g → s.atBoundary = true → g < s.now → s.sup.hold ≠ 0 →
     ∃ t, exec .moduleCeilingLower s = .next t ∧ t.pwr.ceiling = s.pwr.ceiling - 1 ∧ t.pwr.lowerDue = none ∧
       t.pwr.changed = some s.fleetSheaf ∧ t = { s with pwr := t.pwr, err := t.err }) ∧
  (∀ (s : State) (g : Nat), s.pwr.raiseDue = some g → s.atBoundary = true → g ≤ s.now → s.sup.hold ≠ 0 →
     ∃ t, exec .moduleCeilingRaise s = .next t ∧ t.pwr.ceiling = min 10 (s.pwr.ceiling + 1) ∧ t.pwr.raiseDue = none ∧
       t.pwr.under = 0 ∧ t = { s with pwr := t.pwr }) ∧
  (∀ (s : State), 256 ≤ s.pwr.cool → s.sup.hold ≠ 0 → (s.pwr.policyZero = true ∨ 2 ≤ s.pwr.stop) →
     exec .thermalCooldown s = .next { s with
           pwr := { s.pwr with policyZero := false, stop := if s.pwr.stop = 1 then 1 else 0 } }) ∧
  (∀ (panel : BitVec 17) (need : Fin 6) (since : Nat) (s u : State) (x : Panel) (win want took : Nat),
     tabFind s.clk.panels panel.toNat = some x → x.inReset = false → need.val ≠ 0 →
     win = ((List.replicate (min since 64) 0 ++ x.recent).take 63).sum → want = min need.val (stretchSteps x.bin) →
     took = min want (64 - win) →
     u = s.modPanel panel.toNat (fun y => { y with recent := stretchNote x since took, stretched := satAdd y.stretched (min took 1) (0x10000 * 1024 - 1) }) →
     exec (.panelMarginLow panel need since) s = .next
       (if 8 < ((stretchNote x since took).filter (0 < ·)).length
        then marginWarn panel.toNat (if 4 < need.val ∨ 64 < win + want then stretchExcess panel.toNat u else u)
        else if 4 < need.val ∨ 64 < win + want then stretchExcess panel.toNat u else u)) ∧
  (∀ (panel : BitVec 17) (s : State) (x : Panel) (g : Nat), tabFind s.clk.panels panel.toNat = some x →
     x.lowerAt = some g → g + 200 ≤ s.now →
     exec (.regulatorLower panel) s = .next (s.modPanel panel.toNat (fun y => { y with setPoint := y.bin, lowerAt := none }))) ∧
  (∀ (panel : BitVec 17) (s : State) (x : Panel) (g : Nat), tabFind s.clk.panels panel.toNat = some x →
     x.decided = some g → s.atBoundary = true → g < s.now → x.changing = true → x.inReset = false →
     exec (.binSwitchUp panel) s = .next (setBin panel.toNat x.target (s.modPanel panel.toNat (fun y =>
       { y with changing := false, decided := none, settled := true })))) ∧
  (∀ (s : State),
     exec .panelAlign s = .next ((s.clk.panels.filter (fun p => !p.2.stopped && (match p.2.align with | some a => decide (a ≤ s.now) | none => false))).foldl
       (fun s0 p => setBin p.1 0 (s0.modPanel p.1 (fun x => { x with
             inReset := false, align := none, changing := false, decided := none, lowerAt := none,
             high := BitVec.ofNat 48 (s.now / 65536) }))) s))

/-- MSEND in flight with receivers, on a tiller with no MSEND of its own under way, starts its send (startMsend). A
flit that the arbiter of its output names, the output having made fewer than four grants a mesh cycle (mayGo), is
granted, and the grant moves the arbiter (noteGrant): at its destination the flit leaves the mesh by the local
crossing and is consumed (consumeFlit; MESH_CONTROL_FLIT for a control flit, MESH_DATA_FLIT for a data flit);
elsewhere it moves (moveFlit). MESH_CREDIT_RETURN returns the credit of a slot that no flit holds. FLIT_DIVERT puts a
head flit of a link, local or staging buffer, in no escape channel yet, into the escape channel of its port where that
has one of its four slots free, and counts it. STAGING_GRANT of a node with 16 free slots grants them to the lowest
source that asks. Which flit is served next is the arbiter's choice; when is the row's (log entry 13).
MESH_FLIP_REQUEST with no flip pending writes the enabled set into the version not in use, and is pending.
MESH_EPOCH_FLIP at a boundary after the request changes the injection epoch. MESH_DRAIN_ZERO with no old-epoch flit
left ends the flip and powers the enabled routers only. MESH_DRAIN_TIMEOUT, 100,000 grains after the boundary with
flits left and no timeout noted for this flip yet, sets drain_timeout, raises MESH_DRAIN_TIMEOUT (0x0301) and halts
the run with cause 3. (This states of R47, R80, R131, R136, R137, R141, R142, R143, R144, R146, R148, R149 and R526
only what is said here.) (02_fleet_time.md, 03_tiller.md, 06_die_mesh.md, 24_faults.md) -/
def Obligations.MeshRowsComplete : Prop :=
  (∀ (t : TillerId) (body : Body) (s : State) (f : Flight),
     flightOf (s.engine (tEng t)) 3 (isStep 0x40 body) = some f →
     (s.mesh t.die.val).msends.any (fun x => x.src == t.phys.val) = false →
     msendMembers s t.die.val t.phys.val body ≠ [] →
     exec (.msend t body) s = .next (startMsend t body (msendMembers s t.die.val t.phys.val body) s)) ∧
  (∀ (die : Fin 8) (flit : Nat) (s : State) (f : Flit), (s.mesh die.val).flits[flit]? = some f →
     mayGo s die.val flit f = true → f.kind ≠ .data → f.pos = f.dst →
     exec (.meshControlFlit die flit) s = .next (consumeFlit die.val f (throughCross 1 (nodePlace die.val f.pos) 1
       ((noteGrant die.val f s).modMesh die.val (fun m => { m with flits := dropAt m.flits flit }))))) ∧
  (∀ (die : Fin 8) (flit : Nat) (s : State) (f : Flit), (s.mesh die.val).flits[flit]? = some f →
     mayGo s die.val flit f = true → f.kind ≠ .data → f.pos ≠ f.dst →
     exec (.meshControlFlit die flit) s = .next (moveFlit die.val flit f (noteGrant die.val f s))) ∧
  (∀ (die : Fin 8) (flit : Nat) (s : State) (f : Flit), (s.mesh die.val).flits[flit]? = some f →
     mayGo s die.val flit f = true → f.kind = .data → f.pos = f.dst →
     exec (.meshDataFlit die flit) s = .next (consumeFlit die.val f (throughCross 1 (nodePlace die.val f.pos) 1
       ((noteGrant die.val f s).modMesh die.val (fun m => { m with flits := dropAt m.flits flit }))))) ∧
  (∀ (die : Fin 8) (flit : Nat) (s : State) (f : Flit), (s.mesh die.val).flits[flit]? = some f →
     mayGo s die.val flit f = true → f.kind = .data → f.pos ≠ f.dst →
     exec (.meshDataFlit die flit) s = .next (moveFlit die.val flit f (noteGrant die.val f s))) ∧
  (∀ (die : Fin 8) (node : Fin 289) (port : Fin 17) (channel : Fin 3) (s : State),
     (s.mesh die.val).held node.val port.val channel.val < tabGet (s.mesh die.val).used (bufKey node.val port.val channel.val) 0 →
     ∃ t, exec (.meshCreditReturn die node port channel) s = .next t ∧ t = { s with meshes := t.meshes } ∧
       (∀ d, d ≠ die.val → t.mesh d = s.mesh d) ∧ t.mesh die.val = { s.mesh die.val with used := (t.mesh die.val).used } ∧
       tabGet (t.mesh die.val).used (bufKey node.val port.val channel.val) 0 + 1 = tabGet (s.mesh die.val).used (bufKey node.val port.val channel.val) 0) ∧
  (∀ (die : Fin 8) (flit : Nat) (s : State) (f : Flit), (s.mesh die.val).flits[flit]? = some f →
     isHead (s.mesh die.val).flits flit = true → f.escape = false → f.port < inFifo →
     tabGet (s.mesh die.val).used (bufKey f.pos f.port 2) 0 < 4 →
     ∃ t, exec (.flitDivert die flit) s = .next t ∧ t = { s with meshes := t.meshes } ∧
       (t.mesh die.val).flits = dropAt (s.mesh die.val).flits flit ++ [{ f with escape := true }] ∧
       (t.mesh die.val).divert = satAdd (s.mesh die.val).divert 1 0xFFFFFFFF) ∧
  (∀ (die : Fin 8) (node : Fin 289) (s : State) (src : Nat) (rest : List Nat),
     tabGet (s.mesh die.val).stagingReq node.val [] = src :: rest →
     tabGet (s.mesh die.val).stagingUsed node.val 0 ≤ 16 →
     exec (.stagingGrant die node) s = .next (injectFlit die.val { kind := .grant, src := node.val, dst := src }
       (s.modMesh die.val (fun m => { m with
             stagingReq := tabPut m.stagingReq node.val rest,
             stagingUsed := tabPut m.stagingUsed node.val (tabGet (s.mesh die.val).stagingUsed node.val 0 + 16) })))) ∧
  (∀ (die : Fin 8) (s : State), (s.mesh die.val).flipPending = false →
     ∃ t, exec (.meshFlipRequest die) s = .next t ∧ t = { s with meshes := t.meshes } ∧ (t.mesh die.val).flipPending = true ∧
       (t.mesh die.val).request = some s.now ∧ (t.mesh die.val).epoch = (s.mesh die.val).epoch ∧
       (if (s.mesh die.val).epoch then (t.mesh die.val).plan0 else (t.mesh die.val).plan1) = (s.dieFloor die.val).enabled ∧
       (if (s.mesh die.val).epoch then (t.mesh die.val).plan1 else (t.mesh die.val).plan0) =
         (if (s.mesh die.val).epoch then (s.mesh die.val).plan1 else (s.mesh die.val).plan0)) ∧
  (∀ (die : Fin 8) (s : State) (g : Nat), (s.mesh die.val).request = some g → s.atBoundary = true → g < s.now →
     exec (.meshEpochFlip die) s = .next (s.modMesh die.val (fun m =>
       { m with epoch := !m.epoch, request := none, flippedAt := some s.now, timedOut := false }))) ∧
  (∀ (die : Fin 8) (s : State) (g : Nat), (s.mesh die.val).flippedAt = some g → (s.mesh die.val).drain = 0 →
     exec (.meshDrainZero die) s = .next (s.modMesh die.val (fun m => { m with
           flipPending := false, flippedAt := none, powered := (s.dieFloor die.val).enabled }))) ∧
  (∀ (die : Fin 8) (s : State) (g : Nat), (s.mesh die.val).flippedAt = some g → (s.mesh die.val).drain ≠ 0 →
     g + 100000 ≤ s.now → (s.mesh die.val).timedOut = false →
     exec (.meshDrainTimeout die) s = .next (haltRun 3 die.val (raise 0x0301 0 die.val (min (s.mesh die.val).drain 0xFFFF) 0 0
       (s.modMesh die.val (fun m => { m with drainTimeout := true, timedOut := true })))))

/-- PEGSET in flight with no plan waiting and a clean fetch of its 1,024 bytes: the plan waits for its boundary, in
the buffer that is not in effect, with its error where it sets a service waveguide; the buffer in effect and the pegs
are as before. PEG_PLAN_EFFECT at a schedule sheaf boundary with a plan waiting changes the buffer in effect and
settles the pegs, and the Sill sequencer's PEGSET completes, with error where the plan has one; with no plan waiting
and the pegs not yet as the plan in effect has them, it makes the changes that no stream holds (settlePegs); away from
a boundary it changes nothing. (This states of R163, R164, R165, R166 and R167 only what is said here.)
(07_sill_fabric.md) -/
def Obligations.PegPlanRowsComplete : Prop :=
  (∀ (noise : List HbmUpset) (s u : State) (f : Flight) (b : List (BitVec 8)),
     flightOf (s.engine sillSeq) 4 (fun f => stOpcode f.step.word == 0x70 && !f.done) = some f →
     s.sill.pending = false →
     hbmRead (1024 * bits f.step.word.toNat 0 31) 1024 168 (noise.foldl (fun s u => upsetBurst u s) s) = (b, 0,
     u) →
     ∃ t, exec (.pegset noise) s = .next t ∧ t.sill.pending = true ∧ t.sill.pendingErr = (planPegs b).2 ∧
       t.sill.pendingAddr = bits f.step.word.toNat 0 31 ∧ t.sill.epoch = u.sill.epoch ∧ t.sill.pegs = u.sill.pegs ∧
       (if u.sill.epoch then t.sill.plan0 else t.sill.plan1) = (planPegs b).1 ∧
       (if u.sill.epoch then t.sill.plan1 else t.sill.plan0) = (if u.sill.epoch then u.sill.plan1 else u.sill.plan0) ∧
       t = { u with sill := t.sill, err := t.err }) ∧
  (∀ (s : State), s.schedBoundary = true → s.sill.pending = true →
     exec .pegPlanEffect s = .next (completeFlight sillSeq 4 (fun f => stOpcode f.step.word == 0x70)
       (modFlight sillSeq 4 (fun f => stOpcode f.step.word == 0x70) (fun f => { f with err := f.err || s.sill.pendingErr, done := true })
         (settlePegs { s with
               sill := { s.sill with epoch := !s.sill.epoch, pending := false, late := false, addr := s.sill.pendingAddr, lateEffect := if s.sill.late then some s.now else none } })))) ∧
  (∀ (s : State), s.schedBoundary = true → s.sill.pending = false →
     (s.sill.deferred ≠ [] ∨ s.sill.pegs ≠ setOf (s.sill.plan s.sill.epoch)) →
     exec .pegPlanEffect s = .next (settlePegs s)) ∧
  (∀ (s : State), s.schedBoundary = false →
     exec .pegPlanEffect s = .next s)

/-- For each stream engine whose step is in flight with its stream open: SMREAD, SMWRITE, SSEND, SLOUT and SLIN move
the frames that have not arrived to every destination and settle the stream (the operation transfer), after the noise
that the row carries at the crib end (and in HBM3E) and, for SMREAD and SMWRITE, the waits it names; SRECV moves the
frames meant for its engine. A stream is moved in one command where the hardware takes many grains (log entry 10).
STREAM_OPEN of a waiting memory or rail stream notes the cause of its wait so far (holdMask), and opens it where its
descriptor's blocks are free and its pegs ready; with pegs not ready it goes on waiting; through a block under reset
it aborts. Of a sending stream whose receivers have all issued, it does the same, its descriptors being the sender's
and the receivers'; with unequal counts it is refused, every engine completing with error (refuseStream).
STREAM_UNMATCHED refuses an SSEND or SRECV that has not opened 2^20 grains after its issue; before that it changes
nothing. (This states of R43, R166, R173, R174, R176, R177, R184 and R186 only what is said here.) (02_fleet_time.md,
07_sill_fabric.md) -/
def Obligations.StreamRowsComplete : Prop :=
  (∀ (eng : BitVec 16) (noise : List HbmUpset) (crib : CribNoise) (waited : Fin 4) (s : State),
     engValid eng.toNat = true → streamRuns s eng.toNat 0x60 = true →
     exec (.smread eng noise crib waited) s = .next (transfer eng.toNat (fun _ => true) {} crib
       (noteWaits eng.toNat waited.val (streamNoise eng.toNat 0x60 crib (noise.foldl (fun s u => upsetBurst u s) s))))) ∧
  (∀ (eng : BitVec 16) (crib : CribNoise) (waited : Fin 4) (s : State), engValid eng.toNat = true →
     streamRuns s eng.toNat 0x61 = true →
     exec (.smwrite eng crib waited) s = .next (transfer eng.toNat (fun _ => true) crib {}
       (noteWaits eng.toNat waited.val (streamNoise eng.toNat 0x61 crib s)))) ∧
  (∀ (eng : BitVec 16) (crib : CribNoise) (s : State), engValid eng.toNat = true →
     streamRuns s eng.toNat 0x62 = true →
     exec (.ssend eng crib) s = .next (transfer eng.toNat (fun _ => true) crib {}
       (streamNoise eng.toNat 0x62 crib s))) ∧
  (∀ (eng : BitVec 16) (crib : CribNoise) (s : State), engValid eng.toNat = true →
     streamRuns s eng.toNat 0x64 = true →
     exec (.slout eng crib) s = .next (transfer eng.toNat (fun _ => true) crib {}
       (streamNoise eng.toNat 0x64 crib s))) ∧
  (∀ (eng : BitVec 16) (crib : CribNoise) (s : State), engValid eng.toNat = true →
     streamRuns s eng.toNat 0x65 = true →
     exec (.slin eng crib) s = .next (transfer eng.toNat (fun _ => true) {} crib
       (streamNoise eng.toNat 0x65 crib s))) ∧
  (∀ (eng : BitVec 16) (crib : CribNoise) (s : State) (st : Stream), engValid eng.toNat = true →
     senderOf s eng.toNat = some st →
     exec (.srecv eng crib) s = .next (transfer st.owner (fun d => d == eng.toNat) {} crib (streamNoise eng.toNat 0x63 crib s))) ∧
  (∀ (eng : BitVec 16) (s : State) (st : Stream), engValid eng.toNat = true → streamOf s eng.toNat = some st →
     st.opened = none → st.abortAt = none → st.kind ≠ 3 → st.kind ≠ 4 → blockedBy s [s.desc st.desc] = none →
     pegsReady s [s.desc st.desc] = true →
     exec (.streamOpen eng) s = .next (openStream { st with
           waitMask := st.waitMask ||| holdMask s [s.desc st.desc] st.issued } [] s)) ∧
  (∀ (eng : BitVec 16) (s : State) (st : Stream), engValid eng.toNat = true → streamOf s eng.toNat = some st →
     st.opened = none → st.abortAt = none → st.kind ≠ 3 → st.kind ≠ 4 → blockedBy s [s.desc st.desc] = none →
     pegsReady s [s.desc st.desc] = false →
     exec (.streamOpen eng) s = .next (putStream { st with
           waitMask := st.waitMask ||| holdMask s [s.desc st.desc] st.issued } s)) ∧
  (∀ (eng : BitVec 16) (s : State) (st : Stream) (k : Nat), engValid eng.toNat = true →
     streamOf s eng.toNat = some st → st.opened = none → st.abortAt = none → st.kind ≠ 3 → st.kind ≠ 4 →
     blockedBy s [s.desc st.desc] = some k →
     exec (.streamOpen eng) s = .next (abortStream k { st with
           peers := [], waitMask := st.waitMask ||| holdMask s [s.desc st.desc] st.issued } s)) ∧
  (∀ (eng : BitVec 16) (s : State) (st : Stream) (ps : List Stream), engValid eng.toNat = true →
     streamOf s eng.toNat = some st → st.opened = none → st.abortAt = none → st.kind = 3 →
     matchPeers s st = some ps → blockedBy s (s.desc st.desc :: ps.map (fun x => s.desc x.desc)) = none →
     ps.any (fun x => x.total != st.total) = false →
     pegsReady s (s.desc st.desc :: ps.map (fun x => s.desc x.desc)) = true →
     exec (.streamOpen eng) s = .next (openStream { st with
           waitMask := st.waitMask ||| holdMask s (s.desc st.desc :: ps.map (fun x => s.desc x.desc)) ((ps.map (·.issued)).foldl max st.issued) }
       (ps.map (·.owner)) s)) ∧
  (∀ (eng : BitVec 16) (s : State) (st : Stream) (ps : List Stream), engValid eng.toNat = true →
     streamOf s eng.toNat = some st → st.opened = none → st.abortAt = none → st.kind = 3 →
     matchPeers s st = some ps → blockedBy s (s.desc st.desc :: ps.map (fun x => s.desc x.desc)) = none →
     ps.any (fun x => x.total != st.total) = false →
     pegsReady s (s.desc st.desc :: ps.map (fun x => s.desc x.desc)) = false →
     exec (.streamOpen eng) s = .next (putStream { st with
           waitMask := st.waitMask ||| holdMask s (s.desc st.desc :: ps.map (fun x => s.desc x.desc)) ((ps.map (·.issued)).foldl max st.issued) } s)) ∧
  (∀ (eng : BitVec 16) (s : State) (st : Stream) (ps : List Stream) (k : Nat), engValid eng.toNat = true →
     streamOf s eng.toNat = some st → st.opened = none → st.abortAt = none → st.kind = 3 →
     matchPeers s st = some ps → blockedBy s (s.desc st.desc :: ps.map (fun x => s.desc x.desc)) = some k →
     exec (.streamOpen eng) s = .next (abortStream k { st with
           peers := ps.map (·.owner),
           waitMask := st.waitMask ||| holdMask s (s.desc st.desc :: ps.map (fun x => s.desc x.desc)) ((ps.map (·.issued)).foldl max st.issued) } s)) ∧
  (∀ (eng : BitVec 16) (s : State) (st : Stream) (ps : List Stream), engValid eng.toNat = true →
     streamOf s eng.toNat = some st → st.opened = none → st.abortAt = none → st.kind = 3 →
     matchPeers s st = some ps → blockedBy s (s.desc st.desc :: ps.map (fun x => s.desc x.desc)) = none →
     ps.any (fun x => x.total != st.total) = true →
     exec (.streamOpen eng) s = .next (refuseStream { st with
           waitMask := st.waitMask ||| holdMask s (s.desc st.desc :: ps.map (fun x => s.desc x.desc)) ((ps.map (·.issued)).foldl max st.issued) }
       (eng.toNat :: ps.map (·.owner)) s)) ∧
  (∀ (eng : BitVec 16) (s : State) (st : Stream), engValid eng.toNat = true → streamOf s eng.toNat = some st →
     (st.kind = 3 ∨ st.kind = 4) → st.opened = none → st.issued + 2 ^ 20 ≤ s.now →
     exec (.streamUnmatched eng) s = .next (refuseStream st [eng.toNat] s)) ∧
  (∀ (eng : BitVec 16) (s : State) (st : Stream), engValid eng.toNat = true → streamOf s eng.toNat = some st →
     s.now < st.issued + 2 ^ 20 →
     exec (.streamUnmatched eng) s = .next s)

/-- SILL_FRAME_RECEIVE at a site that receives an open stream counts the resends of the hop and checks the wl field
(wlCheck). A frame that then passes frameOk is accepted at its destination (acceptFrame); an idle frame that is sound
does nothing more; any other is answered by a retry request, a control word of type 5 to the transmitter expected on
the lane, with the tag and sequence number. SILL_RETRY_REQUEST on a lane of the stream is handled by retryFrame, or
discarded where the word arrives with a bad check; on a die-to-Sill link the stream is marked retry and the link's
lane takes the fault (linkFault). A control word that arrives in the light with a good check and no reserved bit set
is counted good and taken: an open at a receiving step that waits is answered by an accept; an accept is noted; a
close is noted, with status 2 aborts the stream at the end of the grain (abortSoon), and with the last receiver's
closes it; an abort aborts the stream it names. A word with a bad check is discarded: counted, and to be repeated
after 16 grains (discardWord). CONTROL_WORD_REPEAT of a repeat that is due sends it again, after the ring checks of
its two ends (checkControl). (This states of R159, R178, R179, R180, R181, R183, R185, R186 and R292 only what is said
here.) (07_sill_fabric.md, 11_optical_control.md) -/
def Obligations.SillFrameRowsComplete : Prop :=
  (∀ (site : BitVec 8) (port : Fin 25) (wl : Fin 45) (tag : BitVec 16) (seq : BitVec 24) (frame : BitVec 2240) (hops : Fin 4) (s u : State) (st : Stream) (i : Nat),
     receivedBy s site.toNat tag.toNat = some (st, i) →
     u = wlCheck site.toNat port.val wl.val (bits frame.toNat 61 6 == wl.val) (putStream { st with retry := st.retry || decide (0 < hops.val) } { s with sill := { s.sill with retx := satAdd s.sill.retx hops.val 0xFFFFFFFF } }) →
     frameOk u (u.desc st.desc) site.toNat port.val wl.val tag.toNat seq.toNat frame = true →
     exec (.sillFrameReceive site port wl tag seq frame hops) s =
       .next (acceptFrame { st with retry := st.retry || decide (0 < hops.val) } i seq.toNat frame (askCheck (bits frame.toNat 48 8) (bits frame.toNat 56 5) wl.val false u))) ∧
  (∀ (site : BitVec 8) (port : Fin 25) (wl : Fin 45) (tag : BitVec 16) (seq : BitVec 24) (frame : BitVec 2240) (hops : Fin 4) (s u : State) (st : Stream) (i : Nat),
     receivedBy s site.toNat tag.toNat = some (st, i) →
     u = wlCheck site.toNat port.val wl.val (bits frame.toNat 61 6 == wl.val) (putStream { st with retry := st.retry || decide (0 < hops.val) } { s with sill := { s.sill with retx := satAdd s.sill.retx hops.val 0xFFFFFFFF } }) →
     frameIdle frame = true →
     frameSound (laneSource (u.desc st.desc) site.toNat port.val wl.val) wl.val frame = true →
     exec (.sillFrameReceive site port wl tag seq frame hops) s =
       .next u) ∧
  (∀ (site : BitVec 8) (port : Fin 25) (wl : Fin 45) (tag : BitVec 16) (seq : BitVec 24) (frame : BitVec 2240) (hops : Fin 4) (s u : State) (st : Stream) (i : Nat),
     receivedBy s site.toNat tag.toNat = some (st, i) →
     u = wlCheck site.toNat port.val wl.val (bits frame.toNat 61 6 == wl.val) (putStream { st with retry := st.retry || decide (0 < hops.val) } { s with sill := { s.sill with retx := satAdd s.sill.retx hops.val 0xFFFFFFFF } }) →
     (frameIdle frame = false ∨ frameSound (laneSource (u.desc st.desc) site.toNat port.val wl.val) wl.val frame = false) →
     frameOk u (u.desc st.desc) site.toNat port.val wl.val tag.toNat seq.toNat frame = false →
     exec (.sillFrameReceive site port wl tag seq frame hops) s =
       .next (sendWord (controlWord 0x5 site.toNat (((laneSource (u.desc st.desc) site.toNat port.val wl.val).map (·.1)).getD (u.desc st.desc).site) 0
         (tag.toNat + seq.toNat * 2 ^ 16)) u)) ∧
  (∀ (site : BitVec 8) (port : Fin 25) (wl : Fin 45) (tag : BitVec 16) (seq : BitVec 24) (flip w : Word128) (s : State) (st : Stream) (e : BitVec 32),
     s.sill.streams.find? (fun st => st.live && st.tag == tag.toNat && st.kind != 4) = some st →
     entrySending (s.desc st.desc) site.toNat port.val wl.val = some e →
     w = controlWord 0x5 (((entryTakes (s.desc st.desc) e).map (·.1)).getD (s.desc st.desc).site) site.toNat 0 (tag.toNat + seq.toNat * 2 ^ 16) →
     awaitsRepeat s w = false → wordUnlit s w = false → checkOk (w ^^^ flip) = true →
     exec (.sillRetryRequest site port wl tag seq none flip) s =
       .next (retryFrame st e site.toNat port.val wl.val seq.toNat (countWord w false (siteCross 5 (cwDst w) s)))) ∧
  (∀ (site : BitVec 8) (port : Fin 25) (wl : Fin 45) (tag : BitVec 16) (seq : BitVec 24) (flip w : Word128) (s : State) (st : Stream) (e : BitVec 32),
     s.sill.streams.find? (fun st => st.live && st.tag == tag.toNat && st.kind != 4) = some st →
     entrySending (s.desc st.desc) site.toNat port.val wl.val = some e →
     w = controlWord 0x5 (((entryTakes (s.desc st.desc) e).map (·.1)).getD (s.desc st.desc).site) site.toNat 0 (tag.toNat + seq.toNat * 2 ^ 16) →
     awaitsRepeat s w = false → wordUnlit s w = false → checkOk (w ^^^ flip) = false →
     exec (.sillRetryRequest site port wl tag seq none flip) s =
       .next (discardWord w s)) ∧
  (∀ (site : BitVec 8) (port : Fin 25) (wl : Fin 45) (tag : BitVec 16) (seq : BitVec 24) (flip : Word128) (l : Fin 64) (s : State) (st : Stream),
     s.sill.streams.find? (fun st => st.live && st.tag == tag.toNat && st.kind != 4) = some st →
     exec (.sillRetryRequest site port wl tag seq (some l) flip) s =
       .next (putStream { st with retry := true } (linkFault st.owner l.val s))) ∧
  (∀ (word : Word128) (s u : State) (st x : Stream), wordUnlit s word = false → checkOk word = true →
     cwReservedOk word = true →
     u = countWord word false (if cwDst word = 0xFF then s else siteCross 5 (cwDst word) s) → cwType word = 2 →
     s.sill.streams.find? (fun y => cwNames word y.owner && y.tag == cwTag word && y.opened.isNone && y.kind == (if cwType word = 2 then 4 else 3)) = some st →
     u.sill.streams.find? (fun y => y.kind == 3 && y.tag == st.tag && engSite y.owner == cwSrc word) = some x →
     exec (.controlWordOpen word) s = .next (sendWord (controlWord 0x3 (engSite st.owner) (cwSrc word) x.owner (st.tag + st.desc * 2 ^ 16)) u)) ∧
  (∀ (word : Word128) (s u : State) (st : Stream), wordUnlit s word = false → checkOk word = true →
     cwReservedOk word = true →
     u = countWord word false (if cwDst word = 0xFF then s else siteCross 5 (cwDst word) s) → cwType word = 3 →
     s.sill.streams.find? (fun x => cwNames word x.owner && x.tag == cwTag word && x.opened.isNone && x.kind == (if cwType word = 2 then 4 else 3)) = some st →
     exec (.controlWordOpen word) s = .next (putStream { st with acked := setIns st.acked (cwSrc word) } u)) ∧
  (∀ (word : Word128) (s u v : State) (st st1 : Stream), wordUnlit s word = false → checkOk word = true →
     cwReservedOk word = true →
     u = countWord word false (if cwDst word = 0xFF then s else siteCross 5 (cwDst word) s) → cwType word = 4 →
     s.sill.streams.find? (fun x => cwNames word x.owner && x.tag == cwTag word && x.live && x.kind == 3) = some st →
     st1 = { st with acked := setIns st.acked (cwSrc word), uncorr := st.uncorr || bits word.toNat 52 2 == 1 } →
     v = putStream st1 u →
     exec (.controlWordClose word) s = .next (if bits word.toNat 52 2 = 2 then abortSoon (bits word.toNat 52 4) st1 v
       else if (v.desc st.desc).partners.all (fun p => st1.acked.contains p) then
         closeStream st1 st1.uncorr (engineDone st.owner st1.uncorr st1.mask v)
       else v)) ∧
  (∀ (word : Word128) (s u : State) (st : Stream), wordUnlit s word = false → checkOk word = true →
     cwReservedOk word = true →
     u = countWord word false (if cwDst word = 0xFF then s else siteCross 5 (cwDst word) s) → cwType word = 8 →
     s.sill.streams.find? (fun x => x.tag == cwTag word && x.closed.isNone && x.kind != 4 && (cwNames word x.owner || x.peers.any (cwNames word))) = some st →
     exec (.controlWordAbort word) s = .next (abortSoon (bits word.toNat 52 4) st u)) ∧
  (∀ (word : Word128) (s : State), wordUnlit s word = false → checkOk word = false →
     exec (.controlWordOpen word) s = .next (discardWord word s) ∧ exec (.controlWordClose word) s = .next (discardWord word s) ∧
       exec (.controlWordAbort word) s = .next (discardWord word s)) ∧
  (∀ (word : Word128) (s u : State), checkOk word = true → s.sill.repeats.any (repeatDue s word) = true →
     u = checkControl (cwDst word) true (checkControl (cwSrc word) false s) →
     exec (.controlWordRepeat word) s = .next (sendWord word { u with
           sill := { u.sill with repeats := delFirst (repeatDue u word) u.sill.repeats } }))

/-- REFRESH_SLOT of a stack in service and out of self-refresh, at a slot of the pseudo-channel not yet issued, issues
one refresh of a bank, which is then in refresh; away from such a slot it issues one that a forward step of the
counter passed over. REFRESH_END takes the bank out of refresh, and where a frame waited behind it the longest wait is
kept; nothing else changes. REFRESH_MODE_CHANGE at a boundary enters 2x refresh at 85 degrees or more (1,360
sixteenths) and raises MEM_REFRESH_2X (0x0402), and leaves it at 80 degrees or less. SCRUB_BURST, with no run,
transfer or block reset, reads the next burst of a stack in service after the noise its row carries, writes corrected
data back, and moves on, the pass ending past the last burst. MEM_TRAINING_LOST fails a stack in service (failStack).
Which bank a slot refreshes is open (log entry 9). (This states of R31, R196, R199, R200, R201, R205 and R208 only
what is said here.) (02_fleet_time.md, 08_memory.md) -/
def Obligations.MemoryStackRowsComplete : Prop :=
  (∀ (stack pc : Fin 32) (s : State), (s.mstack stack.val).state = 2 → (s.mstack stack.val).selfRefresh = false →
     isSlot (s.mstack stack.val).mode2x pc.val s.now = true →
     tabFind s.hbm.lastSlot (channelKey stack.val pc.val) ≠ some s.now →
     ∃ t r, exec (.refreshSlot stack pc) s = .next t ∧ t.hbm.inRefresh = s.hbm.inRefresh ++ [r] ∧ r.stack = stack.val ∧
       r.pc = pc.val ∧ r.bank = (refreshOrder stack.val pc.val).getD (tabGet s.hbm.slots (channelKey stack.val pc.val) 0 % 48) 0 ∧
       r.atGrain = s.now ∧ t.hbm.mem = s.hbm.mem ∧ t.hbm.mstacks = s.hbm.mstacks ∧ t = { s with hbm := t.hbm }) ∧
  (∀ (stack pc : Fin 32) (s : State) (g : Nat), (s.mstack stack.val).state = 2 →
     (s.mstack stack.val).selfRefresh = false → isSlot (s.mstack stack.val).mode2x pc.val s.now = false →
     overdueSlot s stack.val pc.val = some g →
     exec (.refreshSlot stack pc) s = .next (issueRefresh stack.val pc.val
       { s with hbm := { s.hbm with caught := tabPut s.hbm.caught (channelKey stack.val pc.val) g } })) ∧
  (∀ (stack pc : Fin 32) (bank : Fin 48) (s : State) (r : Refresh),
     s.hbm.inRefresh.find? (fun r => r.stack == stack.val && r.pc == pc.val && r.bank == bank.val) = some r →
     r.since = none →
     exec (.refreshEnd stack pc bank) s = .next { s with
           hbm := { s.hbm with inRefresh := delFirst (fun r => r.stack == stack.val && r.pc == pc.val && r.bank == bank.val) s.hbm.inRefresh } }) ∧
  (∀ (stack pc : Fin 32) (bank : Fin 48) (s : State) (r : Refresh) (g : Nat),
     s.hbm.inRefresh.find? (fun r => r.stack == stack.val && r.pc == pc.val && r.bank == bank.val) = some r →
     r.since = some g →
     exec (.refreshEnd stack pc bank) s = .next
       (State.modMem { s with
             hbm := { s.hbm with inRefresh := delFirst (fun r => r.stack == stack.val && r.pc == pc.val && r.bank == bank.val) s.hbm.inRefresh } }
         stack.val (fun m => { m with maxHold := max m.maxHold (min (s.now - g) 255) }))) ∧
  (∀ (stack : Fin 32) (s : State), s.atBoundary = true → (s.mstack stack.val).state = 2 →
     (s.mstack stack.val).mode2x = false → 85 * 16 ≤ (s.mstack stack.val).temp16 →
     ∃ t r, exec (.refreshModeChange stack) s = .next t ∧ (t.mstack stack.val).mode2x = true ∧
       t.err.raised = s.err.raised ++ [r] ∧ r.code = 0x0402 ∧ r.w0 = stack.val ∧ t = { s with hbm := t.hbm, err := t.err }) ∧
  (∀ (stack : Fin 32) (s : State), s.atBoundary = true → (s.mstack stack.val).state = 2 →
     (s.mstack stack.val).mode2x = true → (s.mstack stack.val).temp16 ≤ 80 * 16 →
     exec (.refreshModeChange stack) s = .next (s.modMem stack.val (fun m => { m with mode2x := false }))) ∧
  (∀ (noise : List HbmUpset) (s v u : State) (b st : Nat) (d : List (BitVec 8)), s.runActive = false →
     s.hbm.xfers = [] → s.rst.blocks = [] → scrubNext s s.hbm.scrubAt = some b →
     v = noise.foldl (fun s u => upsetBurst u s) s → readBurst b 169 v = (d, st, u) →
     ∃ w, exec (.scrubBurst noise) s = .next { w with
           hbm := { w.hbm with scrubAt := if b + 1 < hbmTop / 32 then b + 1 else 0, scrub := decide (b + 1 < hbmTop / 32) } } ∧
       w = if st = 0 ∧ (tabFind v.hbm.errs b).isSome then putBurst b d u else u) ∧
  (∀ (noise : List HbmUpset) (s : State), s.runActive = false → s.hbm.xfers = [] → s.rst.blocks = [] →
     scrubNext s s.hbm.scrubAt = none →
     exec (.scrubBurst noise) s = .next { s with hbm := { s.hbm with scrubAt := 0, scrub := false } }) ∧
  (∀ (stack : Fin 32) (s : State), (s.mstack stack.val).state = 2 →
     exec (.memTrainingLost stack) s = .next (failStack stack.val s))

/-- STEP_COMPLETE of a step that has taken effect completes it and frees its unit; on a stream engine its closed
stream is forgotten. BARRIER_ARRIVAL counts the oldest arrival of an engine at the counting point, once it is off the
die's mesh: that of a tiller at die scope directly, another as a control word that arrives in the light with a good
check; one with a bad check is discarded for its sender to repeat. BARRIER_TIMEOUT of a participant that has waited
2^24 grains withdraws its arrival unless the stook contribution has been sent, raises BARRIER_TIMEOUT (0x0501) and
completes the step with error. OVERRUN_PACED and TILLER_FLAG_PACED, 1,024 schedule sheaves after the last event of
their pacing, raise what has been collected. (This states of R46, R55, R56, R57, R89, R176, R179 and R224 only what is
said here.) (02_fleet_time.md, 03_tiller.md, 07_sill_fabric.md, 09_cut_lists.md) -/
def Obligations.RunRowsComplete : Prop :=
  (∀ (eng : BitVec 16) (unit : Fin 6) (s : State) (f : Flight), engValid eng.toNat = true → unit.val ≠ 4 →
     flightOf (s.engine eng.toNat) unit.val (fun f => f.done) = some f →
     exec (.stepComplete eng unit) s = .next (completeStep eng.toNat f (s.modEngine eng.toNat (fun g =>
       { g with flight := delFirst (fun f => f.unit == unit.val && f.done) g.flight })))) ∧
  (∀ (eng : BitVec 16) (s : State) (f : Flight), engValid eng.toNat = true →
     flightOf (s.engine eng.toNat) 4 (fun f => f.done) = some f →
     exec (.stepComplete eng 4) s = .next (dropStream eng.toNat (completeStep eng.toNat f (s.modEngine eng.toNat (fun g =>
       { g with flight := delFirst (fun f => f.unit == 4 && f.done) g.flight }))))) ∧
  (∀ (eng : BitVec 16) (flip : Word128) (s : State) (f : Flight), engValid eng.toNat = true →
     (s.engine eng.toNat).flight.find? (fun f => isBarrier f && !f.done && !f.moved) = some f →
     arrivalOnMesh s eng.toNat = false → engKind eng.toNat = 1 → barScope (stBody f.step.word) = 0 →
     exec (.barrierArrival eng flip) s = .next (barArrive eng.toNat (stBody f.step.word)
       (modFlight eng.toNat 5 (fun f => isBarrier f && !f.done && !f.moved) (fun f => { f with moved := true }) s))) ∧
  (∀ (eng : BitVec 16) (flip w : Word128) (s : State) (f : Flight), engValid eng.toNat = true →
     (s.engine eng.toNat).flight.find? (fun f => isBarrier f && !f.done && !f.moved) = some f →
     arrivalOnMesh s eng.toNat = false → (engKind eng.toNat ≠ 1 ∨ barScope (stBody f.step.word) ≠ 0) →
     w = barrierWord eng.toNat (stBody f.step.word) → awaitsRepeat s w = false → wordUnlit s w = false →
     checkOk (w ^^^ flip) = true →
     exec (.barrierArrival eng flip) s = .next (barArrive eng.toNat (stBody f.step.word)
       (modFlight eng.toNat 5 (fun f => isBarrier f && !f.done && !f.moved) (fun f => { f with moved := true }) (countWord w false (siteCross 5 (cwDst w) s))))) ∧
  (∀ (eng : BitVec 16) (flip w : Word128) (s : State) (f : Flight), engValid eng.toNat = true →
     (s.engine eng.toNat).flight.find? (fun f => isBarrier f && !f.done && !f.moved) = some f →
     arrivalOnMesh s eng.toNat = false → (engKind eng.toNat ≠ 1 ∨ barScope (stBody f.step.word) ≠ 0) →
     w = barrierWord eng.toNat (stBody f.step.word) → awaitsRepeat s w = false → wordUnlit s w = false →
     checkOk (w ^^^ flip) = false →
     exec (.barrierArrival eng flip) s = .next (discardWord w s)) ∧
  (∀ (eng : BitVec 16) (s : State) (f : Flight), engValid eng.toNat = true →
     (s.engine eng.toNat).flight.find? (fun f => isBarrier f && !f.done && decide (f.issued + 2 ^ 24 ≤ s.now)) = some f →
     (barFind s (barKey eng.toNat (stBody f.step.word))).sent = true →
     exec (.barrierTimeout eng) s = .next (completeFlight eng.toNat 5
       (fun g => g.err && (isBarrier g && !g.done && decide (g.issued + 2 ^ 24 ≤ s.now)))
       (modFlight eng.toNat 5 (fun g => isBarrier g && !g.done && decide (g.issued + 2 ^ 24 ≤ s.now)) (fun g => { g with err := true })
         (raise 0x0501 eng.toNat (barNumber (stBody f.step.word) + barScope (stBody f.step.word) * 65536) 0 0 0 s)))) ∧
  (∀ (eng : BitVec 16) (s : State) (f : Flight), engValid eng.toNat = true →
     (s.engine eng.toNat).flight.find? (fun f => isBarrier f && !f.done && decide (f.issued + 2 ^ 24 ≤ s.now)) = some f →
     (barFind s (barKey eng.toNat (stBody f.step.word))).sent = false →
     exec (.barrierTimeout eng) s = .next (completeFlight eng.toNat 5 (fun g => g.err && (isBarrier g && !g.done && decide (g.issued + 2 ^ 24 ≤ s.now)))
       (modFlight eng.toNat 5 (fun g => isBarrier g && !g.done && decide (g.issued + 2 ^ 24 ≤ s.now)) (fun g => { g with err := true })
         (raise 0x0501 eng.toNat (barNumber (stBody f.step.word) + barScope (stBody f.step.word) * 65536) 0 0 0 (barSet (barKey eng.toNat (stBody f.step.word))
           { barFind s (barKey eng.toNat (stBody f.step.word)) with arrived := delFirst (· == eng.toNat) (barFind s (barKey eng.toNat (stBody f.step.word))).arrived } s))))) ∧
  (∀ (s : State) (k : Nat), s.cut.state = .running → s.atBoundary = true → s.cut.idleNow = false →
     s.cut.ovrEvent = some k → k + 1024 ≤ s.cut.sheaf → s.cut.ovrNew = true →
     exec .overrunPaced s = .next (raiseOverrun s)) ∧
  (∀ (s : State) (k : Nat), s.cut.state = .running → s.atBoundary = true → s.cut.idleNow = false →
     s.cut.flagEvent = some k → k + 1024 ≤ s.cut.sheaf →
     exec .tillerFlagPaced s = .next (raiseFlag s))

/-- RUN_PAUSE of a running list, no post in flight and every present engine past its CKPT of the mark: the state is
paused at the mark, no pause is pending, no engine is stopped any more, and the memories, HBM3E and time are as
before. RUN_END likewise once every END has completed: the state is ended, the image is no longer protected, and
RUN_END (0x0502) has been raised with REPRO.RUN; memories and engines are as before. QUEUE_REFILL with 8 or more
entries free fetches as many steps as fit, after the noise its row carries, and moves its place in the array; a failed
read halts the run with cause 1 (uncorrectable) or 2 (stack not ready). LOAD_COMPLETE: a failed read of the header
rejects the image (0x14, 0x16), a bad header with 0x01; where header, length and every read are good, the checks of
R232 decide (imageFault): it is loaded (completeLoad), or rejected with the first failing check. (This states of R197,
R229, R230, R231, R232, R233, R236, R237 and R390 only what is said here.) (08_memory.md, 09_cut_lists.md,
15_commands.md) -/
def Obligations.PauseEndAndLoadRowsComplete : Prop :=
  (∀ (s : State) (m : Nat), s.cut.pauseMark = some m → s.cut.state = .running → postsInFlight s = false →
     s.engines.all (fun p => !p.2.present || p.2.ckpts.any (fun c => c.1 == m)) = true →
     ∃ t, exec .runPause s = .next t ∧ t.cut.state = .paused ∧ t.cut.resumeMark = some m ∧ t.cut.pauseMark = none ∧ t.cut.pauseCmds = [] ∧
       t.engines = s.engines.map (fun p => (p.1, { p.2 with stopped := false })) ∧ t.localStore = s.localStore ∧ t.crib = s.crib ∧
       t.hbm = s.hbm ∧ t.time = s.time) ∧
  (∀ (s : State), s.cut.state = .running → postsInFlight s = false →
     s.engines.all (fun p => !p.2.present || p.2.ended) = true →
     ∃ t r, exec .runEnd s = .next t ∧ t.cut.state = .ended ∧ t.cut.prot = false ∧ t.engines = s.engines ∧
       t.localStore = s.localStore ∧ t.crib = s.crib ∧ t.hbm = s.hbm ∧ t.time = s.time ∧ r ∈ t.err.raised ∧ r.code = 0x0502 ∧ r.w0 = reproWord s % 2 ^ 64) ∧
  (∀ (eng : BitVec 16) (noise : List HbmUpset) (s u : State) (b : List (BitVec 8)) (n : Nat),
     engValid eng.toNat = true → s.cut.state = .running → (s.engine eng.toNat).present = true →
     8 ≤ freeEntries s eng.toNat →
     n = min (freeEntries s eng.toNat) ((s.engine eng.toNat).total - (s.engine eng.toNat).next) → 0 < n →
     hbmRead ((s.engine eng.toNat).array + 16 * (s.engine eng.toNat).next) (16 * n) (fetchRequester eng.toNat) (noise.foldl (fun s u => upsetBurst u s) s) = (b,
     0, u) →
     ∃ cur, exec (.queueRefill eng noise) s = .next (deliverSteps eng.toNat
       (qsteps (s.engine eng.toNat).next (s.engine eng.toNat).fetchCursor (wordsOf b n))
       (u.modEngine eng.toNat (fun g => { g with next := g.next + n, fetchCursor := cur })))) ∧
  (∀ (eng : BitVec 16) (noise : List HbmUpset) (s u : State) (b : List (BitVec 8)) (n st : Nat),
     engValid eng.toNat = true → s.cut.state = .running → (s.engine eng.toNat).present = true →
     8 ≤ freeEntries s eng.toNat →
     n = min (freeEntries s eng.toNat) ((s.engine eng.toNat).total - (s.engine eng.toNat).next) → 0 < n →
     hbmRead ((s.engine eng.toNat).array + 16 * (s.engine eng.toNat).next) (16 * n) (fetchRequester eng.toNat) (noise.foldl (fun s u => upsetBurst u s) s) = (b,
     st, u) → st ≠ 0 →
     exec (.queueRefill eng noise) s = .next (if st = 1 then haltRun 1 (fetchRequester eng.toNat) u
       else haltRun 2 (hbmStack ((s.engine eng.toNat).array + 16 * (s.engine eng.toNat).next)) u)) ∧
  (∀ (noise : List HbmUpset) (s u v x : State) (h b : List (BitVec 8)), s.cut.state = .loading →
     hbmRead s.cut.base 256 171 (noise.foldl (fun s u => upsetBurst u s) s) = (h, 0, u) → headerBad h = false →
     lengthBad s.cut.base h = false → hbmRead (s.cut.base + 256) (hdLength h - 256) 171 u = (b, 0, v) →
     (if layoutBad (h ++ b) then (0, v) else seqReads s.cut.base (h ++ b) v) = (0, x) →
     exec (.loadComplete noise) s = .next (match imageFault x s.cut.base (h ++ b) with
       | none => completeLoad (h ++ b) x
       | some r => rejectLoad r x)) ∧
  (∀ (noise : List HbmUpset) (s u : State) (h : List (BitVec 8)), s.cut.state = .loading →
     hbmRead s.cut.base 256 171 (noise.foldl (fun s u => upsetBurst u s) s) = (h, 0, u) → headerBad h = true →
     exec (.loadComplete noise) s = .next (rejectLoad { code := 0x01 } u)) ∧
  (∀ (noise : List HbmUpset) (s u : State) (h : List (BitVec 8)) (st : Nat), s.cut.state = .loading →
     hbmRead s.cut.base 256 171 (noise.foldl (fun s u => upsetBurst u s) s) = (h, st, u) → (st = 1 ∨ st = 2) →
     exec (.loadComplete noise) s = .next (rejectLoad { code := if st = 1 then 0x14 else 0x16 } u))

/-- RAIL_FRAME_RECEIVE on a rail in LOCK or later (not MISWIRED), the rail still up after its codewords are decoded
(hearCodes): on a data lane or the spare, a frame on a wavelength without sound codewords, or failing a check, is
rejected; another passes its receiver and, where the receiver is in superframe lock, is an observation of its
identity, and a data frame of a rail in service is then taken with its sequence number and slots. On the control
channel, a codeword that was decoded in lock is an observation and brings its words. RAIL_CONTROL_LOCK_LOST in service
takes the rail down with reason 1. A word that a rail holds as the oldest of its kind leaves it, and: ACK frees the
replay buffer up to its frame, resends the frame of a negative acknowledgement, and sends what can follow; CREDIT sets
the four freed counts; TRAIN in LINK with another plane fails the rail with RAIL_MISWIRED (0x0602), with the same
plane, the far end in LINK or later and limits of 64 or more enters QUALIFY; in service TRAIN that reports LINK or
lower takes the rail down with reason 3, and one that reports ACTIVE names the parked lanes that may rejoin.
RAIL_ESCAPE_MOVE moves a head packet that has lacked credit for 4,096 grains to the escape channel of an ACTIVE rail
with credit. (This states of R246, R249, R253, R255, R257, R260, R262, R266, R284 and R288 only what is said here.)
(10_rail_links.md, 11_optical_control.md) -/
def Obligations.RailReceiveRowsComplete : Prop :=
  (∀ (rail : Fin 26) (lane wave : Fin 34) (frame : BitVec 5140) (due : Option (BitVec 16)) (codes : List (Fin 545)) (s u : State),
     2 ≤ (s.rail rail.val).state → (s.rail rail.val).state ≠ 7 →
     u = hearCodes rail.val lane.val wave.val (codes.map (·.val)) s → 2 ≤ (u.rail rail.val).state → lane.val ≠ 32 →
     ((tabGet (u.rail rail.val).rx wave.val {}).sound = false ∨ railFrameOk lane.val (frame.setWidth 4160) = false) →
     exec (.railFrameReceive rail lane wave frame due codes) s = .next (rejectFrame rail.val lane.val due
       (u.modRail rail.val (fun y => { y with rx := tabMod y.rx wave.val {} LaneRx.skip })))) ∧
  (∀ (rail : Fin 26) (lane wave : Fin 34) (frame : BitVec 5140) (due : Option (BitVec 16)) (codes : List (Fin 545)) (s u v : State),
     2 ≤ (s.rail rail.val).state → (s.rail rail.val).state ≠ 7 →
     u = hearCodes rail.val lane.val wave.val (codes.map (·.val)) s → 2 ≤ (u.rail rail.val).state → lane.val ≠ 32 →
     (tabGet (u.rail rail.val).rx wave.val {}).sound = true → railFrameOk lane.val (frame.setWidth 4160) = true →
     v = u.modRail rail.val (fun y => { y with rx := tabMod y.rx wave.val {} (fun y => y.pass (bit (frame.setWidth 4160).toNat 8) (bits (frame.setWidth 4160).toNat 0 2 == 3)) }) →
     (tabGet (u.rail rail.val).rx wave.val {}).framed = false →
     exec (.railFrameReceive rail lane wave frame due codes) s = .next v) ∧
  (∀ (rail : Fin 26) (lane wave : Fin 34) (frame : BitVec 5140) (due : Option (BitVec 16)) (codes : List (Fin 545)) (s u v w : State),
     2 ≤ (s.rail rail.val).state → (s.rail rail.val).state ≠ 7 →
     u = hearCodes rail.val lane.val wave.val (codes.map (·.val)) s → 2 ≤ (u.rail rail.val).state → lane.val ≠ 32 →
     (tabGet (u.rail rail.val).rx wave.val {}).sound = true → railFrameOk lane.val (frame.setWidth 4160) = true →
     v = u.modRail rail.val (fun y => { y with rx := tabMod y.rx wave.val {} (fun y => y.pass (bit (frame.setWidth 4160).toNat 8) (bits (frame.setWidth 4160).toNat 0 2 == 3)) }) →
     (tabGet (u.rail rail.val).rx wave.val {}).framed = true →
     w = observe (2 * rail.val + 1) wave.val (frameIdentity lane.val (frame.setWidth 4160)) (railRing rail.val 1 wave.val) v →
     exec (.railFrameReceive rail lane wave frame due codes) s = .next (if bits (frame.setWidth 4160).toNat 0 2 = 1 ∧ ((w.rail rail.val).state = 5 ∨ (w.rail rail.val).state = 6) then
       takeFrame rail.val (bits (frame.setWidth 4160).toNat 9 16) (frameSlots (frame.setWidth 4160)) w else w)) ∧
  (∀ (rail : Fin 26) (lane wave : Fin 34) (frame : BitVec 5140) (due : Option (BitVec 16)) (codes : List (Fin 545)) (s u : State),
     2 ≤ (s.rail rail.val).state → (s.rail rail.val).state ≠ 7 →
     u = hearCodes rail.val lane.val wave.val (codes.map (·.val)) s → 2 ≤ (u.rail rail.val).state → lane.val = 32 →
     (tabGet (u.rail rail.val).rx wave.val {}).locked = true →
     (tabGet (u.rail rail.val).rx wave.val {}).lost = false →
     exec (.railFrameReceive rail lane wave frame due codes) s = .next (observe (2 * rail.val + 1) wave.val (bits frame.toNat 5120 6) (railRing rail.val 1 wave.val)
       (u.modRail rail.val (Rail.takeCodeword frame)))) ∧
  (∀ (rail : Fin 26) (s : State), ((s.rail rail.val).state = 5 ∨ (s.rail rail.val).state = 6) →
     exec (.railControlLockLost rail) s = .next (railDown rail.val 1 0 s)) ∧
  (∀ (rail : Fin 26) (word : BitVec 256) (s u : State), GoodWord rail.val 0x01 word s →
     u = (withoutWord rail.val word s).modRail rail.val (fun x => { x with replay := x.replay.filter (fun f => 2048 ≤ seqDist f.seq (ctl word 8 16)) }) →
     exec (.railAck rail word) s = .next (pump rail.val
       (if bit word.toNat 40 then resendFrame rail.val (ctl word 24 16) u else u))) ∧
  (∀ (rail : Fin 26) (word : BitVec 256) (s : State), GoodWord rail.val 0x02 word s →
     exec (.railCredit rail word) s = .next (pump rail.val ((withoutWord rail.val word s).modRail rail.val (fun x =>
       { x with freed := (List.range 4).map (fun v => (v, ctl word (8 + 32 * v) 32)) })))) ∧
  (∀ (rail : Fin 26) (word : BitVec 256) (s u : State), GoodWord rail.val 0x04 word s →
     u = (withoutWord rail.val word s).modRail rail.val (fun x => { x with trainRx := word }) →
     (s.rail rail.val).state = 3 → ctl word 57 5 ≠ rail.val →
     exec (.railTrainWord rail word) s = .next (evalReady (answerTrain rail.val (raise 0x0602 0 rail.val (ctl word 57 5) 0 0
       (u.modRail rail.val (fun x => { x with state := 7, stateSince := s.now })))))) ∧
  (∀ (rail : Fin 26) (word : BitVec 256) (s u : State), GoodWord rail.val 0x04 word s →
     u = (withoutWord rail.val word s).modRail rail.val (fun x => { x with trainRx := word }) →
     (s.rail rail.val).state = 3 → ctl word 57 5 = rail.val → 3 ≤ ctl word 8 4 → ctl word 8 4 ≤ 6 →
     (trainLimits word).all (fun l => decide (64 ≤ l.2)) = true →
     exec (.railTrainWord rail word) s = .next (enterLink rail.val 4 (u.modRail rail.val (fun x => { x with limits := trainLimits word })))) ∧
  (∀ (rail : Fin 26) (word : BitVec 256) (s u : State), GoodWord rail.val 0x04 word s →
     u = (withoutWord rail.val word s).modRail rail.val (fun x => { x with trainRx := word }) →
     ((s.rail rail.val).state = 5 ∨ (s.rail rail.val).state = 6) → ctl word 8 4 ≤ 3 →
     exec (.railTrainWord rail word) s = .next (railDown rail.val 3 0 u)) ∧
  (∀ (rail : Fin 26) (word : BitVec 256) (s u : State), GoodWord rail.val 0x04 word s →
     u = (withoutWord rail.val word s).modRail rail.val (fun x => { x with trainRx := word }) →
     ((s.rail rail.val).state = 5 ∨ (s.rail rail.val).state = 6) → ctl word 8 4 = 5 →
     exec (.railTrainWord rail word) s = .next (u.modRail rail.val (fun x => { x with
           trainMask := BitVec.ofNat 32 (ctl word 12 32) &&& x.parked }))) ∧
  (∀ (rail : Fin 26) (channel : Fin 3) (s : State) (p : Packet) (g q : Nat),
     queueHead (s.rail rail.val) channel.val = some (p, some g) →
     s.activeRail (railEntry s p.epoch p.dst).2 = some q → g + 4096 ≤ s.now →
     p.slots.length ≤ (s.rail q).credit 3 →
     exec (.railEscapeMove rail channel) s = .next (pump rail.val (sendOn q (p.onChannel 3)
       (s.modRail rail.val (fun x => { x with queue := delFirst (fun y => y.1.vc == channel.val) x.queue })))))

/-- RAIL_TRAIN_STEP_DONE: a rail that is DOWN and may train enters OPTICAL unless the part fuses it out (log entry 5);
in OPTICAL the locked wavelengths and their rings are judged (opticalDone); LOCK leads to LINK once every wavelength
has its locks (lockDone); QUALIFY, once every wavelength is measured, judges its channels (qualifyDone); an ACTIVE
rail reports requalified lanes in a TRAIN word (reportParked). A Yuley port that may train goes from DOWN to its first
state; its OPTICAL ends with the wavelengths that locked (portOptical); LOCK ends with its locks, and the lane
measurement starts as the state after LINK is entered; once measured it fails its attempt when no lane qualifies, and
is ACTIVE with the lanes that do. RAIL_TRAIN_TIMEOUT past a state's limit fails the attempt of the rail or port.
RAIL_SUBSTITUTE at a boundary, once logical rails are assigned, looks at every logical rail for a STANDBY rail to take
its place (assignRails). (This states of R244, R259, R261, R264, R268, R288, R373 and R460 only what is said here.)
(10_rail_links.md, 11_optical_control.md, 15_commands.md, 19_reset_and_bringup.md) -/
def Obligations.RailTrainingRowsComplete : Prop :=
  (∀ (link : Fin 28) (tx rx : BitVec 34) (cals : RingCals) (s : State), link.val < 26 →
     (s.rail link.val).state = 1 →
     exec (.railTrainStepDone link tx rx cals) s = .next (opticalDone link.val (setBits 34 tx.toNat) (setBits 34 rx.toNat) cals s)) ∧
  (∀ (link : Fin 28) (tx rx : BitVec 34) (cals : RingCals) (s : State), link.val < 26 →
     (s.rail link.val).state = 2 → lockDone s link.val = true →
     exec (.railTrainStepDone link tx rx cals) s = .next (enterLink link.val 3 s)) ∧
  (∀ (link : Fin 28) (tx rx : BitVec 34) (cals : RingCals) (s : State), link.val < 26 →
     (s.rail link.val).state = 4 → measured (s.rail link.val).rxWaves (s.rail link.val).rx = true →
     exec (.railTrainStepDone link tx rx cals) s = .next (qualifyDone link.val s)) ∧
  (∀ (link : Fin 28) (tx rx : BitVec 34) (cals : RingCals) (s : State), link.val < 26 →
     (s.rail link.val).state = 5 →
     exec (.railTrainStepDone link tx rx cals) s = .next (reportParked link.val s)) ∧
  (∀ (link : Fin 28) (tx rx : BitVec 34) (cals : RingCals) (s : State), link.val < 26 →
     (s.rail link.val).state = 0 → (s.rail link.val).heldDown = false → s.railHeld link.val = false →
     edgeDark s (railEdge link.val) = false → s.mayTrain = true →
     exec (.railTrainStepDone link tx rx cals) s = .next (if Config.railFusedBad link.val then s else enterLink link.val 1 s)) ∧
  (∀ (link : Fin 28) (tx rx : BitVec 34) (cals : RingCals) (s : State), 26 ≤ link.val →
     (s.yport (link.val - 26)).state = 0 → edgeDark s (link.val - 26) = false → s.pwr.regFaults.contains (3,
     0x60 + (link.val - 26)) = false → s.mayTrain = true →
     exec (.railTrainStepDone link tx rx cals) s = .next (s.modPort (link.val - 26) (fun x => { x with state := 1, stateSince := s.now }))) ∧
  (∀ (link : Fin 28) (tx rx : BitVec 34) (cals : RingCals) (s : State), 26 ≤ link.val →
     (s.yport (link.val - 26)).state = 1 →
     exec (.railTrainStepDone link tx rx cals) s = .next (portOptical (link.val - 26) rx cals s)) ∧
  (∀ (link : Fin 28) (tx rx : BitVec 34) (cals : RingCals) (s : State), 26 ≤ link.val →
     (s.yport (link.val - 26)).state = 2 → yuleyLocked (s.yport (link.val - 26)) = true →
     exec (.railTrainStepDone link tx rx cals) s = .next (s.modPort (link.val - 26) (fun x => { x with state := 3, stateSince := s.now }))) ∧
  (∀ (link : Fin 28) (tx rx : BitVec 34) (cals : RingCals) (s : State), 26 ≤ link.val →
     (s.yport (link.val - 26)).state = 3 →
     exec (.railTrainStepDone link tx rx cals) s = .next (s.modPort (link.val - 26) (fun x =>
       { x with state := 4, stateSince := s.now, rx := x.rx.map (fun q => (q.1, q.2.restart)) }))) ∧
  (∀ (link : Fin 28) (tx rx : BitVec 34) (cals : RingCals) (s : State), 26 ≤ link.val →
     (s.yport (link.val - 26)).state = 4 →
     measured ((s.yport (link.val - 26)).rxWaves &&& 0x3C00) (s.yport (link.val - 26)).rx = true →
     exec (.railTrainStepDone link tx rx cals) s = .next (if yuleyQualified (s.yport (link.val - 26)) = 0 then failPort (link.val - 26) s
       else evalReady (s.modPort (link.val - 26) (fun x => { x with
             state := 5, stateSince := s.now, lanes := yuleyQualified (s.yport (link.val - 26)) })))) ∧
  (∀ (link : Fin 28) (s : State), link.val < 26 →
     overran s (s.rail link.val).state (s.rail link.val).stateSince = true →
     exec (.railTrainTimeout link) s = .next (failAttempt link.val s)) ∧
  (∀ (link : Fin 28) (s : State), 26 ≤ link.val →
     overran s (s.yport (link.val - 26)).state (s.yport (link.val - 26)).stateSince = true →
     exec (.railTrainTimeout link) s = .next (failPort (link.val - 26) s)) ∧
  (∀ (s : State), s.atBoundary = true → s.railTop.assigned = true →
     exec .railSubstitute s = .next (noteNarrow (evalReady (formRails (assignRails true s)))))

/-- RAIL_FLIP_WRITE, an accepted write of a sheaf F at least 64 ahead and of the other epoch with no flip pending,
schedules it; RAIL_MAP_WRITE of a valid entry into the version not in use, with no flip draining, writes that entry
alone. EPOCH_CONTRIBUTE from F - 32 on contributes once. EPOCH_RESULT for F before F is kept. RAIL_EPOCH_FLIP at the
boundary of F changes the epoch if the result came back ready, and otherwise gives the flip up with RAIL_FLIP_FAILED
(0x0606). RAIL_DRAIN_ZERO with nothing of the old epoch left ends the flip; RAIL_DRAIN_TIMEOUT 2^20 grains after it
treats what is left as undelivered and raises RAIL_DRAIN_TIMEOUT (0x0607). (This states of R258, R267, R268, R270 and
R386 only what is said here.) (10_rail_links.md, 15_commands.md) -/
def Obligations.RailFlipRowsComplete : Prop :=
  (∀ (p : CmdPkt) (s : State) (v : Nat), Writes 0x00A00001 v p s → s.railTop.flipPending = false →
     s.fleetSheaf + 64 ≤ bits v 0 52 → bit v 52 ≠ s.railTop.epoch →
     exec (.railFlipWrite p) s = .next (finish p.ref 0 [] { takePacket p s with railTop := { s.railTop with flipSheaf := bits v 0 52, flipEpoch := bit v 52, flipPending := true, contributed := false, result := none, flippedAt := none } })) ∧
  (∀ (p : CmdPkt) (s : State) (v i : Nat), Writes (0x00A10000 + i) v p s → i < 8192 → bits v 24 5 ≤ 23 →
     decide (4096 ≤ i) ≠ s.railTop.epoch → s.railTop.flippedAt = none →
     exec (.railMapWrite p) s = .next (finish p.ref 0 [] { takePacket p s with railTop := { s.railTop with map := tabPut s.railTop.map i (BitVec.ofNat 32 (v % 2 ^ 29)) } })) ∧
  (∀ (s : State), s.railTop.flipPending = true → s.railTop.flippedAt = none → s.railTop.contributed = false →
     s.railTop.flipSheaf ≤ s.fleetSheaf + 32 → s.fleetSheaf < s.railTop.flipSheaf →
     exec .epochContribute s = .next (contributeEpoch { s with railTop := { s.railTop with contributed := true } })) ∧
  (∀ (rail : Fin 26) (word : BitVec 256) (s u : State), GoodResult rail.val 0x23 (ctl word 25 52) word s →
     u = forget 0x23 (ctl word 25 52) (withoutWord rail.val word s) → s.railTop.flipPending = true →
     ctl word 25 52 = s.railTop.flipSheaf → s.fleetSheaf < s.railTop.flipSheaf →
     exec (.epochResult rail word) s = .next { u with
           railTop := { u.railTop with result := some (bit word.toNat 77) } }) ∧
  (∀ (s : State), s.railTop.flipPending = true → s.railTop.flippedAt = none → s.atBoundary = true →
     s.railTop.flipSheaf ≤ s.fleetSheaf → s.railTop.result = some true →
     exec .railEpochFlip s = .next (formRails { s with
           railTop := { s.railTop with epoch := s.railTop.flipEpoch, flippedAt := some s.now, timedOut := false, result := none } })) ∧
  (∀ (s : State), s.railTop.flipPending = true → s.railTop.flippedAt = none → s.atBoundary = true →
     s.railTop.flipSheaf ≤ s.fleetSheaf → s.railTop.result ≠ some true →
     exec .railEpochFlip s = .next (raise 0x0606 0 (flipWord s.railTop) 0 0 0 { s with
           railTop := { s.railTop with flipPending := false, result := none } })) ∧
  (∀ (s : State) (g : Nat), s.railTop.flippedAt = some g → railDrain s = 0 →
     exec .railDrainZero s = .next { s with
           railTop := { s.railTop with flipPending := false, flippedAt := none, timedOut := false } }) ∧
  (∀ (s : State) (g : Nat), s.railTop.flippedAt = some g → g + 2 ^ 20 ≤ s.now → s.railTop.timedOut = false →
     railDrain s ≠ 0 →
     exec .railDrainTimeout s = .next (undeliverOld (raise 0x0607 0 (railDrain s) 0 0 0 { s with
           railTop := { s.railTop with drainTimeout := true, timedOut := true } })))

/-- For a result of this stook with an outstanding key, in a word that its rail holds as the oldest of its kind, the
word and the key are gone, and: TALLY_RESULT keeps its value under its fleet sheaf (and one for a multiple of 256 is
answered by TIMECHK where the list takes part); TIMECHK_RESULT raises RAIL_TIME_MISMATCH (0x0601) where its sheaves
differ by 2 or more, and does nothing more otherwise; BARRIER_RESULT releases the stook barrier it names.
STRAY_COMBINED_WORD counts a word with result 0, or for another stook. TALLY_MISS, four sheaves on, records the miss
and raises PWR_TALLY_MISSED (0x0A05). (This states of R224, R258 and R436 only what is said here.) (09_cut_lists.md,
10_rail_links.md, 18_power_thermal.md) -/
def Obligations.CombinedWordRowsComplete : Prop :=
  (∀ (rail : Fin 26) (word : BitVec 256) (s u v : State), GoodResult rail.val 0x21 (ctl word 24 52) word s →
     u = forget 0x21 (ctl word 24 52) (withoutWord rail.val word s) →
     v = { u with pwr := { u.pwr with results := tabPut u.pwr.results (ctl word 24 52) (ctl word 76 8) } } →
     exec (.tallyResult rail word) s = .next (if ctl word 24 52 % 256 = 0 ∧ v.tallies then contributeTimechk (ctl word 24 52) v else v)) ∧
  (∀ (rail : Fin 26) (word : BitVec 256) (s u : State), GoodResult rail.val 0x22 (ctl word 24 52) word s →
     u = forget 0x22 (ctl word 24 52) (withoutWord rail.val word s) →
     exec (.timechkResult rail word) s = .next (if ctl word 76 52 + 2 ≤ ctl word 128 52 then
       raise 0x0601 0 (ctl word 76 52) (ctl word 128 52) (ctl word 24 52) 0 u else u)) ∧
  (∀ (rail : Fin 26) (word : BitVec 256) (s u : State), GoodResult rail.val 0x20 (ctl word 24 16) word s →
     u = forget 0x20 (ctl word 24 16) (withoutWord rail.val word s) →
     exec (.barrierResult rail word) s = .next (barRelease (2, ctl word 24 16, 0) u)) ∧
  (∀ (rail : Fin 26) (word : BitVec 256) (s : State), GoodWord rail.val (ctlKind word) word s →
     0x20 ≤ ctlKind word → ctlKind word ≤ 0x23 → combinedOk s word = false →
     exec (.strayCombinedWord rail word) s = .next (countStray rail.val (withoutWord rail.val word s))) ∧
  (∀ (s : State) (g f : Nat), s.time.strobed = some g →
     s.pwr.tallied.find? (fun f => decide (f + 4 ≤ g / 4096)) = some f →
     ∃ t r, exec .tallyMiss s = .next t ∧ t.pwr.tallied = setDel s.pwr.tallied f ∧ t.pwr.tallyMiss = true ∧
       (s.runActive = true → t.repro.tallyMiss = true) ∧ t.err.raised = s.err.raised ++ [r] ∧ r.code = 0x0A05 ∧ r.w0 = f % 2 ^ 64 ∧
       t = { s with pwr := t.pwr, repro := t.repro, err := t.err })

/-- RING_LOOP_TICK sets a ring's trim, its heater (feedforward at the bank's temperature plus trim, within 16 bits),
its monitored power and its run of small errors from the readings; a locked ring that is not an off peg counts weak
integrations, and its feedforward slope moves by at most 1 part in 4,096 by a free value, that of another ring stays
(log entry 8). RING_LOCKED after 16 such periods, RING_UNLOCKED after four weak integrations, and RING_REACQUIRED of a
ring that is neither failed nor slipped, its trim within half a spacing, change its lock. RING_SLIP_RECOVERY_DONE
undoes the slip of a ring; on a rail fibre, where it is that ring's turn, its wavelength is then free and the next
recovery starts. RING_RECOVERY_TIMEOUT 200,000 grains on fails it; on a rail fibre, where it is its turn, its
wavelength is retired and the next recovery starts. COMB_FAIL of a lit comb fails it (combFails). (This states of
R275, R277, R278, R279, R280, R281, R290 and R291 only what is said here.) (11_optical_control.md) -/
def Obligations.RingRowsComplete : Prop :=
  (∀ (ring : RingId) (tbank : BitVec 16) (hi lo : BitVec 8) (s u : State) (x : Ring),
     u = readBank ring.place tbank.toInt s → x = u.ring (ringKey ring) →
     ∃ t y f, exec (.ringLoopTick ring tbank hi lo) s = .next t ∧ y = loopTrim ring (ringOff u ring) x hi.toNat lo.toNat f ∧
       (t.ring (ringKey ring)).trim = y.1 ∧ (t.ring (ringKey ring)).heater = (max 0 (min 65535 (x.ff tbank.toInt + y.1))).toNat ∧
       (t.ring (ringKey ring)).power = max hi.toNat lo.toNat ∧ (t.ring (ringKey ring)).locked = x.locked ∧
       (t.ring (ringKey ring)).quiet = (if y.2.natAbs ≤ 4 then min (x.quiet + 1) 16 else 0) ∧
       (t.ring (ringKey ring)).weak = (if x.locked ∧ ringOff u ring = false then weakCount x hi.toNat lo.toNat else 0) ∧
       (x.locked = false → (t.ring (ringKey ring)).kff = x.kff) ∧
       (x.locked = true → ((t.ring (ringKey ring)).kff - x.kff).natAbs ≤ x.kff.natAbs / 4096) ∧
       t = { u with opt := t.opt, free := t.free }) ∧
  (∀ (ring : RingId) (s : State), (s.ring (ringKey ring)).locked = false → (s.ring (ringKey ring)).failed = false →
     (s.ring (ringKey ring)).slipped = none → (s.ring (ringKey ring)).quiet = 16 →
     exec (.ringLocked ring) s = .next (s.modRing (ringKey ring) (fun x => { x with
           locked := true, lockedPower := x.power, weak := 0 }))) ∧
  (∀ (ring : RingId) (s : State), (s.ring (ringKey ring)).locked = true → (s.ring (ringKey ring)).weak = 4 →
     exec (.ringUnlocked ring) s = .next (s.modRing (ringKey ring) (fun x => { x with locked := false, quiet := 0, weak := 0 }))) ∧
  (∀ (ring : RingId) (trim : BitVec 16) (power : BitVec 8) (s : State), (s.ring (ringKey ring)).locked = false →
     (s.ring (ringKey ring)).failed = false → (s.ring (ringKey ring)).slipped = none →
     2 * (trim.toInt.natAbs : Int) ≤ (s.ring (ringKey ring)).spacing →
     exec (.ringReacquired ring trim power) s = .next (ringBack ring (s.modRing (ringKey ring) (fun x =>
       { x with
             locked := true, trim := trim.toInt, quiet := 16, weak := 0, power := power.toNat,
             lockedPower := power.toNat })))) ∧
  (∀ (ring : RingId) (s u : State) (g : Nat), (s.ring (ringKey ring)).slipped = some g →
     (s.ring (ringKey ring)).failed = false → railFibre ring.place = none →
     u = s.modRing (ringKey ring) (fun x => { x with trim := x.trim - (s.ring (ringKey ring)).lines * (s.ring (ringKey ring)).spacing, slipped := none, locked := true, quiet := 16, weak := 0 }) →
     exec (.ringSlipRecoveryDone ring) s = .next (yuleyLane ring true (noteSlip ring (s.ring (ringKey ring)).lines true u))) ∧
  (∀ (ring : RingId) (s u : State) (g q d : Nat), (s.ring (ringKey ring)).slipped = some g →
     (s.ring (ringKey ring)).failed = false → railFibre ring.place = some (q, d) →
     (s.fibre (2 * q + d)).recovering = some ring.wave.val →
     u = s.modRing (ringKey ring) (fun x => { x with trim := x.trim - (s.ring (ringKey ring)).lines * (s.ring (ringKey ring)).spacing, slipped := none, locked := true, quiet := 16, weak := 0 }) →
     exec (.ringSlipRecoveryDone ring) s =
       .next (nextRecovery q d (ringBack ring (yuleyLane ring true (noteSlip ring (s.ring (ringKey ring)).lines true u))))) ∧
  (∀ (ring : RingId) (s : State) (g : Nat), (s.ring (ringKey ring)).slipped = some g →
     (s.ring (ringKey ring)).failed = false → g + 200000 ≤ s.now → railFibre ring.place = none →
     exec (.ringRecoveryTimeout ring) s = .next (s.modRing (ringKey ring) (fun x => { x with failed := true }))) ∧
  (∀ (ring : RingId) (s : State) (g q d : Nat), (s.ring (ringKey ring)).slipped = some g →
     (s.ring (ringKey ring)).failed = false → g + 200000 ≤ s.now → railFibre ring.place = some (q, d) →
     (s.fibre (2 * q + d)).recovering = some ring.wave.val →
     exec (.ringRecoveryTimeout ring) s =
       .next (nextRecovery q d (retireWave q d ring.wave.val (s.modRing (ringKey ring) (fun x => { x with failed := true }))))) ∧
  (∀ (comb : Fin 8) (s : State), ((s.comb comb.val).state = 1 ∨ (s.comb comb.val).state = 2) →
     exec (.combFail comb) s = .next (combFails comb.val s))

/-- IDENT_SEND on a rail from LOCK on puts one word of kind IDENT on its control channel, with for each of the 34
wavelengths the identity that its receiver holds (identValue), which the fibre's map then shows. IDENT, a word that
its rail holds as the oldest of its kind, takes in service the far end's report of each of the 34 wavelengths, and
then mends those with a mismatch, the control channel's first and then the data channels' in ascending order.
ROTATION_SLOT_END of a fibre that rotates, moves nothing and recovers nothing measures the spare's ring and the combs
of the rail's edge: on the receive fibre a slot without uncorrectable codewords and with at most 356 errors keeps the
wavelength, and another retires it; on the transmit fibre the next channel's slot begins (visit). (This states of
R284, R286, R287, R288, R289, R290 and R297 only what is said here.) (11_optical_control.md) -/
def Obligations.FibreRowsComplete : Prop :=
  (∀ (rail : Fin 26) (s : State), 2 ≤ (s.rail rail.val).state → (s.rail rail.val).state ≤ 6 →
     ∃ u, exec (.identSend rail) s = .next (putWord rail.val (ctlWord (0x03 + ((List.range 34).map (fun w =>
         (w, identValue (tabGet (s.rail rail.val).rx w {}) (s.fibre (2 * rail.val + 1)) w))).foldl (fun a p => a + p.2 * 2 ^ (8 + 6 * p.1)) 0)) u) ∧
       (u.fibre (2 * rail.val + 1)).map = (List.range 34).map (fun w =>
         (w, identValue (tabGet (s.rail rail.val).rx w {}) (s.fibre (2 * rail.val + 1)) w)) ∧ u = { s with opt := u.opt }) ∧
  (∀ (rail : Fin 26) (word : BitVec 256) (s u : State) (a : State × List Nat), GoodWord rail.val 0x03 word s →
     u = withoutWord rail.val word s → ((s.rail rail.val).state = 5 ∨ (s.rail rail.val).state = 6) →
     a = (List.range 34).foldl (identReport rail.val word) (u, []) →
     exec (.identWord rail word) s = .next ((((32 :: List.range 32) ++ (List.range 31).map (· + 33)).flatMap (fun c =>
       a.2.filter (fun w => (u.fibre (2 * rail.val)).code w == c))).foldl (mendWave rail.val) a.1)) ∧
  (∀ (rail : Fin 26) (uncorrectable errors : BitVec 32) (cal : RingCal) (combs : BitVec 16) (s u : State) (w : Nat),
     (s.fibre (2 * rail.val + 1)).spare = some w → ((s.rail rail.val).state = 5 ∨ (s.rail rail.val).state = 6) →
     (s.fibre (2 * rail.val + 1)).rotating = true → (s.fibre (2 * rail.val + 1)).moving = none →
     (s.fibre (2 * rail.val + 1)).recovering = none →
     u = measureCombs (railEdge rail.val) combs (s.modRing (ringKey (railRing rail.val 1 w)) (measureRing cal)) →
     uncorrectable = 0 → errors.toNat ≤ 356 →
     exec (.rotationSlotEnd rail 1 uncorrectable errors cal combs) s = .next u) ∧
  (∀ (rail : Fin 26) (uncorrectable errors : BitVec 32) (cal : RingCal) (combs : BitVec 16) (s u : State) (w : Nat),
     (s.fibre (2 * rail.val + 1)).spare = some w → ((s.rail rail.val).state = 5 ∨ (s.rail rail.val).state = 6) →
     (s.fibre (2 * rail.val + 1)).rotating = true → (s.fibre (2 * rail.val + 1)).moving = none →
     (s.fibre (2 * rail.val + 1)).recovering = none →
     u = measureCombs (railEdge rail.val) combs (s.modRing (ringKey (railRing rail.val 1 w)) (measureRing cal)) →
     (uncorrectable ≠ 0 ∨ 356 < errors.toNat) →
     exec (.rotationSlotEnd rail 1 uncorrectable errors cal combs) s = .next (retireWave rail.val 1 w u)) ∧
  (∀ (rail : Fin 26) (uncorrectable errors : BitVec 32) (cal : RingCal) (combs : BitVec 16) (s u : State) (w : Nat),
     (s.fibre (2 * rail.val)).spare = some w → ((s.rail rail.val).state = 5 ∨ (s.rail rail.val).state = 6) →
     (s.fibre (2 * rail.val)).rotating = true → (s.fibre (2 * rail.val)).moving = none →
     (s.fibre (2 * rail.val)).recovering = none →
     u = measureCombs (railEdge rail.val) combs (s.modRing (ringKey (railRing rail.val 0 w)) (measureRing cal)) →
     exec (.rotationSlotEnd rail 0 uncorrectable errors cal combs) s = .next (visit rail.val (some (s.fibre (2 * rail.val)).slot) u))

/-- BATCH_START of an armed engine with no batch begins one with a valid header, post and layout; otherwise the batch
is rejected (rejectBatch). REMOTE_RECORD_ISSUE, records being left and no FENCE waited for: a record that is not valid
ends with 0x0161; a FENCE notes the requests it waits for; another ends with 0x0464 under a reset of its site, and is
issued as a request where its windows and a way out allow it and, with sflag, no earlier STORE is out. FENCE completes
once every request it names is done. REMOTE_RESPONSE takes the oldest response of its arrival list: one that is
malformed or answers nothing that is out changes nothing more; another notes its mark in the window, and BUSY leaves
the request to be resent, a final status ends it. REMOTE_UNDELIVERED, REMOTE_BUSY_RESEND and REMOTE_RESPONSE_TIMEOUT
resend a request that is due (resendIf), and FAB_TIMEOUT 2^22 grains after the first send ends it with 0x0463 and
raises FAB_TIMEOUT (0x0803). (This states of R303, R304, R305, R308, R313, R318, R319, R320, R325 and R450 only what
is said here.) (12_memory_fabric.md, 19_reset_and_bringup.md) -/
def Obligations.RemoteEngineRowsComplete : Prop :=
  (∀ (eng : Fin 64) (s u : State) (q : Option (Nat × Nat)), (s.fabEng eng.val).armed = true →
     (s.fabEng eng.val).batch = none → u = s.modFab eng.val (fun x => { x with armed := false }) →
     headerPost u (batchHeader u eng.val) = some q → 1 ≤ bits (batchHeader u eng.val) 0 16 →
     bits (batchHeader u eng.val) 0 16 ≤ 2046 → bits (batchHeader u eng.val) 39 473 = 0 →
     layoutOk u eng.val (bits (batchHeader u eng.val) 0 16) = true →
     exec (.batchStart eng) s = .next (u.modFab eng.val (fun x => { x with
           batch := some { count := bits (batchHeader u eng.val) 0 16, post := q } }))) ∧
  (∀ (eng : Fin 64) (s u : State) (h : Nat), (s.fabEng eng.val).armed = true → (s.fabEng eng.val).batch = none →
     u = s.modFab eng.val (fun x => { x with armed := false }) → h = batchHeader u eng.val →
     (headerPost u h = none ∨ ¬ (1 ≤ bits h 0 16 ∧ bits h 0 16 ≤ 2046 ∧ bits h 39 473 = 0 ∧
     layoutOk u eng.val (bits h 0 16) = true)) →
     exec (.batchStart eng) s = .next (rejectBatch eng.val (headerPost u h) u)) ∧
  (∀ (eng : Fin 64) (s : State) (b : Batch), (s.fabEng eng.val).batch = some b → b.next < b.count →
     b.fence = none → recordOk (batchRecord s eng.val b.next) (s.fabEng eng.val).spelt = false →
     exec (.remoteRecordIssue eng) s = .next (recordStatus eng.val b.next 0x0161 false 0
       (s.modFab eng.val (fun x => { x with batch := x.batch.map (fun c => { c with next := b.next + 1 }) })))) ∧
  (∀ (eng : Fin 64) (s : State) (b : Batch), (s.fabEng eng.val).batch = some b → b.next < b.count →
     b.fence = none → recordOk (batchRecord s eng.val b.next) (s.fabEng eng.val).spelt = true →
     recOp (batchRecord s eng.val b.next) = 0x30 →
     exec (.remoteRecordIssue eng) s = .next (s.modFab eng.val (fun x => { x with
           batch := x.batch.map (fun c => { c with next := b.next + 1, fence := some (fenceList (s.fabEng eng.val) (batchRecord s eng.val b.next)), fenceRec := b.next }) }))) ∧
  (∀ (eng : Fin 64) (s : State) (b : Batch) (r : Nat), (s.fabEng eng.val).batch = some b → b.next < b.count →
     b.fence = none → r = batchRecord s eng.val b.next → recordOk r (s.fabEng eng.val).spelt = true →
     recOp r ≠ 0x30 → s.railBlocked (fabSite eng.val) = true →
     exec (.remoteRecordIssue eng) s = .next (recordStatus eng.val b.next 0x0464 false 0
       (s.modFab eng.val (fun x => { x with batch := x.batch.map (fun c => { c with next := b.next + 1 }) })))) ∧
  (∀ (eng : Fin 64) (s : State) (b : Batch) (r m : Nat) (w : Way), (s.fabEng eng.val).batch = some b →
     b.next < b.count → b.fence = none → r = batchRecord s eng.val b.next →
     recordOk r (s.fabEng eng.val).spelt = true → recOp r ≠ 0x30 → s.railBlocked (fabSite eng.val) = false →
     m = recAddr r / 2 ^ 52 →
     w = (if m = s.fab.module then Way.rail 26 else chooseRail s s.railTop.epoch m (m + eng.val) none) →
     mayIssue s (s.fabEng eng.val) m = true → w ≠ .wait →
     (recSflag r = false ∨ storesOut (s.fabEng eng.val) = false) →
     exec (.remoteRecordIssue eng) s = .next (issueRequest eng.val b.next r w s)) ∧
  (∀ (eng : Fin 64) (s : State) (b : Batch) (l : List (Nat × Nat)), (s.fabEng eng.val).batch = some b →
     b.fence = some l → l.all (fun d => decide (seqOver d.2 ((s.fabEng eng.val).dest d.1).done < 2 ^ 23)) = true →
     exec (.fabFence eng) s = .next (recordStatus eng.val b.fenceRec 0 false 0
       (s.modFab eng.val (fun x => { x with batch := x.batch.map (fun b => { b with fence := none }) })))) ∧
  (∀ (rail : Fin 27) (s u : State) (p : Packet), takeArrived rail.val (fun p => p.cls == 2) s = some (p, u) →
     (64 ≤ p.flow ∨ responseOk p = false ∨ (u.fabEng p.flow).outOf p.src p.seq = none) →
     exec (.remoteResponse rail) s = .next u) ∧
  (∀ (rail : Fin 27) (s u v : State) (p : Packet) (o : Outreq) (marked busy : Bool),
     takeArrived rail.val (fun p => p.cls == 2) s = some (p, u) → p.flow < 64 → responseOk p = true →
     (u.fabEng p.flow).outOf p.src p.seq = some o → marked = (p.cmark || bit p.head 70) →
     busy = (p.fld 104 16 == 0x0461) →
     (v = (u.modDest p.flow p.src (windowAfter u.now marked)).modFab p.flow (fun x => { x with out := x.out.map (fun y => if y.dest = p.src ∧ y.seq = p.seq then { o with marked := o.marked || marked, resent := o.resent || p.late, busy := o.busy || busy, busyAt := if busy then some u.now else o.busyAt, unsent := o.unsent && !busy } else y) })) →
     exec (.remoteResponse rail) s = .next (if busy then v
       else endRequest p.flow p.src p.seq (p.fld 104 16) (p.fld 128 64) (p.data (p.fld 72 8 + 1)) v)) ∧
  (∀ (eng : Fin 64) (dest : Fin 4096) (seq : BitVec 24) (s : State),
     exec (.remoteUndelivered eng dest seq) s = .next (resendIf eng.val dest.val seq.toNat (·.unsent) s) ∧
     exec (.remoteBusyResend eng dest seq) s = .next (resendIf eng.val dest.val seq.toNat
       (fun o => match o.busyAt with | some g => decide (g + 512 ≤ s.now) | none => false) s) ∧
     exec (.remoteResponseTimeout eng dest seq) s = .next (resendIf eng.val dest.val seq.toNat
       (fun o => !o.unsent && o.busyAt.isNone && decide (o.last + 2 ^ 18 ≤ s.now)) s)) ∧
  (∀ (eng : Fin 64) (dest : Fin 4096) (seq : BitVec 24) (s : State) (o : Outreq),
     (s.fabEng eng.val).outOf dest.val seq.toNat = some o → o.first + 2 ^ 22 ≤ s.now →
     exec (.fabTimeout eng dest seq) s = .next (endRequest eng.val dest.val seq.toNat 0x0463 0 []
       (raise 0x0803 0 eng.val dest.val seq.toNat 0 (s.modFab eng.val (fun x => { x with timeout := true })))))

/-- LOAD_OP, STORE and the eight atomics each serve the entry of a stack's queue that they name, if its operation is
the row's and no earlier entry has its line: the entry leaves the queue and the operation is applied (applyLoad,
applyStore, applyAtomic). REMOTE_REQUEST_ADMIT of an arrived request that is not valid answers 0x0161; one that is
valid and has a record, or room for one, advances its stream's record and is taken (takeRequest), and what it releases
of the hold pool follows; with the table full it is answered BUSY and FAB_STREAMS_FULL (0x0802) is raised.
STREAM_RECORD_FREE frees a record that holds nothing and has been silent for 2^23 grains. The order in which entries
are served is the row's operand (log entry 10). (This states of R300, R309, R312, R315, R316, R323 and R324 only what
is said here.) (12_memory_fabric.md) -/
def Obligations.LineArbiterRowsComplete : Prop :=
  (∀ (stack : Fin 32) (entry : Fin 4096) (noise : List HbmUpset) (s : State) (r : LineReq),
     (tabGet s.fab.ports stack.val {}).queue[entry.val]? = some r → [0x01].contains (r.pkt.fld 64 6) = true →
     ((tabGet s.fab.ports stack.val {}).queue.take entry.val).all (fun x => !shareLine x.pkt r.pkt) = true →
     exec (.fabLoad stack entry noise) s = .next (applyLoad r (servedLine stack.val entry.val noise s))) ∧
  (∀ (stack : Fin 32) (entry : Fin 4096) (noise : List HbmUpset) (s : State) (r : LineReq),
     (tabGet s.fab.ports stack.val {}).queue[entry.val]? = some r → [0x02].contains (r.pkt.fld 64 6) = true →
     ((tabGet s.fab.ports stack.val {}).queue.take entry.val).all (fun x => !shareLine x.pkt r.pkt) = true →
     exec (.fabStore stack entry noise) s = .next (applyStore r (servedLine stack.val entry.val noise s))) ∧
  (∀ (stack : Fin 32) (entry : Fin 4096) (noise : List HbmUpset) (s : State) (r : LineReq),
     (tabGet s.fab.ports stack.val {}).queue[entry.val]? = some r → [0x10, 0x11].contains (r.pkt.fld 64 6) = true →
     ((tabGet s.fab.ports stack.val {}).queue.take entry.val).all (fun x => !shareLine x.pkt r.pkt) = true →
     exec (.fabAdd stack entry noise) s = .next (applyAtomic r (servedLine stack.val entry.val noise s))) ∧
  (∀ (stack : Fin 32) (entry : Fin 4096) (noise : List HbmUpset) (s : State) (r : LineReq),
     (tabGet s.fab.ports stack.val {}).queue[entry.val]? = some r → [0x12, 0x13].contains (r.pkt.fld 64 6) = true →
     ((tabGet s.fab.ports stack.val {}).queue.take entry.val).all (fun x => !shareLine x.pkt r.pkt) = true →
     exec (.fabSmin stack entry noise) s = .next (applyAtomic r (servedLine stack.val entry.val noise s))) ∧
  (∀ (stack : Fin 32) (entry : Fin 4096) (noise : List HbmUpset) (s : State) (r : LineReq),
     (tabGet s.fab.ports stack.val {}).queue[entry.val]? = some r → [0x14, 0x15].contains (r.pkt.fld 64 6) = true →
     ((tabGet s.fab.ports stack.val {}).queue.take entry.val).all (fun x => !shareLine x.pkt r.pkt) = true →
     exec (.fabSmax stack entry noise) s = .next (applyAtomic r (servedLine stack.val entry.val noise s))) ∧
  (∀ (stack : Fin 32) (entry : Fin 4096) (noise : List HbmUpset) (s : State) (r : LineReq),
     (tabGet s.fab.ports stack.val {}).queue[entry.val]? = some r → [0x16, 0x17].contains (r.pkt.fld 64 6) = true →
     ((tabGet s.fab.ports stack.val {}).queue.take entry.val).all (fun x => !shareLine x.pkt r.pkt) = true →
     exec (.fabUmin stack entry noise) s = .next (applyAtomic r (servedLine stack.val entry.val noise s))) ∧
  (∀ (stack : Fin 32) (entry : Fin 4096) (noise : List HbmUpset) (s : State) (r : LineReq),
     (tabGet s.fab.ports stack.val {}).queue[entry.val]? = some r → [0x18, 0x19].contains (r.pkt.fld 64 6) = true →
     ((tabGet s.fab.ports stack.val {}).queue.take entry.val).all (fun x => !shareLine x.pkt r.pkt) = true →
     exec (.fabUmax stack entry noise) s = .next (applyAtomic r (servedLine stack.val entry.val noise s))) ∧
  (∀ (stack : Fin 32) (entry : Fin 4096) (noise : List HbmUpset) (s : State) (r : LineReq),
     (tabGet s.fab.ports stack.val {}).queue[entry.val]? = some r → [0x1A, 0x1B].contains (r.pkt.fld 64 6) = true →
     ((tabGet s.fab.ports stack.val {}).queue.take entry.val).all (fun x => !shareLine x.pkt r.pkt) = true →
     exec (.fabSwap stack entry noise) s = .next (applyAtomic r (servedLine stack.val entry.val noise s))) ∧
  (∀ (stack : Fin 32) (entry : Fin 4096) (noise : List HbmUpset) (s : State) (r : LineReq),
     (tabGet s.fab.ports stack.val {}).queue[entry.val]? = some r → [0x1C, 0x1D].contains (r.pkt.fld 64 6) = true →
     ((tabGet s.fab.ports stack.val {}).queue.take entry.val).all (fun x => !shareLine x.pkt r.pkt) = true →
     exec (.fabCas stack entry noise) s = .next (applyAtomic r (servedLine stack.val entry.val noise s))) ∧
  (∀ (stack : Fin 32) (entry : Fin 4096) (noise : List HbmUpset) (s : State) (r : LineReq),
     (tabGet s.fab.ports stack.val {}).queue[entry.val]? = some r → [0x20].contains (r.pkt.fld 64 6) = true →
     ((tabGet s.fab.ports stack.val {}).queue.take entry.val).all (fun x => !shareLine x.pkt r.pkt) = true →
     exec (.fabFadd32 stack entry noise) s = .next (applyAtomic r (servedLine stack.val entry.val noise s))) ∧
  (∀ (rail : Fin 27) (s u : State) (p : Packet),
     takeArrived rail.val (fun p => p.cls == 1 && firstIn s rail.val p) s = some (p, u) → requestOk u p = false →
     exec (.remoteRequestAdmit rail) s = .next (respond { src := p.src, flow := p.flow, pkt := p, rail := rail.val, marked := p.cmark } 0x0161 0 [] u)) ∧
  (∀ (rail : Fin 27) (s u v : State) (p : Packet),
     takeArrived rail.val (fun p => p.cls == 1 && firstIn s rail.val p) s = some (p, u) → requestOk u p = true →
     ((tabFind u.fab.table (streamKey p.src p.flow)).isSome = true ∨ u.fab.table.length < 65536) →
     v = { u with fab := { u.fab with table := tabPut u.fab.table (streamKey p.src p.flow) { advanceRec (p.fld 104 24) (tabGet u.fab.table (streamKey p.src p.flow) { done := p.fld 104 24, last := u.now }) with last := u.now } } } →
     exec (.remoteRequestAdmit rail) s = .next (releaseHeld 8192 p.src p.flow
       (takeRequest { src := p.src, flow := p.flow, pkt := p, rail := rail.val, marked := p.cmark } v))) ∧
  (∀ (rail : Fin 27) (s u : State) (p : Packet),
     takeArrived rail.val (fun p => p.cls == 1 && firstIn s rail.val p) s = some (p, u) → requestOk u p = true →
     tabFind u.fab.table (streamKey p.src p.flow) = none → 65536 ≤ u.fab.table.length →
     exec (.remoteRequestAdmit rail) s = .next (respond { src := p.src, flow := p.flow, pkt := p, rail := rail.val, marked := p.cmark } 0x0461 0 []
       (raise 0x0802 0 p.src 0 0 0 { u with fab := { u.fab with streamsFull := true } }))) ∧
  (∀ (src : Fin 4096) (flow : BitVec 8) (s : State) (x : StreamRec),
     tabFind s.fab.table (streamKey src.val flow.toNat) = some x → x.queued = [] → x.last + 2 ^ 23 ≤ s.now →
     exec (.streamRecordFree src flow) s = .next { s with
           fab := { s.fab with table := tabDel s.fab.table (streamKey src.val flow.toNat) } })

/-- CALLRED, CRSCAT, CAGATH and CBCAST in flight on a site without a step begin it: the job is recorded with its tag,
the grain of its issue and whether it reads bytes marked uncorrectable; its shares are sent, early packets of its tag
are applied, and it is settled. On a site under a block reset the step ends aborted instead. CPOST in flight sends its
TOKEN word on every ACTIVE rail, and has taken effect; the post is in flight for the latency Lt of the part (log entry
5). COL_TIMEOUT 2^24 grains after issue ends the step with error and raises COL_TIMEOUT (0x0804). (This states of
R334, R337, R339, R341, R342, R343, R345 and R450 only what is said here.) (13_collectives.md,
19_reset_and_bringup.md) -/
def Obligations.CollectiveStepRowsComplete : Prop :=
  (∀ (site : Fin 26) (body : BitVec 80) (delayed : Bool) (s : State) (j : ColJob), (s.colEng site.val).job = none →
     (s.engine (colEngine site.val)).flight.any (fun f => f.unit == 4 && isStep 0x80 body f) = true →
     s.railBlocked site.val = false →
     j = { op := 0x80, body := body, uncorr := (readsUnits s 0x80 body).any (fun u => (s.colEng site.val).uncorrArea.contains u), delayed := delayed, issued := ((flightOf (s.engine (colEngine site.val)) 4 (isStep 0x80 body)).map (·.issued)).getD s.now } →
     exec (.callred site body delayed) s = .next (settleCol site.val
       (((s.colEng site.val).early.filter (fun x => pkTag x.1 == colTag body)).foldl (fun s x => applyData site.val x.2 x.1 s)
         (finishShare site.val (beginSend site.val (noteNarrow (s.modCol site.val (fun e =>
           { e with
                 job := some j, tag := colTag body, early := e.early.filter (fun x => pkTag x.1 != colTag body) })))))))) ∧
  (∀ (site : Fin 26) (body : BitVec 80) (delayed : Bool) (s : State) (j : ColJob), (s.colEng site.val).job = none →
     (s.engine (colEngine site.val)).flight.any (fun f => f.unit == 4 && isStep 0x80 body f) = true →
     s.railBlocked site.val = true →
     j = { op := 0x80, body := body, uncorr := (readsUnits s 0x80 body).any (fun u => (s.colEng site.val).uncorrArea.contains u), delayed := delayed, issued := ((flightOf (s.engine (colEngine site.val)) 4 (isStep 0x80 body)).map (·.issued)).getD s.now } →
     exec (.callred site body delayed) s = .next (endCol site.val j false true s)) ∧
  (∀ (site : Fin 26) (body : BitVec 80) (delayed : Bool) (s : State) (j : ColJob), (s.colEng site.val).job = none →
     (s.engine (colEngine site.val)).flight.any (fun f => f.unit == 4 && isStep 0x81 body f) = true →
     s.railBlocked site.val = false →
     j = { op := 0x81, body := body, uncorr := (readsUnits s 0x81 body).any (fun u => (s.colEng site.val).uncorrArea.contains u), delayed := delayed, issued := ((flightOf (s.engine (colEngine site.val)) 4 (isStep 0x81 body)).map (·.issued)).getD s.now } →
     exec (.crscat site body delayed) s = .next (settleCol site.val
       (((s.colEng site.val).early.filter (fun x => pkTag x.1 == colTag body)).foldl (fun s x => applyData site.val x.2 x.1 s)
         (finishShare site.val (beginSend site.val (noteNarrow (s.modCol site.val (fun e =>
           { e with
                 job := some j, tag := colTag body, early := e.early.filter (fun x => pkTag x.1 != colTag body) })))))))) ∧
  (∀ (site : Fin 26) (body : BitVec 80) (delayed : Bool) (s : State) (j : ColJob), (s.colEng site.val).job = none →
     (s.engine (colEngine site.val)).flight.any (fun f => f.unit == 4 && isStep 0x81 body f) = true →
     s.railBlocked site.val = true →
     j = { op := 0x81, body := body, uncorr := (readsUnits s 0x81 body).any (fun u => (s.colEng site.val).uncorrArea.contains u), delayed := delayed, issued := ((flightOf (s.engine (colEngine site.val)) 4 (isStep 0x81 body)).map (·.issued)).getD s.now } →
     exec (.crscat site body delayed) s = .next (endCol site.val j false true s)) ∧
  (∀ (site : Fin 26) (body : BitVec 80) (delayed : Bool) (s : State) (j : ColJob), (s.colEng site.val).job = none →
     (s.engine (colEngine site.val)).flight.any (fun f => f.unit == 4 && isStep 0x82 body f) = true →
     s.railBlocked site.val = false →
     j = { op := 0x82, body := body, uncorr := (readsUnits s 0x82 body).any (fun u => (s.colEng site.val).uncorrArea.contains u), delayed := delayed, issued := ((flightOf (s.engine (colEngine site.val)) 4 (isStep 0x82 body)).map (·.issued)).getD s.now } →
     exec (.cagath site body delayed) s = .next (settleCol site.val
       (((s.colEng site.val).early.filter (fun x => pkTag x.1 == colTag body)).foldl (fun s x => applyData site.val x.2 x.1 s)
         (finishShare site.val (beginSend site.val (noteNarrow (s.modCol site.val (fun e =>
           { e with
                 job := some j, tag := colTag body, early := e.early.filter (fun x => pkTag x.1 != colTag body) })))))))) ∧
  (∀ (site : Fin 26) (body : BitVec 80) (delayed : Bool) (s : State) (j : ColJob), (s.colEng site.val).job = none →
     (s.engine (colEngine site.val)).flight.any (fun f => f.unit == 4 && isStep 0x82 body f) = true →
     s.railBlocked site.val = true →
     j = { op := 0x82, body := body, uncorr := (readsUnits s 0x82 body).any (fun u => (s.colEng site.val).uncorrArea.contains u), delayed := delayed, issued := ((flightOf (s.engine (colEngine site.val)) 4 (isStep 0x82 body)).map (·.issued)).getD s.now } →
     exec (.cagath site body delayed) s = .next (endCol site.val j false true s)) ∧
  (∀ (site : Fin 26) (body : BitVec 80) (delayed : Bool) (s : State) (j : ColJob), (s.colEng site.val).job = none →
     (s.engine (colEngine site.val)).flight.any (fun f => f.unit == 4 && isStep 0x83 body f) = true →
     s.railBlocked site.val = false →
     j = { op := 0x83, body := body, uncorr := (readsUnits s 0x83 body).any (fun u => (s.colEng site.val).uncorrArea.contains u), delayed := delayed, issued := ((flightOf (s.engine (colEngine site.val)) 4 (isStep 0x83 body)).map (·.issued)).getD s.now } →
     exec (.cbcast site body delayed) s = .next (settleCol site.val
       (((s.colEng site.val).early.filter (fun x => pkTag x.1 == colTag body)).foldl (fun s x => applyData site.val x.2 x.1 s)
         (finishShare site.val (beginSend site.val (noteNarrow (s.modCol site.val (fun e =>
           { e with
                 job := some j, tag := colTag body, early := e.early.filter (fun x => pkTag x.1 != colTag body) })))))))) ∧
  (∀ (site : Fin 26) (body : BitVec 80) (delayed : Bool) (s : State) (j : ColJob), (s.colEng site.val).job = none →
     (s.engine (colEngine site.val)).flight.any (fun f => f.unit == 4 && isStep 0x83 body f) = true →
     s.railBlocked site.val = true →
     j = { op := 0x83, body := body, uncorr := (readsUnits s 0x83 body).any (fun u => (s.colEng site.val).uncorrArea.contains u), delayed := delayed, issued := ((flightOf (s.engine (colEngine site.val)) 4 (isStep 0x83 body)).map (·.issued)).getD s.now } →
     exec (.cbcast site body delayed) s = .next (endCol site.val j false true s)) ∧
  (∀ (site : Fin 26) (body : BitVec 80) (s : State) (f : Flight),
     flightOf (s.engine (colEngine site.val)) 4 (isStep 0x84 body) = some f →
     exec (.cpost site body) s = .next (modFlight (colEngine site.val) 4 (isStep 0x84 body) (fun f => { f with done := true })
       { putEvery (tokenWord s body f) s with cut := { (putEvery (tokenWord s body f) s).cut with cposts := (putEvery (tokenWord s body f) s).cut.cposts ++ [(putEvery (tokenWord s body f) s).now + Config.postLatency] } })) ∧
  (∀ (site : Fin 26) (s : State) (j : ColJob), (s.colEng site.val).job = some j → j.issued + 2 ^ 24 ≤ s.now →
     exec (.colTimeout site) s = .next (endCol site.val j true false
       (raise 0x0804 (colEngine site.val) (colTag j.body) 0 0 0 (s.modCol site.val (fun e => { e with timeout := true })))))

/-- COLLECTIVE_DATA_RECEIVE and COLLECTIVE_ACK_RECEIVE take the first arrived collective packet of their kind (a data
packet is one whose kind is not 2): with a good layout from the module of its rank it reaches its engine, from another
module it is counted by its engine, and with a bad layout it is counted on its rail. COLLECTIVE_GROUP_ACK_TIMER 4,096
grains after a group's first arrival acknowledges the packets present, and runs once. COLLECTIVE_RESEND at a fleet
sheaf boundary of a packet that was returned or waits for a rail, or of any other 2^17 grains after its last send,
tries to send it; a packet sent again is counted, one sent for the first time is not. TOKEN_WORD_RECEIVE consumes a
TOKEN word: one for another module changes nothing more; a first copy for an engine of a run to come is remembered and
its post applied; a second copy within 8,192 grains changes nothing but what has been forgotten; one for an engine
without a queue, or in a state without a run to come, is counted. (This states of R331, R339, R341, R342 and R346 only
what is said here.) (13_collectives.md) -/
def Obligations.CollectivePacketRowsComplete : Prop :=
  (∀ (rail : Fin 26) (s u : State) (p : Packet),
     takeArrived rail.val (fun p => p.cls == 3 && pkKind p != 2) s = some (p, u) → colPacketOk p = true →
     fromPeer u p = true →
     exec (.collectiveDataReceive rail) s = .next (takeData (pkEngine p) rail.val p u)) ∧
  (∀ (rail : Fin 26) (s u : State) (p : Packet),
     takeArrived rail.val (fun p => p.cls == 3 && pkKind p != 2) s = some (p, u) → colPacketOk p = true →
     fromPeer u p = false →
     exec (.collectiveDataReceive rail) s = .next (countStray (pkEngine p) u)) ∧
  (∀ (rail : Fin 26) (s u : State) (p : Packet),
     takeArrived rail.val (fun p => p.cls == 3 && pkKind p != 2) s = some (p, u) → colPacketOk p = false →
     exec (.collectiveDataReceive rail) s = .next (u.modRail rail.val (fun x => { x with badPacket := satAdd x.badPacket 1 0xFF }))) ∧
  (∀ (rail : Fin 26) (s u : State) (p : Packet),
     takeArrived rail.val (fun p => p.cls == 3 && pkKind p == 2) s = some (p, u) → colPacketOk p = true →
     fromPeer u p = true →
     exec (.collectiveAckReceive rail) s = .next (takeAck (pkEngine p) p u)) ∧
  (∀ (rail : Fin 26) (s u : State) (p : Packet),
     takeArrived rail.val (fun p => p.cls == 3 && pkKind p == 2) s = some (p, u) → colPacketOk p = true →
     fromPeer u p = false →
     exec (.collectiveAckReceive rail) s = .next (countStray (pkEngine p) u)) ∧
  (∀ (rail : Fin 26) (s u : State) (p : Packet),
     takeArrived rail.val (fun p => p.cls == 3 && pkKind p == 2) s = some (p, u) → colPacketOk p = false →
     exec (.collectiveAckReceive rail) s = .next (u.modRail rail.val (fun x => { x with badPacket := satAdd x.badPacket 1 0xFF }))) ∧
  (∀ (site : Fin 26) (srank : Fin 1024) (phase : Fin 2) (share : Fin 1024) (group : Fin 4096) (s : State) (j : ColJob) (g k : Nat),
     (s.colEng site.val).job = some j → k = groupKey srank.val phase.val share.val group.val →
     tabFind j.groups k = some g → g + 4096 ≤ s.now →
     exec (.collectiveGroupAckTimer site srank phase share group) s = .next (sendAck site.val site.val srank.val (colTag j.body)
       phase.val share.val group.val (groupMap j srank.val phase.val share.val group.val)
       (s.modJob site.val (fun j => { j with groups := tabDel j.groups k, timed := setIns j.timed k })))) ∧
  (∀ (site : Fin 26) (dest : Fin 1024) (phase : Fin 2) (share : Fin 1024) (index : BitVec 18) (s u v : State) (j : ColJob) (c d : ColPkt),
     (s.colEng site.val).job = some j →
     j.unacked.find? (fun c => c.dest == dest.val && c.phase == phase.val && c.share == share.val && c.index == index.toNat) = some c →
     (((c.undelivered = true ∨ c.waits = true) ∧ s.atBoundary = true) ∨ (c.undelivered = false ∧ c.waits = false ∧
     c.last + 2 ^ 17 ≤ s.now)) → sendData site.val j c s = (d, u) →
     v = u.modJob site.val (fun j => { j with resent := j.resent || !c.waits || d.undelivered, unacked := j.unacked.map (fun y => if (fun c => c.dest == dest.val && c.phase == phase.val && c.share == share.val && c.index == index.toNat) y then d else y) }) →
     d.undelivered = false → d.waits = false → c.waits = false →
     exec (.collectiveResend site dest phase share index) s = .next (v.modCol site.val (fun e => { e with resent := satAdd e.resent 1 0xFFFF }))) ∧
  (∀ (site : Fin 26) (dest : Fin 1024) (phase : Fin 2) (share : Fin 1024) (index : BitVec 18) (s u v : State) (j : ColJob) (c d : ColPkt),
     (s.colEng site.val).job = some j →
     j.unacked.find? (fun c => c.dest == dest.val && c.phase == phase.val && c.share == share.val && c.index == index.toNat) = some c →
     (((c.undelivered = true ∨ c.waits = true) ∧ s.atBoundary = true) ∨ (c.undelivered = false ∧ c.waits = false ∧
     c.last + 2 ^ 17 ≤ s.now)) → sendData site.val j c s = (d, u) →
     v = u.modJob site.val (fun j => { j with resent := j.resent || !c.waits || d.undelivered, unacked := j.unacked.map (fun y => if (fun c => c.dest == dest.val && c.phase == phase.val && c.share == share.val && c.index == index.toNat) y then d else y) }) →
     (d.undelivered = true ∨ d.waits = true ∨ c.waits = true) →
     exec (.collectiveResend site dest phase share index) s = .next v) ∧
  (∀ (rail : Fin 26) (word : BitVec 256) (s u : State), GoodWord rail.val 0x10 word s →
     u = withoutWord rail.val word s → (ctl word 8 12 ≠ u.fab.module ∨ 3 < ctl word 58 3) →
     exec (.tokenWordReceive rail word) s = .next u) ∧
  (∀ (rail : Fin 26) (word : BitVec 256) (s u v : State), GoodWord rail.val 0x10 word s →
     u = withoutWord rail.val word s → ctl word 8 12 = u.fab.module → ctl word 58 3 ≤ 3 →
     v = { u with col := { u.col with seen := u.col.seen.filter (fun x => decide (u.now < x.2.2.2 + 8192)) } } →
     v.col.seen.any (fun x => x.1 == ctl word 20 12 && x.2.1 == ctl word 32 16 && x.2.2.1 == ctl word 48 6) = true →
     exec (.tokenWordReceive rail word) s = .next v) ∧
  (∀ (rail : Fin 26) (word : BitVec 256) (s u v : State) (e : Nat), GoodWord rail.val 0x10 word s →
     u = withoutWord rail.val word s → ctl word 8 12 = u.fab.module → ctl word 58 3 ≤ 3 →
     v = { u with col := { u.col with seen := u.col.seen.filter (fun x => decide (u.now < x.2.2.2 + 8192)) } } →
     v.col.seen.any (fun x => x.1 == ctl word 20 12 && x.2.1 == ctl word 32 16 && x.2.2.1 == ctl word 48 6) = false →
     physEngine u.cut.logMap (ctl word 32 16) = some e → (u.engine e).present = true →
     (u.cut.state = .loaded ∨ u.cut.state = .armed ∨ u.cut.state = .running ∨ u.cut.state = .paused) →
     exec (.tokenWordReceive rail word) s = .next (applyPost { dest := e, counter := ctl word 48 6, mask := ctl word 55 3, err := bit word.toNat 54 }
       { v with col := { v.col with seen := v.col.seen ++ [(ctl word 20 12, ctl word 32 16, ctl word 48 6, u.now)] } })) ∧
  (∀ (rail : Fin 26) (word : BitVec 256) (s u v : State), GoodWord rail.val 0x10 word s →
     u = withoutWord rail.val word s → ctl word 8 12 = u.fab.module → ctl word 58 3 ≤ 3 →
     v = { u with col := { u.col with seen := u.col.seen.filter (fun x => decide (u.now < x.2.2.2 + 8192)) } } →
     v.col.seen.any (fun x => x.1 == ctl word 20 12 && x.2.1 == ctl word 32 16 && x.2.2.1 == ctl word 48 6) = false →
     (physEngine u.cut.logMap (ctl word 32 16) = none ∨ (∃ e, physEngine u.cut.logMap (ctl word 32 16) = some e ∧
     ((u.engine e).present = false ∨ u.cut.state = .empty ∨ u.cut.state = .loading ∨ u.cut.state = .ended ∨ u.cut.state = .halted))) →
     exec (.tokenWordReceive rail word) s = .next (countStray rail.val v))

/-- A packet beyond its channel's credit on an ACTIVE port is counted and discarded; a command whose opcode is not
assigned is answered 0x0101. An accepted HELLO is answered and opens the session with generation 1 (a session already
open keeps its subscriptions); PING echoes its 8 bytes with the time; PARAM_READ answers the parameters of its list as
read in order; PARAM_WRITE of a parameter without a row of its own applies the value as its owner states;
EVT_SUBSCRIBE replaces the mask, channel and enable of its group; EVT_QUERY answers them. (This states of R376, R379,
R381, R382, R384, R386 and R394 only what is said here.) (15_commands.md) -/
def Obligations.SessionCommandsComplete : Prop :=
  (∀ (p : CmdPkt) (s : State), p.port < 2 → s.portActive p.port = true → 4096 < (s.chan p.chan).used + p.slots →
     exec (.commandOverCredit p) s = .next (s.modPort p.port (fun x => { x with rejected := satAdd x.rejected 1 0xFFFF }))) ∧
  (∀ (p : CmdPkt) (s : State), canStart s p = true → layoutOf p.opcode = none → cmdStatus s p = 0x0101 →
     exec (.commandUnassigned p) s = .next (finish p.ref 0x0101 [] (takePacket p s))) ∧
  (∀ (p : CmdPkt) (s u : State), Accepted 0x000 p s → u = finish p.ref 0 helloReply (takePacket p s) →
     exec (.hello p) s = .next { u with
           yuley := { u.yuley with isOpen := true, gen := 1, subs := if u.yuley.isOpen then u.yuley.subs else [] } }) ∧
  (∀ (p : CmdPkt) (s : State), Accepted 0x001 p s →
     exec (.ping p) s = .next (finish p.ref 0 (p.payload.take 8 ++ toBytes 8 s.now) (takePacket p s))) ∧
  (∀ (p : CmdPkt) (s : State) (r : Nat × List (BitVec 8) × State), Accepted 0x100 p s →
     r = readParams (readIds p) (takePacket p s) →
     exec (.paramRead p) s = .next (finish p.ref r.1 r.2.1 r.2.2)) ∧
  (∀ (p : CmdPkt) (s : State) (id v : Nat), Writes id v p s → ownRow id = false →
     exec (.paramWrite p) s = .next (finish p.ref (storeParam id v (takePacket p s)).1 [] (storeParam id v (takePacket p s)).2)) ∧
  (∀ (p : CmdPkt) (s : State) (v : Nat), Writes 0x00200004 v p s → 1 ≤ v → v ≤ 1000 →
     exec (.paramWrite p) s = .next (finish p.ref 0 [] { takePacket p s with time := { s.time with holdRate := v } })) ∧
  (∀ (p : CmdPkt) (s : State), Accepted 0x700 p s →
     exec (.evtSubscribe p) s = .next (finish p.ref 0 [] { takePacket p s with yuley := { (takePacket p s).yuley with subs := tabPut s.yuley.subs (bits (p.arg 0 40) 0 8) { mask := BitVec.ofNat 256 (bits (p.arg 0 40) 64 256), channel := bits (p.arg 0 40) 8 3, enabled := bit (p.arg 0 40) 11 } } })) ∧
  (∀ (p : CmdPkt) (s : State), Accepted 0x701 p s →
     exec (.evtQuery p) s = .next (finish p.ref 0 (subBytes (tabGet s.yuley.subs (p.arg 0 1) {})) (takePacket p s)))

/-- An accepted MEM_WRITE writes its data, and MEM_FILL the pattern byte (address + i) mod 8 at byte i, in ascending
order up to the first burst that stops it (writeRange); MEM_READ reads its range in address order (readRange). Each
opens a stream with a tag of its own (openXfer) and is then under way (beginXfer); one whose stream would pass a Sill
block under reset moves nothing and has the status 0x0412. MEM_TRANSFER_COMPLETE answers a write with the bytes
applied and its status, and a read with its data in packets of at most 65,536 bytes. That the accesses are made at the
command's start is the model's choice (log entry 10). (This states of R174, R196, R198, R205, R206, R384 and R388 only
what is said here.) (07_sill_fabric.md, 08_memory.md, 15_commands.md) -/
def Obligations.MemoryCommandsComplete : Prop :=
  (∀ (p : CmdPkt) (noise : List HbmUpset) (s u : State) (d : List (BitVec 8)) (x : Xfer) (r : Nat × Nat × State),
     Accepted 0x200 p s → d = p.payload.drop 8 → u = noise.foldl (fun s u => upsetBurst u s) (takePacket p s) →
     x = openXfer p p.ref false d.length → xferBarred u x = false →
     r = writeRange (p.arg 0 8) d (portRequester p) u →
     exec (.memWrite p noise) s = .next (beginXfer { x with applied := r.1, status := r.2.1 } r.2.2)) ∧
  (∀ (p : CmdPkt) (noise : List HbmUpset) (s u : State) (d : List (BitVec 8)) (x : Xfer), Accepted 0x200 p s →
     d = p.payload.drop 8 → u = noise.foldl (fun s u => upsetBurst u s) (takePacket p s) →
     x = openXfer p p.ref false d.length → xferBarred u x = true →
     exec (.memWrite p noise) s = .next (beginXfer { x with status := 0x0412 } u)) ∧
  (∀ (p : CmdPkt) (noise : List HbmUpset) (s u : State) (d : List (BitVec 8)) (x : Xfer) (r : Nat × Nat × State),
     Accepted 0x202 p s →
     d = (List.range (xferBytes p)).map (fun i => ((p.payload.drop 16).take 8).getD ((p.arg 0 8 + i) % 8) 0) →
     u = noise.foldl (fun s u => upsetBurst u s) (takePacket p s) → x = openXfer p p.ref false d.length →
     xferBarred u x = false → r = writeRange (p.arg 0 8) d (portRequester p) u →
     exec (.memFill p noise) s = .next (beginXfer { x with applied := r.1, status := r.2.1 } r.2.2)) ∧
  (∀ (p : CmdPkt) (noise : List HbmUpset) (s u : State) (d : List (BitVec 8)) (x : Xfer), Accepted 0x202 p s →
     d = (List.range (xferBytes p)).map (fun i => ((p.payload.drop 16).take 8).getD ((p.arg 0 8 + i) % 8) 0) →
     u = noise.foldl (fun s u => upsetBurst u s) (takePacket p s) → x = openXfer p p.ref false d.length →
     xferBarred u x = true →
     exec (.memFill p noise) s = .next (beginXfer { x with status := 0x0412 } u)) ∧
  (∀ (p : CmdPkt) (noise : List HbmUpset) (s u : State) (x : Xfer) (r : List (BitVec 8) × Nat × State),
     Accepted 0x201 p s → u = noise.foldl (fun s u => upsetBurst u s) (takePacket p s) →
     x = openXfer p p.ref true (xferBytes p) → xferBarred u x = false →
     r = readRange (p.arg 0 8) (xferBytes p) (portRequester p) u →
     exec (.memRead p noise) s = .next (beginXfer { x with data := r.1, status := r.2.1 } r.2.2)) ∧
  (∀ (p : CmdPkt) (noise : List HbmUpset) (s u : State) (x : Xfer), Accepted 0x201 p s →
     u = noise.foldl (fun s u => upsetBurst u s) (takePacket p s) → x = openXfer p p.ref true (xferBytes p) →
     xferBarred u x = true →
     exec (.memRead p noise) s = .next (beginXfer { x with status := 0x0412 } u)) ∧
  (∀ (port : Fin 2) (channel : Fin 8) (s : State) (x : Xfer),
     s.hbm.xfers.find? (fun x => x.cmd.port == port.val && x.cmd.channel == channel.val) = some x →
     exec (.memTransferComplete port channel) s = .next
       (if x.read then sendChunks 256 x.cmd x.status x.data
           { s with
                 hbm := { s.hbm with xfers := delFirst (fun x => x.cmd.port == port.val && x.cmd.channel == channel.val) s.hbm.xfers } }
         else finish x.cmd x.status (toBytes 8 x.applied)
           { s with
                 hbm := { s.hbm with xfers := delFirst (fun x => x.cmd.port == port.val && x.cmd.channel == channel.val) s.hbm.xfers } }))

/-- An accepted LOAD in the states empty, loaded, ended and halted begins loading from its address (acceptLoad); in
any other state, or where its checks answer 0x0213, it is refused with 0x0213 and CUT.LOAD shows code 0x15 outside any
segment. START of a loaded list, and RESUME of a paused run, with a grain that may be accepted arms it with that grain
and completes; otherwise 0x0202. PAUSE of an armed or running list asks for a pause and waits for it; otherwise
0x0202. (This states of R37, R229, R231, R233, R235, R367, R389 and R390 only what is said here.) (02_fleet_time.md,
09_cut_lists.md, 14_reproducibility.md, 15_commands.md) -/
def Obligations.RunCommandsComplete : Prop :=
  (∀ (p : CmdPkt) (s : State), Accepted 0x300 p s →
     (s.cut.state = .empty ∨ s.cut.state = .loaded ∨ s.cut.state = .ended ∨ s.cut.state = .halted) →
     exec (.loadList p) s = .next (acceptLoad (p.arg 0 8) p.ref (takePacket p s))) ∧
  (∀ (p : CmdPkt) (s : State), canStart s p = true → p.opcode = 0x300 →
     (cmdStatus s p = 0x0213 ∨ (cmdStatus s p = 0 ∧
     (s.cut.state = .loading ∨ s.cut.state = .armed ∨ s.cut.state = .running ∨ s.cut.state = .paused))) →
     exec (.loadList p) s = .next (finish p.ref 0x0213 []
       (takePacket p { s with
             cut := { s.cut with loadCode := 0x15, loadSegment := 0xFF, loadQueue := 0xFFFF, loadStep := 0 } }))) ∧
  (∀ (p : CmdPkt) (s : State), Accepted 0x301 p s → s.cut.state = .loaded →
     grainOk s (arrivalOf p s) (p.arg 0 8) = true →
     exec (.startRun p) s = .next (finish p.ref 0 [] { (takePacket p s) with cut := { s.cut with state := .armed, startAt := some (p.arg 0 8), resumeMark := none, seed := BitVec.ofNat 64 (p.arg 8 8) } })) ∧
  (∀ (p : CmdPkt) (s : State), Accepted 0x301 p s →
     (s.cut.state ≠ .loaded ∨ grainOk s (arrivalOf p s) (p.arg 0 8) = false) →
     exec (.startRun p) s = .next (finish p.ref 0x0202 [] (takePacket p s))) ∧
  (∀ (p : CmdPkt) (s : State), Accepted 0x302 p s → (s.cut.state = .armed ∨ s.cut.state = .running) →
     exec (.pauseRun p) s = .next { askPause (takePacket p s) with cut := { (askPause (takePacket p s)).cut with pauseCmds := (askPause (takePacket p s)).cut.pauseCmds ++ [p.ref] } }) ∧
  (∀ (p : CmdPkt) (s : State), Accepted 0x302 p s → s.cut.state ≠ .armed → s.cut.state ≠ .running →
     exec (.pauseRun p) s = .next (finish p.ref 0x0202 [] (takePacket p s))) ∧
  (∀ (p : CmdPkt) (s : State), Accepted 0x303 p s → s.cut.state = .paused →
     grainOk s (arrivalOf p s) (p.arg 0 8) = true →
     exec (.resumeRun p) s = .next (finish p.ref 0 [] { (takePacket p s) with cut := { s.cut with state := .armed, startAt := some (p.arg 0 8) } })) ∧
  (∀ (p : CmdPkt) (s : State), Accepted 0x303 p s →
     (s.cut.state ≠ .paused ∨ grainOk s (arrivalOf p s) (p.arg 0 8) = false) →
     exec (.resumeRun p) s = .next (finish p.ref 0x0202 [] (takePacket p s)))

/-- An accepted SAVE of a paused run, its region mapped and clear of the image and of other saves, is recorded; with
another region it is answered 0x0172, and in another state 0x0221. SAVE_COMPLETE of one, still paused, writes the
image of the run and answers its length, or the status of the burst that stopped it; in another state it answers
0x0221. RESTORE with a loaded list and no other restore is recorded, and otherwise answered 0x0221. RESTORE_COMPLETE
answers 0x0221 in a state that is not loaded; it reads the header and tests it in order: a stack in reset 0x0412, its
fields 0x0171, its place 0x0172, list, floor plan and identity (imgIdentity); a header that passes is followed by the
rest, whose digest is tested, and on success every section goes into its place (restoreAll) and the command completes.
(This states of R363, R364, R365 and R366 only what is said here.) (14_reproducibility.md) -/
def Obligations.SaveRestoreRowsComplete : Prop :=
  (∀ (p : CmdPkt) (s : State) (n : Nat), Accepted 0x400 p s → s.cut.state = .paused → n = imgLen s.cut.kind →
     p.arg 0 8 + n ≤ hbmTop → overlaps (p.arg 0 8) n s.cut.base s.cut.len = false →
     s.cut.saves.any (fun j => overlaps (p.arg 0 8) n j.addr j.len) = false →
     exec (.saveImage p) s = .next { (takePacket p s) with cut := { s.cut with saves := s.cut.saves ++ [{ cmd := p.ref, addr := p.arg 0 8, len := n }] } }) ∧
  (∀ (p : CmdPkt) (s : State) (n : Nat), Accepted 0x400 p s → s.cut.state = .paused → n = imgLen s.cut.kind →
     (hbmTop < p.arg 0 8 + n ∨ overlaps (p.arg 0 8) n s.cut.base s.cut.len = true ∨ s.cut.saves.any (fun j => overlaps (p.arg 0 8) n j.addr j.len) = true) →
     exec (.saveImage p) s = .next (finish p.ref 0x0172 [] (takePacket p s))) ∧
  (∀ (p : CmdPkt) (s : State), Accepted 0x400 p s → s.cut.state ≠ .paused →
     exec (.saveImage p) s = .next (finish p.ref 0x0221 [] (takePacket p s))) ∧
  (∀ (port : Fin 2) (channel : Fin 8) (noise : List HbmUpset) (s u : State) (j : SaveJob) (r : Nat × Nat × State),
     s.cut.saves.find? (fun j => j.cmd.port == port.val && j.cmd.channel == channel.val) = some j →
     s.cut.state = .paused →
     u = noise.foldl (fun s u => upsetBurst u s) { s with cut := { s.cut with saves := delFirst (fun j => j.cmd.port == port.val && j.cmd.channel == channel.val) s.cut.saves } } →
     r = writeRange j.addr (imageOf u) 171 u →
     exec (.saveComplete port channel noise) s = .next
       (if r.2.1 = 0 then finish j.cmd 0 (toBytes 8 j.len) r.2.2 else finish j.cmd r.2.1 [] r.2.2)) ∧
  (∀ (port : Fin 2) (channel : Fin 8) (noise : List HbmUpset) (s : State) (j : SaveJob),
     s.cut.saves.find? (fun j => j.cmd.port == port.val && j.cmd.channel == channel.val) = some j →
     s.cut.state ≠ .paused →
     exec (.saveComplete port channel noise) s = .next (finish j.cmd 0x0221 []
       { s with
             cut := { s.cut with saves := delFirst (fun j => j.cmd.port == port.val && j.cmd.channel == channel.val) s.cut.saves } })) ∧
  (∀ (p : CmdPkt) (s : State), Accepted 0x401 p s → s.cut.state = .loaded → s.cut.restore = none →
     exec (.restoreImage p) s = .next { (takePacket p s) with cut := { s.cut with restore := some { cmd := p.ref, addr := p.arg 0 8 } } }) ∧
  (∀ (p : CmdPkt) (s : State), Accepted 0x401 p s → (s.cut.state ≠ .loaded ∨ s.cut.restore.isSome = true) →
     exec (.restoreImage p) s = .next (finish p.ref 0x0221 [] (takePacket p s))) ∧
  (∀ (noise : List HbmUpset) (s : State) (j : SaveJob), s.cut.restore = some j → s.cut.state ≠ .loaded →
     exec (.restoreComplete noise) s = .next (finish j.cmd 0x0221 [] { s with cut := { s.cut with restore := none } })) ∧
  (∀ (noise : List HbmUpset) (s u v : State) (j : SaveJob) (h : List (BitVec 8)) (e : Nat),
     s.cut.restore = some j → s.cut.state = .loaded →
     u = noise.foldl (fun s u => upsetBurst u s) { s with cut := { s.cut with restore := none } } →
     readRange j.addr (min 256 (hbmTop - j.addr)) 171 u = (h, e, v) → e = 0x0412 →
     exec (.restoreComplete noise) s = .next (finish j.cmd 0x0412 [] v)) ∧
  (∀ (noise : List HbmUpset) (s u v : State) (j : SaveJob) (h : List (BitVec 8)) (e : Nat),
     s.cut.restore = some j → s.cut.state = .loaded →
     u = noise.foldl (fun s u => upsetBurst u s) { s with cut := { s.cut with restore := none } } →
     readRange j.addr (min 256 (hbmTop - j.addr)) 171 u = (h, e, v) → e ≠ 0x0412 → imgHeaderOk h = false →
     exec (.restoreComplete noise) s = .next (finish j.cmd 0x0171 [] v)) ∧
  (∀ (noise : List HbmUpset) (s u v : State) (j : SaveJob) (h : List (BitVec 8)) (e : Nat),
     s.cut.restore = some j → s.cut.state = .loaded →
     u = noise.foldl (fun s u => upsetBurst u s) { s with cut := { s.cut with restore := none } } →
     readRange j.addr (min 256 (hbmTop - j.addr)) 171 u = (h, e, v) → e ≠ 0x0412 → imgHeaderOk h = true →
     (hbmTop < j.addr + ihdr h 320 64 ∨ overlaps j.addr (ihdr h 320 64) v.cut.base v.cut.len = true) →
     exec (.restoreComplete noise) s = .next (finish j.cmd 0x0172 [] v)) ∧
  (∀ (noise : List HbmUpset) (s u v : State) (j : SaveJob) (h : List (BitVec 8)) (e : Nat),
     s.cut.restore = some j → s.cut.state = .loaded →
     u = noise.foldl (fun s u => upsetBurst u s) { s with cut := { s.cut with restore := none } } →
     readRange j.addr (min 256 (hbmTop - j.addr)) 171 u = (h, e, v) → e ≠ 0x0412 → imgHeaderOk h = true →
     j.addr + ihdr h 320 64 ≤ hbmTop → overlaps j.addr (ihdr h 320 64) v.cut.base v.cut.len = false →
     imgIdentity v h ≠ 0 →
     exec (.restoreComplete noise) s = .next (finish j.cmd (imgIdentity v h) [] v)) ∧
  (∀ (noise : List HbmUpset) (s u v : State) (j : SaveJob) (h : List (BitVec 8)) (e : Nat) (r : List (BitVec 8) × Nat × State),
     s.cut.restore = some j → s.cut.state = .loaded →
     u = noise.foldl (fun s u => upsetBurst u s) { s with cut := { s.cut with restore := none } } →
     readRange j.addr (min 256 (hbmTop - j.addr)) 171 u = (h, e, v) → e ≠ 0x0412 → imgHeaderOk h = true →
     j.addr + ihdr h 320 64 ≤ hbmTop → overlaps j.addr (ihdr h 320 64) v.cut.base v.cut.len = false →
     imgIdentity v h = 0 → r = readRange (j.addr + 256) (ihdr h 320 64 - 256) 171 v →
     exec (.restoreComplete noise) s = .next
       (if r.2.1 = 0x0412 then finish j.cmd 0x0412 [] r.2.2
         else if imgDigest (h ++ r.1) ≠ ihdr h 1152 512 then finish j.cmd 0x0321 [] r.2.2
         else if e ≠ 0 ∨ r.2.1 ≠ 0 then finish j.cmd 0x0521 [] r.2.2
         else finish j.cmd 0 [] (restoreAll j.addr h r.2.2)))

/-- An accepted BLOCK_RESET of a compute stack, HBM site, rail site, Sill path or the Sill sequencer, none under way
for the block, begins its quiesce with the timeout it names (100 us where it is 0), and keeps the command; with one
under way it joins that one; a scrub pass stops. That of a crib alone is answered 0x0107. BLOCK_IDLE of an idle block,
and BLOCK_QUIESCE_TIMEOUT at its limit, assert its reset (forced in the second). BLOCK_READY after the assertion
restores the block (a bay with the calibration of its rings; an HBM site with the lanes its repair replaced) and
completes its commands with 0, or 2 where it was forced (a rail site once its rail has settled); BLOCK_READY_TIMEOUT
past the bound fails it with 0x0501. (This states of R128, R199, R295, R379, R391, R450, R451 and R452 only what is
said here.) (05_crib_and_dowels.md, 08_memory.md, 11_optical_control.md, 15_commands.md, 19_reset_and_bringup.md) -/
def Obligations.BlockResetRowsComplete : Prop :=
  (∀ (p : CmdPkt) (s : State), Accepted 0x500 p s → p.arg 0 1 = 1 →
     s.rst.blocks.any (fun b => b.kind == 1 && b.index == p.arg 1 1) = false →
     exec (.blockResetComputeStack p) s = .next (stopScrub { takePacket p s with rst := { s.rst with blocks := s.rst.blocks ++ [{ kind := 1, index := p.arg 1 1, start := s.now, limit := 1000 * (if p.arg 2 4 = 0 then 100 else p.arg 2 4), cmds := [p.ref] }] } })) ∧
  (∀ (p : CmdPkt) (s : State), Accepted 0x500 p s → p.arg 0 1 = 1 →
     s.rst.blocks.any (fun b => b.kind == 1 && b.index == p.arg 1 1) = true →
     exec (.blockResetComputeStack p) s = .next (stopScrub { takePacket p s with rst := { s.rst with blocks := s.rst.blocks.map (fun b => if (b.kind == 1 && b.index == p.arg 1 1) = true then { b with cmds := b.cmds ++ [p.ref] } else b) } })) ∧
  (∀ (p : CmdPkt) (s : State), Accepted 0x500 p s → p.arg 0 1 = 3 →
     s.rst.blocks.any (fun b => b.kind == 3 && b.index == p.arg 1 1) = false →
     exec (.blockResetHbmSite p) s = .next (stopScrub { takePacket p s with rst := { s.rst with blocks := s.rst.blocks ++ [{ kind := 3, index := p.arg 1 1, start := s.now, limit := 1000 * (if p.arg 2 4 = 0 then 100 else p.arg 2 4), cmds := [p.ref] }] } })) ∧
  (∀ (p : CmdPkt) (s : State), Accepted 0x500 p s → p.arg 0 1 = 3 →
     s.rst.blocks.any (fun b => b.kind == 3 && b.index == p.arg 1 1) = true →
     exec (.blockResetHbmSite p) s = .next (stopScrub { takePacket p s with rst := { s.rst with blocks := s.rst.blocks.map (fun b => if (b.kind == 3 && b.index == p.arg 1 1) = true then { b with cmds := b.cmds ++ [p.ref] } else b) } })) ∧
  (∀ (p : CmdPkt) (s : State), Accepted 0x500 p s → p.arg 0 1 = 4 →
     s.rst.blocks.any (fun b => b.kind == 4 && b.index == p.arg 1 1) = false →
     exec (.blockResetRailSite p) s = .next (stopScrub { takePacket p s with rst := { s.rst with blocks := s.rst.blocks ++ [{ kind := 4, index := p.arg 1 1, start := s.now, limit := 1000 * (if p.arg 2 4 = 0 then 100 else p.arg 2 4), cmds := [p.ref] }] } })) ∧
  (∀ (p : CmdPkt) (s : State), Accepted 0x500 p s → p.arg 0 1 = 4 →
     s.rst.blocks.any (fun b => b.kind == 4 && b.index == p.arg 1 1) = true →
     exec (.blockResetRailSite p) s = .next (stopScrub { takePacket p s with rst := { s.rst with blocks := s.rst.blocks.map (fun b => if (b.kind == 4 && b.index == p.arg 1 1) = true then { b with cmds := b.cmds ++ [p.ref] } else b) } })) ∧
  (∀ (p : CmdPkt) (s : State), Accepted 0x500 p s → p.arg 0 1 = 5 →
     s.rst.blocks.any (fun b => b.kind == 5 && b.index == p.arg 1 1) = false →
     exec (.blockResetSillPath p) s = .next (stopScrub { takePacket p s with rst := { s.rst with blocks := s.rst.blocks ++ [{ kind := 5, index := p.arg 1 1, start := s.now, limit := 1000 * (if p.arg 2 4 = 0 then 100 else p.arg 2 4), cmds := [p.ref] }] } })) ∧
  (∀ (p : CmdPkt) (s : State), Accepted 0x500 p s → p.arg 0 1 = 5 →
     s.rst.blocks.any (fun b => b.kind == 5 && b.index == p.arg 1 1) = true →
     exec (.blockResetSillPath p) s = .next (stopScrub { takePacket p s with rst := { s.rst with blocks := s.rst.blocks.map (fun b => if (b.kind == 5 && b.index == p.arg 1 1) = true then { b with cmds := b.cmds ++ [p.ref] } else b) } })) ∧
  (∀ (p : CmdPkt) (s : State), Accepted 0x500 p s → p.arg 0 1 = 6 →
     s.rst.blocks.any (fun b => b.kind == 6 && b.index == p.arg 1 1) = false →
     exec (.blockResetSillSequencer p) s = .next (stopScrub { takePacket p s with rst := { s.rst with blocks := s.rst.blocks ++ [{ kind := 6, index := p.arg 1 1, start := s.now, limit := 1000 * (if p.arg 2 4 = 0 then 100 else p.arg 2 4), cmds := [p.ref] }] } })) ∧
  (∀ (p : CmdPkt) (s : State), Accepted 0x500 p s → p.arg 0 1 = 6 →
     s.rst.blocks.any (fun b => b.kind == 6 && b.index == p.arg 1 1) = true →
     exec (.blockResetSillSequencer p) s = .next (stopScrub { takePacket p s with rst := { s.rst with blocks := s.rst.blocks.map (fun b => if (b.kind == 6 && b.index == p.arg 1 1) = true then { b with cmds := b.cmds ++ [p.ref] } else b) } })) ∧
  (∀ (p : CmdPkt) (s : State), canStart s p = true → p.opcode = 0x500 → p.arg 0 1 = 2 → cmdStatus s p = 0x0107 →
     exec (.blockResetCrib p) s = .next (finish p.ref 0x0107 [] (takePacket p s))) ∧
  (∀ (kind : Fin 8) (index : Fin 32) (s : State) (b : BlockJob), blockJob s kind.val index.val 0 = some b →
     blockIdle s kind.val index.val = true →
     exec (.blockIdle kind index) s = .next (assertBlock kind.val index.val false s)) ∧
  (∀ (kind : Fin 8) (index : Fin 32) (s : State) (b : BlockJob), blockJob s kind.val index.val 0 = some b →
     b.start + b.limit ≤ s.now →
     exec (.blockQuiesceTimeout kind index) s = .next (assertBlock kind.val index.val true s)) ∧
  (∀ (kind : Fin 8) (index : Fin 32) (fixed : Fin 64) (cals : RingCals) (s u : State) (b : BlockJob),
     blockJob s kind.val index.val 1 = some b → b.since ≤ s.now → (kind.val = 4 → railSettled s index.val = true) →
     u = (if kind.val = 5 then calibrateBay index.val cals s else s) →
     exec (.blockReady kind index fixed cals) s = .next (finishAll b.cmds (if b.forced then 2 else 0)
       (restoreBlock kind.val index.val fixed.val (endJob kind.val index.val u)))) ∧
  (∀ (kind : Fin 8) (index : Fin 32) (s : State) (b : BlockJob), blockJob s kind.val index.val 1 = some b →
     b.since + readyBound kind.val < s.now →
     exec (.blockReadyTimeout kind index) s = .next (finishAll b.cmds 0x0501
       (failBlock kind.val index.val (endJob kind.val index.val s))))

/-- An accepted CALIBRATE action 1 starts a Sill lane calibration (in armed and running 0x0202), which
SILL_LANE_CALIBRATION_DONE ends: rings take their measurements, the lanes found are spared or parked (calibrateLanes),
and the commands complete. Action 2 retrains a rail in DOWN or FAILED, and completes at once in any other state or
where the rail cannot train; action 3 takes the rail down with reason 4, holds it and completes; action 4 measures the
port's delay again. RECOVER outside loading, armed and running, with none under way, begins the recovery: what a
level-2 reset clears is cleared, sequencers and meshes start, panels are released, failed stacks and failed rails
train, and both ports' delays are measured; otherwise 0x0202. RECOVERY_COMPLETE once all has come to its end
calibrates, tests, rebuilds the floor plan, reports the ready state and completes it. (This states of R28, R182, R259,
R262, R277, R392, R463 and R470 only what is said here.) (02_fleet_time.md, 07_sill_fabric.md, 10_rail_links.md,
11_optical_control.md, 15_commands.md, 19_reset_and_bringup.md) -/
def Obligations.CalibrationCommandsComplete : Prop :=
  (∀ (p : CmdPkt) (s : State), Accepted 0x501 p s → p.arg 0 1 = 1 → s.cut.state ≠ .armed → s.cut.state ≠ .running →
     exec (.calibrateSillLanes p) s = .next { (takePacket p s) with sill := { s.sill with calibrating := s.sill.calibrating ++ [p.ref], calibOn := true } }) ∧
  (∀ (p : CmdPkt) (s : State), Accepted 0x501 p s → p.arg 0 1 = 1 →
     (s.cut.state = .armed ∨ s.cut.state = .running) →
     exec (.calibrateSillLanes p) s = .next (finish p.ref 0x0202 [] (takePacket p s))) ∧
  (∀ (failing : List (Fin 1064960)) (cals : RingCals) (s u : State), s.sill.calibOn = true →
     u = calibrateLanes (failing.map (·.val)) cals s →
     exec (.sillLaneCalibrationDone failing cals) s = .next (finishAll u.sill.calibrating 0
       { u with sill := { u.sill with calibrating := [], calibOn := false } })) ∧
  (∀ (p : CmdPkt) (s : State), Accepted 0x501 p s → p.arg 0 1 = 2 → (s.rail (p.arg 1 1)).state ≠ 0 →
     (s.rail (p.arg 1 1)).state ≠ 7 →
     exec (.calibrateRetrainRail p) s = .next (finish p.ref 0 [] (takePacket p s))) ∧
  (∀ (p : CmdPkt) (s u : State), Accepted 0x501 p s → p.arg 0 1 = 2 →
     ((s.rail (p.arg 1 1)).state = 0 ∨ (s.rail (p.arg 1 1)).state = 7) →
     u = retrainRail (p.arg 1 1) (takePacket p s) →
     exec (.calibrateRetrainRail p) s = .next (if (u.rail (p.arg 1 1)).state = 1 then u.modRail (p.arg 1 1) (fun x => { x with calib := some p.ref }) else finish p.ref 0 [] u)) ∧
  (∀ (p : CmdPkt) (s u : State), Accepted 0x501 p s → p.arg 0 1 = 3 →
     u = (railDown (p.arg 1 1) 4 0 (takePacket p s)).modRail (p.arg 1 1) (fun x => { x with heldDown := true }) →
     exec (.calibrateHoldDown p) s = .next (finish p.ref 0 [] (answerTrain (p.arg 1 1) u))) ∧
  (∀ (p : CmdPkt) (s : State), Accepted 0x501 p s → p.arg 0 1 = 4 →
     exec (.calibrateRemeasureDelay p) s = .next (addJob { port := p.arg 1 1, only := true, cmd := some p.ref } (takePacket p s))) ∧
  (∀ (p : CmdPkt) (s u v w x : State) (l : List Nat), Accepted 0x502 p s → s.cut.state ≠ .loading →
     s.cut.state ≠ .armed → s.cut.state ≠ .running → s.rst.recovering = false →
     u = (List.range 8).foldl buildMesh (seqProcs.foldl startProc (clear2 (takePacket p s))) →
     v = releasePanels (fun k => decide (k < 65536)) u.now u →
     l = (List.range 32).filter (fun h => (v.mstack h).state == 3) →
     w = l.foldl (fun s h => s.modMem h (fun m => { m with state := 1, selfRefresh := true })) v →
     x = stopScrub { w with rst := { w.rst with state := 3, step := 0, recovery := some p.ref, recovering := true, blocks := w.rst.blocks ++ l.map (fun h => { kind := 3, index := h, phase := 1, start := v.now, since := v.now, limit := 60000000 }) } } →
     exec (.recover p) s = .next (addJob { port := 1, only := true } (addJob { port := 0, only := true }
       ((List.range 26).foldl (fun s r => if (s.rail r).state = 7 ∧ !(s.rail r).heldDown then retrainRail r s else s) x)))) ∧
  (∀ (p : CmdPkt) (s : State), Accepted 0x502 p s →
     (s.cut.state = .loading ∨ s.cut.state = .armed ∨ s.cut.state = .running ∨ s.rst.recovering = true) →
     exec (.recover p) s = .next (finish p.ref 0x0202 [] (takePacket p s))) ∧
  (∀ (test : BringTest) (s u : State), s.rst.state = 3 → s.rst.recovering = true → recovered s = true →
     s.sup.hold ≠ 0 →
     u = buildFloor (selfTest test (calibrateLanes (test.lanes.map (·.val)) test.rings (calibrateDowels test s))) →
     exec (.recoveryComplete test) s = .next (finishOpt s.rst.recovery 0 (setReady { u with
           rst := { u.rst with recovering := false, recovery := none } })))

/-- Without Square, an accepted ATTEST, IDENTITY, FW_STAGE, FW_COMMIT, DEBUG_UNLOCK or DEBUG_LOCK is answered 0x0501.
With it, ATTEST answers the report with its signature and IDENTITY answers MOD.ID, the key and its signature (0x0501
where the identity did not open). FW_STAGE of a bad range is answered 0x0103; with a commit under way it and FW_COMMIT
are answered 0x0202; otherwise FW_STAGE stores bytes in the slot that did not boot, which offset 0 erases first, and
FW_COMMIT begins judging it, and FW_COMMIT_COMPLETE answers 0x0303, 0x0302 or, after writing the commit record, 0.
DEBUG_UNLOCK replaces the nonce and answers 0x0302 unless the token is accepted, which then replaces any unlock and
raises 0x0C03; DEBUG_LOCK ends any unlock and replaces the nonce. DEBUG_EXPIRE ends an unlock whose lifetime has
passed. Signatures are free values (log entry 7), the random nonce too (log entry 8). (This states of R478, R481,
R482, R483, R484, R485 and R486 only what is said here.) (20_security.md) -/
def Obligations.SecurityCommandsComplete : Prop :=
  (∀ (p : CmdPkt) (s : State), Accepted 0x600 p s → s.procUp 0 = false →
     exec (.attest p) s = .next (finish p.ref 0x0501 [] (takePacket p s))) ∧
  (∀ (p : CmdPkt) (s : State), Accepted 0x601 p s → s.procUp 0 = false →
     exec (.identity p) s = .next (finish p.ref 0x0501 [] (takePacket p s))) ∧
  (∀ (p : CmdPkt) (s : State), Accepted 0x602 p s → s.procUp 0 = false →
     exec (.fwStage p) s = .next (finish p.ref 0x0501 [] (takePacket p s))) ∧
  (∀ (p : CmdPkt) (s : State), Accepted 0x603 p s → s.procUp 0 = false →
     exec (.fwCommit p) s = .next (finish p.ref 0x0501 [] (takePacket p s))) ∧
  (∀ (p : CmdPkt) (s : State), Accepted 0x604 p s → s.procUp 0 = false →
     exec (.debugUnlock p) s = .next (finish p.ref 0x0501 [] (takePacket p s))) ∧
  (∀ (p : CmdPkt) (s : State), Accepted 0x605 p s → s.procUp 0 = false →
     exec (.debugLock p) s = .next (finish p.ref 0x0501 [] (takePacket p s))) ∧
  (∀ (p : CmdPkt) (s : State), Accepted 0x600 p s → s.procUp 0 = true → s.sec.identityOk = false →
     exec (.attest p) s = .next (finish p.ref 0x0501 [] (takePacket p s))) ∧
  (∀ (p : CmdPkt) (s : State), Accepted 0x601 p s → s.procUp 0 = true → s.sec.identityOk = false →
     exec (.identity p) s = .next (finish p.ref 0x0501 [] (takePacket p s))) ∧
  (∀ (p : CmdPkt) (s : State), Accepted 0x602 p s → s.procUp 0 = true → (p.arg 0 4 ≠ 0 ∧
     (p.arg 0 4 % 64 ≠ 0 ∨ (p.payload.drop 8).length % 64 ≠ 0 ∨ 0xBFFFC0 < p.arg 0 4 + (p.payload.drop 8).length)) →
     exec (.fwStage p) s = .next (finish p.ref 0x0103 [] (takePacket p s))) ∧
  (∀ (p : CmdPkt) (s : State), Accepted 0x602 p s → s.procUp 0 = true → (¬ (p.arg 0 4 ≠ 0 ∧
     (p.arg 0 4 % 64 ≠ 0 ∨ (p.payload.drop 8).length % 64 ≠ 0 ∨ 0xBFFFC0 < p.arg 0 4 + (p.payload.drop 8).length))) →
     s.sec.committing.isSome = true →
     exec (.fwStage p) s = .next (finish p.ref 0x0202 [] (takePacket p s))) ∧
  (∀ (p : CmdPkt) (s : State), Accepted 0x603 p s → s.procUp 0 = true → s.sec.committing.isSome = true →
     exec (.fwCommit p) s = .next (finish p.ref 0x0202 [] (takePacket p s))) ∧
  (∀ (p : CmdPkt) (s : State), Accepted 0x600 p s → s.procUp 0 = true → s.sec.identityOk = true →
     exec (.attest p) s = .next (finish p.ref 0 (reportBytes (takePacket p s) (p.arg 0 32) ++
         (Config.falconSign (shake256 (reportBytes (takePacket p s) (p.arg 0 32)) 64) s.free ++ List.replicate 1280 0).take 1280)
       { (takePacket p s) with free := s.free + 1 })) ∧
  (∀ (p : CmdPkt) (s : State), Accepted 0x601 p s → s.procUp 0 = true → s.sec.identityOk = true →
     exec (.identity p) s = .next (finish p.ref 0 (toBytes 8 modId ++ flashBytes (takePacket p s) (blobBase + 2333) 3073) (takePacket p s))) ∧
  (∀ (p : CmdPkt) (s : State), Accepted 0x602 p s → s.procUp 0 = true → p.arg 0 4 = 0 → s.sec.committing = none →
     exec (.fwStage p) s = .next (finish p.ref 0 [] (flashStore (slotBase (1 - s.sec.slot)) (p.payload.drop 8)
       (flashErase (slotBase (1 - s.sec.slot)) 0xC00000 { (takePacket p s) with sec := { s.sec with staged := false } })))) ∧
  (∀ (p : CmdPkt) (s : State), Accepted 0x602 p s → s.procUp 0 = true → p.arg 0 4 ≠ 0 → p.arg 0 4 % 64 = 0 →
     (p.payload.drop 8).length % 64 = 0 → p.arg 0 4 + (p.payload.drop 8).length ≤ 0xBFFFC0 →
     s.sec.committing = none →
     exec (.fwStage p) s = .next (finish p.ref 0 [] (flashStore (slotBase (1 - s.sec.slot) + p.arg 0 4) (p.payload.drop 8) (takePacket p s)))) ∧
  (∀ (p : CmdPkt) (s : State), Accepted 0x603 p s → s.procUp 0 = true → s.sec.committing = none →
     exec (.fwCommit p) s = .next { (takePacket p s) with sec := { s.sec with committing := some p.ref } }) ∧
  (∀ (s u : State) (c : CmdRef) (f : Nat), s.sec.committing = some c → f = slotFault s (1 - s.sec.slot) false →
     u = { s with sec := { s.sec with committing := none } } →
     exec .fwCommitComplete s = .next (if f = 6 then finish c 0x0303 [] u else if f ≠ 0 then finish c 0x0302 [] u
       else finish c 0 [] (flashStore (recordAt (1 - s.sec.slot))
         (commitRecord (u.sec.bootSeq + 1) (shakeNat (signedBytes u (1 - s.sec.slot)) 32))
         { u with sec := { u.sec with staged := true } }))) ∧
  (∀ (p : CmdPkt) (s u : State), Accepted 0x604 p s → s.procUp 0 = true →
     u = endUnlock 2 (freshNonce (takePacket p s)) →
     exec (.debugUnlock p) s = .next (if tokenOk (takePacket p s) p.payload then
         finish p.ref 0 [] (raise 0x0C03 0 (bits (le p.payload 0 128) 48 3) (bits (le p.payload 0 128) 64 32) 0 0
           { u with
                 sec := { u.sec with unlocked := true, wasUnlocked := true, scopes := bits (le p.payload 0 128) 48 3, expiry := u.now + bits (le p.payload 0 128) 64 32 * 10 ^ 9 } })
       else finish p.ref 0x0302 [] (freshNonce (takePacket p s)))) ∧
  (∀ (p : CmdPkt) (s : State), Accepted 0x605 p s → s.procUp 0 = true →
     exec (.debugLock p) s = .next (finish p.ref 0 [] (freshNonce (endUnlock 1 (takePacket p s))))) ∧
  (∀ (s : State), s.sec.unlocked = true → s.sec.expiry ≤ s.now →
     exec .debugExpire s = .next (endUnlock 0 s))

/-- With scope diag, DIAG_CATALOG answers the part's catalogue and TRACE_READ the entries of a buffer, oldest first. A
write of DBG.CNT sets the counter (with an edge under way counted); one of DBG.TRACE clears the buffer and starts or
stops its capture, mode 3 being answered 0x0106 and a missing scope 0x0301. A write of 1 to CFG.COMMIT with none under
way erases the copy to be replaced and begins the commit; with one under way it is answered 0x0202, and a write of 0
does nothing. CFG_COMMIT_DONE stores and selects the new copy, or sets write_failed. FAULT_MIRROR_WRITE of a changed
table, ERR.PREV having been filled, writes the older slot; ERR_RATE_WINDOW begins a window in which every count
restarts. A write of 1 to pending of a pending entry of ERR.FAULT or ERR.PREV clears that pending bit and nothing else
of the entry, unless the entry is of the same grain; any other write there changes nothing. (This states of R5, R459,
R473, R505, R506, R507, R531, R533, R534 and R535 only what is said here.) (00_scope.md, 19_reset_and_bringup.md,
22_debug_access.md, 24_faults.md) -/
def Obligations.DiagnosticCommandsComplete : Prop :=
  (∀ (p : CmdPkt) (s : State), Accepted 0xF00 p s →
     exec (.diagCatalog p) s = .next (sendChunks 256 p.ref 0 (Config.diagCatalog (p.arg 0 1)) (takePacket p s))) ∧
  (∀ (p : CmdPkt) (s : State), Accepted 0xF02 p s →
     exec (.traceRead p) s = .next (sendChunks 256 p.ref 0 ((tabGet s.dbg.trace (p.arg 0 1) {}).entries.flatMap (fun e => toBytes 16 e.toNat)) (takePacket p s))) ∧
  (∀ (p : CmdPkt) (s : State) (v n : Nat) (o : Obs), Writes (0x01500020 + n) v p s → n < 16 →
     o = tabGet s.dbg.obs n {} →
     exec (.dbgCntWrite p) s = .next (finish p.ref 0 [] { takePacket p s with dbg := { s.dbg with obs := tabPut s.dbg.obs n { o with count := BitVec.ofNat 48 (v + b2n o.edge) } } })) ∧
  (∀ (p : CmdPkt) (s : State) (v n : Nat), Writes (0x01500040 + n) v p s → n < 9 → bits v 0 2 ≠ 3 →
     bit s.scopesNow 0 = true →
     exec (.dbgTraceWrite p) s = .next (finish p.ref 0 [] { takePacket p s with dbg := { s.dbg with trace := tabPut s.dbg.trace n { mode := bits v 0 2, capture := bits v 0 2 != 0 } } })) ∧
  (∀ (p : CmdPkt) (s : State) (v n : Nat), Writes (0x01500040 + n) v p s → n < 9 →
     (bits v 0 2 = 3 ∨ bit s.scopesNow 0 = false) →
     exec (.dbgTraceWrite p) s = .next (finish p.ref (if bits v 0 2 = 3 then 0x0106 else 0x0301) [] (takePacket p s))) ∧
  (∀ (p : CmdPkt) (s u : State) (v : Nat), Writes 0x01200003 v p s → bit v 0 = true → s.rst.busy = false →
     u = flashErase (copyBase (commitPlace (takePacket p s)).1) 0x100000 (takePacket p s) →
     ∃ t, exec (.cfgCommit p) s = .next (finish p.ref 0 [] t) ∧ t = { u with rst := t.rst } ∧ t.rst.busy = true ∧
       t.rst.commit = some ((commitPlace (takePacket p s)).1, (commitPlace (takePacket p s)).2, commitBytes (takePacket p s)) ∧
       t.rst.copy0Valid = (s.rst.copy0Valid && (commitPlace (takePacket p s)).1 != 0) ∧ t.rst.copy1Valid = (s.rst.copy1Valid && (commitPlace (takePacket p s)).1 != 1)) ∧
  (∀ (p : CmdPkt) (s : State) (v : Nat), Writes 0x01200003 v p s → (bit v 0 = false ∨ s.rst.busy = true) →
     exec (.cfgCommit p) s = .next (finish p.ref (if bit v 0 = false then 0 else 0x0202) [] (takePacket p s))) ∧
  (∀ (s u : State) (k seq : Nat) (b : List (BitVec 8)), s.rst.commit = some (k, seq, b) →
     u = { s with rst := { s.rst with commit := none, busy := false } } →
     ∃ t, exec (.cfgCommitDone true) s = .next (saveFlash true (flashStore (copyBase k) b t)) ∧
       t.rst.selected = k ∧ t.rst.baseline = false ∧ t.rst.seq = seq ∧ t = { u with rst := t.rst } ∧ t.rst.busy = false ∧ t.rst.commit = none) ∧
  (∀ (s : State) (k seq : Nat) (b : List (BitVec 8)), s.rst.commit = some (k, seq, b) →
     exec (.cfgCommitDone false) s = .next { s with
           rst := { s.rst with commit := none, busy := false, writeFailed := true } }) ∧
  (∀ (s : State) (g : Nat) (last : Option Nat) (k seq : Nat) (b : List (BitVec 8)), s.err.dirty = some g →
     s.err.prevCopied = true → last = mirrorNewest s → k = (match last with | some 0 => 1 | _ => 0) →
     seq = (match last with | some j => (mirrorSeq s j + 1) % 2 ^ 32 | none => 0) →
     b = (List.range 64).flatMap (fun i => toBytes 64 (recordWord (tabGet s.err.fault i {}))) ++ toBytes 4 seq ++ List.replicate 28 0 →
     exec .faultMirrorWrite s = .next (flashStore (mirrorBase k) (b ++ shake256 b 32 ++ List.replicate 4032 0) { s with err := { s.err with dirty := none } })) ∧
  (∀ (p : CmdPkt) (s : State) (v k : Nat) (r : Record), Writes (0x01620000 + k) v p s → k < 64 →
     r = tabGet s.err.fault k {} → bit v 19 = true → r.pend = true → r.grain ≠ s.now →
     ∃ t, exec (.faultAck p) s = .next (finish p.ref 0 [] t) ∧ t = { takePacket p s with err := t.err } ∧
       t.err = { s.err with
             fault := tabPut s.err.fault k { r with pend := false }, dirty := t.err.dirty } ∧ t.err.dirty.isSome = true) ∧
  (∀ (p : CmdPkt) (s : State) (v k : Nat) (r : Record), Writes (0x01620000 + k) v p s → k < 64 →
     r = tabGet s.err.fault k {} → (bit v 19 = false ∨ r.pend = false ∨ r.grain = s.now) →
     exec (.faultAck p) s = .next (finish p.ref 0 [] (takePacket p s))) ∧
  (∀ (p : CmdPkt) (s : State) (v k : Nat) (r : Record), Writes (0x01630000 + k) v p s → k < 64 →
     r = tabGet s.err.prev k {} → bit v 19 = true → r.pend = true → r.grain ≠ s.now →
     exec (.faultAck p) s = .next (finish p.ref 0 [] { takePacket p s with err := { s.err with prev := tabPut s.err.prev k { r with pend := false } } })) ∧
  (∀ (p : CmdPkt) (s : State) (v k : Nat) (r : Record), Writes (0x01630000 + k) v p s → k < 64 →
     r = tabGet s.err.prev k {} → (bit v 19 = false ∨ r.pend = false ∨ r.grain = s.now) →
     exec (.faultAck p) s = .next (finish p.ref 0 [] (takePacket p s))) ∧
  (∀ (s : State), s.now / 2 ^ 30 ≠ s.err.window →
     exec .errRateWindow s = .next { s with
           err := { s.err with window := s.now / 2 ^ 30, counts := [], rateDone := [] } })

/-- MAILBOX_SEND of a processor that executes: a mailbox whose receiver has no power, or is a supervisor without the
hold, rejects it; one that is not full takes it (boxPut); a full one leaves it with the sender. MAILBOX_RETRY after
1,000 grains, or after an interrupt of the sender, sends the first message kept again. PROC_FAULT of a processor that
executes, and WATCHDOG_EXPIRE of one running that has not written for 2^24 grains, make it fault with its cause and
address; WATCHDOG_WARNING at half that time raises source 50 once. PROC_RESTART of a faulted processor, not a
supervisor, makes it run again, and Scribe answers the commands that were in progress. (This states of R400, R401,
R403, R404 and R412 only what is said here.) (16_processors.md) -/
def Obligations.ProcessorRowsComplete : Prop :=
  (∀ (src dst : Fin 16) (msg : BitVec 512) (s : State), procPresent src.val = true → procPresent dst.val = true →
     src ≠ dst → procRuns s src.val = true → boxRejects s dst.val = true →
     exec (.mailboxSend src dst msg) s = .next s) ∧
  (∀ (src dst : Fin 16) (msg : BitVec 512) (s : State), procPresent src.val = true → procPresent dst.val = true →
     src ≠ dst → procRuns s src.val = true → boxRejects s dst.val = false →
     (tabGet s.boxes (boxKey src.val dst.val) []).length < 16 →
     exec (.mailboxSend src dst msg) s = .next (boxPut src.val dst.val { data := toBytes 64 msg.toNat } s)) ∧
  (∀ (src dst : Fin 16) (msg : BitVec 512) (s : State), procPresent src.val = true → procPresent dst.val = true →
     src ≠ dst → procRuns s src.val = true → boxRejects s dst.val = false →
     16 ≤ (tabGet s.boxes (boxKey src.val dst.val) []).length →
     exec (.mailboxSend src dst msg) s = .next { s with
           resend := s.resend ++ [(boxKey src.val dst.val, s.now, { data := toBytes 64 msg.toNat })] }) ∧
  (∀ (src dst : Fin 16) (s : State) (g : Nat) (m : Msg), procPresent src.val = true → procPresent dst.val = true →
     src ≠ dst → s.resend.find? (fun x => x.1 == boxKey src.val dst.val) = some (boxKey src.val dst.val, g, m) →
     (g + 1000 ≤ s.now ∨ ∃ d, (s.proc src.val).delivered = some d ∧ g ≤ d) → procRuns s src.val = true →
     exec (.mailboxRetry src dst) s = .next (boxSend src.val dst.val m
       { s with resend := delFirst (fun x => x.1 == boxKey src.val dst.val) s.resend })) ∧
  (∀ (proc : Fin 16) (cause : Fin 3) (address data : BitVec 32) (s : State), procPresent proc.val = true →
     (1 ≤ (s.proc proc.val).state ∧ (s.proc proc.val).state ≤ 3) →
     exec (.procFault proc cause address data) s = .next (takeFault proc.val cause.val (address.toNat + (if cause.val = 1 then data.toNat * 2 ^ 32 else 0)) s)) ∧
  (∀ (proc : Fin 16) (address : BitVec 32) (s : State), procPresent proc.val = true → (s.proc proc.val).state = 2 →
     (s.proc proc.val).written + 2 ^ 24 ≤ s.now →
     exec (.watchdogExpire proc address) s = .next (takeFault proc.val 3 address.toNat s)) ∧
  (∀ (proc : Fin 16) (s : State), procPresent proc.val = true → (s.proc proc.val).state = 2 →
     (s.proc proc.val).written + 2 ^ 23 ≤ s.now → (s.proc proc.val).warned = false →
     exec (.watchdogWarning proc) s = .next (sourceEdges proc.val 50 1 (s.modProc proc.val (fun x => { x with warned := true })))) ∧
  (∀ (proc : Fin 16) (s u : State), procPresent proc.val = true → (s.proc proc.val).state = 5 → proc.val ≠ 1 →
     proc.val ≠ 2 → (s.sup.hold ≠ 0 ∨ proc.val = 5 ∨ 8 ≤ proc.val) →
     u = s.modProc proc.val (fun x => { x with state := 2, restarted := true, written := s.now, warned := false, presented := 0, timerAt := none }) →
     exec (.procRestart proc) s = .next (if proc.val = 3 then answerBusy u else u))

/-- YULEY_FRAME_RECEIVE on a lane of a port in states 2 to 5, after the codewords of the lane and the losses of its
fibre are counted: a frame without sound codewords, or failing its CRC, type or reserved bits, is rejected
(rejectYuley); another passes its receiver, and does nothing more without superframe lock. With it the frame is an
observation of its lane's identity; then one whose channel is not the lane's own is rejected, and one of a lane not in
use or of a port not ACTIVE does nothing more. Of the others a data frame is taken in with its sequence number and
slots (takeYuley), and an idle frame brings its link words (linkYuley). EVENT_RECORD with Scribe running takes the
first event that the raiser holds out of its hands, and records it (recordEvent). EVENT_SEND, with a port that can
carry it, sends the first event of the queue on the subscribed channel with the count of events lost, or drops one
whose group is no longer enabled (log entry 60). REPLY_RELEASE, with a port that can carry them, sends the replies
that a channel held, and the channel holds none. (This states of R246, R249, R252, R253, R284, R371, R372, R373, R377,
R393, R395, R529 and R530 only what is said here.) (10_rail_links.md, 11_optical_control.md, 15_commands.md,
24_faults.md) -/
def Obligations.PortRowsComplete : Prop :=
  (∀ (port : Fin 2) (lane : Fin 4) (f : BitVec 4160) (due : Option (BitVec 16)) (codes : List (Fin 545)) (s u : State),
     2 ≤ (s.yport port.val).state → (s.yport port.val).state ≤ 5 →
     u = missCodewords (60 + 2 * port.val + 1) (10 + lane.val) (codes.map (·.val)) (yuleyRing port.val lane.val) (s.modPort port.val (fun y => { y with rx := tabMod y.rx (10 + lane.val) {} (fun x => (x.codes (codes.map (·.val))).1) })) →
     ((tabGet (u.yport port.val).rx (10 + lane.val) {}).sound = false ∨ bits f.toNat 4128 32 ≠ railCrc f ∨ bits f.toNat 0 2 = 0 ∨ bits f.toNat 25 7 ≠ 0) →
     exec (.yuleyFrameReceive port lane f due codes) s = .next (rejectYuley port.val due
       (u.modPort port.val (fun y => { y with rx := tabMod y.rx (10 + lane.val) {} LaneRx.skip })))) ∧
  (∀ (port : Fin 2) (lane : Fin 4) (f : BitVec 4160) (due : Option (BitVec 16)) (codes : List (Fin 545)) (s u v : State),
     2 ≤ (s.yport port.val).state → (s.yport port.val).state ≤ 5 →
     u = missCodewords (60 + 2 * port.val + 1) (10 + lane.val) (codes.map (·.val)) (yuleyRing port.val lane.val) (s.modPort port.val (fun y => { y with rx := tabMod y.rx (10 + lane.val) {} (fun x => (x.codes (codes.map (·.val))).1) })) →
     (tabGet (u.yport port.val).rx (10 + lane.val) {}).sound = true → bits f.toNat 4128 32 = railCrc f →
     bits f.toNat 0 2 ≠ 0 → bits f.toNat 25 7 = 0 →
     v = u.modPort port.val (fun y => { y with rx := tabMod y.rx (10 + lane.val) {} (fun y => y.pass (bit f.toNat 8) (bits f.toNat 0 2 == 3)) }) →
     (tabGet (u.yport port.val).rx (10 + lane.val) {}).framed = false →
     exec (.yuleyFrameReceive port lane f due codes) s = .next v) ∧
  (∀ (port : Fin 2) (lane : Fin 4) (f : BitVec 4160) (due : Option (BitVec 16)) (codes : List (Fin 545)) (s u v w : State),
     2 ≤ (s.yport port.val).state → (s.yport port.val).state ≤ 5 →
     u = missCodewords (60 + 2 * port.val + 1) (10 + lane.val) (codes.map (·.val)) (yuleyRing port.val lane.val) (s.modPort port.val (fun y => { y with rx := tabMod y.rx (10 + lane.val) {} (fun x => (x.codes (codes.map (·.val))).1) })) →
     (tabGet (u.yport port.val).rx (10 + lane.val) {}).sound = true → bits f.toNat 4128 32 = railCrc f →
     bits f.toNat 0 2 ≠ 0 → bits f.toNat 25 7 = 0 →
     v = u.modPort port.val (fun y => { y with rx := tabMod y.rx (10 + lane.val) {} (fun y => y.pass (bit f.toNat 8) (bits f.toNat 0 2 == 3)) }) →
     (tabGet (u.yport port.val).rx (10 + lane.val) {}).framed = true →
     w = observe (60 + 2 * port.val + 1) (10 + lane.val) (yuleyIdentity f) (yuleyRing port.val lane.val) (v.modFibre (60 + 2 * port.val + 1) (fun g => { g with map := tabPut g.map (10 + lane.val) lane.val })) →
     bits f.toNat 2 6 ≠ lane.val →
     exec (.yuleyFrameReceive port lane f due codes) s = .next (rejectYuley port.val due w)) ∧
  (∀ (port : Fin 2) (lane : Fin 4) (f : BitVec 4160) (due : Option (BitVec 16)) (codes : List (Fin 545)) (s u v w : State),
     2 ≤ (s.yport port.val).state → (s.yport port.val).state ≤ 5 →
     u = missCodewords (60 + 2 * port.val + 1) (10 + lane.val) (codes.map (·.val)) (yuleyRing port.val lane.val) (s.modPort port.val (fun y => { y with rx := tabMod y.rx (10 + lane.val) {} (fun x => (x.codes (codes.map (·.val))).1) })) →
     (tabGet (u.yport port.val).rx (10 + lane.val) {}).sound = true → bits f.toNat 4128 32 = railCrc f →
     bits f.toNat 0 2 ≠ 0 → bits f.toNat 25 7 = 0 →
     v = u.modPort port.val (fun y => { y with rx := tabMod y.rx (10 + lane.val) {} (fun y => y.pass (bit f.toNat 8) (bits f.toNat 0 2 == 3)) }) →
     (tabGet (u.yport port.val).rx (10 + lane.val) {}).framed = true →
     w = observe (60 + 2 * port.val + 1) (10 + lane.val) (yuleyIdentity f) (yuleyRing port.val lane.val) (v.modFibre (60 + 2 * port.val + 1) (fun g => { g with map := tabPut g.map (10 + lane.val) lane.val })) →
     bits f.toNat 2 6 = lane.val → ((w.yport port.val).state ≠ 5 ∨ bit (w.yport port.val).lanes lane.val = false) →
     exec (.yuleyFrameReceive port lane f due codes) s = .next w) ∧
  (∀ (port : Fin 2) (lane : Fin 4) (f : BitVec 4160) (due : Option (BitVec 16)) (codes : List (Fin 545)) (s u v w : State),
     2 ≤ (s.yport port.val).state → (s.yport port.val).state ≤ 5 →
     u = missCodewords (60 + 2 * port.val + 1) (10 + lane.val) (codes.map (·.val)) (yuleyRing port.val lane.val) (s.modPort port.val (fun y => { y with rx := tabMod y.rx (10 + lane.val) {} (fun x => (x.codes (codes.map (·.val))).1) })) →
     (tabGet (u.yport port.val).rx (10 + lane.val) {}).sound = true → bits f.toNat 4128 32 = railCrc f →
     bits f.toNat 0 2 ≠ 0 → bits f.toNat 25 7 = 0 →
     v = u.modPort port.val (fun y => { y with rx := tabMod y.rx (10 + lane.val) {} (fun y => y.pass (bit f.toNat 8) (bits f.toNat 0 2 == 3)) }) →
     (tabGet (u.yport port.val).rx (10 + lane.val) {}).framed = true →
     w = observe (60 + 2 * port.val + 1) (10 + lane.val) (yuleyIdentity f) (yuleyRing port.val lane.val) (v.modFibre (60 + 2 * port.val + 1) (fun g => { g with map := tabPut g.map (10 + lane.val) lane.val })) →
     bits f.toNat 2 6 = lane.val → (w.yport port.val).state = 5 → bit (w.yport port.val).lanes lane.val = true →
     exec (.yuleyFrameReceive port lane f due codes) s = .next (if bits f.toNat 0 2 = 1 then takeYuley port.val (bits f.toNat 9 16) (frameSlots f) w
       else if bits f.toNat 0 2 = 2 then linkYuley port.val f w else w)) ∧
  (∀ (raiser : Fin 16) (s : State) (r : Record), s.err.raised.find? (fun r => r.raiser == raiser.val) = some r →
     s.procUp 3 = true →
     exec (.eventRecord raiser) s = .next (recordEvent r { s with
           err := { s.err with raised := delFirst (fun r => r.raiser == raiser.val) s.err.raised } })) ∧
  (∀ (s : State) (r : Record) (rest : List Record) (q : Nat), s.yuley.events = r :: rest → s.portFor 0 = some q →
     (tabGet s.yuley.subs (r.code / 256) {}).enabled = true →
     ∃ y, exec .eventSend s = .next { s with
           yuley := { s.yuley with events := rest, dropped := 0, sent := s.yuley.sent ++ [y] } } ∧
       y.port = q ∧ y.ptype = 2 ∧ y.opcode = 0x710 ∧ y.channel = (tabGet s.yuley.subs (r.code / 256) {}).channel ∧
       y.payload = eventPayload r s.yuley.dropped ∧ y.overflow = decide (0 < s.yuley.dropped)) ∧
  (∀ (s : State) (r : Record) (rest : List Record) (q : Nat), s.yuley.events = r :: rest → s.portFor 0 = some q →
     (tabGet s.yuley.subs (r.code / 256) {}).enabled = false →
     exec .eventSend s = .next { s with yuley := { s.yuley with events := rest } }) ∧
  (∀ (port : Fin 2) (channel : Fin 8) (s : State) (q : Nat), s.portFor port.val = some q →
     exec (.replyRelease port channel) s = .next
       (State.modChan { s with
             yuley := { s.yuley with sent := s.yuley.sent ++ (s.chan (8 * port.val + channel.val)).held.map (fun p => { p with port := q }) } }
         (8 * port.val + channel.val) (fun c => { c with held := [] })))

/-- IRQ_SOURCE_EDGE of an input that the processor has sets the line's level and counts its edges (the sheaf strobe
only at a boundary). IRQ_DELIVER of a running or idle processor outside a handler, a source deliverable and a
condition of R408 met, presents every deliverable source at once and makes it running. IRQ_ACKNOWLEDGE of a running
processor clears the bits it writes as 1, sets again those whose edges fell in the same grain (reEdge), starts the
stuck time of those whose line is high, and what firmware does follows (procAct, log entry 26). IRQ_OVERRUN_CLEAR (but
for a new overrun of the same grain), IRQ_STUCK_CLEAR, IRQ_STUCK, STUCK_EPISODE_END and LOCAL_TIMER do what R407, R409
and R404 say. PROC_SLEEP of an idle processor that may sleep retains its controller; PROC_WAKE of one that sleeps,
when it is due, restores it and merges the latches. (This states of R404, R405, R406, R407, R408, R409, R410 and R411
only what is said here.) (16_processors.md) -/
def Obligations.InterruptRowsComplete : Prop :=
  (∀ (proc : Fin 16) (source : Fin 64) (edges : Fin 3) (high : Bool) (s : State), procPresent proc.val = true →
     inputUsed proc.val source.val = true → (s.proc proc.val).state ≠ 0 → (source.val = 48 → s.atBoundary = true) →
     exec (.irqSourceEdge proc source edges high) s = .next (sourceEdges proc.val source.val edges.val (sourceLine proc.val source.val high s))) ∧
  (∀ (proc : Fin 16) (s : State), procPresent proc.val = true →
     ((s.proc proc.val).state = 2 ∨ (s.proc proc.val).state = 3) → (s.proc proc.val).presented = 0 →
     deliverable (s.proc proc.val) ≠ 0 → mayDeliver s proc.val = true →
     exec (.irqDeliver proc) s = .next (s.modProc proc.val (fun x => { x with
           state := 2, presented := deliverable x, delivered := some s.now, deliveries := x.deliveries + 1 }))) ∧
  (∀ (proc : Fin 16) (bits : BitVec 64) (act : ProcAct) (s : State), procPresent proc.val = true →
     (s.proc proc.val).state = 2 →
     exec (.irqAcknowledge proc bits act) s = .next (procAct proc.val act (s.modProc proc.val (fun x => (setBits 64 bits.toNat).foldl (reEdge s.now) { x with
           pend := x.pend &&& ~~~bits,
           cleared := (setBits 64 (bits &&& x.pend &&& x.line).toNat).foldl (fun t i => tabPut t i s.now) x.cleared })))) ∧
  (∀ (proc : Fin 16) (bits : BitVec 64) (s : State), procPresent proc.val = true → (s.proc proc.val).state = 2 →
     exec (.irqOverrunClear proc bits) s = .next (s.modProc proc.val (fun x => { x with
           ovr := x.ovr &&& ~~~(bits &&& ~~~newOverruns s.now x) }))) ∧
  (∀ (proc : Fin 16) (bits : BitVec 64) (s : State), procPresent proc.val = true → (s.proc proc.val).state = 2 →
     exec (.irqStuckClear proc bits) s = .next (s.modProc proc.val (fun x => { x with stuck := x.stuck &&& ~~~bits }))) ∧
  (∀ (proc : Fin 16) (source : Fin 64) (s : State) (g : Nat), procPresent proc.val = true →
     (s.proc proc.val).stuckTh ≠ 0 → tabFind (s.proc proc.val).cleared source.val = some g →
     g + (s.proc proc.val).stuckTh * 1024 ≤ s.now → bit (s.proc proc.val).line.toNat source.val = true →
     bit (s.proc proc.val).episode.toNat source.val = false → (s.proc proc.val).state ≠ 4 →
     exec (.irqStuck proc source) s = .next (raise 0x0902 0 proc.val source.val 0 0 (s.modProc proc.val (fun x =>
         { x with
               stuck := x.stuck ||| BitVec.ofNat 64 (2 ^ source.val),
               episode := x.episode ||| BitVec.ofNat 64 (2 ^ source.val) })))) ∧
  (∀ (proc : Fin 16) (source : Fin 64) (s : State), procPresent proc.val = true →
     bit (s.proc proc.val).episode.toNat source.val = true →
     exec (.stuckEpisodeEnd proc source) s = .next (sourceLine proc.val source.val false s)) ∧
  (∀ (proc : Fin 16) (s : State) (g : Nat), procPresent proc.val = true → (s.proc proc.val).timerAt = some g →
     g ≤ s.now →
     exec (.localTimer proc) s = .next (sourceEdges proc.val 49 1 (s.modProc proc.val (fun x => { x with timerAt := none })))) ∧
  (∀ (proc : Fin 16) (s : State), procPresent proc.val = true → (s.proc proc.val).state = 3 →
     (proc.val = 1 ∨ proc.val = 2 → (s.proc proc.val).sleepOk = true) → (proc.val = 3 → s.yuley.isOpen = false) →
     exec (.procSleep proc) s = .next (s.modProc proc.val (fun x => { x with
           state := 4, latch := [],
           retained := some { pend := (s.proc proc.val).pend, ovr := (s.proc proc.val).ovr, enable := (s.proc proc.val).enable, stuck := (s.proc proc.val).stuck, left := (match (s.proc proc.val).delivered with | some g => (s.proc proc.val).hold - (s.now - g) | none => 0), hold := (s.proc proc.val).hold, count := (s.proc proc.val).count, stuckTh := (s.proc proc.val).stuckTh, sleepOk := (s.proc proc.val).sleepOk, gray := (s.proc proc.val).gray } }))) ∧
  (∀ (proc : Fin 16) (ordered : Bool) (s : State) (r : Retained), procPresent proc.val = true →
     (s.proc proc.val).state = 4 → (s.proc proc.val).retained = some r →
     (ordered = true ∨ (s.proc proc.val).latch.any (fun c => c.2 != 0 && (bit r.enable.toNat c.1 || c.1 == 49)) = true) →
     exec (.procWake proc ordered) s = .next (s.modProc proc.val (fun _ =>
       { (s.proc proc.val).latch.foldl mergeLatch { s.proc proc.val with pend := r.pend, ovr := r.ovr, enable := r.enable, stuck := r.stuck, hold := r.hold, count := r.count, stuckTh := r.stuckTh, sleepOk := r.sleepOk } with latch := [], retained := none, state := 3, delivered := (s.proc proc.val).delivered.map (fun _ => s.now + r.left - (s.proc proc.val).hold) })))

/-- ALERT_N_FALL and ALERT_N_RISE set the pin. PWR_INPUT_RANGE in a band of marginal operation (62 V to below 66 V,
above 78 V to 80 V) outside an episode begins one and raises PWR_INPUT_RANGE (0x0A01), within one changes nothing;
outside the bands the episode ends. INPUT_LOCKOUT and SUPPLY_STAGE_FAULT turn every stage off (losePower).
PWR_REG_FAULT of a domain that stands raises 0x0A03 with the domain, halts an armed or running list that uses it, and
turns it off; of one that is off or faulted it changes nothing. THERMAL_TRIP with the domains supplied and no trip
latched turns the domains off, sets the latch and raises in-band interrupt 2, and otherwise changes nothing.
AUX_1V8_OVERCURRENT turns that supply off. (This states of R385, R429, R430, R432, R440 and R514 only what is said
here.) (15_commands.md, 18_power_thermal.md, 23_physical.md) -/
def Obligations.PowerRowsComplete : Prop :=
  (∀ (s : State),
     exec .alertNFall s = .next { s with pwr := { s.pwr with alertN := false } } ∧
     exec .alertNRise s = .next { s with pwr := { s.pwr with alertN := true } } ∧
     exec .inputLockout s = .next (losePower { s with pwr := { s.pwr with lockout := true } }) ∧
     exec .supplyStageFault s = .next (losePower s) ∧
     exec .aux1v8Overcurrent s = .next { s with pwr := { s.pwr with aux := false } }) ∧
  (∀ (volts : BitVec 12) (s u : State), (1240 ≤ volts.toNat ∧ volts.toNat < 1320 ∨ 1560 < volts.toNat ∧
     volts.toNat ≤ 1600) → s.pwr.rangeEpisode = false →
     u = { s with pwr := { s.pwr with range := true, rangeEpisode := true } } →
     exec (.pwrInputRange volts) s = .next (raise 0x0A01 0 (pwrInput u) 0 0 0 u)) ∧
  (∀ (volts : BitVec 12) (s : State), (1240 ≤ volts.toNat ∧ volts.toNat < 1320 ∨ 1560 < volts.toNat ∧
     volts.toNat ≤ 1600) → s.pwr.rangeEpisode = true →
     exec (.pwrInputRange volts) s = .next s) ∧
  (∀ (volts : BitVec 12) (s : State), (¬ (1240 ≤ volts.toNat ∧ volts.toNat < 1320)) → (¬ (1560 < volts.toNat ∧
     volts.toNat ≤ 1600)) →
     exec (.pwrInputRange volts) s = .next { s with pwr := { s.pwr with rangeEpisode := false } }) ∧
  (∀ (kind : Fin 4) (index : BitVec 16) (s u : State), domainOk kind.val index.toNat = true →
     s.pwr.domainsOff = false → s.pwr.regFaults.contains (kind.val, index.toNat) = false →
     u = raise 0x0A03 0 (kind.val + index.toNat * 256) 0 0 0 { s with pwr := { s.pwr with regFaults := s.pwr.regFaults ++ [(kind.val, index.toNat)] } } →
     exec (.pwrRegFault kind index) s = .next (domainOff kind.val index.toNat
       (if unusedTiller u kind.val index.toNat then u else haltRun 6 (kind.val + index.toNat * 256) u))) ∧
  (∀ (kind : Fin 4) (index : BitVec 16) (s : State), domainOk kind.val index.toNat = true →
     (s.pwr.domainsOff = true ∨ s.pwr.regFaults.contains (kind.val, index.toNat) = true) →
     exec (.pwrRegFault kind index) s = .next s) ∧
  (∀ (s : State), (s.pwr.trip = true ∨ s.pwr.stagesOff = true) →
     exec .thermalTrip s = .next s) ∧
  (∀ (s : State), s.pwr.trip = false → s.pwr.stagesOff = false →
     ∃ t, exec .thermalTrip s = .next t ∧ t.pwr.trip = true ∧ t.dbg.ibi = (domainsLost s).dbg.ibi ++ [2] ∧
       t = { domainsLost s with pwr := t.pwr, dbg := t.dbg } ∧ t.pwr = { (domainsLost s).pwr with trip := true })

/-- RESET_N_ASSERT of a pin that was high asserts the pin's source; RESET_N_RELEASE of one that was low lets it go.
POWER_ON_DETECT_ASSERT asserts power-on detection for its cause, and a lost supply also clears CFG.RESET, the trims
and the retained records; POWER_ON_DETECT_RELEASE ends its part of the episode and lets the converters start.
RESET_EPISODE_END with every source released ends the episode at its level and begins what follows (level 1 at once,
level 2 a warm bring-up, level 3 a cold one; a level 2 before the module was ever built is a level 3).
BRINGUP_STEP_DONE ends the step in progress (step 1 only with a bootable slot, step 12 only with the time locked);
BRINGUP_STEP_TIMEOUT past the limit fails the step: of steps 2 to 5 the module is failed, of 6, 8, 9, 11 and 12 the
step ends, and of 0, 1, 7 and 10 only the failure is noted; FW_SLOT_REJUDGE judges the slots again.
WARM_BRINGUP_COMPLETE reports the ready state. (This states of R446, R460, R461, R465, R469, R472 and R480 only what
is said here.) (19_reset_and_bringup.md, 20_security.md) -/
def Obligations.ResetRowsComplete : Prop :=
  (∀ (s : State), s.rst.resetN = true →
     exec .resetNAssert s = .next (assertSource pinLevel false { s with rst := { s.rst with resetN := false } })) ∧
  (∀ (s : State), s.rst.resetN = false →
     exec .resetNRelease s = .next { s with
           rst := { s.rst with resetN := true, episode := s.rst.episode.map (fun ep => { ep with pin := false }) } }) ∧
  (∀ (cause : Fin 3) (s u : State),
     u = powerOnAssert { s with rst := { s.rst with pwrOk := s.rst.pwrOk && decide (cause.val ≠ 2) }, pwr := { s.pwr with lockout := s.pwr.lockout || decide (cause.val = 1) } } →
     exec (.powerOnDetectAssert cause) s = .next (if cause.val = 0 then
       { u with
             rst := { u.rst with lastLevel := 0, lastSource := 0, episodes := 0, trims := [], trimRestarts := 0 },
             sup := { u.sup with retained := [] } } else u)) ∧
  (∀ (s : State) (ep : Episode), s.rst.episode = some ep → ep.por = true →
     exec .powerOnDetectRelease s = .next { s with
           rst := { s.rst with episode := some { ep with por := false }, pwrOk := true },
           pwr := { s.pwr with lockout := false, stagesOff := false } }) ∧
  (∀ (s u v : State) (ep : Episode) (level : Nat), s.rst.episode = some ep → ep.pin = false → ep.por = false →
     (level = (if ep.level = 2 ∧ s.rst.built = false then 3 else ep.level)) →
     u = (if level ≠ ep.level then clearLevel 3 false s else s) →
     v = { u with rst := { u.rst with episode := none, lastLevel := level, lastSource := b2n ep.sawPin + 2 * b2n ep.sawPor } } →
     exec .resetEpisodeEnd s = .next (if level = 1 then endLevel1 v else if level = 2 then beginWarm v else beginCold v)) ∧
  (∀ (test : BringTest) (s : State), coldRuns s = true → s.rst.step ≠ 1 → (s.rst.step = 12 → s.time.st = .locked) →
     exec (.bringupStepDone test) s = .next (endStep s.rst.step test s)) ∧
  (∀ (test : BringTest) (s : State), coldRuns s = true → s.rst.step = 1 → s.sec.nextJudge = 0 →
     exec (.bringupStepDone test) s = .next (if (secureBoot s).sec.booted then endStep 1 test (secureBoot s) else secureBoot s)) ∧
  (∀ (test : BringTest) (s u : State), coldRuns s = true → s.rst.stepSince + stepLimit s.rst.step < s.now →
     2 ≤ s.rst.step → s.rst.step ≤ 5 →
     u = { failBringup s.rst.step s with rst := { (failBringup s.rst.step s).rst with state := 6, step := 0 } } →
     exec (.bringupStepTimeout test) s = .next (raise 0x0B05 0 (cfgState (failBringup s.rst.step s)) (cfgState u) 0 0 u)) ∧
  (∀ (test : BringTest) (s : State), coldRuns s = true → s.rst.stepSince + stepLimit s.rst.step < s.now →
     (s.rst.step = 6 ∨ s.rst.step = 8 ∨ s.rst.step = 9 ∨ s.rst.step = 11 ∨ s.rst.step = 12) →
     exec (.bringupStepTimeout test) s = .next (endStep s.rst.step test (failBringup s.rst.step s))) ∧
  (∀ (test : BringTest) (s : State), coldRuns s = true → s.rst.stepSince + stepLimit s.rst.step < s.now →
     (s.rst.step = 0 ∨ s.rst.step = 1 ∨ s.rst.step = 7 ∨ s.rst.step = 10) →
     exec (.bringupStepTimeout test) s = .next (failBringup s.rst.step s)) ∧
  (∀ (s : State), coldRuns s = true → s.rst.step = 1 → s.sec.nextJudge ≠ 0 → s.sec.nextJudge ≤ s.now →
     exec .fwSlotRejudge s = .next (if (secureBoot s).sec.booted then
         endStep 1 {} { secureBoot s with sec := { (secureBoot s).sec with nextJudge := 0 } } else secureBoot s)) ∧
  (∀ (s u : State), s.rst.state = 2 → s.rst.warm = true → s.sup.hold ≠ 0 →
     u = s.parts.foldl (fun s p => markDegraded p.1 s) s →
     exec .warmBringupComplete s = .next (setReady { u with rst := { u.rst with warm := false } }))

/-- SUP_HEARTBEAT of a supervisor that runs sets the heartbeat's time. HEARTBEAT_TIMEOUT 10 ms after it releases the
hold and takes that supervisor's power: after A, B starts; after B, the module will be headless. SUP_FAILOVER of a B
that runs, within 500 ms of A's release and outside a level-3 reset, gives it the hold and raises SUP_FAILOVER
(0x0D01) after policy resumes; HEADLESS_TIMEOUT 500 ms on makes the module headless at the next boundary. SUP_HEADLESS
does so at that boundary; in the safe stop that follows it sets the ceilings to 0, of a running list at its next
schedule boundary, and halts a list whose steps in flight have drained with reason 9. SAVED_STATE_WRITE at a boundary
puts a record of the state over the older one; SAVED_STATE_FLASH_WRITE every 10 s puts one in flash. (This states of
R385, R490, R493, R494, R495, R496 and R497 only what is said here.) (15_commands.md, 21_supervisor_failover.md) -/
def Obligations.SupervisorRowsComplete : Prop :=
  (∀ (s : State), supRuns s = true →
     exec .supHeartbeat s = .next { s with sup := { s.sup with beat := s.now } }) ∧
  (∀ (s u : State), s.sup.hold ≠ 0 → s.sup.beat + 10 ^ 7 ≤ s.now →
     u = (clearProc (endCommit s) s.sup.hold).modProc s.sup.hold (fun x => { x with state := 0 }) →
     exec .heartbeatTimeout s = .next (if s.sup.hold = 1 then
         startProc { u with
               sup := { u.sup with hold := 0, phase := 1, aReleased := true, released := some s.now, bBooted := true } } 2
       else { u with sup := { u.sup with hold := 0, phase := 1, released := some s.now, headlessDue := some s.now } })) ∧
  (∀ (s u : State) (g : Nat), s.sup.phase = 1 → s.sup.hold = 0 → s.sup.aReleased = true →
     s.sup.headlessDue = none → s.sup.bBooted = true → s.sup.released = some g → s.now ≤ g + 500000000 →
     procRuns s 2 = true → s.rst.episode = none →
     u = resumePolicy (chooseSaved s).1 { s with sup := { s.sup with hold := 2, phase := 0, failover := true, source := (chooseSaved s).2, takeover := min 1023 ((s.now - g) / 1000000), beat := s.now }, rst := { s.rst with stepSince := s.now } } →
     exec .supFailover s = .next (raise 0x0D01 0 (supState u) 0 0 0 u)) ∧
  (∀ (s : State) (g : Nat), s.sup.released = some g → s.sup.phase = 1 → s.sup.hold = 0 → s.sup.headlessDue = none →
     g + 500000000 < s.now →
     exec .headlessTimeout s = .next { s with sup := { s.sup with headlessDue := some s.now } }) ∧
  (∀ (s : State) (g : Nat), s.sup.headlessDue = some g → s.atBoundary = true → g < s.now →
     exec .supHeadless s = .next (becomeHeadless s)) ∧
  (∀ (s : State), s.sup.headlessDue = none → s.sup.phase = 2 → s.cut.state = .running → s.cut.safeDue = true →
     s.schedBoundary = true →
     exec .supHeadless s = .next (ceilingsZero { s with cut := { s.cut with safeDue := false, safeStop := true } })) ∧
  (∀ (s : State), s.sup.headlessDue = none → s.sup.phase = 2 → s.cut.state ≠ .running → s.cut.safeDue = true →
     exec .supHeadless s = .next (ceilingsZero { s with cut := { s.cut with safeDue := false } })) ∧
  (∀ (s : State), s.sup.headlessDue = none → s.sup.phase = 2 → s.cut.state = .running → s.cut.safeDue = false →
     s.cut.safeStop = true → drained s = true →
     exec .supHeadless s = .next (haltRun 9 0 s)) ∧
  (∀ (s : State), supRuns s = true → s.atBoundary = true → savedStale s s.sup.retained = true →
     s.sup.savedAt < s.now →
     ∃ r, exec .savedStateWrite s = .next { s with
           sup := { s.sup with retained := (r :: s.sup.retained).take 2, saveSeq := r.seq, savedAt := s.now } } ∧
       r = savedOf s ((s.sup.retained.map (·.seq)).headD 0 + 1)) ∧
  (∀ (ok : Bool) (s : State), supRuns s = true → s.sup.flashAt + 10 ^ 10 ≤ s.now →
     exec (.savedStateFlashWrite ok) s = .next (saveFlash ok s))

/-- TRST_N_ASSERT selects IDCODE. EXTEST and SAMPLE/PRELOAD capture the pins and load the boundary register; IDCODE
selects the identity; BYPASS selects its register, and a code that R501 does not list acts so and sets refused. FLASH,
open, reads (1) or writes (2) eight bytes of the bundle slots, or erases (3) 4 KiB of them, and does nothing on
another command; shut, it is refused. INTSCAN with scope scan, no run and a panel of the dies stops the panel and
captures its scan bits (free values, log entry 24); otherwise it is refused. The I3C target takes its address, its
offset (one byte; a longer write is NACKed) and answers reads from the offset on. TEST_EN_CHANGE takes the level.
(This states of R499, R500, R501, R502, R503 and R508 only what is said here.) (22_debug_access.md) -/
def Obligations.DebugPortRowsComplete : Prop :=
  (∀ (s : State),
     exec .trstNAssert s = .next { s with
           dbg := { s.dbg with ir := 1, dr := 0x172327AB, extest := false, tapActive := false } } ∧
     exec .jtagIdcode s = .next (jtagTake 1 0x172327AB s) ∧
     (∀ shift, exec (.jtagExtest shift) s = .next { jtagTake 0 (pinWord s) s with dbg := { (jtagTake 0 (pinWord s) s).dbg with boundary := shift } }) ∧
     (∀ shift, exec (.jtagSamplePreload shift) s = .next { jtagTake 2 (pinWord s) s with dbg := { (jtagTake 2 (pinWord s) s).dbg with boundary := shift } }) ∧
     exec (.jtagBypass 0xFF) s = .next (jtagTake 0xFF 0 s) ∧
     (∀ high, exec (.testEnChange high) s = .next (endCapture (noteTestEn { s with dbg := { s.dbg with testEn := high } }))) ∧
     (∀ a, exec (.i3cDynamicAddress a) s = .next { s with dbg := { s.dbg with i3cAddr := a.toNat } })) ∧
  (∀ (code : BitVec 8) (s : State), code ∉ [0, 1, 2, 0x10, 0x11, 0xFF] →
     exec (.jtagBypass code) s = .next (jtagRefuse s)) ∧
  (∀ (a : BitVec 24) (data : BitVec 64) (s : State), flashOpen s = true →
     exec (.jtagFlash a 1 data) s = .next (jtagTake 0x10 (a.toNat + 2 ^ 24 + ofBytes (((List.range 8).map (a.toNat + ·)).map (fun i => if inSlots i then (flashBytes s i 1).headD 0 else 0)) * 2 ^ 32) s)) ∧
  (∀ (a : BitVec 24) (data : BitVec 64) (s : State), flashOpen s = true →
     exec (.jtagFlash a 2 data) s = .next (jtagTake 0x10 (a.toNat + 2 * 2 ^ 24 + data.toNat * 2 ^ 32)
       ((((List.range 8).map (a.toNat + ·)).zip (toBytes 8 data.toNat)).foldl (fun s x => if inSlots x.1 then flashStore x.1 [x.2] s else s) s))) ∧
  (∀ (a : BitVec 24) (data : BitVec 64) (s : State), flashOpen s = true → inSlots a.toNat = true →
     exec (.jtagFlash a 3 data) s = .next (jtagTake 0x10 (a.toNat + 3 * 2 ^ 24 + data.toNat * 2 ^ 32) (flashErase (a.toNat / 4096 * 4096) 4096 s))) ∧
  (∀ (a : BitVec 24) (data : BitVec 64) (s : State), flashOpen s = true → inSlots a.toNat = false →
     exec (.jtagFlash a 3 data) s = .next (jtagTake 0x10 (a.toNat + 3 * 2 ^ 24 + data.toNat * 2 ^ 32) s)) ∧
  (∀ (a : BitVec 24) (command : BitVec 8) (data : BitVec 64) (s : State), flashOpen s = true → command ∉ [1, 2,
     3] →
     exec (.jtagFlash a command data) s = .next (jtagTake 0x10 (a.toNat + command.toNat * 2 ^ 24 + data.toNat * 2 ^ 32) s)) ∧
  (∀ (a : BitVec 24) (command : BitVec 8) (data : BitVec 64) (s : State), flashOpen s = false →
     exec (.jtagFlash a command data) s = .next (jtagRefuse s)) ∧
  (∀ (panel : BitVec 16) (s u : State) (n : Nat), bit s.scopesNow 2 = true → s.cut.state ≠ .armed →
     s.cut.state ≠ .running → s.cut.state ≠ .paused → panel.toNat < 0x1000 → panel.toNat % 512 ≤ 288 →
     n = tabGet s.dbg.scanned panel.toNat 0 →
     u = { s with dbg := { s.dbg with scanned := tabPut s.dbg.scanned panel.toNat (n + 1) } } →
     exec (.jtagIntscan panel) s = .next (jtagTake 0x11 (Config.scanBits panel.toNat n)
       (match tabFind s.clk.panels panel.toNat with
         | some _ => u.modPanel panel.toNat (fun x => { clearPanel x with stopped := true })
         | none => u))) ∧
  (∀ (panel : BitVec 16) (s : State),
     (bit s.scopesNow 2 = false ∨ s.cut.state = .armed ∨ s.cut.state = .running ∨ s.cut.state = .paused ∨ 0x1000 ≤ panel.toNat ∨ 288 < panel.toNat % 512) →
     exec (.jtagIntscan panel) s = .next (jtagRefuse s)) ∧
  (∀ (b : BitVec 8) (s : State),
     exec (.i3cOffsetWrite [b]) s = .next { s with dbg := { s.dbg with i3cOffset := b.toNat } }) ∧
  (∀ (b c : BitVec 8) (l : List (BitVec 8)) (s : State),
     exec (.i3cOffsetWrite (b :: c :: l)) s = .next { s with dbg := { s.dbg with nacks := s.dbg.nacks + 1 } }) ∧
  (∀ (count : Nat) (s : State) (snap : List (BitVec 8)),
     snap = (if s.dbg.snapshot.isEmpty then snapshotOf s else s.dbg.snapshot) →
     exec (.i3cRead count) s = .next { s with
           dbg := { s.dbg with i3cOut := s.dbg.i3cOut ++ (List.range count).map (fun i => snap.getD ((s.dbg.i3cOffset + i) % 256) 0), i3cOffset := (s.dbg.i3cOffset + count) % 256 } })

/-- For every command row and every packet of that row which its channel starts: where a check fails, the packet
leaves its buffer, the answer carries the status of the first failed check (cmdStatus) and no data, and nothing else
happens but that a LOAD so refused with 0x0213 shows code 0x15 in CUT.LOAD (noteRefusedLoad, which leaves the state as
it is for every other command and status). A packet that its channel does not start changes nothing. (This states of
R233, R376 and R379 only what is said here.) (09_cut_lists.md, 15_commands.md) -/
def Obligations.FirstFailedCheckAnswers : Prop :=
  (∀ (c : Instr) (p : CmdPkt) (s : State), IsRow p c → canStart s p = true → cmdStatus s p ≠ 0 →
     exec c s = .next (finish p.ref (cmdStatus s p) [] (takePacket p (noteRefusedLoad p s)))) ∧
  (∀ (p : CmdPkt) (s : State), (p.opcode ≠ 0x300 ∨ cmdStatus s p ≠ 0x0213) → cmdStatus s p ≠ 0 →
     noteRefusedLoad p s = s) ∧
  (∀ (c : Instr) (p : CmdPkt) (s : State), IsRow p c → canStart s p = false →
     exec c s = .next s)

/-- While the module is headless: a packet that its channel starts, that passes the checks of R379 on header, session,
opcode, payload and ranges (steps 1 to 5), and, for a diagnostics opcode, the diagnostics lock, is answered 0x0531 and
executes nothing, whichever row it is, unless its opcode is HELLO, PING, PARAM_READ, EVT_SUBSCRIBE, EVT_QUERY, ATTEST
or IDENTITY; those pass the supervisor check, and what step 7 (module state) says decides. (R385) -/
def Obligations.HeadlessRefusesAllButSeven : Prop :=
  (∀ (c : Instr) (p : CmdPkt) (s : State), IsRow p c → canStart s p = true → s.yuley.headless = true →
     formStatus s p = 0 → rangeStatus p = 0 → (0xF00 ≤ p.opcode → bit s.scopesNow 0 = true) → p.opcode ∉ [0x000,
     0x001, 0x100, 0x700, 0x701, 0x600, 0x601] →
     exec c s = .next (finish p.ref 0x0531 [] (takePacket p s))) ∧
  (∀ (p : CmdPkt) (s : State), s.yuley.headless = true → formStatus s p = 0 → rangeStatus p = 0 →
     p.opcode ∈ [0x000, 0x001, 0x100, 0x700, 0x701, 0x600, 0x601] →
     cmdStatus s p = readyStatus s p)

/-- An accepted write of v to ERR.ACK, with records in the log: where v lies from the oldest eseq held to
CMD.EVENTS.next - 1, every log record with an eseq up to v has its pending bit cleared, the others keep theirs, every
record keeps all else, the fault table is unchanged, ERR.ACK then holds v, and the command completes with 0; outside
that range it is answered 0x0106 and nothing but the packet of the port and its answer changes. (R532) -/
def Obligations.ErrAckAcknowledgesUpToItsValue : Prop :=
  (∀ (p : CmdPkt) (s : State) (v : Nat), Writes 0x01600001 v p s → s.err.log ≠ [] → oldestSeq s ≤ v →
     v < s.yuley.nextSeq →
     ∃ t, exec (.errAck p) s = .next (finish p.ref 0 [] t) ∧ t = { takePacket p s with err := t.err } ∧
       t.err = { s.err with log := t.err.log, ackReg := v } ∧
       (∀ k, tabFind t.err.log k = (tabFind s.err.log k).map (fun r => if r.eseq ≤ v then { r with pend := false } else r)) ∧
       t.err.fault = s.err.fault) ∧
  (∀ (p : CmdPkt) (s : State) (v : Nat), Writes 0x01600001 v p s → s.err.log ≠ [] →
     (v < oldestSeq s ∨ s.yuley.nextSeq ≤ v) →
     exec (.errAck p) s = .next (finish p.ref 0x0106 [] (takePacket p s)))

/-- With memory in its canonical form, no bit error stored in it and none arising: an accepted MEM_WRITE leaves every
byte of HBM outside its range as it was, and every other memory of the module (local stores, cribs, collective areas,
remote windows, flash). With every stack in service and no block reset under way, each byte of the range then reads as
the payload gives it. (This states of R196, R198, R384 and R388 only what is said here.) (08_memory.md,
15_commands.md) -/
def Obligations.MemWriteWritesExactlyItsBytes : Prop :=
  (∀ (p : CmdPkt) (s t : State) (a : Nat), Accepted 0x200 p s → s.hbm.errs = [] → memWf 0 s.hbm.mem = true →
     exec (.memWrite p []) s = .next t → (a < p.arg 0 8 ∨ p.arg 0 8 + (p.payload.length - 8) ≤ a) →
     memRead 0 t.hbm.mem a = memRead 0 s.hbm.mem a ∧ t.localStore = s.localStore ∧ t.crib = s.crib ∧ t.col.area = s.col.area ∧ t.fab.window = s.fab.window ∧ t.rst.flash = s.rst.flash) ∧
  (∀ (p : CmdPkt) (s t : State) (i : Nat), Accepted 0x200 p s → s.hbm.errs = [] → memWf 0 s.hbm.mem = true →
     s.rst.blocks = [] → (∀ h < 32, (s.mstack h).state = 2) → exec (.memWrite p []) s = .next t →
     i < p.payload.length - 8 →
     memRead 0 t.hbm.mem (p.arg 0 8 + i) = p.payload.getD (8 + i) 0)

/-- For every packet, accepted or not, no command of these rows changes a byte of any memory: HELLO, PING, PARAM_READ,
PARAM_WRITE and the parameter rows of their own but CFG_COMMIT, EVT_SUBSCRIBE, EVT_QUERY, LOAD, START, PAUSE, RESUME,
SAVE and RESTORE (whose image moves later), ATTEST, IDENTITY, FW_COMMIT, DEBUG_UNLOCK, DEBUG_LOCK, the diagnostics,
the block resets (which begin with a quiesce), Sill lane calibration and the measurement of a delay. (This states of
R384, R386, R391 and R394 only what is said here.) (15_commands.md) -/
def Obligations.ControlCommandsKeepMemory : Prop :=
  ∀ (p : CmdPkt) (c : Instr) (s t : State), c ∈ [Instr.hello p, Instr.ping p, Instr.paramRead p,
    Instr.paramWrite p, Instr.evtSubscribe p, Instr.evtQuery p, Instr.startRun p, Instr.pauseRun p,
    Instr.resumeRun p, Instr.loadList p, Instr.saveImage p, Instr.restoreImage p, Instr.attest p,
    Instr.identity p, Instr.fwCommit p, Instr.debugUnlock p, Instr.debugLock p, Instr.diagCatalog p,
    Instr.traceRead p, Instr.dbgCntWrite p, Instr.dbgTraceWrite p, Instr.errAck p, Instr.faultAck p,
    Instr.railFlipWrite p, Instr.railMapWrite p, Instr.blockResetComputeStack p, Instr.blockResetCrib p,
    Instr.blockResetHbmSite p, Instr.blockResetRailSite p, Instr.blockResetSillPath p,
    Instr.blockResetSillSequencer p, Instr.calibrateSillLanes p, Instr.calibrateRemeasureDelay p] →
    exec c s = .next t →
    t.hbm.mem = s.hbm.mem ∧ t.localStore = s.localStore ∧ t.crib = s.crib ∧ t.col.area = s.col.area ∧ t.fab.window = s.fab.window ∧ t.rst.flash = s.rst.flash

/-- For a processor that is powered and awake and an input that it has (the sheaf strobe at a boundary): after k edges
of source i in a grain, k = 0, 1 or 2, pending bit i is set if it was or if k is at least 1; overrun bit i is set if
it was, or if k is at least 1 and pending was set, or if k is 2; no other pending or overrun bit changes, nor any
other processor. Where no edge falls in the same grain, an overrun clear and an acknowledge clear exactly the bits
they write as 1, the acknowledge leaving overrun alone. Of an acknowledge and edges of one grain the acknowledge
applies first: pending is set again, and overrun stands only if it stood before the edges or they were two. A new
overrun of the grain of its clear stays. (This states of R406 and R407 only what is said here.) (16_processors.md) -/
def Obligations.SourceEdgesFollowTheTable : Prop :=
  (∀ (proc : Fin 16) (source : Fin 64) (edges : Fin 3) (high : Bool) (s t : State) (j : Nat),
     procPresent proc.val = true → inputUsed proc.val source.val = true → (s.proc proc.val).state ≠ 0 →
     (s.proc proc.val).state ≠ 4 → (source.val = 48 → s.atBoundary = true) →
     exec (.irqSourceEdge proc source edges high) s = .next t → j < 64 →
     (t.proc proc.val).pend.getLsbD j = ((s.proc proc.val).pend.getLsbD j || (decide (j = source.val) && decide (1 ≤ edges.val))) ∧
       (t.proc proc.val).ovr.getLsbD j = ((s.proc proc.val).ovr.getLsbD j || (decide (j = source.val) &&
         ((decide (1 ≤ edges.val) && (s.proc proc.val).pend.getLsbD j) || decide (2 ≤ edges.val)))) ∧
       ∀ q, q ≠ proc.val → t.proc q = s.proc q) ∧
  (∀ (proc : Fin 16) (b : BitVec 64) (s u : State) (i : Nat) (r : EdgeRec), procPresent proc.val = true →
     (s.proc proc.val).state = 2 → tabFind (s.proc proc.val).edges i = some r → r.grain = some s.now → 1 ≤ r.k →
     i < 64 → b.getLsbD i = true → exec (.irqAcknowledge proc b {}) s = .next u →
     (u.proc proc.val).pend.getLsbD i = true ∧ (u.proc proc.val).ovr.getLsbD i = (r.ovr || decide (2 ≤ r.k))) ∧
  (∀ (proc : Fin 16) (b : BitVec 64) (s u : State) (i : Nat) (r : EdgeRec), procPresent proc.val = true →
     (s.proc proc.val).state = 2 → tabFind (s.proc proc.val).edges i = some r → r.grain = some s.now → 1 ≤ r.k →
     (r.pend = true ∨ 2 ≤ r.k) → i < 64 → exec (.irqOverrunClear proc b) s = .next u →
     (u.proc proc.val).ovr.getLsbD i = (s.proc proc.val).ovr.getLsbD i) ∧
  (∀ (proc : Fin 16) (b : BitVec 64) (s : State), procPresent proc.val = true → (s.proc proc.val).state = 2 →
     (s.proc proc.val).edges.all (fun e => e.2.grain != some s.now) = true →
     ∃ t u, exec (.irqOverrunClear proc b) s = .next t ∧ exec (.irqAcknowledge proc b {}) s = .next u ∧
       (t.proc proc.val).ovr = (s.proc proc.val).ovr &&& ~~~b ∧ (t.proc proc.val).pend = (s.proc proc.val).pend ∧
       (u.proc proc.val).pend = (s.proc proc.val).pend &&& ~~~b ∧ (u.proc proc.val).ovr = (s.proc proc.val).ovr)

/-- The spec says nothing of an event of an engine, a processor, a power domain or a clock panel that the module does
not have. In the model a row that names an engine ID that R45 does not give, a processor that R398 does not give (a
mailbox from a processor to itself among them), a domain that does not exist, or a panel that does not exist, ends in
the fault absentUnit, whatever the rest of the state: log entry 2. (This states of R18, R45 and R398 only what is said
here.) (01_module_overview.md, 02_fleet_time.md, 16_processors.md) -/
def Obligations.RowsOfAbsentUnitsFault : Prop :=
  (∀ (eng : BitVec 16) (s : State), engValid eng.toNat = false →
     exec (.stepIssue eng) s = .fault .absentUnit ∧
     exec (.waitg eng) s = .fault .absentUnit ∧
     exec (.waitStep eng) s = .fault .absentUnit ∧
     exec (.barrier eng) s = .fault .absentUnit ∧
     exec (.barrierTimeout eng) s = .fault .absentUnit ∧
     exec (.selectStep eng) s = .fault .absentUnit ∧
     exec (.streamSelect eng) s = .fault .absentUnit ∧
     exec (.ckpt eng) s = .fault .absentUnit ∧
     exec (.endStep eng) s = .fault .absentUnit ∧
     exec (.streamOpen eng) s = .fault .absentUnit ∧
     exec (.streamUnmatched eng) s = .fault .absentUnit ∧
     (∀ (k : Fin 64) (w : Word128), exec (.tokenPost eng k w) s = .fault .absentUnit) ∧
     (∀ (w : Word128), exec (.barrierArrival eng w) s = .fault .absentUnit) ∧
     (∀ (u : Fin 6), exec (.stepComplete eng u) s = .fault .absentUnit) ∧
     (∀ (n : List HbmUpset), exec (.queueRefill eng n) s = .fault .absentUnit) ∧
     (∀ (n : List HbmUpset) (c : CribNoise) (w : Fin 4), exec (.smread eng n c w) s = .fault .absentUnit) ∧
     (∀ (c : CribNoise) (w : Fin 4), exec (.smwrite eng c w) s = .fault .absentUnit) ∧
     (∀ (c : CribNoise), exec (.ssend eng c) s = .fault .absentUnit) ∧
     (∀ (c : CribNoise), exec (.srecv eng c) s = .fault .absentUnit) ∧
     (∀ (c : CribNoise), exec (.slout eng c) s = .fault .absentUnit) ∧
     (∀ (c : CribNoise), exec (.slin eng c) s = .fault .absentUnit)) ∧
  (∀ (proc : Fin 16) (s : State), procPresent proc.val = false →
     exec (.watchdogWarning proc) s = .fault .absentUnit ∧
     exec (.procRestart proc) s = .fault .absentUnit ∧
     exec (.irqDeliver proc) s = .fault .absentUnit ∧
     exec (.localTimer proc) s = .fault .absentUnit ∧
     exec (.procSleep proc) s = .fault .absentUnit ∧
     (∀ (c : Fin 3) (a d : BitVec 32), exec (.procFault proc c a d) s = .fault .absentUnit) ∧
     (∀ (a : BitVec 32), exec (.watchdogExpire proc a) s = .fault .absentUnit) ∧
     (∀ (i : Fin 64) (k : Fin 3) (b : Bool), exec (.irqSourceEdge proc i k b) s = .fault .absentUnit) ∧
     (∀ (b : BitVec 64) (act : ProcAct), exec (.irqAcknowledge proc b act) s = .fault .absentUnit) ∧
     (∀ (b : BitVec 64), exec (.irqOverrunClear proc b) s = .fault .absentUnit) ∧
     (∀ (i : Fin 64), exec (.irqStuck proc i) s = .fault .absentUnit) ∧
     (∀ (b : BitVec 64), exec (.irqStuckClear proc b) s = .fault .absentUnit) ∧
     (∀ (o : Bool), exec (.procWake proc o) s = .fault .absentUnit) ∧
     (∀ (i : Fin 64), exec (.stuckEpisodeEnd proc i) s = .fault .absentUnit)) ∧
  (∀ (src dst : Fin 16) (s : State), (procPresent src.val = false ∨ procPresent dst.val = false ∨ src = dst) →
     (∀ msg, exec (.mailboxSend src dst msg) s = .fault .absentUnit) ∧ exec (.mailboxRetry src dst) s = .fault .absentUnit) ∧
  (∀ (kind : Fin 4) (index : BitVec 16) (s : State), domainOk kind.val index.toNat = false →
     exec (.pwrRegFault kind index) s = .fault .absentUnit) ∧
  (∀ (panel : BitVec 17) (s : State), panelIndex panel.toNat = false → tabFind s.clk.panels panel.toNat = none →
     (∀ need since, exec (.panelMarginLow panel need since) s = .fault .absentUnit) ∧ exec (.regulatorLower panel) s = .fault .absentUnit ∧ exec (.binSwitchUp panel) s = .fault .absentUnit)
end

