-- ==== Sys2Proof/Laws/Cmd.lean ====
section
/-! SUPPORT. What a command row does with a packet: it turns it away unchanged, answers the status of the first check that
fails, or runs its effect on the packet's state (R375, R379, R386). -/

namespace Sys2Proof.Machine

/-- An accepted command of a row has the row's effect. -/
theorem runCmd_accepted {op : Nat} {p : CmdPkt} {s : State} (h : Accepted op p s) (mine : Bool)
    (hm : p.opcode = op → mine = true) (f : CmdRef → State → State) : runCmd p mine f s = f p.ref (takePacket p s) := by
  obtain ⟨a, b, c⟩ := h
  simp [runCmd, hm a, b, c]

/-- A packet that its channel does not start changes nothing. -/
theorem runCmd_waits (p : CmdPkt) (s : State) (mine : Bool) (f : CmdRef → State → State) (h : canStart s p = false) :
    runCmd p mine f s = s := by simp [runCmd, h]

/-- A packet that fails a check is answered with its status. -/
theorem runCmd_refused (p : CmdPkt) (s : State) (mine : Bool) (f : CmdRef → State → State) (hm : mine = true)
    (h : canStart s p = true) (hs : cmdStatus s p ≠ 0) :
    runCmd p mine f s = finish p.ref (cmdStatus s p) [] (takePacket p s) := by simp [runCmd, h, hm, hs]

/-- An accepted write of a row applies its value and is answered with the status that this gives. -/
theorem runWrite_writes {id v : Nat} {p : CmdPkt} {s : State} (h : Writes id v p s) (ids : Nat → Bool)
    (hi : ids id = true) (f : Nat → State → Nat × State) :
    runWrite p ids f s = finish p.ref (f v (takePacket p s)).1 [] (f v (takePacket p s)).2 := by
  obtain ⟨ha, hid, hd, hp⟩ := h
  rw [runWrite, runCmd_accepted ha _ (by intro e; simp [e, hid, hi])]
  have hs : (takePacket p s).scopesNow = s.scopesNow := rfl
  cases hq : param (takePacket p s) id with
  | none => simp [hq] at hp
  | some q =>
    simp only [hq, Option.any_some, decide_eq_true_eq] at hp
    obtain ⟨h1, h2, h3⟩ := hp
    have hg : (diagPage id && !bit (takePacket p s).scopesNow 0) = false := by
      rw [hs]; cases hdp : diagPage id <;> simp_all
    simp only [checkWrite, hid, hg, hq]
    simp [h1, ← h2, h3]

/-! ### What a packet taken leaves -/

@[simp] theorem takePacket_pending (p : CmdPkt) (s : State) : (takePacket p s).pending = s.pending := rfl
@[simp] theorem takePacket_free (p : CmdPkt) (s : State) : (takePacket p s).free = s.free := rfl
@[simp] theorem takePacket_time (p : CmdPkt) (s : State) : (takePacket p s).time = s.time := rfl
@[simp] theorem takePacket_cut (p : CmdPkt) (s : State) : (takePacket p s).cut = s.cut := rfl
@[simp] theorem takePacket_engines (p : CmdPkt) (s : State) : (takePacket p s).engines = s.engines := rfl
@[simp] theorem takePacket_tillers (p : CmdPkt) (s : State) : (takePacket p s).tillers = s.tillers := rfl
@[simp] theorem takePacket_localStore (p : CmdPkt) (s : State) : (takePacket p s).localStore = s.localStore := rfl
@[simp] theorem takePacket_crib (p : CmdPkt) (s : State) : (takePacket p s).crib = s.crib := rfl
@[simp] theorem takePacket_cribErr (p : CmdPkt) (s : State) : (takePacket p s).cribErr = s.cribErr := rfl
@[simp] theorem takePacket_writeback (p : CmdPkt) (s : State) : (takePacket p s).writeback = s.writeback := rfl
@[simp] theorem takePacket_parts (p : CmdPkt) (s : State) : (takePacket p s).parts = s.parts := rfl
@[simp] theorem takePacket_floor (p : CmdPkt) (s : State) : (takePacket p s).floor = s.floor := rfl
@[simp] theorem takePacket_cstacks (p : CmdPkt) (s : State) : (takePacket p s).cstacks = s.cstacks := rfl
@[simp] theorem takePacket_meshes (p : CmdPkt) (s : State) : (takePacket p s).meshes = s.meshes := rfl
@[simp] theorem takePacket_sill (p : CmdPkt) (s : State) : (takePacket p s).sill = s.sill := rfl
@[simp] theorem takePacket_hbm (p : CmdPkt) (s : State) : (takePacket p s).hbm = s.hbm := rfl
@[simp] theorem takePacket_rails (p : CmdPkt) (s : State) : (takePacket p s).rails = s.rails := rfl
@[simp] theorem takePacket_railTop (p : CmdPkt) (s : State) : (takePacket p s).railTop = s.railTop := rfl
@[simp] theorem takePacket_opt (p : CmdPkt) (s : State) : (takePacket p s).opt = s.opt := rfl
@[simp] theorem takePacket_fab (p : CmdPkt) (s : State) : (takePacket p s).fab = s.fab := rfl
@[simp] theorem takePacket_col (p : CmdPkt) (s : State) : (takePacket p s).col = s.col := rfl
@[simp] theorem takePacket_procs (p : CmdPkt) (s : State) : (takePacket p s).procs = s.procs := rfl
@[simp] theorem takePacket_boxes (p : CmdPkt) (s : State) : (takePacket p s).boxes = s.boxes := rfl
@[simp] theorem takePacket_resend (p : CmdPkt) (s : State) : (takePacket p s).resend = s.resend := rfl
@[simp] theorem takePacket_clk (p : CmdPkt) (s : State) : (takePacket p s).clk = s.clk := rfl
@[simp] theorem takePacket_pwr (p : CmdPkt) (s : State) : (takePacket p s).pwr = s.pwr := rfl
@[simp] theorem takePacket_rst (p : CmdPkt) (s : State) : (takePacket p s).rst = s.rst := rfl
@[simp] theorem takePacket_sec (p : CmdPkt) (s : State) : (takePacket p s).sec = s.sec := rfl
@[simp] theorem takePacket_sup (p : CmdPkt) (s : State) : (takePacket p s).sup = s.sup := rfl
@[simp] theorem takePacket_dbg (p : CmdPkt) (s : State) : (takePacket p s).dbg = s.dbg := rfl
@[simp] theorem takePacket_err (p : CmdPkt) (s : State) : (takePacket p s).err = s.err := rfl
@[simp] theorem takePacket_arb (p : CmdPkt) (s : State) : (takePacket p s).arb = s.arb := rfl
@[simp] theorem takePacket_now (p : CmdPkt) (s : State) : (takePacket p s).now = s.now := rfl
@[simp] theorem takePacket_scopesNow (p : CmdPkt) (s : State) : (takePacket p s).scopesNow = s.scopesNow := rfl
@[simp] theorem takePacket_reported (p : CmdPkt) (s : State) : (takePacket p s).reported = s.reported := rfl
@[simp] theorem takePacket_atBoundary (p : CmdPkt) (s : State) : (takePacket p s).atBoundary = s.atBoundary := rfl
@[simp] theorem takePacket_runActive (p : CmdPkt) (s : State) : (takePacket p s).runActive = s.runActive := rfl
@[simp] theorem takePacket_procUp (p : CmdPkt) (s : State) (k : Nat) : (takePacket p s).procUp k = s.procUp k := rfl
@[simp] theorem takePacket_repro (p : CmdPkt) (s : State) : (takePacket p s).repro = if (s.chan p.chan).queue.isEmpty then reproArrived p s else s.repro := rfl

end Sys2Proof.Machine
end

