-- ==== Sys2Proof/Laws/Hbm.lean ====
section
/-! SUPPORT. What an access of HBM3E answers where nothing is wrong: every burst is read as stored, with status 0, and the
state is as before. -/

namespace Sys2Proof.Machine

/-- A burst without a stored error, of a stack in service, is delivered as stored. -/
theorem readBurst_clean (burst req : Nat) (s : State) (hs : stackFor s (hbmStack (32 * burst)) req = 2)
    (he : tabFind s.hbm.errs burst = none) : readBurst burst req s = (memBytes 0 s.hbm.mem (32 * burst) 32, 0, s) := by
  unfold readBurst; simp only [hs, he]

theorem readFold_clean (req : Nat) (s : State) (l : List Nat) (d : List (BitVec 8))
    (h : ∀ b ∈ l, stackFor s (hbmStack (32 * b)) req = 2 ∧ tabFind s.hbm.errs b = none) :
    l.foldl (fun (x : List (BitVec 8) × Nat × State) b =>
      let y := readBurst b req x.2.2
      (x.1 ++ y.1, worse x.2.1 y.2.1, y.2.2)) (d, 0, s)
    = (d ++ l.flatMap (fun b => memBytes 0 s.hbm.mem (32 * b) 32), 0, s) := by
  induction l generalizing d with
  | nil => simp
  | cons b r ih =>
    have hb := h b (by simp)
    simp only [List.foldl_cons, readBurst_clean b req s hb.1 hb.2]
    rw [show worse 0 0 = 0 from rfl, ih _ (fun c hc => h c (by simp [hc]))]
    simp

/-- A range whose bursts are all without error, in stacks in service, is read with status 0 and changes nothing. -/
theorem hbmRead_clean (a n req : Nat) (s : State)
    (h : ∀ b ∈ burstsOf a n, stackFor s (hbmStack (32 * b)) req = 2 ∧ tabFind s.hbm.errs b = none) :
    (hbmRead a n req s).2 = (0, s) := by
  unfold hbmRead
  rw [readFold_clean req s (burstsOf a n) [] h]

end Sys2Proof.Machine
end

