-- ==== Sys2Proof/Laws/Memory.lean ====
section
/-! SUPPORT. What the byte memories and the tables by key promise: a read after a write, and the canonical form. -/

namespace Sys2Proof.Machine

/-! ### Byte memories -/

@[simp] theorem memRead_nil (d : BitVec 8) (a : Nat) : memRead d [] a = d := rfl

/-- A byte just written reads as written. -/
@[simp] theorem memRead_memWrite_same (d : BitVec 8) (m : List Host.Cell) (a : Nat) (b : BitVec 8)
    (h : memWf d m = true) : memRead d (memWrite d m a b) a = b := by
  induction m with
  | nil => by_cases hb : b = d <;> simp [memWrite, memRead, hb]
  | cons c r ih =>
    obtain ⟨k, v⟩ := c
    have hr : memWf d r = true := by
      cases r with
      | nil => rfl
      | cons c2 r2 => obtain ⟨k2, v2⟩ := c2; simp [memWf] at h; exact h.2
    have beyond : ∀ (r : List Host.Cell) (k : Nat) (v : BitVec 8), memWf d ((k, v) :: r) = true → ∀ a, a ≤ k →
        memRead d r a = d := by
      intro r
      induction r with
      | nil => intros; rfl
      | cons c2 r2 ih2 =>
        intro k v hw a hak
        obtain ⟨k2, v2⟩ := c2
        simp [memWf] at hw
        have : k2 ≠ a := by omega
        simp only [memRead, this, if_false]
        exact ih2 k2 v2 hw.2 a (by omega)
    by_cases h1 : a < k
    · by_cases hb : b = d
      · have hk : k ≠ a := by omega
        simp only [memWrite, h1, hb, if_true, memRead, hk, if_false]
        exact beyond r k v h a (by omega)
      · simp [memWrite, h1, hb, memRead]
    · by_cases h2 : a = k
      · subst h2
        by_cases hb : b = d
        · simp only [memWrite, lt_irrefl, if_false, if_true, hb]
          exact beyond r a v h a (by omega)
        · simp [memWrite, hb, memRead]
      · have hk : k ≠ a := fun e => h2 e.symm
        simp only [memWrite, h1, h2, if_false, memRead, hk]
        exact ih hr

/-- Every other byte reads as before. -/
@[simp] theorem memRead_memWrite_other (d : BitVec 8) (m : List Host.Cell) (a x : Nat) (b : BitVec 8) (h : x ≠ a) :
    memRead d (memWrite d m a b) x = memRead d m x := by
  induction m with
  | nil => by_cases hb : b = d <;> simp [memWrite, memRead, hb, Ne.symm h]
  | cons c r ih =>
    obtain ⟨k, v⟩ := c
    by_cases h1 : a < k
    · by_cases hb : b = d <;> simp [memWrite, h1, hb, memRead, Ne.symm h]
    · by_cases h2 : a = k
      · subst h2
        by_cases hb : b = d <;> simp [memWrite, hb, memRead, Ne.symm h]
      · simp only [memWrite, h1, h2, if_false, memRead, ih]

/-- A byte outside those stored reads as before. -/
theorem memRead_memStore_other (d : BitVec 8) (m : List Host.Cell) (a x : Nat) (b : List (BitVec 8))
    (h : x < a ∨ a + b.length ≤ x) : memRead d (memStore d m a b) x = memRead d m x := by
  induction b generalizing m a with
  | nil => rfl
  | cons c r ih =>
    simp only [List.length_cons] at h
    rw [memStore, ih (memWrite d m a c) (a + 1) (by omega), memRead_memWrite_other d m a x c (by omega)]

/-- The head of a canonical memory and its rest. -/
theorem memWf_cons (d : BitVec 8) (k : Nat) (v : BitVec 8) (r : List Host.Cell) :
    memWf d ((k, v) :: r) = true ↔ v ≠ d ∧ (∀ c ∈ r, k < c.1) ∧ memWf d r = true := by
  induction r generalizing k v with
  | nil => simp [memWf]
  | cons c2 r2 ih =>
    obtain ⟨k2, v2⟩ := c2
    have := ih k2 v2
    simp only [memWf, Bool.and_eq_true, bne_iff_ne, ne_eq, decide_eq_true_eq, List.mem_cons, forall_eq_or_imp,
      and_assoc]
    constructor
    · rintro ⟨a, b, c⟩
      exact ⟨a, b, fun x hx => lt_trans b ((this.1 c).2.1 x hx), c⟩
    · rintro ⟨a, b, _, c⟩
      exact ⟨a, b, c⟩

theorem mem_memWrite (d : BitVec 8) (m : List Host.Cell) (a : Nat) (b : BitVec 8) (c : Host.Cell)
    (h : c ∈ memWrite d m a b) : c = (a, b) ∨ c ∈ m := by
  induction m with
  | nil => by_cases hb : b = d <;> simp [memWrite, hb] at h; exact .inl h
  | cons c2 r ih =>
    obtain ⟨k, v⟩ := c2
    simp only [memWrite] at h
    split at h
    · split at h <;> simp_all
    · split at h
      · split at h <;> simp_all <;> tauto
      · simp only [List.mem_cons] at h ⊢
        rcases h with h | h
        · exact .inr (.inl h)
        · rcases ih h with h | h <;> simp [h]

/-- A write keeps the canonical form. -/
theorem memWf_memWrite (d : BitVec 8) (m : List Host.Cell) (a : Nat) (b : BitVec 8) (h : memWf d m = true) :
    memWf d (memWrite d m a b) = true := by
  induction m with
  | nil => by_cases hb : b = d <;> simp [memWrite, hb, memWf]
  | cons c r ih =>
    obtain ⟨k, v⟩ := c
    obtain ⟨h1, h2, h3⟩ := (memWf_cons d k v r).1 h
    simp only [memWrite]
    split
    · split
      · exact h
      · rw [memWf_cons]
        refine ⟨‹_›, ?_, h⟩
        intro c hc
        rcases List.mem_cons.1 hc with rfl | hc
        · assumption
        · exact lt_trans ‹a < k› (h2 c hc)
    · split
      · subst_vars
        split
        · exact h3
        · rw [memWf_cons]; exact ⟨‹_›, h2, h3⟩
      · rw [memWf_cons]
        refine ⟨h1, ?_, ih h3⟩
        intro c hc
        rcases mem_memWrite d r a b c hc with rfl | hc
        · simp only; omega
        · exact h2 c hc

/-- A store of several bytes keeps the canonical form. -/
theorem memWf_memStore (d : BitVec 8) (m : List Host.Cell) (a : Nat) (b : List (BitVec 8)) (h : memWf d m = true) :
    memWf d (memStore d m a b) = true := by
  induction b generalizing m a with
  | nil => exact h
  | cons c r ih => exact ih _ _ (memWf_memWrite d m a c h)

theorem memWf_filter (d : BitVec 8) (m : List Host.Cell) (p : Host.Cell → Bool) (h : memWf d m = true) :
    memWf d (m.filter p) = true := by
  induction m with
  | nil => rfl
  | cons c r ih =>
    obtain ⟨k, v⟩ := c
    obtain ⟨h1, h2, h3⟩ := (memWf_cons d k v r).1 h
    rw [List.filter_cons]
    split
    · rw [memWf_cons]
      exact ⟨h1, fun c hc => h2 c (List.mem_filter.1 hc).1, ih h3⟩
    · exact ih h3

/-- Clearing a range keeps the canonical form. -/
theorem memWf_memClear (d : BitVec 8) (m : List Host.Cell) (lo hi : Nat) (h : memWf d m = true) :
    memWf d (memClear m lo hi) = true := memWf_filter d m _ h

/-- A byte in a cleared range reads as unlisted, and every other as before. -/
theorem memRead_memClear (d : BitVec 8) (m : List Host.Cell) (lo hi x : Nat) :
    memRead d (memClear m lo hi) x = if lo ≤ x ∧ x < hi then d else memRead d m x := by
  induction m with
  | nil => simp [memClear]
  | cons c r ih =>
    obtain ⟨k, v⟩ := c
    simp only [memClear, List.filter_cons] at ih ⊢
    by_cases hx : k = x
    · subst hx
      by_cases hk : lo ≤ k ∧ k < hi
      · have : (decide (k < lo) || decide (hi ≤ k)) = false := by simp; omega
        simp only [this, Bool.false_eq_true, if_false, ih, hk, and_self, if_true]
      · have : (decide (k < lo) || decide (hi ≤ k)) = true := by simp; omega
        simp only [this, if_true, memRead, hk, if_false]
    · by_cases hk : (decide (k < lo) || decide (hi ≤ k)) = true
      · simp only [hk, if_true, memRead, hx, if_false, ih]
      · simp only [hk, memRead, hx, if_false, ih, Bool.false_eq_true]

/-! ### Tables by key -/

/-- The record just stored. -/
@[simp] theorem tabGet_tabPut_same {α : Type} (t : List (Nat × α)) (k : Nat) (v d : α) :
    tabGet (tabPut t k v) k d = v := by
  unfold tabGet
  suffices h : tabFind (tabPut t k v) k = some v by rw [h]; rfl
  induction t with
  | nil => simp [tabPut, tabFind]
  | cons c r ih =>
    obtain ⟨i, w⟩ := c
    simp only [tabPut]
    split
    · simp [tabFind]
    · split
      · simp [tabFind]
      · have : i ≠ k := fun e => ‹¬k = i› e.symm
        simp [tabFind, this, ih]

/-- Every other record. -/
@[simp] theorem tabGet_tabPut_other {α : Type} (t : List (Nat × α)) (k j : Nat) (v d : α) (h : j ≠ k) :
    tabGet (tabPut t k v) j d = tabGet t j d := by
  unfold tabGet
  suffices h : tabFind (tabPut t k v) j = tabFind t j by rw [h]
  induction t with
  | nil => simp [tabPut, tabFind, Ne.symm h]
  | cons c r ih =>
    obtain ⟨i, w⟩ := c
    simp only [tabPut]
    split
    · simp [tabFind, Ne.symm h]
    · split
      · subst_vars; simp [tabFind, Ne.symm h]
      · simp [tabFind, ih]

@[simp] theorem tabGet_tabMod_same {α : Type} (t : List (Nat × α)) (k : Nat) (d : α) (f : α → α) :
    tabGet (tabMod t k d f) k d = f (tabGet t k d) := tabGet_tabPut_same ..

@[simp] theorem tabGet_tabMod_other {α : Type} (t : List (Nat × α)) (k j : Nat) (d : α) (f : α → α) (h : j ≠ k) :
    tabGet (tabMod t k d f) j d = tabGet t j d := tabGet_tabPut_other _ _ _ _ _ h

end Sys2Proof.Machine
end

