-- ==== Sys2Proof/Laws/Kept.lean ====
section
/-! SUPPORT. What every operation keeps: the queue of waiting commands, the canonical form of the memories, the blown
bits of the anti-rollback counter, and, away from power-on detection, the trip latch. -/

namespace Sys2Proof.Machine

/-- A memory's canonical form passes from one memory to another. -/
def Keeps (d : BitVec 8) (m n : List Host.Cell) : Prop := memWf d m = true → memWf d n = true

@[simp] theorem Keeps.refl (d : BitVec 8) (m : List Host.Cell) : Keeps d m m := fun h => h

@[simp] theorem Keeps.nil (d : BitVec 8) (m : List Host.Cell) : Keeps d m [] := fun _ => rfl

@[simp] theorem Keeps.write {d : BitVec 8} {m n : List Host.Cell} (a : Nat) (b : BitVec 8) (h : Keeps d m n) :
    Keeps d m (memWrite d n a b) := fun w => memWf_memWrite d n a b (h w)

@[simp] theorem Keeps.store {d : BitVec 8} {m n : List Host.Cell} (a : Nat) (b : List (BitVec 8)) (h : Keeps d m n) :
    Keeps d m (memStore d n a b) := fun w => memWf_memStore d n a b (h w)

@[simp] theorem Keeps.clear {d : BitVec 8} {m n : List Host.Cell} (lo hi : Nat) (h : Keeps d m n) :
    Keeps d m (memClear n lo hi) := fun w => memWf_memClear d n lo hi (h w)

@[simp] theorem Keeps.filter {d : BitVec 8} {m n : List Host.Cell} (p : Host.Cell → Bool) (h : Keeps d m n) :
    Keeps d m (n.filter p) := fun w => memWf_filter d n p (h w)

@[simp] theorem Keeps.ite {d : BitVec 8} {m n k : List Host.Cell} {c : Prop} [Decidable c] (h1 : Keeps d m n)
    (h2 : Keeps d m k) : Keeps d m (if c then n else k) := by split <;> assumption

theorem Keeps.foldl {α : Type} {d : BitVec 8} {m : List Host.Cell} (g : List Host.Cell → α → List Host.Cell)
    (hg : ∀ n x, Keeps d n (g n x)) (l : List α) {n : List Host.Cell} (h : Keeps d m n) : Keeps d m (l.foldl g n) := by
  induction l generalizing n with
  | nil => exact h
  | cons x r ih => exact ih (fun w => hg _ _ (h w))

/-- What an operation keeps, from one state to another; `por` says that power-on detection may act. -/
structure Kept (por : Bool) (s t : State) : Prop where
  pending : t.pending = s.pending
  localStore : Keeps 0 s.localStore t.localStore
  crib : Keeps 0 s.crib t.crib
  hbm : Keeps 0 s.hbm.mem t.hbm.mem
  area : Keeps 0 s.col.area t.col.area
  window : Keeps 0 s.fab.window t.fab.window
  flash : Keeps Config.erasedByte s.rst.flash t.rst.flash
  counter : s.sec.counter ≤ t.sec.counter
  trip : por = false → s.pwr.trip = true → t.pwr.trip = true

namespace Kept


variable {por : Bool} {z s t : State}

@[simp] theorem refl (por : Bool) (s : State) : Kept por s s :=
  ⟨rfl, id, id, id, id, id, id, le_refl _, fun _ h => h⟩

theorem trans (h : Kept por z s) (k : Kept por s t) : Kept por z t :=
  ⟨k.pending.trans h.pending, fun w => k.localStore (h.localStore w), fun w => k.crib (h.crib w),
   fun w => k.hbm (h.hbm w), fun w => k.area (h.area w), fun w => k.window (h.window w), fun w => k.flash (h.flash w),
   le_trans h.counter k.counter, fun p w => k.trip p (h.trip p w)⟩

/-- What is kept away from power-on detection is kept. -/
theorem of_false (h : Kept false s t) : Kept por s t :=
  ⟨h.pending, h.localStore, h.crib, h.hbm, h.area, h.window, h.flash, h.counter, fun _ => h.trip rfl⟩

/-- The memories keep their canonical form. -/
theorem memOk (k : Kept por s t) (h : MemOk s) : MemOk t :=
  ⟨k.localStore h.localStore, k.crib h.crib, k.hbm h.hbm, k.area h.area, k.window h.window, k.flash h.flash⟩

/-- An update of fields, each of which keeps what is to be kept. -/
@[simp] theorem update
    {x_free : Nat} {x_time : Time} {x_cut : Cut} {x_repro : Repro} {x_engines : List (Nat × Engine)} {x_tillers :
    List (Nat × Tiller)} {x_localStore : List Host.Cell} {x_crib : List Host.Cell} {x_cribErr : List (Nat × RowErr)}
    {x_writeback : List Nat} {x_parts : List (Nat × Partition)} {x_floor : List (Nat × DieFloor)} {x_cstacks : List
    (Nat × Stack)} {x_meshes : List (Nat × Mesh)} {x_sill : Sill} {x_hbm : Hbm} {x_rails : List (Nat × Rail)}
    {x_railTop : RailTop} {x_opt : Opt} {x_fab : Fab} {x_col : Col} {x_yuley : Yuley} {x_procs : List (Nat × Proc)}
    {x_boxes : List (Nat × List Msg)} {x_resend : List (Nat × Nat × Msg)} {x_clk : Clk} {x_pwr : Power} {x_rst :
    Rst} {x_sec : Sec} {x_sup : Sup} {x_dbg : Dbg} {x_err : Err} {x_arb : Arbiters}
    (h : Kept por z s) (h1 : Keeps 0 s.localStore x_localStore) (h2 : Keeps 0 s.crib x_crib)
    (h3 : Keeps 0 s.hbm.mem x_hbm.mem) (h4 : Keeps 0 s.col.area x_col.area) (h5 : Keeps 0 s.fab.window x_fab.window)
    (h6 : Keeps Config.erasedByte s.rst.flash x_rst.flash) (h7 : s.sec.counter ≤ x_sec.counter)
    (h8 : por = false → s.pwr.trip = true → x_pwr.trip = true) :
    Kept por z
      (State.mk
        s.pending x_free x_time x_cut x_repro x_engines x_tillers x_localStore x_crib x_cribErr x_writeback x_parts
        x_floor x_cstacks x_meshes x_sill x_hbm x_rails x_railTop x_opt x_fab x_col x_yuley x_procs x_boxes x_resend
        x_clk x_pwr x_rst x_sec x_sup x_dbg x_err x_arb) :=
  h.trans ⟨rfl, h1, h2, h3, h4, h5, h6, h7, h8⟩

/-- A result that carries the state, chosen by a condition. -/
@[simp] theorem ite_snd {α : Type} {c : Prop} [Decidable c] {a b : α × State} (h1 : Kept por z a.2)
    (h2 : Kept por z b.2) : Kept por z (if c then a else b).2 := by split <;> assumption

@[simp] theorem ite {c : Prop} [Decidable c] (h1 : Kept por z s) (h2 : Kept por z t) :
    Kept por z (if c then s else t) := by split <;> assumption

/-- A fold of an operation that keeps. -/
@[simp] theorem foldl {α : Type} {g : State → α → State} (hg : ∀ s x, Kept por s (g s x)) (l : List α)
    (h : Kept por z s) : Kept por z (l.foldl g s) := by
  induction l generalizing s with
  | nil => exact h
  | cons x r ih => exact ih (h.trans (hg s x))

/-- A fold over a record that carries the state. -/
theorem foldl_proj {α β : Type} (f : β → State) {g : β → α → β} (hg : ∀ b x, Kept por (f b) (f (g b x))) (l : List α)
    (b : β) (h : Kept por z (f b)) : Kept por z (f (l.foldl g b)) := by
  induction l generalizing b with
  | nil => exact h
  | cons x r ih => exact ih _ (h.trans (hg b x))

end Kept

/-- What an outcome keeps, where it is a next state. -/
def KeptO (por : Bool) (s : State) (o : Host.Outcome State Fault Refusal) : Prop := ∀ t, o = .next t → Kept por s t

namespace KeptO

variable {por : Bool} {s t : State}

@[simp] theorem next (h : Kept por s t) : KeptO por s (.next t) := by rintro _ ⟨⟩; exact h

@[simp] theorem fault (f : Fault) : KeptO por s (.fault f) := by rintro _ ⟨⟩

@[simp] theorem refused (r : Refusal) : KeptO por s (.refused r) := by rintro _ ⟨⟩

@[simp] theorem ite {c : Prop} [Decidable c] {o p : Host.Outcome State Fault Refusal} (h1 : KeptO por s o)
    (h2 : KeptO por s p) : KeptO por s (if c then o else p) := by split <;> assumption

end KeptO

end Sys2Proof.Machine
end

