-- ==== Sys2Proof/Laws/KeptOps.lean ====
section
/-! SUPPORT. What the operations of Machine/Ops.lean keep (Laws/Kept.lean). -/

namespace Sys2Proof.Machine

set_option linter.all false

variable {por : Bool} {z : State}

@[simp] theorem State.takeFree_kept (s : State) (hz : Kept por z s) : Kept por z (State.takeFree s).2 := by
  simp (maxDischargeDepth := 40) [State.takeFree, hz]

@[simp] theorem State.setEngine_kept (s : State) (e : Nat) (v : Engine) (hz : Kept por z s) : Kept por z (State.setEngine s e v) := by
  simp (maxDischargeDepth := 40) [State.setEngine, hz]

@[simp] theorem State.modEngine_kept (s : State) (e : Nat) (f : Engine → Engine) (hz : Kept por z s) : Kept por z (State.modEngine s e f) := by
  simp (maxDischargeDepth := 40) [State.modEngine, hz]

@[simp] theorem State.modTiller_kept (s : State) (k : Nat) (f : Tiller → Tiller) (hz : Kept por z s) : Kept por z (State.modTiller s k f) := by
  simp (maxDischargeDepth := 40) [State.modTiller, hz]

@[simp] theorem State.modPart_kept (s : State) (k : Nat) (f : Partition → Partition) (hz : Kept por z s) : Kept por z (State.modPart s k f) := by
  simp (maxDischargeDepth := 40) [State.modPart, hz]

@[simp] theorem State.modFloor_kept (s : State) (d : Nat) (f : DieFloor → DieFloor) (hz : Kept por z s) : Kept por z (State.modFloor s d f) := by
  simp (maxDischargeDepth := 40) [State.modFloor, hz]

@[simp] theorem State.modStack_kept (s : State) (d : Nat) (f : Stack → Stack) (hz : Kept por z s) : Kept por z (State.modStack s d f) := by
  simp (maxDischargeDepth := 40) [State.modStack, hz]

@[simp] theorem State.modMesh_kept (s : State) (d : Nat) (f : Mesh → Mesh) (hz : Kept por z s) : Kept por z (State.modMesh s d f) := by
  simp (maxDischargeDepth := 40) [State.modMesh, hz]

@[simp] theorem State.modMem_kept (s : State) (k : Nat) (f : MemStack → MemStack) (hz : Kept por z s) : Kept por z (State.modMem s k f) := by
  simp (maxDischargeDepth := 40) [State.modMem, hz]

@[simp] theorem State.modRail_kept (s : State) (r : Nat) (f : Rail → Rail) (hz : Kept por z s) : Kept por z (State.modRail s r f) := by
  simp (maxDischargeDepth := 40) [State.modRail, hz]

@[simp] theorem State.modProc_kept (s : State) (p : Nat) (f : Proc → Proc) (hz : Kept por z s) : Kept por z (State.modProc s p f) := by
  simp (maxDischargeDepth := 40) [State.modProc, hz]

@[simp] theorem State.modPort_kept (s : State) (p : Nat) (f : RxPort → RxPort) (hz : Kept por z s) : Kept por z (State.modPort s p f) := by
  simp (maxDischargeDepth := 40) [State.modPort, hz]

@[simp] theorem State.modChan_kept (s : State) (c : Nat) (f : Chan → Chan) (hz : Kept por z s) : Kept por z (State.modChan s c f) := by
  simp (maxDischargeDepth := 40) [State.modChan, hz]

@[simp] theorem State.modPanel_kept (s : State) (k : Nat) (f : Panel → Panel) (hz : Kept por z s) : Kept por z (State.modPanel s k f) := by
  simp (maxDischargeDepth := 40) [State.modPanel, hz]

@[simp] theorem State.modFab_kept (s : State) (e : Nat) (f : FabEng → FabEng) (hz : Kept por z s) : Kept por z (State.modFab s e f) := by
  simp (maxDischargeDepth := 40) [State.modFab, hz]

@[simp] theorem State.modCol_kept (s : State) (r : Nat) (f : ColEng → ColEng) (hz : Kept por z s) : Kept por z (State.modCol s r f) := by
  simp (maxDischargeDepth := 40) [State.modCol, hz]

@[simp] theorem State.modRing_kept (s : State) (k : Nat) (f : Ring → Ring) (hz : Kept por z s) : Kept por z (State.modRing s k f) := by
  simp (maxDischargeDepth := 40) [State.modRing, hz]

@[simp] theorem State.modFibre_kept (s : State) (k : Nat) (f : FibreMap → FibreMap) (hz : Kept por z s) : Kept por z (State.modFibre s k f) := by
  simp (maxDischargeDepth := 40) [State.modFibre, hz]

@[simp] theorem State.modLane_kept (s : State) (k : Nat) (f : Lane → Lane) (hz : Kept por z s) : Kept por z (State.modLane s k f) := by
  simp (maxDischargeDepth := 40) [State.modLane, hz]

@[simp] theorem raise_kept (code : Nat) (engine w0 w1 w2 w3 : Nat) (s : State) (hz : Kept por z s) : Kept por z (raise code engine w0 w1 w2 w3 s) := by
  simp (maxDischargeDepth := 40) [raise, hz]

@[simp] theorem faultEnter_kept (r : Record) (s : State) (hz : Kept por z s) : Kept por z (faultEnter r s) := by
  simp only [faultEnter]; (repeat' split) <;> simp (maxDischargeDepth := 40) [hz]

@[simp] theorem rateCount_kept (r : Record) (s : State) (hz : Kept por z s) : Kept por z (rateCount r s) := by
  simp (maxDischargeDepth := 40) [rateCount, hz]

@[simp] theorem logEnter_kept (r : Record) (s : State) (hz : Kept por z s) : Kept por z (logEnter r s) := by
  simp (maxDischargeDepth := 40) [logEnter, hz]

@[simp] theorem queueEvent_kept (r : Record) (s : State) (hz : Kept por z s) : Kept por z (queueEvent r s) := by
  simp (maxDischargeDepth := 40) [queueEvent, hz]

@[simp] theorem recordEvent_kept (r : Record) (s : State) (hz : Kept por z s) : Kept por z (recordEvent r s) := by
  simp (maxDischargeDepth := 40) [recordEvent, hz]

@[simp] theorem recordAll_kept (s : State) (hz : Kept por z s) : Kept por z (recordAll s) := by
  simp (maxDischargeDepth := 40) [recordAll, hz]

@[simp] theorem sendReply_kept (c : CmdRef) (status : Nat) (last : Bool) (payload : List (BitVec 8)) (s : State) (hz : Kept por z s) : Kept por z (sendReply c status last payload s) := by
  simp only [sendReply]; (repeat' split) <;> simp (maxDischargeDepth := 40) [hz]

@[simp] theorem finish_kept (c : CmdRef) (status : Nat) (payload : List (BitVec 8)) (s : State) (hz : Kept por z s) : Kept por z (finish c status payload s) := by
  simp (maxDischargeDepth := 40) [finish, hz]

@[simp] theorem finishAll_kept (cs : List CmdRef) (status : Nat) (s : State) (hz : Kept por z s) : Kept por z (finishAll cs status s) := by
  simp (maxDischargeDepth := 40) [finishAll, hz]

@[simp] theorem finishOpt_kept (c : Option CmdRef) (status : Nat) (s : State) (hz : Kept por z s) : Kept por z (finishOpt c status s) := by
  unfold finishOpt; (repeat' split) <;> simp (maxDischargeDepth := 40) [hz]

@[simp] theorem raiseOverrun_kept (s : State) (hz : Kept por z s) : Kept por z (raiseOverrun s) := by
  simp (maxDischargeDepth := 40) [raiseOverrun, hz]

@[simp] theorem raiseFlag_kept (s : State) (hz : Kept por z s) : Kept por z (raiseFlag s) := by
  unfold raiseFlag; (repeat' split) <;> simp (maxDischargeDepth := 40) [hz]

@[simp] theorem flushRun_kept (s : State) (hz : Kept por z s) : Kept por z (flushRun s) := by
  simp (maxDischargeDepth := 40) [flushRun, hz]

@[simp] theorem setFlag_kept (key b : Nat) (s : State) (hz : Kept por z s) : Kept por z (setFlag key b s) := by
  simp only [setFlag]; (repeat' split) <;> simp (maxDischargeDepth := 40) [hz]

@[simp] theorem unprotect_kept (s : State) (hz : Kept por z s) : Kept por z (unprotect s) := by
  simp (maxDischargeDepth := 40) [unprotect, hz]

@[simp] theorem endPauses_kept (status : Nat) (s : State) (hz : Kept por z s) : Kept por z (endPauses status s) := by
  simp (maxDischargeDepth := 40) [endPauses, hz]

@[simp] theorem checkTol_kept (s : State) (hz : Kept por z s) : Kept por z (checkTol s) := by
  simp (maxDischargeDepth := 40) [checkTol, hz]

@[simp] theorem stopScrub_kept (s : State) (hz : Kept por z s) : Kept por z (stopScrub s) := by
  simp (maxDischargeDepth := 40) [stopScrub, hz]

end Sys2Proof.Machine
end

