-- ==== Sys2Proof/Laws/KeptCross.lean ====
section
/-! SUPPORT. What the operations of Machine/Cross.lean keep (Laws/Kept.lean). -/

namespace Sys2Proof.Machine

set_option linter.all false

variable {por : Bool} {z : State}

@[simp] theorem State.modCrossing_kept (s : State) (k : Nat) (f : Crossing → Crossing) (hz : Kept por z s) : Kept por z (State.modCrossing s k f) := by
  simp (maxDischargeDepth := 40) [State.modCrossing, hz]

@[simp] theorem throughCross_kept (kind place n : Nat) (s : State) (hz : Kept por z s) : Kept por z (throughCross kind place n s) := by
  simp (maxDischargeDepth := 40) [throughCross, hz]

@[simp] theorem clearCrossings_kept (p : Nat → Bool) (s : State) (hz : Kept por z s) : Kept por z (clearCrossings p s) := by
  simp (maxDischargeDepth := 40) [clearCrossings, hz]

@[simp] theorem quietMeshes_kept (s : State) (hz : Kept por z s) : Kept por z (quietMeshes s) := by
  simp (maxDischargeDepth := 40) [quietMeshes, hz]

@[simp] theorem writeFlit_kept (d n : Nat) (s : State) (hz : Kept por z s) : Kept por z (writeFlit d n s) := by
  simp (maxDischargeDepth := 40) [writeFlit, hz]

@[simp] theorem readFlit_kept (d n : Nat) (s : State) (hz : Kept por z s) : Kept por z (readFlit d n s) := by
  unfold readFlit; (repeat' split) <;> simp (maxDischargeDepth := 40) [hz]

@[simp] theorem injectFlit_kept (d : Nat) (f : Flit) (s : State) (hz : Kept por z s) : Kept por z (injectFlit d f s) := by
  simp (maxDischargeDepth := 40) [injectFlit, hz]

@[simp] theorem pumpCross_kept (s : State) (k : Nat) (hz : Kept por z s) : Kept por z (pumpCross s k) := by
  simp (maxDischargeDepth := 40) [pumpCross, hz]

@[simp] theorem pumpCrossings_kept (s : State) (hz : Kept por z s) : Kept por z (pumpCrossings s) := by
  simp (maxDischargeDepth := 40) [pumpCrossings, hz]

end Sys2Proof.Machine
end

