-- ==== Sys2Proof/Laws/KeptWave.lean ====
section
/-! SUPPORT. What the operations of Machine/Wave.lean keep (Laws/Kept.lean). -/

namespace Sys2Proof.Machine

set_option linter.all false

variable {por : Bool} {z : State}

@[simp] theorem siteCross_kept (kind site : Nat) (s : State) (hz : Kept por z s) : Kept por z (siteCross kind site s) := by
  simp (maxDischargeDepth := 40) [siteCross, hz]

@[simp] theorem sendWord_kept (w : Word128) (s : State) (hz : Kept por z s) : Kept por z (sendWord w s) := by
  simp (maxDischargeDepth := 40) [sendWord, hz]

@[simp] theorem countWord_kept (w : Word128) (failed : Bool) (s : State) (hz : Kept por z s) : Kept por z (countWord w failed s) := by
  simp (maxDischargeDepth := 40) [countWord, hz]

@[simp] theorem discardWord_kept (sent : Word128) (s : State) (hz : Kept por z s) : Kept por z (discardWord sent s) := by
  simp (maxDischargeDepth := 40) [discardWord, hz]

@[simp] theorem takeWord_kept (w : Word128) (f : State → State) (s : State) (h_f : ∀ t, Kept por t (f t))
    (hz : Kept por z s) : Kept por z (takeWord w f s) := by
  have k : ∀ t, Kept por z t → Kept por z (f t) := fun t h => h.trans (h_f t)
  unfold takeWord; (repeat' split) <;> first | exact hz | (apply k; simp [hz]) | simp [hz]

@[simp] theorem arriveWord_kept (sent flip : Word128) (f : State → State) (s : State) (h_f : ∀ t, Kept por t (f t))
    (hz : Kept por z s) : Kept por z (arriveWord sent flip f s) := by
  have k : ∀ t, Kept por z t → Kept por z (f t) := fun t h => h.trans (h_f t)
  unfold arriveWord; (repeat' split) <;> first | exact hz | (apply k; simp [hz]) | simp [hz]

end Sys2Proof.Machine
end

