-- ==== Sys2Proof/Laws/KeptIssue.lean ====
section
/-! SUPPORT. What the operations of Machine/Issue.lean keep (Laws/Kept.lean). -/

namespace Sys2Proof.Machine

set_option linter.all false

variable {por : Bool} {z : State}

@[simp] theorem applyPost_kept (p : Post) (s : State) (hz : Kept por z s) : Kept por z (applyPost p s) := by
  simp (maxDischargeDepth := 40) [applyPost, hz]

@[simp] theorem traceStep_kept (e : Nat) (f : Flight) (s : State) (hz : Kept por z s) : Kept por z (traceStep e f s) := by
  unfold traceStep; (repeat' split) <;> simp (maxDischargeDepth := 40) [hz]

@[simp] theorem wavePost_kept (src : Nat) (p : Post) (s : State) (hz : Kept por z s) : Kept por z (wavePost src p s) := by
  simp (maxDischargeDepth := 40) [wavePost, hz]

@[simp] theorem sendPost_kept (e : Nat) (s : State) (p : Post) (hz : Kept por z s) : Kept por z (sendPost e s p) := by
  unfold sendPost; (repeat' split) <;> simp (maxDischargeDepth := 40) [hz]

@[simp] theorem noteDelay_kept (e mask : Nat) (s : State) (hz : Kept por z s) : Kept por z (noteDelay e mask s) := by
  simp (maxDischargeDepth := 40) [noteDelay, hz]

@[simp] theorem completeStep_kept (e : Nat) (f : Flight) (s : State) (hz : Kept por z s) : Kept por z (completeStep e f s) := by
  simp (maxDischargeDepth := 40) [completeStep, hz]

@[simp] theorem completeFlight_kept (e u : Nat) (p : Flight → Bool) (s : State) (hz : Kept por z s) : Kept por z (completeFlight e u p s) := by
  unfold completeFlight; (repeat' split) <;> simp (maxDischargeDepth := 40) [hz]

@[simp] theorem modFlight_kept (e u : Nat) (p : Flight → Bool) (g : Flight → Flight) (s : State) (hz : Kept por z s) : Kept por z (modFlight e u p g s) := by
  simp (maxDischargeDepth := 40) [modFlight, hz]

@[simp] theorem recordOverrun_kept (e : Nat) (q : QStep) (mask : Nat) (inherited : Bool) (late : Nat) (s : State) (hz : Kept por z s) : Kept por z (recordOverrun e q mask inherited late s) := by
  simp (maxDischargeDepth := 40) [recordOverrun, hz]

@[simp] theorem ckptIssued_kept (e : Nat) (q : QStep) (s : State) (hz : Kept por z s) : Kept por z (ckptIssued e q s) := by
  simp (maxDischargeDepth := 40) [ckptIssued, hz]

@[simp] theorem addStream_kept (e : Nat) (w : StepWord) (s : State) (hz : Kept por z s) : Kept por z (addStream e w s) := by
  simp (maxDischargeDepth := 40) [addStream, hz]

@[simp] theorem dropStream_kept (e : Nat) (s : State) (hz : Kept por z s) : Kept por z (dropStream e s) := by
  simp (maxDischargeDepth := 40) [dropStream, hz]

@[simp] theorem sendArrival_kept (e : Nat) (q : QStep) (s : State) (hz : Kept por z s) : Kept por z (sendArrival e q s) := by
  simp (maxDischargeDepth := 40) [sendArrival, hz]

@[simp] theorem flagSelect_kept (e : Nat) (q : QStep) (past : Bool) (s : State) (hz : Kept por z s) : Kept por z (flagSelect e q past s) := by
  unfold flagSelect; (repeat' split) <;> simp (maxDischargeDepth := 40) [hz]

@[simp] theorem takeHead_kept (e : Nat) (q : QStep) (left : List QStep) (mi : Nat × Bool) (late : Nat) (s : State) (hz : Kept por z s) : Kept por z (takeHead e q left mi late s) := by
  simp (maxDischargeDepth := 40) [takeHead, hz]

@[simp] theorem launch_kept (e : Nat) (q run : QStep) (f : Flight) (s : State) (hz : Kept por z s) : Kept por z (launch e q run f s) := by
  simp (maxDischargeDepth := 40) [launch, hz]

@[simp] theorem issueHead_kept (e : Nat) (q : QStep) (rest : List QStep) (s : State) (hz : Kept por z s) : Kept por z (issueHead e q rest s) := by
  simp (maxDischargeDepth := 40) [issueHead, hz]

@[simp] theorem issueIf_kept (e : Nat) (p : Nat → Bool) (s : State) (hz : Kept por z s) : Kept por z (issueIf e p s) := by
  unfold issueIf; (repeat' split) <;> simp (maxDischargeDepth := 40) [hz]

@[simp] theorem abortFlight_kept (e u : Nat) (p : Flight → Bool) (s : State) (hz : Kept por z s) : Kept por z (abortFlight e u p s) := by
  simp (maxDischargeDepth := 40) [abortFlight, hz]

@[simp] theorem endSender_kept (st : Stream) (s : State) (hz : Kept por z s) : Kept por z (endSender st s) := by
  simp (maxDischargeDepth := 40) [endSender, hz]

@[simp] theorem abortEnds_kept (st : Stream) (s : State) (hz : Kept por z s) : Kept por z (abortEnds st s) := by
  simp (maxDischargeDepth := 40) [abortEnds, hz]

@[simp] theorem reportAbort_kept (cause : Nat) (st : Stream) (s : State) (hz : Kept por z s) : Kept por z (reportAbort cause st s) := by
  simp (maxDischargeDepth := 40) [reportAbort, hz]

@[simp] theorem abortStream_kept (cause : Nat) (st : Stream) (s : State) (hz : Kept por z s) : Kept por z (abortStream cause st s) := by
  simp (maxDischargeDepth := 40) [abortStream, hz]

@[simp] theorem abortStreams_kept (cause : Nat) (p : Stream → Bool) (s : State) (hz : Kept por z s) : Kept por z (abortStreams cause p s) := by
  simp (maxDischargeDepth := 40) [abortStreams, hz]

@[simp] theorem abortSoon_kept (cause : Nat) (st : Stream) (s : State) (hz : Kept por z s) : Kept por z (abortSoon cause st s) := by
  simp (maxDischargeDepth := 40) [abortSoon, hz]

@[simp] theorem finishAborts_kept (s : State) (hz : Kept por z s) : Kept por z (finishAborts s) := by
  simp (maxDischargeDepth := 40) [finishAborts, hz]

@[simp] theorem haltRun_kept (cause w1 : Nat) (s : State) (hz : Kept por z s) : Kept por z (haltRun cause w1 s) := by
  simp (maxDischargeDepth := 40) [haltRun, hz]

@[simp] theorem unloadList_kept (s : State) (hz : Kept por z s) : Kept por z (unloadList s) := by
  simp (maxDischargeDepth := 40) [unloadList, hz]

end Sys2Proof.Machine
end

