-- ==== Sys2Proof/Laws/KeptWords.lean ====
section
/-! SUPPORT. What the operations of Machine/Words.lean keep (Laws/Kept.lean). -/

namespace Sys2Proof.Machine

set_option linter.all false

variable {por : Bool} {z : State}

@[simp] theorem putWord_kept (r : Nat) (w : Word256) (s : State) (hz : Kept por z s) : Kept por z (putWord r w s) := by
  simp (maxDischargeDepth := 40) [putWord, hz]

@[simp] theorem putEvery_kept (w : Word256) (s : State) (hz : Kept por z s) : Kept por z (putEvery w s) := by
  simp (maxDischargeDepth := 40) [putEvery, hz]

@[simp] theorem contribute_kept (kind key rest : Nat) (s : State) (hz : Kept por z s) : Kept por z (contribute kind key rest s) := by
  simp (maxDischargeDepth := 40) [contribute, hz]

@[simp] theorem contributeTally_kept (sheaf v : Nat) (s : State) (hz : Kept por z s) : Kept por z (contributeTally sheaf v s) := by
  simp (maxDischargeDepth := 40) [contributeTally, hz]

@[simp] theorem contributeTimechk_kept (k : Nat) (s : State) (hz : Kept por z s) : Kept por z (contributeTimechk k s) := by
  simp (maxDischargeDepth := 40) [contributeTimechk, hz]

@[simp] theorem contributeEpoch_kept (s : State) (hz : Kept por z s) : Kept por z (contributeEpoch s) := by
  simp (maxDischargeDepth := 40) [contributeEpoch, hz]

@[simp] theorem contributeBarrier_kept (n : Nat) (s : State) (hz : Kept por z s) : Kept por z (contributeBarrier n s) := by
  simp (maxDischargeDepth := 40) [contributeBarrier, hz]

@[simp] theorem forget_kept (kind key : Nat) (s : State) (hz : Kept por z s) : Kept por z (forget kind key s) := by
  simp (maxDischargeDepth := 40) [forget, hz]

@[simp] theorem countStray_kept (r : Nat) (s : State) (hz : Kept por z s) : Kept por z (countStray r s) := by
  simp (maxDischargeDepth := 40) [countStray, hz]

end Sys2Proof.Machine
end

