-- ==== Sys2Proof/Laws/KeptLine.lean ====
section
/-! SUPPORT. What the operations of Machine/Line.lean keep (Laws/Kept.lean). -/

namespace Sys2Proof.Machine

set_option linter.all false

variable {por : Bool} {z : State}

@[simp] theorem joinSent_kept (s : State) (hz : Kept por z s) : Kept por z (joinSent s) := by
  simp (maxDischargeDepth := 40) [joinSent, hz]

@[simp] theorem fillLane_kept (p : Nat) (s : State) (l : Nat) (hz : Kept por z s) : Kept por z (fillLane p s l) := by
  simp only [fillLane]; (repeat' split) <;> simp (maxDischargeDepth := 40) [hz]

@[simp] theorem fillPort_kept (s : State) (p : Nat) (hz : Kept por z s) : Kept por z (fillPort s p) := by
  simp (maxDischargeDepth := 40) [fillPort, hz]

@[simp] theorem fillLines_kept (old : Nat) (s : State) (hz : Kept por z s) : Kept por z (fillLines old s) := by
  simp (maxDischargeDepth := 40) [fillLines, hz]

end Sys2Proof.Machine
end

