-- ==== Sys2Proof/Laws/KeptTiller.lean ====
section
/-! SUPPORT. What the operations of Machine/Tiller.lean keep (Laws/Kept.lean). -/

namespace Sys2Proof.Machine

set_option linter.all false

variable {por : Bool} {z : State}

@[simp] theorem State.lsStore_kept (s : State) (a : Nat) (b : List (BitVec 8)) (hz : Kept por z s) : Kept por z (State.lsStore s a b) := by
  simp (maxDischargeDepth := 40) [State.lsStore, hz]

@[simp] theorem applyStep_kept (e op : Nat) (b : Body) (f : State → State) (s : State)
    (h_f : ∀ t, Kept por t (f t)) (h : Kept por z s) : Kept por z (applyStep e op b f s) := by
  have := h.trans (h_f s)
  unfold applyStep; split <;> simp [h, this]

@[simp] theorem failStep_kept (e op : Nat) (b : Body) (s : State) (hz : Kept por z s) : Kept por z (failStep e op b s) := by
  simp (maxDischargeDepth := 40) [failStep, hz]

@[simp] theorem State.modBank_kept (s : State) (key b : Nat) (f : Bank → Bank) (hz : Kept por z s) : Kept por z (State.modBank s key b f) := by
  simp (maxDischargeDepth := 40) [State.modBank, hz]

@[simp] theorem noteSat_kept (sat : Bool) (s : State) (hz : Kept por z s) : Kept por z (noteSat sat s) := by
  simp (maxDischargeDepth := 40) [noteSat, hz]

@[simp] theorem mmaEffect_kept (key : Nat) (b : Body) (s : State) (hz : Kept por z s) : Kept por z (mmaEffect key b s) := by
  simp (maxDischargeDepth := 40) [mmaEffect, hz]

@[simp] theorem execMma_kept (t : TillerId) (body : Body) (s : State) : KeptO por s (execMma t body s) := by
  simp (maxDischargeDepth := 40) [execMma]

@[simp] theorem moutEffect_kept (key : Nat) (b : Body) (s : State) (hz : Kept por z s) : Kept por z (moutEffect key b s) := by
  simp (maxDischargeDepth := 40) [moutEffect, hz]

@[simp] theorem execMout_kept (t : TillerId) (body : Body) (s : State) : KeptO por s (execMout t body s) := by
  simp (maxDischargeDepth := 40) [execMout]

@[simp] theorem bexpEffect_kept (key : Nat) (b : Body) (s : State) (hz : Kept por z s) : Kept por z (bexpEffect key b s) := by
  simp (maxDischargeDepth := 40) [bexpEffect, hz]

@[simp] theorem execBexp_kept (t : TillerId) (body : Body) (s : State) : KeptO por s (execBexp t body s) := by
  simp (maxDischargeDepth := 40) [execBexp]

@[simp] theorem baddEffect_kept (key : Nat) (b : Body) (s : State) (hz : Kept por z s) : Kept por z (baddEffect key b s) := by
  simp (maxDischargeDepth := 40) [baddEffect, hz]

@[simp] theorem execBadd_kept (t : TillerId) (body : Body) (s : State) : KeptO por s (execBadd t body s) := by
  simp (maxDischargeDepth := 40) [execBadd]

@[simp] theorem writeVec_kept (key gran size : Nat) (r : List (Nat × Bool)) (s : State) (hz : Kept por z s) : Kept por z (writeVec key gran size r s) := by
  simp (maxDischargeDepth := 40) [writeVec, hz]

@[simp] theorem vbinEffect_kept (key : Nat) (b : Body) (s : State) (hz : Kept por z s) : Kept por z (vbinEffect key b s) := by
  simp (maxDischargeDepth := 40) [vbinEffect, hz]

@[simp] theorem execVbin_kept (t : TillerId) (body : Body) (s : State) : KeptO por s (execVbin t body s) := by
  simp (maxDischargeDepth := 40) [execVbin]

@[simp] theorem vfmaEffect_kept (key : Nat) (b : Body) (s : State) (hz : Kept por z s) : Kept por z (vfmaEffect key b s) := by
  simp (maxDischargeDepth := 40) [vfmaEffect, hz]

@[simp] theorem execVfma_kept (t : TillerId) (body : Body) (s : State) : KeptO por s (execVfma t body s) := by
  simp (maxDischargeDepth := 40) [execVfma]

@[simp] theorem vfunEffect_kept (key : Nat) (b : Body) (s : State) (hz : Kept por z s) : Kept por z (vfunEffect key b s) := by
  simp (maxDischargeDepth := 40) [vfunEffect, hz]

@[simp] theorem execVfun_kept (t : TillerId) (body : Body) (s : State) : KeptO por s (execVfun t body s) := by
  simp (maxDischargeDepth := 40) [execVfun]

@[simp] theorem vredEffect_kept (key : Nat) (b : Body) (s : State) (hz : Kept por z s) : Kept por z (vredEffect key b s) := by
  simp (maxDischargeDepth := 40) [vredEffect, hz]

@[simp] theorem execVred_kept (t : TillerId) (body : Body) (s : State) : KeptO por s (execVred t body s) := by
  simp (maxDischargeDepth := 40) [execVred]

@[simp] theorem vpackEffect_kept (key : Nat) (b : Body) (s : State) (hz : Kept por z s) : Kept por z (vpackEffect key b s) := by
  simp (maxDischargeDepth := 40) [vpackEffect, hz]

@[simp] theorem execVpack_kept (t : TillerId) (body : Body) (s : State) : KeptO por s (execVpack t body s) := by
  simp (maxDischargeDepth := 40) [execVpack]

@[simp] theorem vunpackEffect_kept (key : Nat) (b : Body) (s : State) (hz : Kept por z s) : Kept por z (vunpackEffect key b s) := by
  simp (maxDischargeDepth := 40) [vunpackEffect, hz]

@[simp] theorem execVunpack_kept (t : TillerId) (body : Body) (s : State) : KeptO por s (execVunpack t body s) := by
  simp (maxDischargeDepth := 40) [execVunpack]

@[simp] theorem vrngEffect_kept (key : Nat) (b : Body) (s : State) (hz : Kept por z s) : Kept por z (vrngEffect key b s) := by
  simp (maxDischargeDepth := 40) [vrngEffect, hz]

@[simp] theorem execVrng_kept (t : TillerId) (body : Body) (s : State) : KeptO por s (execVrng t body s) := by
  simp (maxDischargeDepth := 40) [execVrng]

@[simp] theorem vsetselEffect_kept (key : Nat) (b : Body) (s : State) (hz : Kept por z s) : Kept por z (vsetselEffect key b s) := by
  simp (maxDischargeDepth := 40) [vsetselEffect, hz]

@[simp] theorem execVsetsel_kept (t : TillerId) (body : Body) (s : State) : KeptO por s (execVsetsel t body s) := by
  simp (maxDischargeDepth := 40) [execVsetsel]

@[simp] theorem vposEffect_kept (key : Nat) (b : Body) (s : State) (hz : Kept por z s) : Kept por z (vposEffect key b s) := by
  simp (maxDischargeDepth := 40) [vposEffect, hz]

@[simp] theorem execVpos_kept (t : TillerId) (body : Body) (s : State) : KeptO por s (execVpos t body s) := by
  simp (maxDischargeDepth := 40) [execVpos]

end Sys2Proof.Machine
end

