-- ==== Sys2Proof/Laws/KeptCrib.lean ====
section
/-! SUPPORT. What the operations of Machine/Crib.lean keep (Laws/Kept.lean). -/

namespace Sys2Proof.Machine

set_option linter.all false

variable {por : Bool} {z : State}

@[simp] theorem writeRow_kept (key row : Nat) (b : List (BitVec 8)) (s : State) (hz : Kept por z s) : Kept por z (writeRow key row b s) := by
  simp (maxDischargeDepth := 40) [writeRow, hz]

@[simp] theorem upsetWord_kept (key : Nat) (u : CribUpset) (s : State) (hz : Kept por z s) : Kept por z (upsetWord key u s) := by
  simp (maxDischargeDepth := 40) [upsetWord, hz]

@[simp] theorem checkRow_kept (key row : Nat) (s : State) (hz : Kept por z s) : Kept por z (checkRow key row s) := by
  simp (maxDischargeDepth := 40) [checkRow, hz]

@[simp] theorem State.modGroup_kept (s : State) (key g : Nat) (f : Group → Group) (hz : Kept por z s) : Kept por z (State.modGroup s key g f) := by
  simp (maxDischargeDepth := 40) [State.modGroup, hz]

@[simp] theorem repairLane_kept (key g lane : Nat) (s : State) (hz : Kept por z s) : Kept por z (repairLane key g lane s) := by
  simp (maxDischargeDepth := 40) [repairLane, hz]

@[simp] theorem declareLane_kept (key : Nat) (s : State) (hz : Kept por z s) : Kept por z (declareLane key s) := by
  simp (maxDischargeDepth := 40) [declareLane, hz]

@[simp] theorem countFault_kept (key g : Nat) (s : State) (lane : Nat) (hz : Kept por z s) : Kept por z (countFault key g s lane) := by
  simp (maxDischargeDepth := 40) [countFault, hz]

@[simp] theorem repairNow_kept (key g : Nat) (s : State) (lane : Nat) (hz : Kept por z s) : Kept por z (repairNow key g s lane) := by
  simp (maxDischargeDepth := 40) [repairNow, hz]

@[simp] theorem transferFails_kept (key : Nat) (x : DowelFail) (s : State) (hz : Kept por z s) : Kept por z (transferFails key x s) := by
  simp only [transferFails]; (repeat' split) <;> simp (maxDischargeDepth := 40) [hz]

@[simp] theorem noteCommand_kept (key row : Nat) (write again : Bool) (s : State) (hz : Kept por z s) : Kept por z (noteCommand key row write again s) := by
  simp (maxDischargeDepth := 40) [noteCommand, hz]

@[simp] theorem moveCommon_kept (key op : Nat) (b : Body) (nz : CribNoise) (s : State) (hz : Kept por z s) : Kept por z (moveCommon key op b nz s) := by
  simp (maxDischargeDepth := 40) [moveCommon, hz]

@[simp] theorem crossRow_kept (key row : Nat) (b : List (BitVec 8)) (s : State) (hz : Kept por z s) : Kept por z (crossRow key row b s).2 := by
  unfold crossRow; (repeat' split) <;> simp (maxDischargeDepth := 40) [hz]

@[simp] theorem cloadRow_kept (key crow lrow : Nat) (b : Body) (nz : CribNoise) (s : State) (i : Nat) (hz : Kept por z s) : Kept por z (cloadRow key crow lrow b nz s i) := by
  simp (maxDischargeDepth := 40) [cloadRow, hz]

@[simp] theorem cloadEffect_kept (key : Nat) (b : Body) (nz : CribNoise) (s : State) (hz : Kept por z s) : Kept por z (cloadEffect key b nz s) := by
  simp (maxDischargeDepth := 40) [cloadEffect, hz]

@[simp] theorem execCload_kept (t : TillerId) (body : Body) (noise : CribNoise) (s : State) : KeptO por s (execCload t body noise s) := by
  simp (maxDischargeDepth := 40) [execCload]

@[simp] theorem cstoreRow_kept (key crow lrow : Nat) (nz : CribNoise) (s : State) (i : Nat) (hz : Kept por z s) : Kept por z (cstoreRow key crow lrow nz s i) := by
  simp (maxDischargeDepth := 40) [cstoreRow, hz]

@[simp] theorem cstoreEffect_kept (key : Nat) (b : Body) (nz : CribNoise) (s : State) (hz : Kept por z s) : Kept por z (cstoreEffect key b nz s) := by
  simp (maxDischargeDepth := 40) [cstoreEffect, hz]

@[simp] theorem execCstore_kept (t : TillerId) (body : Body) (noise : CribNoise) (s : State) : KeptO por s (execCstore t body noise s) := by
  simp (maxDischargeDepth := 40) [execCstore]

@[simp] theorem stopMove_kept (key : Nat) (s : State) (f : Flight) (hz : Kept por z s) : Kept por z (stopMove key s f) := by
  simp (maxDischargeDepth := 40) [stopMove, hz]

@[simp] theorem stopMoves_kept (die : Option Nat) (s : State) (hz : Kept por z s) : Kept por z (stopMoves die s) := by
  simp (maxDischargeDepth := 40) [stopMoves, hz]

@[simp] theorem execCribWriteback_kept (t : TillerId) (row : Fin 57344) (s : State) : KeptO por s (execCribWriteback t row s) := by
  simp (maxDischargeDepth := 40) [execCribWriteback]

@[simp] theorem faultLane_kept (key g : Nat) (s : State) (lane : Nat) (hz : Kept por z s) : Kept por z (faultLane key g s lane) := by
  simp (maxDischargeDepth := 40) [faultLane, hz]

@[simp] theorem execLaneScan_kept (t : TillerId) (group : Fin 8) (lanes : List (Fin 2372)) (s : State) : KeptO por s (execLaneScan t group lanes s) := by
  unfold execLaneScan; (repeat' split) <;> simp (maxDischargeDepth := 40)

@[simp] theorem applyRepairs_kept (key : Nat) (s : State) (g : Nat) (hz : Kept por z s) : Kept por z (applyRepairs key s g) := by
  simp (maxDischargeDepth := 40) [applyRepairs, hz]

@[simp] theorem markDegraded_kept (key : Nat) (s : State) (hz : Kept por z s) : Kept por z (markDegraded key s) := by
  unfold markDegraded; (repeat' split) <;> simp (maxDischargeDepth := 40) [hz]

@[simp] theorem execDowelRepairApply_kept (t : TillerId) (s : State) : KeptO por s (execDowelRepairApply t s) := by
  simp (maxDischargeDepth := 40) [execDowelRepairApply]

@[simp] theorem lowerStack_kept (d : Nat) (s : State) (hz : Kept por z s) : Kept por z (lowerStack d s) := by
  simp (maxDischargeDepth := 40) [lowerStack, hz]

@[simp] theorem execStackCeilingLower_kept (die : Fin 8) (s : State) : KeptO por s (execStackCeilingLower die s) := by
  unfold execStackCeilingLower; (repeat' split) <;> simp (maxDischargeDepth := 40)

@[simp] theorem execStackCeilingRaise_kept (die : Fin 8) (s : State) : KeptO por s (execStackCeilingRaise die s) := by
  simp only [execStackCeilingRaise]; (repeat' split) <;> simp (maxDischargeDepth := 40)

end Sys2Proof.Machine
end

