-- ==== Sys2Proof/Laws/KeptMesh.lean ====
section
/-! SUPPORT. What the operations of Machine/Mesh.lean keep (Laws/Kept.lean). -/

namespace Sys2Proof.Machine

set_option linter.all false

variable {por : Bool} {z : State}

@[simp] theorem noteGrant_kept (d : Nat) (f : Flit) (s : State) (hz : Kept por z s) : Kept por z (noteGrant d f s) := by
  unfold noteGrant; (repeat' split) <;> simp (maxDischargeDepth := 40) [hz]

@[simp] theorem freeSlots_kept (d node n : Nat) (s : State) (hz : Kept por z s) : Kept por z (freeSlots d node n s) := by
  simp (maxDischargeDepth := 40) [freeSlots, hz]

@[simp] theorem leaveStaging_kept (d : Nat) (f : Flit) (s : State) (hz : Kept por z s) : Kept por z (leaveStaging d f s) := by
  simp (maxDischargeDepth := 40) [leaveStaging, hz]

@[simp] theorem moveFlit_kept (d i : Nat) (f : Flit) (s : State) (hz : Kept por z s) : Kept por z (moveFlit d i f s) := by
  simp only [moveFlit]; (repeat' split) <;> simp (maxDischargeDepth := 40) [hz]

@[simp] theorem sendLeg_kept (d : Nat) (l : Leg) (s : State) (hz : Kept por z s) : Kept por z (sendLeg d l s) := by
  unfold sendLeg; (repeat' split) <;> simp (maxDischargeDepth := 40) [hz]

@[simp] theorem startMsend_kept (t : TillerId) (b : Body) (ms : List Nat) (s : State) (hz : Kept por z s) : Kept por z (startMsend t b ms s) := by
  simp only [startMsend]; (repeat' split) <;> simp (maxDischargeDepth := 40) [hz]

@[simp] theorem execMsend_kept (t : TillerId) (body : Body) (s : State) : KeptO por s (execMsend t body s) := by
  simp (maxDischargeDepth := 40) [execMsend]

@[simp] theorem memberWrote_kept (d node id : Nat) (s : State) (hz : Kept por z s) : Kept por z (memberWrote d node id s) := by
  unfold memberWrote; (repeat' split) <;> simp (maxDischargeDepth := 40) [hz]

@[simp] theorem consumeData_kept (d : Nat) (f : Flit) (s : State) (hz : Kept por z s) : Kept por z (consumeData d f s) := by
  simp only [consumeData]; (repeat' split) <;> simp (maxDischargeDepth := 40) [hz]

@[simp] theorem consumeAck_kept (d : Nat) (f : Flit) (s : State) (hz : Kept por z s) : Kept por z (consumeAck d f s) := by
  unfold consumeAck; (repeat' split) <;> simp (maxDischargeDepth := 40) [hz]

@[simp] theorem fillQueue_kept (e : Nat) (q : QStep) (s : State) (hz : Kept por z s) : Kept por z (fillQueue e q s) := by
  simp (maxDischargeDepth := 40) [fillQueue, hz]

@[simp] theorem consumeGrant_kept (d : Nat) (f : Flit) (s : State) (hz : Kept por z s) : Kept por z (consumeGrant d f s) := by
  simp only [consumeGrant]; (repeat' split) <;> simp (maxDischargeDepth := 40) [hz]

@[simp] theorem consumeFlit_kept (d : Nat) (f : Flit) (s : State) (hz : Kept por z s) : Kept por z (consumeFlit d f s) := by
  unfold consumeFlit; (repeat' split) <;> simp (maxDischargeDepth := 40) [hz]

@[simp] theorem serveFlit_kept (d i : Nat) (p : Flit → Bool) (s : State) (hz : Kept por z s) : Kept por z (serveFlit d i p s) := by
  simp only [serveFlit]; (repeat' split) <;> simp (maxDischargeDepth := 40) [hz]

@[simp] theorem execMeshControlFlit_kept (die : Fin 8) (flit : Nat) (s : State) : KeptO por s (execMeshControlFlit die flit s) := by
  simp (maxDischargeDepth := 40) [execMeshControlFlit]

@[simp] theorem execMeshDataFlit_kept (die : Fin 8) (flit : Nat) (s : State) : KeptO por s (execMeshDataFlit die flit s) := by
  simp (maxDischargeDepth := 40) [execMeshDataFlit]

@[simp] theorem execMeshCreditReturn_kept (die : Fin 8) (node : Fin 289) (port : Fin 17) (channel : Fin 3) (s : State) : KeptO por s (execMeshCreditReturn die node port channel s) := by
  simp (maxDischargeDepth := 40) [execMeshCreditReturn]

@[simp] theorem execFlitDivert_kept (die : Fin 8) (flit : Nat) (s : State) : KeptO por s (execFlitDivert die flit s) := by
  simp only [execFlitDivert]; (repeat' split) <;> simp (maxDischargeDepth := 40)

@[simp] theorem execStagingGrant_kept (die : Fin 8) (node : Fin 289) (s : State) : KeptO por s (execStagingGrant die node s) := by
  simp only [execStagingGrant]; (repeat' split) <;> simp (maxDischargeDepth := 40)

@[simp] theorem execMeshFlipRequest_kept (die : Fin 8) (s : State) : KeptO por s (execMeshFlipRequest die s) := by
  simp (maxDischargeDepth := 40) [execMeshFlipRequest]

@[simp] theorem execMeshEpochFlip_kept (die : Fin 8) (s : State) : KeptO por s (execMeshEpochFlip die s) := by
  unfold execMeshEpochFlip; (repeat' split) <;> simp (maxDischargeDepth := 40)

@[simp] theorem execMeshDrainZero_kept (die : Fin 8) (s : State) : KeptO por s (execMeshDrainZero die s) := by
  simp (maxDischargeDepth := 40) [execMeshDrainZero]

@[simp] theorem execMeshDrainTimeout_kept (die : Fin 8) (s : State) : KeptO por s (execMeshDrainTimeout die s) := by
  simp only [execMeshDrainTimeout]; (repeat' split) <;> simp (maxDischargeDepth := 40)

end Sys2Proof.Machine
end

