-- ==== Sys2Proof/Laws/KeptReady.lean ====
section
/-! SUPPORT. What the operations of Machine/Ready.lean keep (Laws/Kept.lean). -/

namespace Sys2Proof.Machine

set_option linter.all false

variable {por : Bool} {z : State}

@[simp] theorem noteNarrow_kept (s : State) (hz : Kept por z s) : Kept por z (noteNarrow s) := by
  simp (maxDischargeDepth := 40) [noteNarrow, hz]

theorem readyFlags_flash (s : State) : (readyFlags s).flash = s.rst.flash := by simp [readyFlags]

@[simp] theorem setReady_kept (s : State) (h : Kept por z s) : Kept por z (setReady s) := by
  simp (maxDischargeDepth := 40) [setReady, h, readyFlags_flash]

@[simp] theorem evalReady_kept (s : State) (hz : Kept por z s) : Kept por z (evalReady s) := by
  simp (maxDischargeDepth := 40) [evalReady, hz]

end Sys2Proof.Machine
end

