-- ==== Sys2Proof/Laws/KeptPacket.lean ====
section
/-! SUPPORT. What the operations of Machine/Packet.lean keep (Laws/Kept.lean). -/

namespace Sys2Proof.Machine

set_option linter.all false

variable {por : Bool} {z : State}

@[simp] theorem formRails_kept (s : State) (hz : Kept por z s) : Kept por z (formRails s) := by
  simp (maxDischargeDepth := 40) [formRails, hz]

@[simp] theorem pump_kept (r : Nat) (s : State) (hz : Kept por z s) : Kept por z (pump r s) := by
  simp (maxDischargeDepth := 40) [pump, hz]

@[simp] theorem sendOn_kept (r : Nat) (p : Packet) (s : State) (hz : Kept por z s) : Kept por z (sendOn r p s) := by
  simp (maxDischargeDepth := 40) [sendOn, hz]

@[simp] theorem onBus_kept (site dst : Nat) (col out : Bool) (p : Packet) (s : State) (hz : Kept por z s) : Kept por z (onBus site dst col out p s) := by
  simp (maxDischargeDepth := 40) [onBus, hz]

@[simp] theorem sendFrom_kept (site r : Nat) (col : Bool) (p : Packet) (s : State) (hz : Kept por z s) : Kept por z (sendFrom site r col p s) := by
  simp (maxDischargeDepth := 40) [sendFrom, hz]

@[simp] theorem sendBack_kept (r : Nat) (p : Packet) (s : State) (hz : Kept por z s) : Kept por z (sendBack r p s) := by
  simp only [sendBack]; (repeat' split) <;> simp (maxDischargeDepth := 40) [hz]

@[simp] theorem sendEscape_kept (r : Nat) (p : Packet) (s : State) (hz : Kept por z s) : Kept por z (sendEscape r p s) := by
  simp (maxDischargeDepth := 40) [sendEscape, hz]

@[simp] theorem sendWaiting_kept (s : State) (hz : Kept por z s) : Kept por z (sendWaiting s) := by
  simp (maxDischargeDepth := 40) [sendWaiting, hz]

@[simp] theorem returnPacket_kept (s : State) (p : Packet) (hz : Kept por z s) : Kept por z (returnPacket s p) := by
  simp (maxDischargeDepth := 40) [returnPacket, hz]

@[simp] theorem stopFibres_kept (r : Nat) (s : State) (hz : Kept por z s) : Kept por z (stopFibres r s) := by
  simp (maxDischargeDepth := 40) [stopFibres, hz]

@[simp] theorem railFalls_kept (r reason state : Nat) (s : State) (hz : Kept por z s) : Kept por z (railFalls r reason state s) := by
  simp (maxDischargeDepth := 40) [railFalls, hz]

@[simp] theorem railDown_kept (r reason state : Nat) (s : State) (hz : Kept por z s) : Kept por z (railDown r reason state s) := by
  simp (maxDischargeDepth := 40) [railDown, hz]

@[simp] theorem checkWidth_kept (r : Nat) (s : State) (hz : Kept por z s) : Kept por z (checkWidth r s) := by
  simp (maxDischargeDepth := 40) [checkWidth, hz]

@[simp] theorem noteRetry_kept (s : State) (p : Packet) (hz : Kept por z s) : Kept por z (noteRetry s p) := by
  simp (maxDischargeDepth := 40) [noteRetry, hz]

@[simp] theorem sendAgain_kept (r : Nat) (f : TxFrame) (s : State) (hz : Kept por z s) : Kept por z (sendAgain r f s) := by
  simp (maxDischargeDepth := 40) [sendAgain, hz]

@[simp] theorem parkLane_kept (r lane : Nat) (s : State) (hz : Kept por z s) : Kept por z (parkLane r lane s) := by
  simp only [parkLane]; (repeat' split) <;> simp (maxDischargeDepth := 40) [hz]

@[simp] theorem portFalls_kept (p state : Nat) (s : State) (hz : Kept por z s) : Kept por z (portFalls p state s) := by
  simp (maxDischargeDepth := 40) [portFalls, hz]

@[simp] theorem portDown_kept (p state : Nat) (s : State) (hz : Kept por z s) : Kept por z (portDown p state s) := by
  simp (maxDischargeDepth := 40) [portDown, hz]

end Sys2Proof.Machine
end

