-- ==== Sys2Proof/Laws/KeptRings.lean ====
section
/-! SUPPORT. What the operations of Machine/Rings.lean keep (Laws/Kept.lean). -/

namespace Sys2Proof.Machine

set_option linter.all false

variable {por : Bool} {z : State}

@[simp] theorem noteSlip_kept (r : RingId) (lines : Int) (recovered : Bool) (s : State) (hz : Kept por z s) : Kept por z (noteSlip r lines recovered s) := by
  unfold noteSlip; (repeat' split) <;> simp (maxDischargeDepth := 40) [hz]

@[simp] theorem yuleyLane_kept (r : RingId) (use : Bool) (s : State) (hz : Kept por z s) : Kept por z (yuleyLane r use s) := by
  unfold yuleyLane; (repeat' split) <;> simp (maxDischargeDepth := 40) [hz]

@[simp] theorem declareSlip_kept (r : RingId) (s : State) (hz : Kept por z s) : Kept por z (declareSlip r s) := by
  unfold declareSlip; (repeat' split) <;> simp (maxDischargeDepth := 40) [hz]

@[simp] theorem checkRing_kept (r : RingId) (s : State) (hz : Kept por z s) : Kept por z (checkRing r s) := by
  simp (maxDischargeDepth := 40) [checkRing, hz]

@[simp] theorem serveSuspended_kept (r : Nat) (s : State) (hz : Kept por z s) : Kept por z (serveSuspended r s) := by
  simp only [serveSuspended]; (repeat' split) <;> simp (maxDischargeDepth := 40) [hz]

@[simp] theorem loseWave_kept (r w : Nat) (s : State) (hz : Kept por z s) : Kept por z (loseWave r w s) := by
  simp only [loseWave]; (repeat' split) <;> simp (maxDischargeDepth := 40) [hz]

@[simp] theorem freeWave_kept (r w : Nat) (s : State) (hz : Kept por z s) : Kept por z (freeWave r w s) := by
  unfold freeWave; (repeat' split) <;> simp (maxDischargeDepth := 40) [hz]

@[simp] theorem retireWave_kept (r dir w : Nat) (s : State) (hz : Kept por z s) : Kept por z (retireWave r dir w s) := by
  simp (maxDischargeDepth := 40) [retireWave, hz]

@[simp] theorem visit_kept (r : Nat) (last : Option Nat) (s : State) (hz : Kept por z s) : Kept por z (visit r last s) := by
  simp only [visit]; (repeat' split) <;> simp (maxDischargeDepth := 40) [hz]

@[simp] theorem nextRecovery_kept (r dir : Nat) (s : State) (hz : Kept por z s) : Kept por z (nextRecovery r dir s) := by
  simp only [nextRecovery]; (repeat' split) <;> simp (maxDischargeDepth := 40) [hz]

@[simp] theorem observe_kept (key w c : Nat) (ring : RingId) (s : State) (hz : Kept por z s) : Kept por z (observe key w c ring s) := by
  simp (maxDischargeDepth := 40) [observe, hz]

@[simp] theorem missCodewords_kept (key w : Nat) (codes : List Nat) (ring : RingId) (s : State) (hz : Kept por z s) : Kept por z (missCodewords key w codes ring s) := by
  simp (maxDischargeDepth := 40) [missCodewords, hz]

@[simp] theorem calibrateRings_kept (cals : RingCals) (s : State) (hz : Kept por z s) : Kept por z (calibrateRings cals s) := by
  simp (maxDischargeDepth := 40) [calibrateRings, hz]

@[simp] theorem wlCheck_kept (site port wl : Nat) (ok : Bool) (s : State) (hz : Kept por z s) : Kept por z (wlCheck site port wl ok s) := by
  simp (maxDischargeDepth := 40) [wlCheck, hz]

@[simp] theorem askCheck_kept (site port wl : Nat) (asked : Bool) (s : State) (hz : Kept por z s) : Kept por z (askCheck site port wl asked s) := by
  simp (maxDischargeDepth := 40) [askCheck, hz]

end Sys2Proof.Machine
end

