-- ==== Sys2Proof/Laws/KeptHbm.lean ====
section
/-! SUPPORT. What the operations of Machine/Hbm.lean keep (Laws/Kept.lean). -/

namespace Sys2Proof.Machine

set_option linter.all false

variable {por : Bool} {z : State}

@[simp] theorem upsetBurst_kept (u : HbmUpset) (s : State) (hz : Kept por z s) : Kept por z (upsetBurst u s) := by
  simp (maxDischargeDepth := 40) [upsetBurst, hz]

@[simp] theorem recordUe_kept (burst req : Nat) (s : State) (hz : Kept por z s) : Kept por z (recordUe burst req s) := by
  simp (maxDischargeDepth := 40) [recordUe, hz]

@[simp] theorem readBurst_kept (burst req : Nat) (s : State) (hz : Kept por z s) : Kept por z (readBurst burst req s).2.2 := by
  simp only [readBurst]; (repeat' split) <;> simp (maxDischargeDepth := 40) [hz]

@[simp] theorem hbmRead_kept (a n req : Nat) (s : State) (hz : Kept por z s) :
    Kept por z (hbmRead a n req s).2.2 := by
  refine Kept.foldl_proj (fun (x : List (BitVec 8) × Nat × State) => x.2.2) (fun b x => ?_) _ _ hz
  simp

@[simp] theorem putBurst_kept (burst : Nat) (d : List (BitVec 8)) (s : State) (hz : Kept por z s) : Kept por z (putBurst burst d s) := by
  simp (maxDischargeDepth := 40) [putBurst, hz]

@[simp] theorem mergeBurst_kept (burst off : Nat) (d : List (BitVec 8)) (req : Nat) (s : State) (hz : Kept por z s) : Kept por z (mergeBurst burst off d req s).2.2 := by
  unfold mergeBurst; (repeat' split) <;> simp (maxDischargeDepth := 40) [hz]

@[simp] theorem writeBurst_kept (burst off : Nat) (d : List (BitVec 8)) (req : Nat) (s : State) (hz : Kept por z s) : Kept por z (writeBurst burst off d req s).2 := by
  simp only [writeBurst]; (repeat' split) <;> simp (maxDischargeDepth := 40) [hz]

@[simp] theorem mergeRange_kept (a : Nat) (d : List (BitVec 8)) (req : Nat) (s : State) (hz : Kept por z s) :
    Kept por z (mergeRange a d req s).2.2 := by
  refine Kept.foldl_proj (fun (x : Nat × List (Nat × List (BitVec 8)) × State) => x.2.2) (fun b x => ?_) _ _ hz
  simp

@[simp] theorem hbmWrite_kept (a : Nat) (d : List (BitVec 8)) (req : Nat) (s : State) (hz : Kept por z s) :
    Kept por z (hbmWrite a d req s).2 := by
  unfold hbmWrite; dsimp only; split <;> simp [hz]

@[simp] theorem issueRefresh_kept (stack pc : Nat) (s : State) (hz : Kept por z s) : Kept por z (issueRefresh stack pc s) := by
  simp (maxDischargeDepth := 40) [issueRefresh, hz]

@[simp] theorem execRefreshSlot_kept (stack : Fin 32) (pc : Fin 32) (s : State) : KeptO por s (execRefreshSlot stack pc s) := by
  simp only [execRefreshSlot]; (repeat' split) <;> simp (maxDischargeDepth := 40)

@[simp] theorem execRefreshEnd_kept (stack : Fin 32) (pc : Fin 32) (bank : Fin 48) (s : State) : KeptO por s (execRefreshEnd stack pc bank s) := by
  simp only [execRefreshEnd]; (repeat' split) <;> simp (maxDischargeDepth := 40)

@[simp] theorem execRefreshModeChange_kept (stack : Fin 32) (s : State) : KeptO por s (execRefreshModeChange stack s) := by
  simp (maxDischargeDepth := 40) [execRefreshModeChange]

@[simp] theorem holdFrame_kept (a : Nat) (s : State) (hz : Kept por z s) : Kept por z (holdFrame a s).2 := by
  simp only [holdFrame]; (repeat' split) <;> simp (maxDischargeDepth := 40) [hz]

@[simp] theorem execScrubBurst_kept (noise : List HbmUpset) (s : State) : KeptO por s (execScrubBurst noise s) := by
  unfold execScrubBurst; (repeat' split) <;> simp (maxDischargeDepth := 40)

@[simp] theorem failStack_kept (h : Nat) (s : State) (hz : Kept por z s) : Kept por z (failStack h s) := by
  simp (maxDischargeDepth := 40) [failStack, hz]

@[simp] theorem execMemTrainingLost_kept (stack : Fin 32) (s : State) : KeptO por s (execMemTrainingLost stack s) := by
  simp (maxDischargeDepth := 40) [execMemTrainingLost]

end Sys2Proof.Machine
end

