-- ==== Sys2Proof/Laws/KeptBus.lean ====
section
/-! SUPPORT. What the operations of Machine/Bus.lean keep (Laws/Kept.lean). -/

namespace Sys2Proof.Machine

set_option linter.all false

variable {por : Bool} {z : State}

@[simp] theorem leaveBus_kept (s : State) (x : BusPkt) (hz : Kept por z s) : Kept por z (leaveBus s x) := by
  simp (maxDischargeDepth := 40) [leaveBus, hz]

@[simp] theorem grantStop_kept (col fwd : Bool) (stop n room : Nat) (s : State) (hz : Kept por z s) :
    Kept por z (grantStop col fwd stop n room s) := by
  induction n generalizing room s with
  | zero => exact hz
  | succ n ih =>
    unfold grantStop; dsimp only; (repeat' split)
    · exact hz
    · exact hz
    · apply ih; simp [hz]

@[simp] theorem pumpBus_kept (s : State) (hz : Kept por z s) : Kept por z (pumpBus s) := by
  simp (maxDischargeDepth := 40) [pumpBus, hz]

end Sys2Proof.Machine
end

