-- ==== Sys2Proof/Laws/KeptTimeBase.lean ====
section
/-! SUPPORT. What the operations of Machine/TimeBase.lean keep (Laws/Kept.lean). -/

namespace Sys2Proof.Machine

set_option linter.all false

variable {por : Bool} {z : State}

@[simp] theorem State.modTport_kept (s : State) (p : Nat) (f : TimePort → TimePort) (hz : Kept por z s) : Kept por z (State.modTport s p f) := by
  simp (maxDischargeDepth := 40) [State.modTport, hz]

@[simp] theorem enterTime_kept (st : TimeState) (s : State) (hz : Kept por z s) : Kept por z (enterTime st s) := by
  simp (maxDischargeDepth := 40) [enterTime, hz]

@[simp] theorem loseTol_kept (st : TimeState) (s : State) (hz : Kept por z s) : Kept por z (loseTol st s) := by
  simp (maxDischargeDepth := 40) [loseTol, hz]

@[simp] theorem enterDrift_kept (s : State) (hz : Kept por z s) : Kept por z (enterDrift s) := by
  simp (maxDischargeDepth := 40) [enterDrift, hz]

@[simp] theorem stepForward_kept (s : State) (hz : Kept por z s) : Kept por z (stepForward s) := by
  simp only [stepForward]; (repeat' split) <;> simp (maxDischargeDepth := 40) [hz]

@[simp] theorem lockTo_kept (p : Nat) (s : State) (hz : Kept por z s) : Kept por z (lockTo p s) := by
  simp (maxDischargeDepth := 40) [lockTo, hz]

@[simp] theorem modLock_kept (p : Nat) (f : LockJob → LockJob) (s : State) (hz : Kept por z s) : Kept por z (modLock p f s) := by
  unfold modLock; (repeat' split) <;> simp (maxDischargeDepth := 40) [hz]

@[simp] theorem nextJob_kept (p : Nat) (s : State) (hz : Kept por z s) : Kept por z (nextJob p s) := by
  unfold nextJob; (repeat' split) <;> simp (maxDischargeDepth := 40) [hz]

@[simp] theorem addJob_kept (j : LockJob) (s : State) (hz : Kept por z s) : Kept por z (addJob j s) := by
  simp (maxDischargeDepth := 40) [addJob, hz]

@[simp] theorem loseTiming_kept (p : Nat) (s : State) (hz : Kept por z s) : Kept por z (loseTiming p s) := by
  simp (maxDischargeDepth := 40) [loseTiming, hz]

@[simp] theorem rejectMark_kept (p : Nat) (s : State) (hz : Kept por z s) : Kept por z (rejectMark p s) := by
  simp (maxDischargeDepth := 40) [rejectMark, hz]

@[simp] theorem lockMark_kept (p g : Nat) (s : State) (hz : Kept por z s) : Kept por z (lockMark p g s) := by
  simp (maxDischargeDepth := 40) [lockMark, hz]

@[simp] theorem execTimeMark_kept (port : Fin 2) (msg : Word128) (frac : Fin 64) (s : State) : KeptO por s (execTimeMark port msg frac s) := by
  simp (maxDischargeDepth := 40) [execTimeMark]

@[simp] theorem execTimeMarkMissing_kept (port : Fin 2) (s : State) : KeptO por s (execTimeMarkMissing port s) := by
  simp only [execTimeMarkMissing]; (repeat' split) <;> simp (maxDischargeDepth := 40)

@[simp] theorem finishJob_kept (j : LockJob) (s : State) (hz : Kept por z s) : Kept por z (finishJob j s) := by
  simp (maxDischargeDepth := 40) [finishJob, hz]

@[simp] theorem giveUpPort0_kept (s : State) (hz : Kept por z s) : Kept por z (giveUpPort0 s) := by
  unfold giveUpPort0; (repeat' split) <;> simp (maxDischargeDepth := 40) [hz]

@[simp] theorem execDelayResponse_kept (port : Fin 2) (msg : Word128) (frac : Fin 64) (s : State) : KeptO por s (execDelayResponse port msg frac s) := by
  unfold execDelayResponse; (repeat' split) <;> simp (maxDischargeDepth := 40)

@[simp] theorem sendRequest_kept (s : State) (p : Nat) (hz : Kept por z s) : Kept por z (sendRequest s p) := by
  unfold sendRequest; (repeat' split) <;> simp (maxDischargeDepth := 40) [hz]

@[simp] theorem execTimeFreqRecovered_kept (port : Fin 2) (s : State) : KeptO por s (execTimeFreqRecovered port s) := by
  simp (maxDischargeDepth := 40) [execTimeFreqRecovered]

@[simp] theorem execTimeFreqLost_kept (s : State) : KeptO por s (execTimeFreqLost s) := by
  simp (maxDischargeDepth := 40) [execTimeFreqLost]

@[simp] theorem execHoldoverToDrift_kept (s : State) : KeptO por s (execHoldoverToDrift s) := by
  simp (maxDischargeDepth := 40) [execHoldoverToDrift]

@[simp] theorem execRefclkAbsent_kept (s : State) : KeptO por s (execRefclkAbsent s) := by
  simp (maxDischargeDepth := 40) [execRefclkAbsent]

@[simp] theorem execRefclkReturn_kept (s : State) : KeptO por s (execRefclkReturn s) := by
  simp (maxDischargeDepth := 40) [execRefclkReturn]

@[simp] theorem execSlewDone_kept (s : State) : KeptO por s (execSlewDone s) := by
  simp (maxDischargeDepth := 40) [execSlewDone]

@[simp] theorem count1_kept (s : State) (hz : Kept por z s) : Kept por z (count1 s) := by
  simp (maxDischargeDepth := 40) [count1, hz]

@[simp] theorem countGrain_kept (s : State) (hz : Kept por z s) : Kept por z (countGrain s) := by
  simp (maxDischargeDepth := 40) [countGrain, hz]

@[simp] theorem tick_kept (s : State) (hz : Kept por z s) : Kept por z (tick s) := by
  unfold tick; (repeat' split) <;> simp (maxDischargeDepth := 40) [hz]

@[simp] theorem growErr_kept (s : State) (hz : Kept por z s) : Kept por z (growErr s) := by
  simp (maxDischargeDepth := 40) [growErr, hz]

@[simp] theorem slewOnce_kept (s : State) (hz : Kept por z s) : Kept por z (slewOnce s) := by
  simp (maxDischargeDepth := 40) [slewOnce, hz]

@[simp] theorem accumulate_kept (s : State) (hz : Kept por z s) : Kept por z (accumulate s) := by
  simp (maxDischargeDepth := 40) [accumulate, hz]

@[simp] theorem noteBins_kept (s : State) (hz : Kept por z s) : Kept por z (noteBins s) := by
  simp (maxDischargeDepth := 40) [noteBins, hz]

@[simp] theorem execRunStartGrain_kept (s : State) : KeptO por s (execRunStartGrain s) := by
  unfold execRunStartGrain; (repeat' split) <;> simp (maxDischargeDepth := 40)

end Sys2Proof.Machine
end

