-- ==== Sys2Proof/Laws/KeptRun.lean ====
section
/-! SUPPORT. What the operations of Machine/Run.lean keep (Laws/Kept.lean). -/

namespace Sys2Proof.Machine

set_option linter.all false

variable {por : Bool} {z : State}

@[simp] theorem execStepIssue_kept (eng : BitVec 16) (s : State) : KeptO por s (execStepIssue eng s) := by
  simp (maxDischargeDepth := 40) [execStepIssue]

@[simp] theorem execOverrunPaced_kept (s : State) : KeptO por s (execOverrunPaced s) := by
  simp (maxDischargeDepth := 40) [execOverrunPaced]

@[simp] theorem execTillerFlagPaced_kept (s : State) : KeptO por s (execTillerFlagPaced s) := by
  simp (maxDischargeDepth := 40) [execTillerFlagPaced]

@[simp] theorem execTokenPost_kept (eng : BitVec 16) (counter : Fin 64) (flip : Word128) (s : State) : KeptO por s (execTokenPost eng counter flip s) := by
  simp only [execTokenPost]; (repeat' split) <;> simp (maxDischargeDepth := 40)

@[simp] theorem execStepComplete_kept (eng : BitVec 16) (unit : Fin 6) (s : State) : KeptO por s (execStepComplete eng unit s) := by
  simp (maxDischargeDepth := 40) [execStepComplete]

@[simp] theorem execWaitg_kept (eng : BitVec 16) (s : State) : KeptO por s (execWaitg eng s) := by
  simp (maxDischargeDepth := 40) [execWaitg]

@[simp] theorem execWaitStep_kept (eng : BitVec 16) (s : State) : KeptO por s (execWaitStep eng s) := by
  simp (maxDischargeDepth := 40) [execWaitStep]

@[simp] theorem execBarrier_kept (eng : BitVec 16) (s : State) : KeptO por s (execBarrier eng s) := by
  simp (maxDischargeDepth := 40) [execBarrier]

@[simp] theorem execSelectStep_kept (eng : BitVec 16) (s : State) : KeptO por s (execSelectStep eng s) := by
  simp (maxDischargeDepth := 40) [execSelectStep]

@[simp] theorem execStreamSelect_kept (eng : BitVec 16) (s : State) : KeptO por s (execStreamSelect eng s) := by
  simp (maxDischargeDepth := 40) [execStreamSelect]

@[simp] theorem execCkpt_kept (eng : BitVec 16) (s : State) : KeptO por s (execCkpt eng s) := by
  simp (maxDischargeDepth := 40) [execCkpt]

@[simp] theorem execEndStep_kept (eng : BitVec 16) (s : State) : KeptO por s (execEndStep eng s) := by
  simp (maxDischargeDepth := 40) [execEndStep]

@[simp] theorem barSet_kept (k : Nat × Nat × Nat) (c : BarrierCount) (s : State) (hz : Kept por z s) : Kept por z (barSet k c s) := by
  simp (maxDischargeDepth := 40) [barSet, hz]

@[simp] theorem barRelease_kept (k : Nat × Nat × Nat) (s : State) (hz : Kept por z s) : Kept por z (barRelease k s) := by
  simp (maxDischargeDepth := 40) [barRelease, hz]

@[simp] theorem barArrive_kept (e : Nat) (b : Body) (s : State) (hz : Kept por z s) : Kept por z (barArrive e b s) := by
  unfold barArrive; dsimp only; (repeat' split) <;> simp (maxDischargeDepth := 40) [hz]

@[simp] theorem execBarrierArrival_kept (eng : BitVec 16) (flip : Word128) (s : State) : KeptO por s (execBarrierArrival eng flip s) := by
  simp only [execBarrierArrival]; (repeat' split) <;> simp (maxDischargeDepth := 40)

@[simp] theorem execBarrierTimeout_kept (eng : BitVec 16) (s : State) : KeptO por s (execBarrierTimeout eng s) := by
  simp only [execBarrierTimeout]; (repeat' split) <;> simp (maxDischargeDepth := 40)

@[simp] theorem execRunPause_kept (s : State) : KeptO por s (execRunPause s) := by
  unfold execRunPause; (repeat' split) <;> simp (maxDischargeDepth := 40)

@[simp] theorem execRunEnd_kept (s : State) : KeptO por s (execRunEnd s) := by
  simp (maxDischargeDepth := 40) [execRunEnd]

end Sys2Proof.Machine
end

