-- ==== Sys2Proof/Laws/KeptSill.lean ====
section
/-! SUPPORT. What the operations of Machine/Sill.lean keep (Laws/Kept.lean). -/

namespace Sys2Proof.Machine

set_option linter.all false

variable {por : Bool} {z : State}

@[simp] theorem railStore_kept (site off : Nat) (b : List (BitVec 8)) (s : State) (hz : Kept por z s) : Kept por z (railStore site off b s) := by
  simp (maxDischargeDepth := 40) [railStore, hz]

@[simp] theorem markArea_kept (site off n : Nat) (bad : Bool) (s : State) (hz : Kept por z s) : Kept por z (markArea site off n bad s) := by
  simp (maxDischargeDepth := 40) [markArea, hz]

@[simp] theorem storeArea_kept (site off : Nat) (b : List (BitVec 8)) (s : State) (hz : Kept por z s) : Kept por z (storeArea site off b s) := by
  simp (maxDischargeDepth := 40) [storeArea, hz]

@[simp] theorem armBatches_kept (site boff n : Nat) (wrote : Nat → Bool) (s : State) (hz : Kept por z s) : Kept por z (armBatches site boff n wrote s) := by
  simp (maxDischargeDepth := 40) [armBatches, hz]

@[simp] theorem settlePegs_kept (s : State) (hz : Kept por z s) : Kept por z (settlePegs s) := by
  simp (maxDischargeDepth := 40) [settlePegs, hz]

@[simp] theorem execPegset_kept (noise : List HbmUpset) (s : State) : KeptO por s (execPegset noise s) := by
  simp only [execPegset]; (repeat' split) <;> simp (maxDischargeDepth := 40)

@[simp] theorem execPegPlanEffect_kept (s : State) : KeptO por s (execPegPlanEffect s) := by
  simp (maxDischargeDepth := 40) [execPegPlanEffect]

@[simp] theorem putStream_kept (st : Stream) (s : State) (hz : Kept por z s) : Kept por z (putStream st s) := by
  simp (maxDischargeDepth := 40) [putStream, hz]

@[simp] theorem fetchRow_kept (key first i : Nat) (nz : CribNoise) (s : State) (hz : Kept por z s) : Kept por z (fetchRow key first i nz s).2.2 := by
  simp (maxDischargeDepth := 40) [fetchRow, hz]

@[simp] theorem storeRow_kept (key first i : Nat) (nz : CribNoise) (d : List (BitVec 8)) (s : State) (hz : Kept por z s) : Kept por z (storeRow key first i nz d s).2 := by
  simp (maxDischargeDepth := 40) [storeRow, hz]

@[simp] theorem framePayload_kept (st : Stream) (seq : Nat) (nz : CribNoise) (s : State) (hz : Kept por z s) : Kept por z (framePayload st seq nz s).2.2.2 := by
  unfold framePayload; (repeat' split) <;> simp (maxDischargeDepth := 40) [hz]

@[simp] theorem landFrame_kept (st : Stream) (dest seq : Nat) (d : List (BitVec 8)) (uncorr : Bool) (nz : CribNoise) (s : State) (hz : Kept por z s) : Kept por z (landFrame st dest seq d uncorr nz s).2.2 := by
  unfold landFrame; (repeat' split) <;> simp (maxDischargeDepth := 40) [hz]

@[simp] theorem frameFails_kept (s : State) (d : Desc) (partner : Nat) (hz : Kept por z s) : Kept por z (frameFails s d partner).2 := by
  simp (maxDischargeDepth := 40) [frameFails, hz]

@[simp] theorem closeStream_kept (st : Stream) (bad : Bool) (s : State) (hz : Kept por z s) : Kept por z (closeStream st bad s) := by
  simp (maxDischargeDepth := 40) [closeStream, hz]

@[simp] theorem engineDone_kept (e : Nat) (bad : Bool) (mask : Nat) (s : State) (hz : Kept por z s) : Kept por z (engineDone e bad mask s) := by
  simp (maxDischargeDepth := 40) [engineDone, hz]

@[simp] theorem closeReceiver_kept (st : Stream) (i : Nat) (e : Nat) (s : State) (hz : Kept por z s) : Kept por z (closeReceiver st i e s) := by
  simp only [closeReceiver]; (repeat' split) <;> simp (maxDischargeDepth := 40) [hz]

@[simp] theorem settleStream_kept (owner : Nat) (s : State) (hz : Kept por z s) : Kept por z (settleStream owner s) := by
  unfold settleStream; (repeat' split) <;> simp (maxDischargeDepth := 40) [hz]

@[simp] theorem moveFrame_kept (owner i dest seq : Nat) (src dst : CribNoise) (s : State) (hz : Kept por z s) : Kept por z (moveFrame owner i dest seq src dst s) := by
  unfold moveFrame; (repeat' split) <;> simp (maxDischargeDepth := 40) [hz]

@[simp] theorem transfer_kept (owner : Nat) (pick : Nat → Bool) (src dst : CribNoise) (s : State) (hz : Kept por z s) : Kept por z (transfer owner pick src dst s) := by
  unfold transfer; (repeat' split) <;> simp (maxDischargeDepth := 40) [hz]

@[simp] theorem noteWaits_kept (e : Nat) (w : Nat) (s : State) (hz : Kept por z s) : Kept por z (noteWaits e w s) := by
  simp (maxDischargeDepth := 40) [noteWaits, hz]

@[simp] theorem streamNoise_kept (e op : Nat) (nz : CribNoise) (s : State) (hz : Kept por z s) : Kept por z (streamNoise e op nz s) := by
  simp (maxDischargeDepth := 40) [streamNoise, hz]

@[simp] theorem execSmread_kept (eng : BitVec 16) (noise : List HbmUpset) (crib : CribNoise) (waited : Fin 4) (s : State) : KeptO por s (execSmread eng noise crib waited s) := by
  simp (maxDischargeDepth := 40) [execSmread]

@[simp] theorem execSmwrite_kept (eng : BitVec 16) (crib : CribNoise) (waited : Fin 4) (s : State) : KeptO por s (execSmwrite eng crib waited s) := by
  simp (maxDischargeDepth := 40) [execSmwrite]

@[simp] theorem execSsend_kept (eng : BitVec 16) (crib : CribNoise) (s : State) : KeptO por s (execSsend eng crib s) := by
  simp (maxDischargeDepth := 40) [execSsend]

@[simp] theorem execSrecv_kept (eng : BitVec 16) (crib : CribNoise) (s : State) : KeptO por s (execSrecv eng crib s) := by
  simp only [execSrecv]; (repeat' split) <;> simp (maxDischargeDepth := 40)

@[simp] theorem execSlout_kept (eng : BitVec 16) (crib : CribNoise) (s : State) : KeptO por s (execSlout eng crib s) := by
  simp (maxDischargeDepth := 40) [execSlout]

@[simp] theorem execSlin_kept (eng : BitVec 16) (crib : CribNoise) (s : State) : KeptO por s (execSlin eng crib s) := by
  simp (maxDischargeDepth := 40) [execSlin]

@[simp] theorem refuseStream_kept (st : Stream) (es : List Nat) (s : State) (hz : Kept por z s) : Kept por z (refuseStream st es s) := by
  simp (maxDischargeDepth := 40) [refuseStream, hz]

@[simp] theorem openStream_kept (st : Stream) (peers : List Nat) (s : State) (hz : Kept por z s) : Kept por z (openStream st peers s) := by
  simp (maxDischargeDepth := 40) [openStream, hz]

@[simp] theorem execStreamOpen_kept (eng : BitVec 16) (s : State) : KeptO por s (execStreamOpen eng s) := by
  simp only [execStreamOpen]; (repeat' split) <;> simp (maxDischargeDepth := 40)

@[simp] theorem execStreamUnmatched_kept (eng : BitVec 16) (s : State) : KeptO por s (execStreamUnmatched eng s) := by
  simp only [execStreamUnmatched]; (repeat' split) <;> simp (maxDischargeDepth := 40)

@[simp] theorem acceptFrame_kept (st : Stream) (i seq : Nat) (f : BitVec 2240) (s : State) (hz : Kept por z s) : Kept por z (acceptFrame st i seq f s) := by
  simp (maxDischargeDepth := 40) [acceptFrame, hz]

@[simp] theorem takeLaneFrame_kept (st : Stream) (i site port wl tag seq : Nat) (f : BitVec 2240) (s : State) (hz : Kept por z s) : Kept por z (takeLaneFrame st i site port wl tag seq f s) := by
  simp (maxDischargeDepth := 40) [takeLaneFrame, hz]

@[simp] theorem execSillFrameReceive_kept (site : BitVec 8) (port : Fin 25) (wl : Fin 45) (tag : BitVec 16) (seq : BitVec 24) (frame : BitVec 2240) (hops : Fin 4) (s : State) : KeptO por s (execSillFrameReceive site port wl tag seq frame hops s) := by
  simp only [execSillFrameReceive]; (repeat' split) <;> simp (maxDischargeDepth := 40)

@[simp] theorem laneFault_kept (site lane : Nat) (key : Nat) (s : State) (hz : Kept por z s) : Kept por z (laneFault site lane key s) := by
  simp (maxDischargeDepth := 40) [laneFault, hz]

@[simp] theorem linkFault_kept (e lane : Nat) (s : State) (hz : Kept por z s) : Kept por z (linkFault e lane s) := by
  simp (maxDischargeDepth := 40) [linkFault, hz]

@[simp] theorem resendOn_kept (st : Stream) (seq n lane : Nat) (s : State) (hz : Kept por z s) : Kept por z (resendOn st seq n lane s) := by
  simp (maxDischargeDepth := 40) [resendOn, hz]

@[simp] theorem loseFrame_kept (st : Stream) (seq n : Nat) (s : State) (hz : Kept por z s) : Kept por z (loseFrame st seq n s) := by
  simp (maxDischargeDepth := 40) [loseFrame, hz]

@[simp] theorem retryFrame_kept (st : Stream) (entry : BitVec 32) (site port wl seq : Nat) (s : State) (hz : Kept por z s) : Kept por z (retryFrame st entry site port wl seq s) := by
  simp only [retryFrame]; (repeat' split) <;> simp (maxDischargeDepth := 40) [hz]

@[simp] theorem execSillRetryRequest_kept (site : BitVec 8) (port : Fin 25) (wl : Fin 45) (tag : BitVec 16) (seq : BitVec 24) (link : Option (Fin 64)) (flip : Word128) (s : State) : KeptO por s (execSillRetryRequest site port wl tag seq link flip s) := by
  simp only [execSillRetryRequest]; (repeat' split) <;> simp (maxDischargeDepth := 40)

@[simp] theorem execControlWordOpen_kept (word : Word128) (s : State) : KeptO por s (execControlWordOpen word s) := by
  unfold execControlWordOpen; apply KeptO.next; refine takeWord_kept _ _ _ (fun t => ?_) (by simp)
  dsimp only; (repeat' split) <;> simp (maxDischargeDepth := 40)

@[simp] theorem execControlWordClose_kept (word : Word128) (s : State) : KeptO por s (execControlWordClose word s) := by
  unfold execControlWordClose; apply KeptO.next; refine takeWord_kept _ _ _ (fun t => ?_) (by simp)
  dsimp only; (repeat' split) <;> simp (maxDischargeDepth := 40)

@[simp] theorem execControlWordAbort_kept (word : Word128) (s : State) : KeptO por s (execControlWordAbort word s) := by
  unfold execControlWordAbort; apply KeptO.next; refine takeWord_kept _ _ _ (fun t => ?_) (by simp)
  (repeat' split) <;> simp (maxDischargeDepth := 40)

@[simp] theorem checkControl_kept (site : Nat) (rx : Bool) (s : State) (hz : Kept por z s) : Kept por z (checkControl site rx s) := by
  simp (maxDischargeDepth := 40) [checkControl, hz]

@[simp] theorem execControlWordRepeat_kept (word : Word128) (s : State) : KeptO por s (execControlWordRepeat word s) := by
  simp (maxDischargeDepth := 40) [execControlWordRepeat]

@[simp] theorem spareLane_kept (s : State) (key : Nat) (hz : Kept por z s) : Kept por z (spareLane s key) := by
  unfold spareLane; (repeat' split) <;> simp (maxDischargeDepth := 40) [hz]

@[simp] theorem calibrateLanes_kept (failing : List Nat) (cals : RingCals) (s : State) (hz : Kept por z s) : Kept por z (calibrateLanes failing cals s) := by
  simp (maxDischargeDepth := 40) [calibrateLanes, hz]

end Sys2Proof.Machine
end

