-- ==== Sys2Proof/Laws/KeptLoad.lean ====
section
/-! SUPPORT. What the operations of Machine/Load.lean keep (Laws/Kept.lean). -/

namespace Sys2Proof.Machine

set_option linter.all false

variable {por : Bool} {z : State}

@[simp] theorem deliverSteps_kept (e : Nat) (qs : List QStep) (s : State) (hz : Kept por z s) : Kept por z (deliverSteps e qs s) := by
  simp (maxDischargeDepth := 40) [deliverSteps, hz]

@[simp] theorem execQueueRefill_kept (eng : BitVec 16) (noise : List HbmUpset) (s : State) : KeptO por s (execQueueRefill eng noise s) := by
  simp only [execQueueRefill]; (repeat' split) <;> simp (maxDischargeDepth := 40)

@[simp] theorem acceptLoad_kept (addr : Nat) (c : CmdRef) (s : State) (hz : Kept por z s) : Kept por z (acceptLoad addr c s) := by
  simp (maxDischargeDepth := 40) [acceptLoad, hz]

@[simp] theorem rejectLoad_kept (x : Reject) (s : State) (hz : Kept por z s) : Kept por z (rejectLoad x s) := by
  simp (maxDischargeDepth := 40) [rejectLoad, hz]

@[simp] theorem completeLoad_kept (b : Img) (s : State) (hz : Kept por z s) : Kept por z (completeLoad b s) := by
  simp (maxDischargeDepth := 40) [completeLoad, hz]

@[simp] theorem seqReads_kept (base : Nat) (b : Img) (s : State) (hz : Kept por z s) : Kept por z (seqReads base b s).2 := by
  refine Kept.foldl_proj (fun (x : Nat × State) => x.2) (fun b x => ?_) _ _ hz
  simp

@[simp] theorem judgeImage_kept (base : Nat) (b : Img) (s : State) (hz : Kept por z s) : Kept por z (judgeImage base b s) := by
  unfold judgeImage; dsimp only; (repeat' split) <;> simp_all (maxDischargeDepth := 40) [hz]

@[simp] theorem execLoadComplete_kept (noise : List HbmUpset) (s : State) : KeptO por s (execLoadComplete noise s) := by
  simp only [execLoadComplete]; (repeat' split) <;> simp (maxDischargeDepth := 40)

end Sys2Proof.Machine
end

