-- ==== Sys2Proof/Laws/KeptRail.lean ====
section
/-! SUPPORT. What the operations of Machine/Rail.lean keep (Laws/Kept.lean). -/

namespace Sys2Proof.Machine

set_option linter.all false

variable {por : Bool} {z : State}

@[simp] theorem freeCredit_kept (r v n : Nat) (s : State) (hz : Kept por z s) : Kept por z (freeCredit r v n s) := by
  simp (maxDischargeDepth := 40) [freeCredit, hz]

@[simp] theorem arrivePacket_kept (r : Nat) (s : State) (p : Packet) (hz : Kept por z s) : Kept por z (arrivePacket r s p) := by
  simp (maxDischargeDepth := 40) [arrivePacket, hz]

@[simp] theorem deliverFrames_kept (n r : Nat) (s : State) (h : Kept por z s) : Kept por z (deliverFrames n r s) := by
  induction n generalizing s with
  | zero => exact h
  | succ n ih =>
    unfold deliverFrames; dsimp only; split
    · exact h
    · apply ih; simp (maxDischargeDepth := 40) [h]

@[simp] theorem sendNak_kept (r q : Nat) (s : State) (hz : Kept por z s) : Kept por z (sendNak r q s) := by
  simp (maxDischargeDepth := 40) [sendNak, hz]

@[simp] theorem takeFrame_kept (r q : Nat) (slots : List (BitVec 512)) (s : State) (hz : Kept por z s) : Kept por z (takeFrame r q slots s) := by
  simp (maxDischargeDepth := 40) [takeFrame, hz]

@[simp] theorem rejectOn_kept (r key : Nat) (s : State) (hz : Kept por z s) : Kept por z (rejectOn r key s) := by
  simp (maxDischargeDepth := 40) [rejectOn, hz]

@[simp] theorem uncorrectableOn_kept (r lane n : Nat) (s : State) (hz : Kept por z s) : Kept por z (uncorrectableOn r lane n s) := by
  simp (maxDischargeDepth := 40) [uncorrectableOn, hz]

@[simp] theorem rejectFrame_kept (r lane : Nat) (due : Option (BitVec 16)) (s : State) (hz : Kept por z s) : Kept por z (rejectFrame r lane due s) := by
  unfold rejectFrame; (repeat' split) <;> simp (maxDischargeDepth := 40) [hz]

@[simp] theorem hearFrame_kept (r lane wave : Nat) (f : BitVec 4160) (due : Option (BitVec 16)) (s : State) (hz : Kept por z s) : Kept por z (hearFrame r lane wave f due s) := by
  simp (maxDischargeDepth := 40) [hearFrame, hz]

@[simp] theorem hearControl_kept (r wave : Nat) (v : BitVec 5140) (s : State) (hz : Kept por z s) : Kept por z (hearControl r wave v s) := by
  simp (maxDischargeDepth := 40) [hearControl, hz]

@[simp] theorem hearCodes_kept (r lane wave : Nat) (codes : List Nat) (s : State) (hz : Kept por z s) : Kept por z (hearCodes r lane wave codes s) := by
  simp (maxDischargeDepth := 40) [hearCodes, hz]

@[simp] theorem execRailFrameReceive_kept (rail : Fin 26) (lane wave : Fin 34) (frame : BitVec 5140) (due : Option (BitVec 16)) (codes : List (Fin 545)) (s : State) : KeptO por s (execRailFrameReceive rail lane wave frame due codes s) := by
  unfold execRailFrameReceive; (repeat' split) <;> simp (maxDischargeDepth := 40)

@[simp] theorem execRailControlLockLost_kept (rail : Fin 26) (s : State) : KeptO por s (execRailControlLockLost rail s) := by
  simp (maxDischargeDepth := 40) [execRailControlLockLost]

@[simp] theorem linkWord_kept (r kind : Nat) (w : Word256) (f : State → State) (s : State)
    (h_f : ∀ t, Kept por t (f t)) (hz : Kept por z s) : Kept por z (linkWord r kind w f s) := by
  have k : ∀ t, Kept por z t → Kept por z (f t) := fun t h => h.trans (h_f t)
  unfold linkWord; dsimp only; (repeat' split) <;> first | exact hz | (apply k; simp [hz])

@[simp] theorem resendFrame_kept (r q : Nat) (s : State) (hz : Kept por z s) : Kept por z (resendFrame r q s) := by
  unfold resendFrame; (repeat' split) <;> simp (maxDischargeDepth := 40) [hz]

@[simp] theorem execRailAck_kept (rail : Fin 26) (word : BitVec 256) (s : State) : KeptO por s (execRailAck rail word s) := by
  simp (maxDischargeDepth := 40) [execRailAck]

@[simp] theorem execRailCredit_kept (rail : Fin 26) (word : BitVec 256) (s : State) : KeptO por s (execRailCredit rail word s) := by
  simp (maxDischargeDepth := 40) [execRailCredit]

@[simp] theorem sendTrain_kept (r : Nat) (s : State) (hz : Kept por z s) : Kept por z (sendTrain r s) := by
  simp (maxDischargeDepth := 40) [sendTrain, hz]

@[simp] theorem enterLink_kept (r st : Nat) (s : State) (hz : Kept por z s) : Kept por z (enterLink r st s) := by
  simp (maxDischargeDepth := 40) [enterLink, hz]

@[simp] theorem answerTrain_kept (r : Nat) (s : State) (hz : Kept por z s) : Kept por z (answerTrain r s) := by
  simp (maxDischargeDepth := 40) [answerTrain, hz]

@[simp] theorem execRailTrainWord_kept (rail : Fin 26) (word : BitVec 256) (s : State) : KeptO por s (execRailTrainWord rail word s) := by
  simp (maxDischargeDepth := 40) [execRailTrainWord]

@[simp] theorem failAttempt_kept (r : Nat) (s : State) (hz : Kept por z s) : Kept por z (failAttempt r s) := by
  simp (maxDischargeDepth := 40) [failAttempt, hz]

@[simp] theorem failPort_kept (p : Nat) (s : State) (hz : Kept por z s) : Kept por z (failPort p s) := by
  simp (maxDischargeDepth := 40) [failPort, hz]

@[simp] theorem acquireRings_kept (place : RingPlace) (waves : List Nat) (cals : RingCals) (s : State) (hz : Kept por z s) : Kept por z (acquireRings place waves cals s) := by
  simp (maxDischargeDepth := 40) [acquireRings, hz]

@[simp] theorem opticalDone_kept (r : Nat) (tx rx : List Nat) (cals : RingCals) (s : State) (hz : Kept por z s) : Kept por z (opticalDone r tx rx cals s) := by
  simp (maxDischargeDepth := 40) [opticalDone, hz]

@[simp] theorem qualifyDone_kept (r : Nat) (s : State) (hz : Kept por z s) : Kept por z (qualifyDone r s) := by
  simp (maxDischargeDepth := 40) [qualifyDone, hz]

@[simp] theorem reportParked_kept (r : Nat) (s : State) (hz : Kept por z s) : Kept por z (reportParked r s) := by
  simp (maxDischargeDepth := 40) [reportParked, hz]

@[simp] theorem portOptical_kept (p : Nat) (rx : BitVec 34) (cals : RingCals) (s : State) (hz : Kept por z s) : Kept por z (portOptical p rx cals s) := by
  simp (maxDischargeDepth := 40) [portOptical, hz]

@[simp] theorem portStep_kept (p : Nat) (rx : BitVec 34) (cals : RingCals) (s : State) (hz : Kept por z s) : Kept por z (portStep p rx cals s) := by
  simp only [portStep]; (repeat' split) <;> simp (maxDischargeDepth := 40) [hz]

@[simp] theorem execRailTrainStepDone_kept (link : Fin 28) (tx rx : BitVec 34) (cals : RingCals) (s : State) : KeptO por s (execRailTrainStepDone link tx rx cals s) := by
  simp only [execRailTrainStepDone]; (repeat' split) <;> simp (maxDischargeDepth := 40)

@[simp] theorem execRailTrainTimeout_kept (link : Fin 28) (s : State) : KeptO por s (execRailTrainTimeout link s) := by
  simp (maxDischargeDepth := 40) [execRailTrainTimeout]

@[simp] theorem giveRail_kept (l r : Nat) (event : Bool) (s : State) (hz : Kept por z s) : Kept por z (giveRail l r event s) := by
  simp (maxDischargeDepth := 40) [giveRail, hz]

@[simp] theorem assignRail_kept (event : Bool) (s : State) (l : Nat) (hz : Kept por z s) : Kept por z (assignRail event s l) := by
  unfold assignRail; (repeat' split) <;> simp (maxDischargeDepth := 40) [hz]

@[simp] theorem assignHomes_kept (s : State) (hz : Kept por z s) : Kept por z (assignHomes s) := by
  simp (maxDischargeDepth := 40) [assignHomes, hz]

@[simp] theorem assignRails_kept (event : Bool) (s : State) (hz : Kept por z s) : Kept por z (assignRails event s) := by
  simp (maxDischargeDepth := 40) [assignRails, hz]

@[simp] theorem execRailSubstitute_kept (s : State) : KeptO por s (execRailSubstitute s) := by
  simp (maxDischargeDepth := 40) [execRailSubstitute]

@[simp] theorem execRailEscapeMove_kept (rail : Fin 26) (channel : Fin 3) (s : State) : KeptO por s (execRailEscapeMove rail channel s) := by
  simp only [execRailEscapeMove]; (repeat' split) <;> simp (maxDischargeDepth := 40)

@[simp] theorem execEpochContribute_kept (s : State) : KeptO por s (execEpochContribute s) := by
  simp (maxDischargeDepth := 40) [execEpochContribute]

@[simp] theorem combined_kept (r kind key : Nat) (w : Word256) (f : State → State) (s : State)
    (h_f : ∀ t, Kept por t (f t)) (hz : Kept por z s) : Kept por z (combined r kind key w f s) := by
  unfold combined; refine linkWord_kept _ _ _ _ _ (fun t => ?_) hz
  have := Kept.trans (s := forget kind key t) (t := f (forget kind key t)) (by simp (maxDischargeDepth := 40)) (h_f _) (por := por) (z := t)
  (repeat' split) <;> simp (maxDischargeDepth := 40) [this]

@[simp] theorem execEpochResult_kept (rail : Fin 26) (word : BitVec 256) (s : State) : KeptO por s (execEpochResult rail word s) := by
  simp (maxDischargeDepth := 40) [execEpochResult]

@[simp] theorem execRailEpochFlip_kept (s : State) : KeptO por s (execRailEpochFlip s) := by
  simp (maxDischargeDepth := 40) [execRailEpochFlip]

@[simp] theorem execRailDrainZero_kept (s : State) : KeptO por s (execRailDrainZero s) := by
  simp (maxDischargeDepth := 40) [execRailDrainZero]

@[simp] theorem undeliverOld_kept (s : State) (hz : Kept por z s) : Kept por z (undeliverOld s) := by
  simp (maxDischargeDepth := 40) [undeliverOld, hz]

@[simp] theorem execRailDrainTimeout_kept (s : State) : KeptO por s (execRailDrainTimeout s) := by
  unfold execRailDrainTimeout; (repeat' split) <;> simp (maxDischargeDepth := 40)

@[simp] theorem execTallyResult_kept (rail : Fin 26) (word : BitVec 256) (s : State) : KeptO por s (execTallyResult rail word s) := by
  simp (maxDischargeDepth := 40) [execTallyResult]

@[simp] theorem execTimechkResult_kept (rail : Fin 26) (word : BitVec 256) (s : State) : KeptO por s (execTimechkResult rail word s) := by
  simp (maxDischargeDepth := 40) [execTimechkResult]

@[simp] theorem execBarrierResult_kept (rail : Fin 26) (word : BitVec 256) (s : State) : KeptO por s (execBarrierResult rail word s) := by
  simp (maxDischargeDepth := 40) [execBarrierResult]

@[simp] theorem execStrayCombinedWord_kept (rail : Fin 26) (word : BitVec 256) (s : State) : KeptO por s (execStrayCombinedWord rail word s) := by
  simp (maxDischargeDepth := 40) [execStrayCombinedWord]

end Sys2Proof.Machine
end

