-- ==== Sys2Proof/Laws/KeptOptic.lean ====
section
/-! SUPPORT. What the operations of Machine/Optic.lean keep (Laws/Kept.lean). -/

namespace Sys2Proof.Machine

set_option linter.all false

variable {por : Bool} {z : State}

@[simp] theorem darkRail_kept (s : State) (r : Nat) (hz : Kept por z s) : Kept por z (darkRail s r) := by
  simp (maxDischargeDepth := 40) [darkRail, hz]

@[simp] theorem pairFails_kept (c : Nat) (s : State) (hz : Kept por z s) : Kept por z (pairFails c s) := by
  simp (maxDischargeDepth := 40) [pairFails, hz]

@[simp] theorem combFails_kept (c : Nat) (s : State) (hz : Kept por z s) : Kept por z (combFails c s) := by
  simp (maxDischargeDepth := 40) [combFails, hz]

@[simp] theorem execCombFail_kept (comb : Fin 8) (s : State) : KeptO por s (execCombFail comb s) := by
  simp (maxDischargeDepth := 40) [execCombFail]

@[simp] theorem readBank_kept (p : RingPlace) (t : Int) (s : State) (hz : Kept por z s) : Kept por z (readBank p t s) := by
  simp only [readBank]; (repeat' split) <;> simp (maxDischargeDepth := 40) [hz]

@[simp] theorem execRingLoopTick_kept (ring : RingId) (tbank : BitVec 16) (hi lo : BitVec 8) (s : State) : KeptO por s (execRingLoopTick ring tbank hi lo s) := by
  simp (maxDischargeDepth := 40) [execRingLoopTick]

@[simp] theorem execRingLocked_kept (ring : RingId) (s : State) : KeptO por s (execRingLocked ring s) := by
  simp (maxDischargeDepth := 40) [execRingLocked]

@[simp] theorem execRingUnlocked_kept (ring : RingId) (s : State) : KeptO por s (execRingUnlocked ring s) := by
  simp (maxDischargeDepth := 40) [execRingUnlocked]

@[simp] theorem ringBack_kept (r : RingId) (s : State) (hz : Kept por z s) : Kept por z (ringBack r s) := by
  unfold ringBack; (repeat' split) <;> simp (maxDischargeDepth := 40) [hz]

@[simp] theorem execRingReacquired_kept (ring : RingId) (trim : BitVec 16) (power : BitVec 8) (s : State) : KeptO por s (execRingReacquired ring trim power s) := by
  simp (maxDischargeDepth := 40) [execRingReacquired]

@[simp] theorem execIdentSend_kept (rail : Fin 26) (s : State) : KeptO por s (execIdentSend rail s) := by
  simp (maxDischargeDepth := 40) [execIdentSend]

@[simp] theorem countReport_kept (r w : Nat) (differs : Bool) (a : State × List Nat) (hz : Kept por z a.1) : Kept por z (countReport r w differs a).1 := by
  simp (maxDischargeDepth := 40) [countReport, hz]

@[simp] theorem countHandover_kept (r v c src dst : Nat) (a : State × List Nat) (hz : Kept por z a.1) : Kept por z (countHandover r v c src dst a).1 := by
  simp only [countHandover]; (repeat' split) <;> simp (maxDischargeDepth := 40) [hz]

@[simp] theorem identReport_kept (r : Nat) (word : Word256) (a : State × List Nat) (w : Nat) (hz : Kept por z a.1) : Kept por z (identReport r word a w).1 := by
  simp only [identReport]; (repeat' split) <;> simp (maxDischargeDepth := 40) [hz]

@[simp] theorem mendWave_kept (r : Nat) (s : State) (w : Nat) (hz : Kept por z s) : Kept por z (mendWave r s w) := by
  simp (maxDischargeDepth := 40) [mendWave, hz]

@[simp] theorem execIdentWord_kept (rail : Fin 26) (word : BitVec 256) (s : State) : KeptO por s (execIdentWord rail word s) := by
  unfold execIdentWord; apply KeptO.next; refine linkWord_kept _ _ _ _ _ (fun t => ?_) (by simp)
  dsimp only; split
  · refine Kept.foldl (by simp) _ ?_
    exact Kept.foldl_proj (fun (x : State × List Nat) => x.1) (fun b x => by simp) _ _ (by simp)
  · simp

@[simp] theorem measureCombs_kept (edge : Nat) (power : BitVec 16) (s : State) (hz : Kept por z s) : Kept por z (measureCombs edge power s) := by
  simp (maxDischargeDepth := 40) [measureCombs, hz]

@[simp] theorem execRotationSlotEnd_kept (rail : Fin 26) (dir : Fin 2) (uncorrectable errors : BitVec 32) (cal : RingCal) (combs : BitVec 16) (s : State) : KeptO por s (execRotationSlotEnd rail dir uncorrectable errors cal combs s) := by
  simp only [execRotationSlotEnd]; (repeat' split) <;> simp (maxDischargeDepth := 40)

@[simp] theorem execRingSlipRecoveryDone_kept (ring : RingId) (s : State) : KeptO por s (execRingSlipRecoveryDone ring s) := by
  unfold execRingSlipRecoveryDone; (repeat' split) <;> simp (maxDischargeDepth := 40)

@[simp] theorem execRingRecoveryTimeout_kept (ring : RingId) (s : State) : KeptO por s (execRingRecoveryTimeout ring s) := by
  simp only [execRingRecoveryTimeout]; (repeat' split) <;> simp (maxDischargeDepth := 40)

end Sys2Proof.Machine
end

