-- ==== Sys2Proof/Laws/KeptFabric.lean ====
section
/-! SUPPORT. What the operations of Machine/Fabric.lean keep (Laws/Kept.lean). -/

namespace Sys2Proof.Machine

set_option linter.all false

variable {por : Bool} {z : State}

@[simp] theorem rejectBatch_kept (e : Nat) (post : Option (Option (Nat × Nat))) (s : State) (hz : Kept por z s) : Kept por z (rejectBatch e post s) := by
  unfold rejectBatch; (repeat' split) <;> simp (maxDischargeDepth := 40) [hz]

@[simp] theorem execBatchStart_kept (eng : Fin 64) (s : State) : KeptO por s (execBatchStart eng s) := by
  simp only [execBatchStart]; (repeat' split) <;> simp (maxDischargeDepth := 40)

@[simp] theorem batchComplete_kept (e : Nat) (s : State) (hz : Kept por z s) : Kept por z (batchComplete e s) := by
  unfold batchComplete; (repeat' split) <;> simp (maxDischargeDepth := 40) [hz]

@[simp] theorem recordStatus_kept (e k status : Nat) (marked : Bool) (old : Nat) (s : State) (hz : Kept por z s) : Kept por z (recordStatus e k status marked old s) := by
  simp (maxDischargeDepth := 40) [recordStatus, hz]

@[simp] theorem State.modDest_kept (s : State) (e m : Nat) (f : DestState → DestState) (hz : Kept por z s) : Kept por z (State.modDest s e m f) := by
  simp (maxDischargeDepth := 40) [State.modDest, hz]

@[simp] theorem endRequest_kept (e m q status : Nat) (old : Nat) (d : List (BitVec 8)) (s : State) (hz : Kept por z s) : Kept por z (endRequest e m q status old d s) := by
  unfold endRequest; (repeat' split) <;> simp (maxDischargeDepth := 40) [hz]

@[simp] theorem arriveHere_kept (p : Packet) (s : State) (hz : Kept por z s) : Kept por z (arriveHere p s) := by
  simp (maxDischargeDepth := 40) [arriveHere, hz]

@[simp] theorem dispatchRequest_kept (w : Way) (p : Packet) (s : State) (hz : Kept por z s) : Kept por z (dispatchRequest w p s) := by
  unfold dispatchRequest; (repeat' split) <;> simp (maxDischargeDepth := 40) [hz]

@[simp] theorem issueRequest_kept (e k r : Nat) (w : Way) (s : State) (hz : Kept por z s) : Kept por z (issueRequest e k r w s) := by
  simp (maxDischargeDepth := 40) [issueRequest, hz]

@[simp] theorem execRemoteRecordIssue_kept (eng : Fin 64) (s : State) : KeptO por s (execRemoteRecordIssue eng s) := by
  simp only [execRemoteRecordIssue]; (repeat' split) <;> simp (maxDischargeDepth := 40)

@[simp] theorem execFabFence_kept (eng : Fin 64) (s : State) : KeptO por s (execFabFence eng s) := by
  simp only [execFabFence]; (repeat' split) <;> simp (maxDischargeDepth := 40)

@[simp] theorem respond_kept (r : LineReq) (status old : Nat) (d : List (BitVec 8)) (s : State) (hz : Kept por z s) : Kept por z (respond r status old d s) := by
  simp (maxDischargeDepth := 40) [respond, hz]

@[simp] theorem State.modStream_kept (s : State) (k : Nat) (f : StreamRec → StreamRec) (hz : Kept por z s) : Kept por z (State.modStream s k f) := by
  unfold State.modStream; (repeat' split) <;> simp (maxDischargeDepth := 40) [hz]

@[simp] theorem settleRequest_kept (r : LineReq) (status old : Nat) (d : List (BitVec 8)) (s : State) (hz : Kept por z s) : Kept por z (settleRequest r status old d s) := by
  simp (maxDischargeDepth := 40) [settleRequest, hz]

@[simp] theorem acceptLine_kept (r : LineReq) (s : State) (hz : Kept por z s) : Kept por z (acceptLine r s) := by
  simp (maxDischargeDepth := 40) [acceptLine, hz]

@[simp] theorem releaseHeld_kept (n src flow : Nat) (s : State) (h : Kept por z s) :
    Kept por z (releaseHeld n src flow s) := by
  induction n generalizing s with
  | zero => exact h
  | succ n ih =>
    unfold releaseHeld; dsimp only; split
    · exact h
    · split
      · exact h
      · apply ih; simp (maxDischargeDepth := 40) [h]

@[simp] theorem admitRequest_kept (r : LineReq) (s : State) (hz : Kept por z s) : Kept por z (admitRequest r s) := by
  simp (maxDischargeDepth := 40) [admitRequest, hz]

@[simp] theorem takeRequest_kept (r : LineReq) (s : State) (hz : Kept por z s) : Kept por z (takeRequest r s) := by
  simp only [takeRequest]; (repeat' split) <;> simp (maxDischargeDepth := 40) [hz]

theorem takeArrived_kept (r : Nat) (ok : Packet → Bool) (s : State) (p : Packet) (t : State)
    (e : takeArrived r ok s = some (p, t)) : Kept por s t := by
  unfold takeArrived at e; dsimp only at e; split at e
  · cases e
  · obtain ⟨rfl, rfl⟩ := Prod.mk.inj (Option.some.inj e)
    split <;> simp (maxDischargeDepth := 40)

@[simp] theorem execRemoteRequestAdmit_kept (rail : Fin 27) (s : State) : KeptO por s (execRemoteRequestAdmit rail s) := by
  unfold execRemoteRequestAdmit; dsimp only; apply KeptO.next; split
  · simp
  · have k := takeArrived_kept (por := por) _ _ _ _ _ ‹_›
    refine k.trans ?_
    (repeat' split) <;> simp (maxDischargeDepth := 40)

@[simp] theorem noteRemote_kept (r : LineReq) (s : State) (hz : Kept por z s) : Kept por z (noteRemote r s) := by
  simp (maxDischargeDepth := 40) [noteRemote, hz]

@[simp] theorem applyLoad_kept (r : LineReq) (s : State) (hz : Kept por z s) : Kept por z (applyLoad r s) := by
  simp (maxDischargeDepth := 40) [applyLoad, hz]

@[simp] theorem applyStore_kept (r : LineReq) (s : State) (hz : Kept por z s) : Kept por z (applyStore r s) := by
  simp (maxDischargeDepth := 40) [applyStore, hz]

@[simp] theorem applyAtomic_kept (r : LineReq) (s : State) (hz : Kept por z s) : Kept por z (applyAtomic r s) := by
  simp (maxDischargeDepth := 40) [applyAtomic, hz]

@[simp] theorem serveLine_kept (h i : Nat) (ops : List Nat) (noise : List HbmUpset) (f : LineReq → State → State)
    (s : State) (h_f : ∀ x0 t, Kept por t (f x0 t)) : KeptO por s (serveLine h i ops noise f s) := by
  unfold serveLine; dsimp only; apply KeptO.next; (repeat' split)
  · simp
  · refine Kept.trans ?_ (h_f _ _); simp (maxDischargeDepth := 40)
  · simp

@[simp] theorem execFabLoad_kept (stack : Fin 32) (entry : Fin 4096) (noise : List HbmUpset) (s : State) : KeptO por s (execFabLoad stack entry noise s) := by
  simp (maxDischargeDepth := 40) [execFabLoad]

@[simp] theorem execFabStore_kept (stack : Fin 32) (entry : Fin 4096) (noise : List HbmUpset) (s : State) : KeptO por s (execFabStore stack entry noise s) := by
  simp (maxDischargeDepth := 40) [execFabStore]

@[simp] theorem execFabAdd_kept (stack : Fin 32) (entry : Fin 4096) (noise : List HbmUpset) (s : State) : KeptO por s (execFabAdd stack entry noise s) := by
  simp (maxDischargeDepth := 40) [execFabAdd]

@[simp] theorem execFabSmin_kept (stack : Fin 32) (entry : Fin 4096) (noise : List HbmUpset) (s : State) : KeptO por s (execFabSmin stack entry noise s) := by
  simp (maxDischargeDepth := 40) [execFabSmin]

@[simp] theorem execFabSmax_kept (stack : Fin 32) (entry : Fin 4096) (noise : List HbmUpset) (s : State) : KeptO por s (execFabSmax stack entry noise s) := by
  simp (maxDischargeDepth := 40) [execFabSmax]

@[simp] theorem execFabUmin_kept (stack : Fin 32) (entry : Fin 4096) (noise : List HbmUpset) (s : State) : KeptO por s (execFabUmin stack entry noise s) := by
  simp (maxDischargeDepth := 40) [execFabUmin]

@[simp] theorem execFabUmax_kept (stack : Fin 32) (entry : Fin 4096) (noise : List HbmUpset) (s : State) : KeptO por s (execFabUmax stack entry noise s) := by
  simp (maxDischargeDepth := 40) [execFabUmax]

@[simp] theorem execFabSwap_kept (stack : Fin 32) (entry : Fin 4096) (noise : List HbmUpset) (s : State) : KeptO por s (execFabSwap stack entry noise s) := by
  simp (maxDischargeDepth := 40) [execFabSwap]

@[simp] theorem execFabCas_kept (stack : Fin 32) (entry : Fin 4096) (noise : List HbmUpset) (s : State) : KeptO por s (execFabCas stack entry noise s) := by
  simp (maxDischargeDepth := 40) [execFabCas]

@[simp] theorem execFabFadd32_kept (stack : Fin 32) (entry : Fin 4096) (noise : List HbmUpset) (s : State) : KeptO por s (execFabFadd32 stack entry noise s) := by
  simp (maxDischargeDepth := 40) [execFabFadd32]

@[simp] theorem execRemoteResponse_kept (rail : Fin 27) (s : State) : KeptO por s (execRemoteResponse rail s) := by
  unfold execRemoteResponse; dsimp only; apply KeptO.next; split
  · simp
  · have k := takeArrived_kept (por := por) _ _ _ _ _ ‹_›
    refine k.trans ?_
    (repeat' split) <;> simp (maxDischargeDepth := 40)

@[simp] theorem resendRequest_kept (e m q : Nat) (o : Outreq) (s : State) (hz : Kept por z s) : Kept por z (resendRequest e m q o s) := by
  simp only [resendRequest]; (repeat' split) <;> simp (maxDischargeDepth := 40) [hz]

@[simp] theorem resendIf_kept (e m q : Nat) (ok : Outreq → Bool) (s : State) (hz : Kept por z s) : Kept por z (resendIf e m q ok s) := by
  unfold resendIf; (repeat' split) <;> simp (maxDischargeDepth := 40) [hz]

@[simp] theorem execRemoteUndelivered_kept (eng : Fin 64) (dest : Fin 4096) (seq : BitVec 24) (s : State) : KeptO por s (execRemoteUndelivered eng dest seq s) := by
  simp (maxDischargeDepth := 40) [execRemoteUndelivered]

@[simp] theorem execRemoteBusyResend_kept (eng : Fin 64) (dest : Fin 4096) (seq : BitVec 24) (s : State) : KeptO por s (execRemoteBusyResend eng dest seq s) := by
  simp (maxDischargeDepth := 40) [execRemoteBusyResend]

@[simp] theorem execRemoteResponseTimeout_kept (eng : Fin 64) (dest : Fin 4096) (seq : BitVec 24) (s : State) : KeptO por s (execRemoteResponseTimeout eng dest seq s) := by
  simp (maxDischargeDepth := 40) [execRemoteResponseTimeout]

@[simp] theorem execFabTimeout_kept (eng : Fin 64) (dest : Fin 4096) (seq : BitVec 24) (s : State) : KeptO por s (execFabTimeout eng dest seq s) := by
  simp only [execFabTimeout]; (repeat' split) <;> simp (maxDischargeDepth := 40)

@[simp] theorem execStreamRecordFree_kept (src : Fin 4096) (flow : BitVec 8) (s : State) : KeptO por s (execStreamRecordFree src flow s) := by
  simp only [execStreamRecordFree]; (repeat' split) <;> simp (maxDischargeDepth := 40)

end Sys2Proof.Machine
end

