-- ==== Sys2Proof/Laws/KeptCollective.lean ====
section
/-! SUPPORT. What the operations of Machine/Collective.lean keep (Laws/Kept.lean). -/

namespace Sys2Proof.Machine

set_option linter.all false

variable {por : Bool} {z : State}

@[simp] theorem sendData_kept (r : Nat) (j : ColJob) (c : ColPkt) (s : State) (hz : Kept por z s) : Kept por z (sendData r j c s).2 := by
  simp only [sendData]; (repeat' split) <;> simp (maxDischargeDepth := 40) [hz]

@[simp] theorem State.modJob_kept (s : State) (r : Nat) (f : ColJob → ColJob) (hz : Kept por z s) : Kept por z (State.modJob s r f) := by
  simp (maxDischargeDepth := 40) [State.modJob, hz]

@[simp] theorem emit_kept (r dest phase share index : Nat) (s : State) (hz : Kept por z s) : Kept por z (emit r dest phase share index s) := by
  unfold emit; (repeat' split) <;> simp (maxDischargeDepth := 40) [hz]

@[simp] theorem emitRounds_kept (r phase : Nat) (shareOf : Nat → Nat) (s : State) (hz : Kept por z s) : Kept por z (emitRounds r phase shareOf s) := by
  unfold emitRounds; (repeat' split) <;> simp (maxDischargeDepth := 40) [hz]

@[simp] theorem endCol_kept (r : Nat) (j : ColJob) (bad aborted : Bool) (s : State) (hz : Kept por z s) : Kept por z (endCol r j bad aborted s) := by
  simp (maxDischargeDepth := 40) [endCol, hz]

@[simp] theorem settleCol_kept (r : Nat) (s : State) (hz : Kept por z s) : Kept por z (settleCol r s) := by
  unfold settleCol; (repeat' split) <;> simp (maxDischargeDepth := 40) [hz]

@[simp] theorem finishShare_kept (r : Nat) (s : State) (hz : Kept por z s) : Kept por z (finishShare r s) := by
  unfold finishShare; (repeat' split) <;> simp (maxDischargeDepth := 40) [hz]

@[simp] theorem beginSend_kept (r : Nat) (s : State) (hz : Kept por z s) : Kept por z (beginSend r s) := by
  unfold beginSend; (repeat' split) <;> simp (maxDischargeDepth := 40) [hz]

@[simp] theorem sendAck_kept (r rail rank tag phase share g bitmap : Nat) (s : State) (hz : Kept por z s) : Kept por z (sendAck r rail rank tag phase share g bitmap s) := by
  simp (maxDischargeDepth := 40) [sendAck, hz]

@[simp] theorem ackGroup_kept (r rail rank phase share g : Nat) (dup : Bool) (s : State) (hz : Kept por z s) : Kept por z (ackGroup r rail rank phase share g dup s) := by
  unfold ackGroup; (repeat' split) <;> simp (maxDischargeDepth := 40) [hz]

@[simp] theorem applyData_kept (r rail : Nat) (p : Packet) (s : State) (hz : Kept por z s) : Kept por z (applyData r rail p s) := by
  unfold applyData; (repeat' split) <;> simp (maxDischargeDepth := 40) [hz]

@[simp] theorem takeData_kept (r rail : Nat) (p : Packet) (s : State) (hz : Kept por z s) : Kept por z (takeData r rail p s) := by
  simp (maxDischargeDepth := 40) [takeData, hz]

@[simp] theorem takeAck_kept (r : Nat) (p : Packet) (s : State) (hz : Kept por z s) : Kept por z (takeAck r p s) := by
  unfold takeAck; (repeat' split) <;> simp (maxDischargeDepth := 40) [hz]

@[simp] theorem receiveCol_kept (rail kind : Nat) (f : Nat → Packet → State → State) (s : State)
    (h_f : ∀ x0 x1 t, Kept por t (f x0 x1 t)) (hz : Kept por z s) : Kept por z (receiveCol rail kind f s) := by
  unfold receiveCol; dsimp only; split
  · exact hz
  · have k := hz.trans (takeArrived_kept (por := por) _ _ _ _ _ ‹_›)
    (repeat' split)
    · simp (maxDischargeDepth := 40) [k]
    · simp (maxDischargeDepth := 40) [k]
    · exact k.trans (h_f _ _ _)

@[simp] theorem execCollectiveDataReceive_kept (rail : Fin 26) (s : State) : KeptO por s (execCollectiveDataReceive rail s) := by
  simp (maxDischargeDepth := 40) [execCollectiveDataReceive]

@[simp] theorem execCollectiveAckReceive_kept (rail : Fin 26) (s : State) : KeptO por s (execCollectiveAckReceive rail s) := by
  simp (maxDischargeDepth := 40) [execCollectiveAckReceive]

@[simp] theorem execCollectiveGroupAckTimer_kept (site : Fin 26) (srank : Fin 1024) (phase : Fin 2) (share : Fin 1024) (group : Fin 4096) (s : State) : KeptO por s (execCollectiveGroupAckTimer site srank phase share group s) := by
  simp only [execCollectiveGroupAckTimer]; (repeat' split) <;> simp (maxDischargeDepth := 40)

@[simp] theorem execCollectiveResend_kept (site : Fin 26) (dest : Fin 1024) (phase : Fin 2) (share : Fin 1024) (index : BitVec 18) (s : State) : KeptO por s (execCollectiveResend site dest phase share index s) := by
  simp only [execCollectiveResend]; (repeat' split) <;> simp (maxDischargeDepth := 40)

@[simp] theorem execColTimeout_kept (site : Fin 26) (s : State) : KeptO por s (execColTimeout site s) := by
  simp only [execColTimeout]; (repeat' split) <;> simp (maxDischargeDepth := 40)

@[simp] theorem beginCol_kept (r op : Nat) (b : Body) (delayed : Bool) (s : State) (hz : Kept por z s) : Kept por z (beginCol r op b delayed s) := by
  simp (maxDischargeDepth := 40) [beginCol, hz]

@[simp] theorem execCallred_kept (site : Fin 26) (body : BitVec 80) (delayed : Bool) (s : State) : KeptO por s (execCallred site body delayed s) := by
  simp (maxDischargeDepth := 40) [execCallred]

@[simp] theorem execCrscat_kept (site : Fin 26) (body : BitVec 80) (delayed : Bool) (s : State) : KeptO por s (execCrscat site body delayed s) := by
  simp (maxDischargeDepth := 40) [execCrscat]

@[simp] theorem execCagath_kept (site : Fin 26) (body : BitVec 80) (delayed : Bool) (s : State) : KeptO por s (execCagath site body delayed s) := by
  simp (maxDischargeDepth := 40) [execCagath]

@[simp] theorem execCbcast_kept (site : Fin 26) (body : BitVec 80) (delayed : Bool) (s : State) : KeptO por s (execCbcast site body delayed s) := by
  simp (maxDischargeDepth := 40) [execCbcast]

@[simp] theorem execCpost_kept (site : Fin 26) (body : BitVec 80) (s : State) : KeptO por s (execCpost site body s) := by
  simp only [execCpost]; (repeat' split) <;> simp (maxDischargeDepth := 40)

@[simp] theorem execTokenWordReceive_kept (rail : Fin 26) (word : BitVec 256) (s : State) :
    KeptO por s (execTokenWordReceive rail word s) := by
  unfold execTokenWordReceive; apply KeptO.next; refine linkWord_kept _ _ _ _ _ (fun t => ?_) (by simp)
  dsimp only; (repeat' split) <;> simp (maxDischargeDepth := 40)

end Sys2Proof.Machine
end

