-- ==== Sys2Proof/Laws/KeptParams.lean ====
section
/-! SUPPORT. What the operations of Machine/Params.lean keep (Laws/Kept.lean). -/

namespace Sys2Proof.Machine

set_option linter.all false

variable {por : Bool} {z : State}

/-- What a read of a parameter keeps. -/
def KeptP (por : Bool) (s : State) (o : Option Param) : Prop := ∀ p, o = some p → Kept por s p.after

@[simp] theorem KeptP.some (por : Bool) (s : State) (p : Param) : KeptP por s (some p) ↔ Kept por s p.after :=
  ⟨fun h => h p rfl, by rintro h _ ⟨⟩; exact h⟩

@[simp] theorem KeptP.none (por : Bool) (s : State) : KeptP por s none := by rintro _ ⟨⟩

@[simp] theorem Param.of_after (s : State) (w : Nat) (l : List Fld) : (Param.of s w l).after = s := rfl
@[simp] theorem Param.word_after (s : State) (w v : Nat) (l : List (Nat × Nat)) : (Param.word s w v l).after = s := rfl
@[simp] theorem Param.clears_after (p : Param) (s : State) : (p.clears s).after = s := rfl

@[simp] theorem readMod_kept (s : State) (i : Nat) : KeptP por s (readMod s i) := by
  unfold readMod; (repeat' split) <;> simp (maxDischargeDepth := 40)

@[simp] theorem readTime_kept (s : State) (i : Nat) : KeptP por s (readTime s i) := by
  unfold readTime; dsimp only; (repeat' split) <;> simp (maxDischargeDepth := 40)

@[simp] theorem readTiller_kept (s : State) (i : Nat) : KeptP por s (readTiller s i) := by
  unfold readTiller; dsimp only; (repeat' split) <;> simp (maxDischargeDepth := 40)

@[simp] theorem readPower_kept (s : State) (i : Nat) : KeptP por s (readPower s i) := by
  unfold readPower; dsimp only; (repeat' split) <;> simp (maxDischargeDepth := 40)

@[simp] theorem readStack_kept (s : State) (i : Nat) : KeptP por s (readStack s i) := by
  unfold readStack; dsimp only; (repeat' split) <;> simp (maxDischargeDepth := 40)

@[simp] theorem readMesh_kept (s : State) (i : Nat) : KeptP por s (readMesh s i) := by
  unfold readMesh; dsimp only; (repeat' split) <;> simp (maxDischargeDepth := 40)

@[simp] theorem readSill_kept (s : State) (i : Nat) : KeptP por s (readSill s i) := by
  unfold readSill; dsimp only; (repeat' split) <;> simp (maxDischargeDepth := 40)

@[simp] theorem readMem_kept (s : State) (i : Nat) : KeptP por s (readMem s i) := by
  unfold readMem; dsimp only; (repeat' split) <;> simp (maxDischargeDepth := 40)

@[simp] theorem readCut_kept (s : State) (i : Nat) : KeptP por s (readCut s i) := by
  unfold readCut; dsimp only; (repeat' split) <;> simp (maxDischargeDepth := 40)

@[simp] theorem readRail_kept (s : State) (i : Nat) : KeptP por s (readRail s i) := by
  unfold readRail; dsimp only; (repeat' split) <;> simp (maxDischargeDepth := 40)

@[simp] theorem readOpt_kept (s : State) (i : Nat) : KeptP por s (readOpt s i) := by
  unfold readOpt; dsimp only; (repeat' split) <;> simp (maxDischargeDepth := 40)

@[simp] theorem readFab_kept (s : State) (i : Nat) : KeptP por s (readFab s i) := by
  unfold readFab; dsimp only; (repeat' split) <;> simp (maxDischargeDepth := 40)

@[simp] theorem readCol_kept (s : State) (i : Nat) : KeptP por s (readCol s i) := by
  unfold readCol; dsimp only; (repeat' split) <;> simp (maxDischargeDepth := 40)

@[simp] theorem readCmd_kept (s : State) (i : Nat) : KeptP por s (readCmd s i) := by
  unfold readCmd; dsimp only; (repeat' split) <;> simp (maxDischargeDepth := 40)

@[simp] theorem readProc_kept (s : State) (i : Nat) : KeptP por s (readProc s i) := by
  unfold readProc; dsimp only; (repeat' split) <;> simp (maxDischargeDepth := 40)

@[simp] theorem readClk_kept (s : State) (i : Nat) : KeptP por s (readClk s i) := by
  unfold readClk; (repeat' split) <;> simp (maxDischargeDepth := 40)

@[simp] theorem readCfg_kept (s : State) (i : Nat) : KeptP por s (readCfg s i) := by
  unfold readCfg; dsimp only; (repeat' split) <;> simp (maxDischargeDepth := 40)

@[simp] theorem readSec_kept (s : State) (i : Nat) : KeptP por s (readSec s i) := by
  unfold readSec; (repeat' split) <;> simp (maxDischargeDepth := 40)

@[simp] theorem readSup_kept (s : State) (i : Nat) : KeptP por s (readSup s i) := by
  unfold readSup; dsimp only; (repeat' split) <;> simp (maxDischargeDepth := 40)

@[simp] theorem readDbg_kept (s : State) (i : Nat) : KeptP por s (readDbg s i) := by
  unfold readDbg; dsimp only; (repeat' split) <;> simp (maxDischargeDepth := 40)

@[simp] theorem readErr_kept (s : State) (i : Nat) : KeptP por s (readErr s i) := by
  unfold readErr; dsimp only; (repeat' split) <;> simp (maxDischargeDepth := 40)

@[simp] theorem readDiag_kept (s : State) (id : Nat) : KeptP por s (readDiag s id) := by
  unfold readDiag; dsimp only; (repeat' split) <;> simp (maxDischargeDepth := 40)

@[simp] theorem param_keptP (s : State) (id : Nat) : KeptP por s (param s id) := by
  unfold param; dsimp only; (repeat' split) <;> simp

theorem param_kept (s : State) (id : Nat) (p : Param) (e : param s id = some p) : Kept por s p.after :=
  param_keptP s id p e

@[simp] theorem readParams_kept (l : List Nat) (s : State) (h : Kept por z s) : Kept por z (readParams l s).2.2 := by
  induction l generalizing s with
  | nil => exact h
  | cons id r ih =>
    unfold readParams; split
    · exact h
    · split
      · exact h
      · exact ih _ (h.trans (param_kept _ _ _ ‹_›))

@[simp] theorem storeParam_kept (id v : Nat) (s : State) (hz : Kept por z s) : Kept por z (storeParam id v s).2 := by
  simp only [storeParam]; (repeat' split) <;> simp (maxDischargeDepth := 40) [hz]

@[simp] theorem checkWrite_kept (id : Nat) (val : List (BitVec 8)) (f : Nat → State → Nat × State) (s : State)
    (h_f : ∀ x0 t, Kept por t (f x0 t).2) (hz : Kept por z s) : Kept por z (checkWrite id val f s).2 := by
  unfold checkWrite; dsimp only; (repeat' split) <;> first | exact hz | exact hz.trans (h_f _ _)

end Sys2Proof.Machine
end

