-- ==== Sys2Proof/Laws/KeptCmd.lean ====
section
/-! SUPPORT. What the operations of Machine/Cmd.lean keep (Laws/Kept.lean). -/

namespace Sys2Proof.Machine

set_option linter.all false

variable {por : Bool} {z : State}

@[simp] theorem takePacket_kept (p : CmdPkt) (s : State) (hz : Kept por z s) : Kept por z (takePacket p s) := by
  simp (maxDischargeDepth := 40) [takePacket, hz]

@[simp] theorem runCmd_kept (p : CmdPkt) (mine : Bool) (f : CmdRef → State → State) (s : State)
    (h_f : ∀ x0 t, Kept por t (f x0 t)) (hz : Kept por z s) : Kept por z (runCmd p mine f s) := by
  have := Kept.trans (takePacket_kept p s hz) (h_f p.ref _)
  unfold runCmd; dsimp only; (repeat' split) <;> simp (maxDischargeDepth := 40) [hz, this]

@[simp] theorem execCommandOverCredit_kept (p : CmdPkt) (s : State) : KeptO por s (execCommandOverCredit p s) := by
  simp (maxDischargeDepth := 40) [execCommandOverCredit]

@[simp] theorem execCommandUnassigned_kept (p : CmdPkt) (s : State) : KeptO por s (execCommandUnassigned p s) := by
  simp (maxDischargeDepth := 40) [execCommandUnassigned]

@[simp] theorem execHello_kept (p : CmdPkt) (s : State) : KeptO por s (execHello p s) := by
  simp (maxDischargeDepth := 40) [execHello]

@[simp] theorem execPing_kept (p : CmdPkt) (s : State) : KeptO por s (execPing p s) := by
  simp (maxDischargeDepth := 40) [execPing]

@[simp] theorem execParamRead_kept (p : CmdPkt) (s : State) : KeptO por s (execParamRead p s) := by
  simp (maxDischargeDepth := 40) [execParamRead]

@[simp] theorem runWrite_kept (p : CmdPkt) (ids : Nat → Bool) (f : Nat → State → Nat × State) (s : State)
    (h_f : ∀ x0 t, Kept por t (f x0 t).2) (hz : Kept por z s) : Kept por z (runWrite p ids f s) := by
  unfold runWrite; refine runCmd_kept _ _ _ _ (fun c t => ?_) hz
  simp (maxDischargeDepth := 40) [h_f]

@[simp] theorem execParamWrite_kept (p : CmdPkt) (s : State) : KeptO por s (execParamWrite p s) := by
  simp (maxDischargeDepth := 40) [execParamWrite]

@[simp] theorem execRailFlipWrite_kept (p : CmdPkt) (s : State) : KeptO por s (execRailFlipWrite p s) := by
  simp (maxDischargeDepth := 40) [execRailFlipWrite]

@[simp] theorem execRailMapWrite_kept (p : CmdPkt) (s : State) : KeptO por s (execRailMapWrite p s) := by
  simp (maxDischargeDepth := 40) [execRailMapWrite]

@[simp] theorem writeRange_kept (a : Nat) (d : List (BitVec 8)) (req : Nat) (s : State) (hz : Kept por z s) :
    Kept por z (writeRange a d req s).2.2 := by
  refine Kept.foldl_proj (fun (x : Nat × Nat × State) => x.2.2) (fun b x => ?_) _ _ hz
  dsimp only; (repeat' split) <;> simp (maxDischargeDepth := 40)

@[simp] theorem readRange_kept (a n req : Nat) (s : State) (hz : Kept por z s) :
    Kept por z (readRange a n req s).2.2 := by
  refine Kept.foldl_proj (fun (x : List (BitVec 8) × Nat × State) => x.2.2) (fun b x => ?_) _ _ hz
  dsimp only; (repeat' split) <;> simp (maxDischargeDepth := 40)

@[simp] theorem abortXfers_kept (kind i : Nat) (s : State) (hz : Kept por z s) : Kept por z (abortXfers kind i s) := by
  simp (maxDischargeDepth := 40) [abortXfers, hz]

@[simp] theorem beginXfer_kept (x : Xfer) (s : State) (hz : Kept por z s) : Kept por z (beginXfer x s) := by
  simp (maxDischargeDepth := 40) [beginXfer, hz]

@[simp] theorem writeXfer_kept (p : CmdPkt) (c : CmdRef) (noise : List HbmUpset) (d : List (BitVec 8)) (s : State) (hz : Kept por z s) : Kept por z (writeXfer p c noise d s) := by
  simp (maxDischargeDepth := 40) [writeXfer, hz]

@[simp] theorem execMemWrite_kept (p : CmdPkt) (noise : List HbmUpset) (s : State) : KeptO por s (execMemWrite p noise s) := by
  simp (maxDischargeDepth := 40) [execMemWrite]

@[simp] theorem execMemRead_kept (p : CmdPkt) (noise : List HbmUpset) (s : State) : KeptO por s (execMemRead p noise s) := by
  simp (maxDischargeDepth := 40) [execMemRead]

@[simp] theorem execMemFill_kept (p : CmdPkt) (noise : List HbmUpset) (s : State) : KeptO por s (execMemFill p noise s) := by
  simp (maxDischargeDepth := 40) [execMemFill]

@[simp] theorem sendChunks_kept (n : Nat) (c : CmdRef) (st : Nat) (d : List (BitVec 8)) (s : State)
    (h : Kept por z s) : Kept por z (sendChunks n c st d s) := by
  induction n generalizing s d with
  | zero => simp [sendChunks, h]
  | succ n ih =>
    unfold sendChunks; split
    · simp [h]
    · apply ih; simp [h]

@[simp] theorem execMemTransferComplete_kept (port : Fin 2) (channel : Fin 8) (s : State) : KeptO por s (execMemTransferComplete port channel s) := by
  simp only [execMemTransferComplete]; (repeat' split) <;> simp (maxDischargeDepth := 40)

@[simp] theorem noteRefusedLoad_kept (p : CmdPkt) (s : State) (hz : Kept por z s) : Kept por z (noteRefusedLoad p s) := by
  simp (maxDischargeDepth := 40) [noteRefusedLoad, hz]

@[simp] theorem execLoadList_kept (p : CmdPkt) (s : State) : KeptO por s (execLoadList p s) := by
  simp (maxDischargeDepth := 40) [execLoadList]

@[simp] theorem execStartRun_kept (p : CmdPkt) (s : State) : KeptO por s (execStartRun p s) := by
  simp (maxDischargeDepth := 40) [execStartRun]

@[simp] theorem askPause_kept (s : State) (hz : Kept por z s) : Kept por z (askPause s) := by
  simp (maxDischargeDepth := 40) [askPause, hz]

@[simp] theorem execPauseRun_kept (p : CmdPkt) (s : State) : KeptO por s (execPauseRun p s) := by
  simp (maxDischargeDepth := 40) [execPauseRun]

@[simp] theorem execResumeRun_kept (p : CmdPkt) (s : State) : KeptO por s (execResumeRun p s) := by
  simp (maxDischargeDepth := 40) [execResumeRun]

@[simp] theorem execCalibrateSillLanes_kept (p : CmdPkt) (s : State) : KeptO por s (execCalibrateSillLanes p s) := by
  simp (maxDischargeDepth := 40) [execCalibrateSillLanes]

@[simp] theorem execSillLaneCalibrationDone_kept (failing : List (Fin 1064960)) (cals : RingCals) (s : State) : KeptO por s (execSillLaneCalibrationDone failing cals s) := by
  simp (maxDischargeDepth := 40) [execSillLaneCalibrationDone]

@[simp] theorem retrainRail_kept (r : Nat) (s : State) (hz : Kept por z s) : Kept por z (retrainRail r s) := by
  simp (maxDischargeDepth := 40) [retrainRail, hz]

@[simp] theorem execCalibrateRetrainRail_kept (p : CmdPkt) (s : State) : KeptO por s (execCalibrateRetrainRail p s) := by
  simp (maxDischargeDepth := 40) [execCalibrateRetrainRail]

@[simp] theorem execCalibrateHoldDown_kept (p : CmdPkt) (s : State) : KeptO por s (execCalibrateHoldDown p s) := by
  simp (maxDischargeDepth := 40) [execCalibrateHoldDown]

@[simp] theorem execCalibrateRemeasureDelay_kept (p : CmdPkt) (s : State) : KeptO por s (execCalibrateRemeasureDelay p s) := by
  simp (maxDischargeDepth := 40) [execCalibrateRemeasureDelay]

@[simp] theorem execEvtSubscribe_kept (p : CmdPkt) (s : State) : KeptO por s (execEvtSubscribe p s) := by
  simp (maxDischargeDepth := 40) [execEvtSubscribe]

@[simp] theorem execEvtQuery_kept (p : CmdPkt) (s : State) : KeptO por s (execEvtQuery p s) := by
  simp (maxDischargeDepth := 40) [execEvtQuery]

@[simp] theorem execEventRecord_kept (raiser : Fin 16) (s : State) : KeptO por s (execEventRecord raiser s) := by
  simp only [execEventRecord]; (repeat' split) <;> simp (maxDischargeDepth := 40)

@[simp] theorem execEventSend_kept (s : State) : KeptO por s (execEventSend s) := by
  unfold execEventSend; (repeat' split) <;> simp (maxDischargeDepth := 40)

@[simp] theorem execReplyRelease_kept (port : Fin 2) (channel : Fin 8) (s : State) : KeptO por s (execReplyRelease port channel s) := by
  unfold execReplyRelease; (repeat' split) <;> simp (maxDischargeDepth := 40)

@[simp] theorem execDiagCatalog_kept (p : CmdPkt) (s : State) : KeptO por s (execDiagCatalog p s) := by
  simp (maxDischargeDepth := 40) [execDiagCatalog]

@[simp] theorem execTraceRead_kept (p : CmdPkt) (s : State) : KeptO por s (execTraceRead p s) := by
  simp (maxDischargeDepth := 40) [execTraceRead]

@[simp] theorem execDbgCntWrite_kept (p : CmdPkt) (s : State) : KeptO por s (execDbgCntWrite p s) := by
  simp (maxDischargeDepth := 40) [execDbgCntWrite]

@[simp] theorem execDbgTraceWrite_kept (p : CmdPkt) (s : State) : KeptO por s (execDbgTraceWrite p s) := by
  simp (maxDischargeDepth := 40) [execDbgTraceWrite]

@[simp] theorem execErrAck_kept (p : CmdPkt) (s : State) : KeptO por s (execErrAck p s) := by
  simp (maxDischargeDepth := 40) [execErrAck]

@[simp] theorem execFaultAck_kept (p : CmdPkt) (s : State) : KeptO por s (execFaultAck p s) := by
  simp (maxDischargeDepth := 40) [execFaultAck]

end Sys2Proof.Machine
end

