-- ==== Sys2Proof/Laws/KeptSave.lean ====
section
/-! SUPPORT. What the operations of Machine/Save.lean keep (Laws/Kept.lean). -/

namespace Sys2Proof.Machine

set_option linter.all false

variable {por : Bool} {z : State}

@[simp] theorem execSaveImage_kept (p : CmdPkt) (s : State) : KeptO por s (execSaveImage p s) := by
  simp (maxDischargeDepth := 40) [execSaveImage]

@[simp] theorem execSaveComplete_kept (port : Fin 2) (channel : Fin 8) (noise : List HbmUpset) (s : State) : KeptO por s (execSaveComplete port channel noise s) := by
  simp only [execSaveComplete]; (repeat' split) <;> simp (maxDischargeDepth := 40)

@[simp] theorem execRestoreImage_kept (p : CmdPkt) (s : State) : KeptO por s (execRestoreImage p s) := by
  simp (maxDischargeDepth := 40) [execRestoreImage]

@[simp] theorem restoreTiller_kept (base mark : Nat) (s : State) (k : Nat) (hz : Kept por z s) : Kept por z (restoreTiller base mark s k) := by
  unfold restoreTiller; (repeat' split) <;> simp (maxDischargeDepth := 40) [hz]

@[simp] theorem restoreEngine_kept (base mark : Nat) (s : State) (i : Nat) (hz : Kept por z s) : Kept por z (restoreEngine base mark s i) := by
  simp (maxDischargeDepth := 40) [restoreEngine, hz]

@[simp] theorem restoreEarly_kept (base : Nat) (s : State) (r : Nat) (hz : Kept por z s) : Kept por z (restoreEarly base s r) := by
  simp (maxDischargeDepth := 40) [restoreEarly, hz]

@[simp] theorem restoreSeqs_kept (base : Nat) (s : State) (e : Nat) (hz : Kept por z s) : Kept por z (restoreSeqs base s e) := by
  simp (maxDischargeDepth := 40) [restoreSeqs, hz]

@[simp] theorem restorePlan_kept (base : Nat) (s : State) (hz : Kept por z s) : Kept por z (restorePlan base s) := by
  simp (maxDischargeDepth := 40) [restorePlan, hz]

@[simp] theorem restoreAll_kept (base : Nat) (b : List (BitVec 8)) (s : State) (hz : Kept por z s) : Kept por z (restoreAll base b s) := by
  simp (maxDischargeDepth := 40) [restoreAll, hz]

@[simp] theorem execRestoreComplete_kept (noise : List HbmUpset) (s : State) : KeptO por s (execRestoreComplete noise s) := by
  unfold execRestoreComplete; (repeat' split) <;> simp (maxDischargeDepth := 40)

end Sys2Proof.Machine
end

