-- ==== Sys2Proof/Laws/KeptProc.lean ====
section
/-! SUPPORT. What the operations of Machine/Proc.lean keep (Laws/Kept.lean). -/

namespace Sys2Proof.Machine

set_option linter.all false

variable {por : Bool} {z : State}

@[simp] theorem sourceEdges_kept (p src k : Nat) (s : State) (hz : Kept por z s) : Kept por z (sourceEdges p src k s) := by
  simp (maxDischargeDepth := 40) [sourceEdges, hz]

@[simp] theorem sourceLine_kept (p src : Nat) (high : Bool) (s : State) (hz : Kept por z s) : Kept por z (sourceLine p src high s) := by
  simp (maxDischargeDepth := 40) [sourceLine, hz]

@[simp] theorem boxPut_kept (src dst : Nat) (m : Msg) (s : State) (hz : Kept por z s) : Kept por z (boxPut src dst m s) := by
  simp (maxDischargeDepth := 40) [boxPut, hz]

@[simp] theorem boxSend_kept (src dst : Nat) (m : Msg) (s : State) (hz : Kept por z s) : Kept por z (boxSend src dst m s) := by
  simp (maxDischargeDepth := 40) [boxSend, hz]

@[simp] theorem execMailboxSend_kept (src dst : Fin 16) (msg : BitVec 512) (s : State) : KeptO por s (execMailboxSend src dst msg s) := by
  simp (maxDischargeDepth := 40) [execMailboxSend]

@[simp] theorem execMailboxRetry_kept (src dst : Fin 16) (s : State) : KeptO por s (execMailboxRetry src dst s) := by
  simp only [execMailboxRetry]; (repeat' split) <;> simp (maxDischargeDepth := 40)

@[simp] theorem abandonJoiner_kept (s : State) (hz : Kept por z s) : Kept por z (abandonJoiner s) := by
  simp (maxDischargeDepth := 40) [abandonJoiner, hz]

@[simp] theorem takeFault_kept (p cause w3 : Nat) (s : State) (hz : Kept por z s) : Kept por z (takeFault p cause w3 s) := by
  simp (maxDischargeDepth := 40) [takeFault, hz]

@[simp] theorem execProcFault_kept (proc : Fin 16) (cause : Fin 3) (address data : BitVec 32) (s : State) : KeptO por s (execProcFault proc cause address data s) := by
  simp (maxDischargeDepth := 40) [execProcFault]

@[simp] theorem execWatchdogExpire_kept (proc : Fin 16) (address : BitVec 32) (s : State) : KeptO por s (execWatchdogExpire proc address s) := by
  simp (maxDischargeDepth := 40) [execWatchdogExpire]

@[simp] theorem execWatchdogWarning_kept (proc : Fin 16) (s : State) : KeptO por s (execWatchdogWarning proc s) := by
  simp (maxDischargeDepth := 40) [execWatchdogWarning]

@[simp] theorem answerBusy_kept (s : State) (hz : Kept por z s) : Kept por z (answerBusy s) := by
  simp (maxDischargeDepth := 40) [answerBusy, hz]

@[simp] theorem execProcRestart_kept (proc : Fin 16) (s : State) : KeptO por s (execProcRestart proc s) := by
  simp (maxDischargeDepth := 40) [execProcRestart]

@[simp] theorem execIrqSourceEdge_kept (proc : Fin 16) (source : Fin 64) (edges : Fin 3) (high : Bool) (s : State) : KeptO por s (execIrqSourceEdge proc source edges high s) := by
  simp (maxDischargeDepth := 40) [execIrqSourceEdge]

@[simp] theorem execIrqDeliver_kept (proc : Fin 16) (s : State) : KeptO por s (execIrqDeliver proc s) := by
  simp (maxDischargeDepth := 40) [execIrqDeliver]

@[simp] theorem boxRead_kept (dst : Nat) (s : State) (src : Fin 16) (hz : Kept por z s) : Kept por z (boxRead dst s src) := by
  simp (maxDischargeDepth := 40) [boxRead, hz]

@[simp] theorem procAct_kept (p : Nat) (act : ProcAct) (s : State) (hz : Kept por z s) : Kept por z (procAct p act s) := by
  simp (maxDischargeDepth := 40) [procAct, hz]

@[simp] theorem execIrqAcknowledge_kept (proc : Fin 16) (bits : BitVec 64) (act : ProcAct) (s : State) : KeptO por s (execIrqAcknowledge proc bits act s) := by
  simp (maxDischargeDepth := 40) [execIrqAcknowledge]

@[simp] theorem execIrqOverrunClear_kept (proc : Fin 16) (bits : BitVec 64) (s : State) : KeptO por s (execIrqOverrunClear proc bits s) := by
  simp (maxDischargeDepth := 40) [execIrqOverrunClear]

@[simp] theorem execIrqStuck_kept (proc : Fin 16) (source : Fin 64) (s : State) : KeptO por s (execIrqStuck proc source s) := by
  simp (maxDischargeDepth := 40) [execIrqStuck]

@[simp] theorem execIrqStuckClear_kept (proc : Fin 16) (bits : BitVec 64) (s : State) : KeptO por s (execIrqStuckClear proc bits s) := by
  simp (maxDischargeDepth := 40) [execIrqStuckClear]

@[simp] theorem execStuckEpisodeEnd_kept (proc : Fin 16) (source : Fin 64) (s : State) : KeptO por s (execStuckEpisodeEnd proc source s) := by
  simp (maxDischargeDepth := 40) [execStuckEpisodeEnd]

@[simp] theorem execLocalTimer_kept (proc : Fin 16) (s : State) : KeptO por s (execLocalTimer proc s) := by
  simp only [execLocalTimer]; (repeat' split) <;> simp (maxDischargeDepth := 40)

@[simp] theorem execProcSleep_kept (proc : Fin 16) (s : State) : KeptO por s (execProcSleep proc s) := by
  simp (maxDischargeDepth := 40) [execProcSleep]

@[simp] theorem execProcWake_kept (proc : Fin 16) (ordered : Bool) (s : State) : KeptO por s (execProcWake proc ordered s) := by
  simp only [execProcWake]; (repeat' split) <;> simp (maxDischargeDepth := 40)

end Sys2Proof.Machine
end

