-- ==== Sys2Proof/Laws/KeptStore.lean ====
section
/-! SUPPORT. What the operations of Machine/Store.lean keep (Laws/Kept.lean). -/

namespace Sys2Proof.Machine

set_option linter.all false

variable {por : Bool} {z : State}

@[simp] theorem flashStore_kept (a : Nat) (b : List (BitVec 8)) (s : State) (hz : Kept por z s) : Kept por z (flashStore a b s) := by
  simp (maxDischargeDepth := 40) [flashStore, hz]

@[simp] theorem flashErase_kept (a n : Nat) (s : State) (hz : Kept por z s) : Kept por z (flashErase a n s) := by
  simp (maxDischargeDepth := 40) [flashErase, hz]

@[simp] theorem selectConfig_kept (s : State) (hz : Kept por z s) : Kept por z (selectConfig s) := by
  simp (maxDischargeDepth := 40) [selectConfig, hz]

@[simp] theorem applyCfg_kept (s : State) (r : Nat) (hz : Kept por z s) : Kept por z (applyCfg s r) := by
  simp only [applyCfg]; (repeat' split) <;> simp (maxDischargeDepth := 40) [hz]

@[simp] theorem applyConfig_kept (s : State) (hz : Kept por z s) : Kept por z (applyConfig s) := by
  simp (maxDischargeDepth := 40) [applyConfig, hz]

@[simp] theorem loadTrims_kept (s : State) (hz : Kept por z s) : Kept por z (loadTrims s) := by
  simp (maxDischargeDepth := 40) [loadTrims, hz]

@[simp] theorem execCfgCommit_kept (p : CmdPkt) (s : State) : KeptO por s (execCfgCommit p s) := by
  simp (maxDischargeDepth := 40) [execCfgCommit]

end Sys2Proof.Machine
end

