-- ==== Sys2Proof/Laws/KeptSecure.lean ====
section
/-! SUPPORT. What the operations of Machine/Secure.lean keep (Laws/Kept.lean). -/

namespace Sys2Proof.Machine

set_option linter.all false

variable {por : Bool} {z : State}

@[simp] theorem freshNonce_kept (s : State) (hz : Kept por z s) : Kept por z (freshNonce s) := by
  simp (maxDischargeDepth := 40) [freshNonce, hz]

@[simp] theorem putVendor_kept (img : List (BitVec 8)) (s : State) (k : Nat) (hz : Kept por z s) : Kept por z (putVendor img s k) := by
  simp (maxDischargeDepth := 40) [putVendor, hz]

@[simp] theorem bootSlot_kept (k : Nat) (s : State) (hz : Kept por z s) : Kept por z (bootSlot k s) := by
  simp only [bootSlot]; (repeat' split) <;> simp (maxDischargeDepth := 40) [hz]

@[simp] theorem secureBoot_kept (s : State) (hz : Kept por z s) : Kept por z (secureBoot s) := by
  simp (maxDischargeDepth := 40) [secureBoot, hz]

@[simp] theorem runSquare_kept (p : CmdPkt) (op : Nat) (f : CmdRef → State → State) (s : State) (h_f : ∀ x0 t, Kept por t (f x0 t)) (hz : Kept por z s) : Kept por z (runSquare p op f s) := by
  simp (maxDischargeDepth := 40) [runSquare, hz, h_f]

@[simp] theorem execFwStage_kept (p : CmdPkt) (s : State) : KeptO por s (execFwStage p s) := by
  simp (maxDischargeDepth := 40) [execFwStage]

@[simp] theorem execFwCommit_kept (p : CmdPkt) (s : State) : KeptO por s (execFwCommit p s) := by
  simp (maxDischargeDepth := 40) [execFwCommit]

@[simp] theorem execFwCommitComplete_kept (s : State) : KeptO por s (execFwCommitComplete s) := by
  unfold execFwCommitComplete; (repeat' split) <;> simp (maxDischargeDepth := 40)

@[simp] theorem execAttest_kept (p : CmdPkt) (s : State) : KeptO por s (execAttest p s) := by
  unfold execAttest; apply KeptO.next; refine runSquare_kept _ _ _ _ (fun c t => ?_) (by simp)
  dsimp only; split
  · simp
  · apply finish_kept; simp

@[simp] theorem execIdentity_kept (p : CmdPkt) (s : State) : KeptO por s (execIdentity p s) := by
  simp (maxDischargeDepth := 40) [execIdentity]

@[simp] theorem closeJtag_kept (s : State) (hz : Kept por z s) : Kept por z (closeJtag s) := by
  simp (maxDischargeDepth := 40) [closeJtag, hz]

@[simp] theorem endCapture_kept (s : State) (hz : Kept por z s) : Kept por z (endCapture s) := by
  simp (maxDischargeDepth := 40) [endCapture, hz]

@[simp] theorem endUnlock_kept (why : Nat) (s : State) (hz : Kept por z s) : Kept por z (endUnlock why s) := by
  simp (maxDischargeDepth := 40) [endUnlock, hz]

@[simp] theorem execDebugUnlock_kept (p : CmdPkt) (s : State) : KeptO por s (execDebugUnlock p s) := by
  simp (maxDischargeDepth := 40) [execDebugUnlock]

@[simp] theorem execDebugLock_kept (p : CmdPkt) (s : State) : KeptO por s (execDebugLock p s) := by
  simp (maxDischargeDepth := 40) [execDebugLock]

@[simp] theorem execDebugExpire_kept (s : State) : KeptO por s (execDebugExpire s) := by
  simp (maxDischargeDepth := 40) [execDebugExpire]

end Sys2Proof.Machine
end

