-- ==== Sys2Proof/Laws/KeptMirror.lean ====
section
/-! SUPPORT. What the operations of Machine/Mirror.lean keep (Laws/Kept.lean). -/

namespace Sys2Proof.Machine

set_option linter.all false

variable {por : Bool} {z : State}

@[simp] theorem execFaultMirrorWrite_kept (s : State) : KeptO por s (execFaultMirrorWrite s) := by
  unfold execFaultMirrorWrite; apply KeptO.next; dsimp only; split
  · apply flashStore_kept; simp
  · simp

@[simp] theorem restoreFaults_kept (s : State) (hz : Kept por z s) : Kept por z (restoreFaults s) := by
  simp (maxDischargeDepth := 40) [restoreFaults, hz]

@[simp] theorem execErrRateWindow_kept (s : State) : KeptO por s (execErrRateWindow s) := by
  simp (maxDischargeDepth := 40) [execErrRateWindow]

end Sys2Proof.Machine
end

