-- ==== Sys2Proof/Laws/KeptReset.lean ====
section
/-! SUPPORT. What the operations of Machine/Reset.lean keep (Laws/Kept.lean). -/

namespace Sys2Proof.Machine

set_option linter.all false

variable {por : Bool} {z : State}

@[simp] theorem clearProc_kept (s : State) (p : Nat) (hz : Kept por z s) : Kept por z (clearProc s p) := by
  simp (maxDischargeDepth := 40) [clearProc, hz]

@[simp] theorem startProc_kept (s : State) (p : Nat) (hz : Kept por z s) : Kept por z (startProc s p) := by
  simp (maxDischargeDepth := 40) [startProc, hz]

@[simp] theorem endBlocks_kept (gone : Nat → Bool) (s : State) (hz : Kept por z s) : Kept por z (endBlocks gone s) := by
  simp (maxDischargeDepth := 40) [endBlocks, hz]

@[simp] theorem restPlan_kept (s : State) (hz : Kept por z s) : Kept por z (restPlan s) := by
  simp (maxDischargeDepth := 40) [restPlan, hz]

@[simp] theorem stopBatches_kept (s : State) (hz : Kept por z s) : Kept por z (stopBatches s) := by
  simp (maxDischargeDepth := 40) [stopBatches, hz]

@[simp] theorem dropCollectives_kept (s : State) (hz : Kept por z s) : Kept por z (dropCollectives s) := by
  simp (maxDischargeDepth := 40) [dropCollectives, hz]

@[simp] theorem endSeqCommands_kept (s : State) (hz : Kept por z s) : Kept por z (endSeqCommands s) := by
  simp (maxDischargeDepth := 40) [endSeqCommands, hz]

@[simp] theorem clear1_kept (s : State) (hz : Kept por z s) : Kept por z (clear1 s) := by
  simp (maxDischargeDepth := 40) [clear1, hz]

@[simp] theorem clearStores_kept (key : Nat) (s : State) (hz : Kept por z s) : Kept por z (clearStores key s) := by
  simp (maxDischargeDepth := 40) [clearStores, hz]

@[simp] theorem clearStack_kept (s : State) (d : Nat) (hz : Kept por z s) : Kept por z (clearStack s d) := by
  simp (maxDischargeDepth := 40) [clearStack, hz]

@[simp] theorem clear2_kept (s : State) (hz : Kept por z s) : Kept por z (clear2 s) := by
  simp (maxDischargeDepth := 40) [clear2, hz]

@[simp] theorem clear3_kept (por : Bool) (s : State) (hz : Kept por z s) : Kept por z (clear3 por s) := by
  unfold clear3; dsimp only; (repeat' split) <;> simp_all (maxDischargeDepth := 40) [hz]

@[simp] theorem clearLevel_kept (level : Nat) (por : Bool) (s : State) (hz : Kept por z s) :
    Kept por z (clearLevel level por s) := by
  unfold clearLevel; split
  · simp [hz]
  · dsimp only; simp (maxDischargeDepth := 40) [hz]
  · simp [hz]

@[simp] theorem assertSource_kept (level : Nat) (por : Bool) (s : State) (hz : Kept por z s) : Kept por z (assertSource level por s) := by
  unfold assertSource; dsimp only; (repeat' split) <;> simp_all (maxDischargeDepth := 40) [hz]

@[simp] theorem execResetNAssert_kept (s : State) : KeptO por s (execResetNAssert s) := by
  unfold execResetNAssert; apply KeptO.next; apply Kept.of_false
  (repeat' split) <;> simp (maxDischargeDepth := 40)

@[simp] theorem execResetNRelease_kept (s : State) : KeptO por s (execResetNRelease s) := by
  simp (maxDischargeDepth := 40) [execResetNRelease]

@[simp] theorem powerOnAssert_kept (s : State) (hz : Kept true z s) : Kept true z (powerOnAssert s) := by
  unfold powerOnAssert; (repeat' split) <;> simp (maxDischargeDepth := 40) [hz]

theorem execPowerOnDetectAssert_kept (cause : Fin 3) (s : State) : KeptO true s (execPowerOnDetectAssert cause s) := by
  unfold execPowerOnDetectAssert; dsimp only; (repeat' split) <;> simp (maxDischargeDepth := 40)

@[simp] theorem execPowerOnDetectRelease_kept (s : State) : KeptO por s (execPowerOnDetectRelease s) := by
  unfold execPowerOnDetectRelease; (repeat' split) <;> simp (maxDischargeDepth := 40)

@[simp] theorem releasePanels_kept (p : Nat → Bool) (g : Nat) (s : State) (hz : Kept por z s) : Kept por z (releasePanels p g s) := by
  simp (maxDischargeDepth := 40) [releasePanels, hz]

@[simp] theorem measureMesh_kept (s : State) (d : Nat) (hz : Kept por z s) : Kept por z (measureMesh s d) := by
  simp (maxDischargeDepth := 40) [measureMesh, hz]

@[simp] theorem buildMesh_kept (s : State) (d : Nat) (hz : Kept por z s) : Kept por z (buildMesh s d) := by
  simp (maxDischargeDepth := 40) [buildMesh, hz]

@[simp] theorem endLevel1_kept (s : State) (hz : Kept por z s) : Kept por z (endLevel1 s) := by
  simp (maxDischargeDepth := 40) [endLevel1, hz]

@[simp] theorem beginWarm_kept (s : State) (hz : Kept por z s) : Kept por z (beginWarm s) := by
  simp (maxDischargeDepth := 40) [beginWarm, hz]

@[simp] theorem beginCold_kept (s : State) (hz : Kept por z s) : Kept por z (beginCold s) := by
  simp (maxDischargeDepth := 40) [beginCold, hz]

theorem clearLevel_kept_false (l : Nat) (s : State) (hz : Kept por z s) : Kept por z (clearLevel l false s) :=
  hz.trans (Kept.of_false (clearLevel_kept l false s (Kept.refl false s)))

@[simp] theorem execResetEpisodeEnd_kept (s : State) : KeptO por s (execResetEpisodeEnd s) := by
  unfold execResetEpisodeEnd; apply KeptO.next; dsimp only
  (repeat' split) <;> simp (maxDischargeDepth := 40) [clearLevel_kept_false]

@[simp] theorem execWarmBringupComplete_kept (s : State) : KeptO por s (execWarmBringupComplete s) := by
  simp (maxDischargeDepth := 40) [execWarmBringupComplete]

end Sys2Proof.Machine
end

