-- ==== Sys2Proof/Laws/KeptBringup.lean ====
section
/-! SUPPORT. What the operations of Machine/Bringup.lean keep (Laws/Kept.lean). -/

namespace Sys2Proof.Machine

set_option linter.all false

variable {por : Bool} {z : State}

@[simp] theorem calibrateDowels_kept (test : BringTest) (s : State) (hz : Kept por z s) : Kept por z (calibrateDowels test s) := by
  simp (maxDischargeDepth := 40) [calibrateDowels, hz]

@[simp] theorem selfTest_kept (test : BringTest) (s : State) (hz : Kept por z s) : Kept por z (selfTest test s) := by
  simp (maxDischargeDepth := 40) [selfTest, hz]

@[simp] theorem buildDie_kept (s : State) (d : Nat) (hz : Kept por z s) : Kept por z (buildDie s d) := by
  simp (maxDischargeDepth := 40) [buildDie, hz]

@[simp] theorem buildFloor_kept (s : State) (hz : Kept por z s) : Kept por z (buildFloor s) := by
  simp (maxDischargeDepth := 40) [buildFloor, hz]

@[simp] theorem addPanels_kept (l : List Nat) (top : Nat) (s : State) (hz : Kept por z s) : Kept por z (addPanels l top s) := by
  simp (maxDischargeDepth := 40) [addPanels, hz]

@[simp] theorem failBringup_kept (n : Nat) (s : State) (hz : Kept por z s) : Kept por z (failBringup n s) := by
  simp (maxDischargeDepth := 40) [failBringup, hz]

@[simp] theorem stepWork_kept (n : Nat) (test : BringTest) (s : State) (hz : Kept por z s) : Kept por z (stepWork n test s) := by
  simp only [stepWork]; (repeat' split) <;> simp (maxDischargeDepth := 40) [hz]

@[simp] theorem noteTestEn_kept (s : State) (hz : Kept por z s) : Kept por z (noteTestEn s) := by
  simp (maxDischargeDepth := 40) [noteTestEn, hz]

@[simp] theorem startStep_kept (n : Nat) (s : State) (hz : Kept por z s) : Kept por z (startStep n s) := by
  simp (maxDischargeDepth := 40) [startStep, hz]

@[simp] theorem endStep_kept (n : Nat) (test : BringTest) (s : State) (hz : Kept por z s) : Kept por z (endStep n test s) := by
  simp (maxDischargeDepth := 40) [endStep, hz]

@[simp] theorem execBringupStepDone_kept (test : BringTest) (s : State) : KeptO por s (execBringupStepDone test s) := by
  simp (maxDischargeDepth := 40) [execBringupStepDone]

@[simp] theorem execFwSlotRejudge_kept (s : State) : KeptO por s (execFwSlotRejudge s) := by
  simp (maxDischargeDepth := 40) [execFwSlotRejudge]

@[simp] theorem execBringupStepTimeout_kept (test : BringTest) (s : State) : KeptO por s (execBringupStepTimeout test s) := by
  simp (maxDischargeDepth := 40) [execBringupStepTimeout]

@[simp] theorem execRecover_kept (p : CmdPkt) (s : State) : KeptO por s (execRecover p s) := by
  simp (maxDischargeDepth := 40) [execRecover]

@[simp] theorem execRecoveryComplete_kept (test : BringTest) (s : State) : KeptO por s (execRecoveryComplete test s) := by
  simp (maxDischargeDepth := 40) [execRecoveryComplete]

end Sys2Proof.Machine
end

