-- ==== Sys2Proof/Laws/KeptBlock.lean ====
section
/-! SUPPORT. What the operations of Machine/Block.lean keep (Laws/Kept.lean). -/

namespace Sys2Proof.Machine

set_option linter.all false

variable {por : Bool} {z : State}

@[simp] theorem abortBlock_kept (kind i : Nat) (s : State) (hz : Kept por z s) : Kept por z (abortBlock kind i s) := by
  simp (maxDischargeDepth := 40) [abortBlock, hz]

@[simp] theorem resetStack_kept (d : Nat) (s : State) (hz : Kept por z s) : Kept por z (resetStack d s) := by
  simp (maxDischargeDepth := 40) [resetStack, hz]

@[simp] theorem dropRequests_kept (h : Nat) (s : State) (hz : Kept por z s) : Kept por z (dropRequests h s) := by
  simp (maxDischargeDepth := 40) [dropRequests, hz]

theorem State.modCol_area (s : State) (r : Nat) (f : ColEng → ColEng) : (s.modCol r f).col.area = s.col.area := rfl

@[simp] theorem resetRail_kept (r : Nat) (s : State) (hz : Kept por z s) : Kept por z (resetRail r s) := by
  unfold resetRail; dsimp only
  have h1 : Kept por z ((homedOut s r).foldl (fun s o => endRequest o.1 o.2.dest o.2.seq 0x0464 0 [] s) s) :=
    Kept.foldl (by simp) _ hz
  generalize (homedOut s r).foldl (fun s o => endRequest o.1 o.2.dest o.2.seq 0x0464 0 [] s) s = t at h1 ⊢
  let tidy (u : State) : State := u.modCol r (fun e => { e with uncorrArea := [] })
  have h2 : ∀ u : State, Kept por z u → Kept por z ((railDown r 6 0 { tidy u with
      col := { (tidy u).col with area := memClear u.col.area (bufAddr r 0) (bufAddr (r + 1) 0) } }).modRail r
        (fun x => { x with reset := true })) := by
    intro u hu
    apply State.modRail_kept; apply railDown_kept
    apply Kept.update
    all_goals simp [tidy, hu, State.modCol_area]
  split
  · apply h2; simp [h1]
  · apply h2; simp [h1]

@[simp] theorem resetPath_kept (i : Nat) (s : State) (hz : Kept por z s) : Kept por z (resetPath i s) := by
  simp (maxDischargeDepth := 40) [resetPath, hz]

@[simp] theorem resetSequencer_kept (s : State) (hz : Kept por z s) : Kept por z (resetSequencer s) := by
  simp (maxDischargeDepth := 40) [resetSequencer, hz]

@[simp] theorem assertBlock_kept (kind i : Nat) (forced : Bool) (s : State) (hz : Kept por z s) : Kept por z (assertBlock kind i forced s) := by
  unfold assertBlock; (repeat' split) <;> simp (maxDischargeDepth := 40) [hz]

@[simp] theorem endJob_kept (kind i : Nat) (s : State) (hz : Kept por z s) : Kept por z (endJob kind i s) := by
  simp (maxDischargeDepth := 40) [endJob, hz]

@[simp] theorem runBlock_kept (kind : Nat) (p : CmdPkt) (s : State) (hz : Kept por z s) : Kept por z (runBlock kind p s) := by
  simp (maxDischargeDepth := 40) [runBlock, hz]

@[simp] theorem execBlockResetComputeStack_kept (p : CmdPkt) (s : State) : KeptO por s (execBlockResetComputeStack p s) := by
  simp (maxDischargeDepth := 40) [execBlockResetComputeStack]

@[simp] theorem execBlockResetCrib_kept (p : CmdPkt) (s : State) : KeptO por s (execBlockResetCrib p s) := by
  simp (maxDischargeDepth := 40) [execBlockResetCrib]

@[simp] theorem execBlockResetHbmSite_kept (p : CmdPkt) (s : State) : KeptO por s (execBlockResetHbmSite p s) := by
  simp (maxDischargeDepth := 40) [execBlockResetHbmSite]

@[simp] theorem execBlockResetRailSite_kept (p : CmdPkt) (s : State) : KeptO por s (execBlockResetRailSite p s) := by
  simp (maxDischargeDepth := 40) [execBlockResetRailSite]

@[simp] theorem execBlockResetSillPath_kept (p : CmdPkt) (s : State) : KeptO por s (execBlockResetSillPath p s) := by
  simp (maxDischargeDepth := 40) [execBlockResetSillPath]

@[simp] theorem execBlockResetSillSequencer_kept (p : CmdPkt) (s : State) : KeptO por s (execBlockResetSillSequencer p s) := by
  simp (maxDischargeDepth := 40) [execBlockResetSillSequencer]

@[simp] theorem execBlockIdle_kept (kind : Fin 8) (index : Fin 32) (s : State) : KeptO por s (execBlockIdle kind index s) := by
  unfold execBlockIdle; (repeat' split) <;> simp (maxDischargeDepth := 40)

@[simp] theorem execBlockQuiesceTimeout_kept (kind : Fin 8) (index : Fin 32) (s : State) : KeptO por s (execBlockQuiesceTimeout kind index s) := by
  unfold execBlockQuiesceTimeout; (repeat' split) <;> simp (maxDischargeDepth := 40)

@[simp] theorem restoreBlock_kept (kind i fixed : Nat) (s : State) (hz : Kept por z s) : Kept por z (restoreBlock kind i fixed s) := by
  unfold restoreBlock; (repeat' split) <;> simp (maxDischargeDepth := 40) [hz]

@[simp] theorem calibrateBay_kept (i : Nat) (cals : RingCals) (s : State) (hz : Kept por z s) : Kept por z (calibrateBay i cals s) := by
  simp (maxDischargeDepth := 40) [calibrateBay, hz]

@[simp] theorem execBlockReady_kept (kind : Fin 8) (index : Fin 32) (fixed : Fin 64) (cals : RingCals) (s : State) : KeptO por s (execBlockReady kind index fixed cals s) := by
  unfold execBlockReady; (repeat' split) <;> simp (maxDischargeDepth := 40)

@[simp] theorem failBlock_kept (kind i : Nat) (s : State) (hz : Kept por z s) : Kept por z (failBlock kind i s) := by
  unfold failBlock; (repeat' split) <;> simp (maxDischargeDepth := 40) [hz]

@[simp] theorem execBlockReadyTimeout_kept (kind : Fin 8) (index : Fin 32) (s : State) : KeptO por s (execBlockReadyTimeout kind index s) := by
  unfold execBlockReadyTimeout; (repeat' split) <;> simp (maxDischargeDepth := 40)

end Sys2Proof.Machine
end

