-- ==== Sys2Proof/Laws/KeptClock.lean ====
section
/-! SUPPORT. What the operations of Machine/Clock.lean keep (Laws/Kept.lean). -/

namespace Sys2Proof.Machine

set_option linter.all false

variable {por : Bool} {z : State}

@[simp] theorem stretchExcess_kept (k : Nat) (s : State) (hz : Kept por z s) : Kept por z (stretchExcess k s) := by
  simp (maxDischargeDepth := 40) [stretchExcess, hz]

@[simp] theorem marginWarn_kept (k : Nat) (s : State) (hz : Kept por z s) : Kept por z (marginWarn k s) := by
  simp (maxDischargeDepth := 40) [marginWarn, hz]

@[simp] theorem execPanelMarginLow_kept (panel : BitVec 17) (need : Fin 6) (since : Nat) (s : State) : KeptO por s (execPanelMarginLow panel need since s) := by
  simp only [execPanelMarginLow]; (repeat' split) <;> simp (maxDischargeDepth := 40)

@[simp] theorem execStretchCeilingLower_kept (die : Fin 8) (s : State) : KeptO por s (execStretchCeilingLower die s) := by
  simp only [execStretchCeilingLower]; (repeat' split) <;> simp (maxDischargeDepth := 40)

@[simp] theorem showBin_kept (k b : Nat) (s : State) (hz : Kept por z s) : Kept por z (showBin k b s) := by
  simp (maxDischargeDepth := 40) [showBin, hz]

@[simp] theorem setBin_kept (k b : Nat) (s : State) (hz : Kept por z s) : Kept por z (setBin k b s) := by
  simp (maxDischargeDepth := 40) [setBin, hz]

@[simp] theorem changeBins_kept (s : State) (hz : Kept por z s) : Kept por z (changeBins s) := by
  simp (maxDischargeDepth := 40) [changeBins, hz]

@[simp] theorem execRegulatorLower_kept (panel : BitVec 17) (s : State) : KeptO por s (execRegulatorLower panel s) := by
  simp only [execRegulatorLower]; (repeat' split) <;> simp (maxDischargeDepth := 40)

@[simp] theorem execBinSwitchUp_kept (panel : BitVec 17) (s : State) : KeptO por s (execBinSwitchUp panel s) := by
  simp only [execBinSwitchUp]; (repeat' split) <;> simp (maxDischargeDepth := 40)

@[simp] theorem execPanelAlign_kept (s : State) : KeptO por s (execPanelAlign s) := by
  simp (maxDischargeDepth := 40) [execPanelAlign]

end Sys2Proof.Machine
end

