-- ==== Sys2Proof/Laws/KeptPower.lean ====
section
/-! SUPPORT. What the operations of Machine/Power.lean keep (Laws/Kept.lean). -/

namespace Sys2Proof.Machine

set_option linter.all false

variable {por : Bool} {z : State}

@[simp] theorem execPwrInputRange_kept (volts : BitVec 12) (s : State) : KeptO por s (execPwrInputRange volts s) := by
  simp (maxDischargeDepth := 40) [execPwrInputRange]

@[simp] theorem losePower_kept (s : State) (hz : Kept true z s) : Kept true z (losePower s) := by
  unfold losePower; dsimp only; simp (maxDischargeDepth := 40) [hz]

theorem execInputLockout_kept (s : State) : KeptO true s (execInputLockout s) := by
  unfold execInputLockout; simp (maxDischargeDepth := 40)

theorem execSupplyStageFault_kept (s : State) : KeptO true s (execSupplyStageFault s) := by
  unfold execSupplyStageFault; simp (maxDischargeDepth := 40)

@[simp] theorem execAlertNFall_kept (s : State) : KeptO por s (execAlertNFall s) := by
  simp (maxDischargeDepth := 40) [execAlertNFall]

@[simp] theorem execAlertNRise_kept (s : State) : KeptO por s (execAlertNRise s) := by
  simp (maxDischargeDepth := 40) [execAlertNRise]

@[simp] theorem execModuleCeilingLower_kept (s : State) : KeptO por s (execModuleCeilingLower s) := by
  unfold execModuleCeilingLower; (repeat' split) <;> simp (maxDischargeDepth := 40)

@[simp] theorem execModuleCeilingRaise_kept (s : State) : KeptO por s (execModuleCeilingRaise s) := by
  unfold execModuleCeilingRaise; (repeat' split) <;> simp (maxDischargeDepth := 40)

@[simp] theorem panelOff_kept (k : Nat) (s : State) (hz : Kept por z s) : Kept por z (panelOff k s) := by
  unfold panelOff; (repeat' split) <;> simp (maxDischargeDepth := 40) [hz]

@[simp] theorem domainOff_kept (kind i : Nat) (s : State) (hz : Kept por z s) : Kept por z (domainOff kind i s) := by
  unfold domainOff; (repeat' split) <;> simp (maxDischargeDepth := 40) [hz]

@[simp] theorem execPwrRegFault_kept (kind : Fin 4) (index : BitVec 16) (s : State) : KeptO por s (execPwrRegFault kind index s) := by
  simp (maxDischargeDepth := 40) [execPwrRegFault]

@[simp] theorem execThermalCooldown_kept (s : State) : KeptO por s (execThermalCooldown s) := by
  simp (maxDischargeDepth := 40) [execThermalCooldown]

@[simp] theorem domainsLost_kept (s : State) (hz : Kept por z s) : Kept por z (domainsLost s) := by
  have := hz.trans (Kept.of_false (clear3_kept false s (Kept.refl false s)))
  unfold domainsLost; dsimp only
  exact ⟨this.pending, this.localStore, this.crib, this.hbm, this.area, this.window, this.flash, hz.counter, hz.trip⟩

@[simp] theorem execThermalTrip_kept (s : State) : KeptO por s (execThermalTrip s) := by
  simp (maxDischargeDepth := 40) [execThermalTrip]

@[simp] theorem execAux1v8Overcurrent_kept (s : State) : KeptO por s (execAux1v8Overcurrent s) := by
  simp (maxDischargeDepth := 40) [execAux1v8Overcurrent]

end Sys2Proof.Machine
end

