-- ==== Sys2Proof/Laws/KeptDebug.lean ====
section
/-! SUPPORT. What the operations of Machine/Debug.lean keep (Laws/Kept.lean). -/

namespace Sys2Proof.Machine

set_option linter.all false

variable {por : Bool} {z : State}

@[simp] theorem execTestEnChange_kept (high : Bool) (s : State) : KeptO por s (execTestEnChange high s) := by
  simp (maxDischargeDepth := 40) [execTestEnChange]

@[simp] theorem jtagTake_kept (ir dr : Nat) (s : State) (hz : Kept por z s) : Kept por z (jtagTake ir dr s) := by
  simp (maxDischargeDepth := 40) [jtagTake, hz]

@[simp] theorem jtagRefuse_kept (s : State) (hz : Kept por z s) : Kept por z (jtagRefuse s) := by
  simp (maxDischargeDepth := 40) [jtagRefuse, hz]

@[simp] theorem execTrstNAssert_kept (s : State) : KeptO por s (execTrstNAssert s) := by
  simp (maxDischargeDepth := 40) [execTrstNAssert]

@[simp] theorem execJtagExtest_kept (shift : BitVec 22) (s : State) : KeptO por s (execJtagExtest shift s) := by
  simp (maxDischargeDepth := 40) [execJtagExtest]

@[simp] theorem execJtagIdcode_kept (s : State) : KeptO por s (execJtagIdcode s) := by
  simp (maxDischargeDepth := 40) [execJtagIdcode]

@[simp] theorem execJtagSamplePreload_kept (shift : BitVec 22) (s : State) : KeptO por s (execJtagSamplePreload shift s) := by
  simp (maxDischargeDepth := 40) [execJtagSamplePreload]

@[simp] theorem execJtagBypass_kept (code : BitVec 8) (s : State) : KeptO por s (execJtagBypass code s) := by
  simp (maxDischargeDepth := 40) [execJtagBypass]

@[simp] theorem execJtagFlash_kept (address : BitVec 24) (command : BitVec 8) (data : BitVec 64) (s : State) : KeptO por s (execJtagFlash address command data s) := by
  unfold execJtagFlash; (repeat' split) <;> simp (maxDischargeDepth := 40)

@[simp] theorem execJtagIntscan_kept (panel : BitVec 16) (s : State) : KeptO por s (execJtagIntscan panel s) := by
  simp only [execJtagIntscan]; (repeat' split) <;> simp (maxDischargeDepth := 40)

@[simp] theorem sampleObs_kept (s : State) (hz : Kept por z s) : Kept por z (sampleObs s) := by
  simp (maxDischargeDepth := 40) [sampleObs, hz]

@[simp] theorem selectObs_kept (s : State) (hz : Kept por z s) : Kept por z (selectObs s) := by
  simp (maxDischargeDepth := 40) [selectObs, hz]

@[simp] theorem execI3cDynamicAddress_kept (address : BitVec 7) (s : State) : KeptO por s (execI3cDynamicAddress address s) := by
  simp (maxDischargeDepth := 40) [execI3cDynamicAddress]

@[simp] theorem execI3cOffsetWrite_kept (data : List (BitVec 8)) (s : State) : KeptO por s (execI3cOffsetWrite data s) := by
  unfold execI3cOffsetWrite; (repeat' split) <;> simp (maxDischargeDepth := 40)

@[simp] theorem execI3cRead_kept (count : Nat) (s : State) : KeptO por s (execI3cRead count s) := by
  simp (maxDischargeDepth := 40) [execI3cRead]

end Sys2Proof.Machine
end

