-- ==== Sys2Proof/Laws/KeptSup.lean ====
section
/-! SUPPORT. What the operations of Machine/Sup.lean keep (Laws/Kept.lean). -/

namespace Sys2Proof.Machine

set_option linter.all false

variable {por : Bool} {z : State}

@[simp] theorem saveFlash_kept (ok : Bool) (s : State) (hz : Kept por z s) : Kept por z (saveFlash ok s) := by
  simp (maxDischargeDepth := 40) [saveFlash, hz]

@[simp] theorem execSavedStateWrite_kept (s : State) : KeptO por s (execSavedStateWrite s) := by
  simp (maxDischargeDepth := 40) [execSavedStateWrite]

@[simp] theorem execSavedStateFlashWrite_kept (ok : Bool) (s : State) : KeptO por s (execSavedStateFlashWrite ok s) := by
  simp (maxDischargeDepth := 40) [execSavedStateFlashWrite]

@[simp] theorem execCfgCommitDone_kept (ok : Bool) (s : State) : KeptO por s (execCfgCommitDone ok s) := by
  unfold execCfgCommitDone; (repeat' split) <;> simp (maxDischargeDepth := 40)

@[simp] theorem execSupHeartbeat_kept (s : State) : KeptO por s (execSupHeartbeat s) := by
  simp (maxDischargeDepth := 40) [execSupHeartbeat]

@[simp] theorem endCommit_kept (s : State) (hz : Kept por z s) : Kept por z (endCommit s) := by
  simp (maxDischargeDepth := 40) [endCommit, hz]

@[simp] theorem execHeartbeatTimeout_kept (s : State) : KeptO por s (execHeartbeatTimeout s) := by
  simp (maxDischargeDepth := 40) [execHeartbeatTimeout]

@[simp] theorem resumePolicy_kept (r : Option Saved) (s : State) (hz : Kept por z s) : Kept por z (resumePolicy r s) := by
  simp (maxDischargeDepth := 40) [resumePolicy, hz]

@[simp] theorem execSupFailover_kept (s : State) : KeptO por s (execSupFailover s) := by
  simp (maxDischargeDepth := 40) [execSupFailover]

@[simp] theorem execHeadlessTimeout_kept (s : State) : KeptO por s (execHeadlessTimeout s) := by
  unfold execHeadlessTimeout; (repeat' split) <;> simp (maxDischargeDepth := 40)

@[simp] theorem ceilingsZero_kept (s : State) (hz : Kept por z s) : Kept por z (ceilingsZero s) := by
  simp (maxDischargeDepth := 40) [ceilingsZero, hz]

@[simp] theorem becomeHeadless_kept (s : State) (hz : Kept por z s) : Kept por z (becomeHeadless s) := by
  simp (maxDischargeDepth := 40) [becomeHeadless, hz]

@[simp] theorem execSupHeadless_kept (s : State) : KeptO por s (execSupHeadless s) := by
  unfold execSupHeadless; (repeat' split) <;> simp (maxDischargeDepth := 40)

end Sys2Proof.Machine
end

