-- ==== Sys2Proof/Laws/KeptBoundary.lean ====
section
/-! SUPPORT. What the operations of Machine/Boundary.lean keep (Laws/Kept.lean). -/

namespace Sys2Proof.Machine

set_option linter.all false

variable {por : Bool} {z : State}

@[simp] theorem limitStack_kept (r : SheafReadings) (s : State) (d : Nat) (hz : Kept por z s) : Kept por z (limitStack r s d) := by
  simp (maxDischargeDepth := 40) [limitStack, hz]

@[simp] theorem limitInput_kept (r : SheafReadings) (s : State) (hz : Kept por z s) : Kept por z (limitInput r s) := by
  simp (maxDischargeDepth := 40) [limitInput, hz]

@[simp] theorem judgeSensor_kept (s : State) (x : SensorReading) (hz : Kept por z s) : Kept por z (judgeSensor s x) := by
  simp (maxDischargeDepth := 40) [judgeSensor, hz]

@[simp] theorem readTemps_kept (r : SheafReadings) (s : State) (hz : Kept por z s) : Kept por z (readTemps r s) := by
  simp only [readTemps]; (repeat' split) <;> simp (maxDischargeDepth := 40) [hz]

@[simp] theorem sendTally_kept (s : State) (hz : Kept por z s) : Kept por z (sendTally s) := by
  simp (maxDischargeDepth := 40) [sendTally, hz]

@[simp] theorem applyTally_kept (s : State) (hz : Kept por z s) : Kept por z (applyTally s) := by
  simp only [applyTally]; (repeat' split) <;> simp (maxDischargeDepth := 40) [hz]

@[simp] theorem execTallyMiss_kept (s : State) : KeptO por s (execTallyMiss s) := by
  unfold execTallyMiss; (repeat' split) <;> simp (maxDischargeDepth := 40)

@[simp] theorem execIdleSheafInsert_kept (s : State) : KeptO por s (execIdleSheafInsert s) := by
  simp (maxDischargeDepth := 40) [execIdleSheafInsert]

@[simp] theorem thermStop_kept (s : State) (hz : Kept por z s) : Kept por z (thermStop s) := by
  simp (maxDischargeDepth := 40) [thermStop, hz]

@[simp] theorem thermHalt_kept (s : State) (hz : Kept por z s) : Kept por z (thermHalt s) := by
  simp (maxDischargeDepth := 40) [thermHalt, hz]

@[simp] theorem thermalDecision_kept (s : State) (hz : Kept por z s) : Kept por z (thermalDecision s) := by
  simp (maxDischargeDepth := 40) [thermalDecision, hz]

@[simp] theorem thermalPolicy_kept (s : State) (hz : Kept por z s) : Kept por z (thermalPolicy s) := by
  simp (maxDischargeDepth := 40) [thermalPolicy, hz]

@[simp] theorem supervise_kept (r : SheafReadings) (s : State) (hz : Kept por z s) : Kept por z (supervise r s) := by
  simp (maxDischargeDepth := 40) [supervise, hz]

@[simp] theorem rejoinLanes_kept (s : State) (r : Nat) (hz : Kept por z s) : Kept por z (rejoinLanes s r) := by
  simp (maxDischargeDepth := 40) [rejoinLanes, hz]

@[simp] theorem boundRails_kept (s : State) (hz : Kept por z s) : Kept por z (boundRails s) := by
  simp (maxDischargeDepth := 40) [boundRails, hz]

@[simp] theorem execFleetSheafBoundary_kept (r : SheafReadings) (s : State) : KeptO por s (execFleetSheafBoundary r s) := by
  simp (maxDischargeDepth := 40) [execFleetSheafBoundary]

end Sys2Proof.Machine
end

