-- ==== Sys2Proof/Laws/KeptYuley.lean ====
section
/-! SUPPORT. What the operations of Machine/Yuley.lean keep (Laws/Kept.lean). -/

namespace Sys2Proof.Machine

set_option linter.all false

variable {por : Bool} {z : State}

@[simp] theorem queuePacket_kept (p : CmdPkt) (s : State) (hz : Kept por z s) : Kept por z (queuePacket p s) := by
  simp (maxDischargeDepth := 40) [queuePacket, hz]

@[simp] theorem parseSlots_kept (n port : Nat) (s : State) (h : Kept por z s) : Kept por z (parseSlots n port s) := by
  induction n generalizing s with
  | zero => exact h
  | succ n ih =>
    unfold parseSlots; split
    · exact h
    · dsimp only; split
      · apply ih; simp [h]
      · split
        · exact h
        · apply ih; simp [h]

@[simp] theorem joinFrames_kept (n port : Nat) (s : State) (h : Kept por z s) : Kept por z (joinFrames n port s) := by
  induction n generalizing s with
  | zero => exact h
  | succ n ih =>
    unfold joinFrames; dsimp only; split
    · exact h
    · apply ih; simp [h]

@[simp] theorem takeYuley_kept (port q : Nat) (slots_ : List (BitVec 512)) (s : State) (hz : Kept por z s) : Kept por z (takeYuley port q slots_ s) := by
  simp (maxDischargeDepth := 40) [takeYuley, hz]

@[simp] theorem rejectYuley_kept (port : Nat) (due : Option (BitVec 16)) (s : State) (hz : Kept por z s) : Kept por z (rejectYuley port due s) := by
  unfold rejectYuley; (repeat' split) <;> simp (maxDischargeDepth := 40) [hz]

@[simp] theorem ackYuley_kept (port : Nat) (s : State) (w : Word256) (hz : Kept por z s) : Kept por z (ackYuley port s w) := by
  simp only [ackYuley]; (repeat' split) <;> simp (maxDischargeDepth := 40) [hz]

@[simp] theorem linkYuley_kept (port : Nat) (f : BitVec 4160) (s : State) (hz : Kept por z s) : Kept por z (linkYuley port f s) := by
  simp (maxDischargeDepth := 40) [linkYuley, hz]

@[simp] theorem hearYuley_kept (p l : Nat) (f : BitVec 4160) (due : Option (BitVec 16)) (s : State) (hz : Kept por z s) : Kept por z (hearYuley p l f due s) := by
  simp (maxDischargeDepth := 40) [hearYuley, hz]

@[simp] theorem execYuleyFrameReceive_kept (port : Fin 2) (lane : Fin 4) (frame : BitVec 4160) (due : Option (BitVec 16)) (codes : List (Fin 545)) (s : State) : KeptO por s (execYuleyFrameReceive port lane frame due codes s) := by
  unfold execYuleyFrameReceive; (repeat' split) <;> simp (maxDischargeDepth := 40)

end Sys2Proof.Machine
end

