-- ==== Sys2Proof/Laws/Link.lean ====
section
/-! SUPPORT. What a row does that consumes a link word: the word leaves its rail, and the row's effect follows (R256 to
R258). -/

namespace Sys2Proof.Machine

/-- A link word that is the oldest of its kind is consumed, and has its effect. -/
theorem linkWord_good {r kind : Nat} {w : BitVec 256} {s : State} (h : GoodWord r kind w s) (f : State → State) :
    linkWord r kind w f s = f (withoutWord r w s) := by
  obtain ⟨a, b, c⟩ := h
  have ha : ¬ ((s.rail r).state < 3 ∨ (s.rail r).state = 7) := by omega
  simp only [linkWord, ha, if_false, c, beq_self_eq_true, if_true, withoutWord]

/-- A word that its rail does not hold changes nothing. -/
theorem linkWord_absent (r kind : Nat) (w : BitVec 256) (s : State) (f : State → State)
    (h : (s.rail r).rxWords.find? (fun v => ctlKind v == kind) ≠ some w) : linkWord r kind w f s = s := by
  unfold linkWord; dsimp only; split
  · rfl
  · rw [if_neg (by simpa using h)]

/-- The first result of an outstanding key acts, and its key is forgotten. -/
theorem combined_good {r kind key : Nat} {w : BitVec 256} {s : State} (h : GoodResult r kind key w s)
    (f : State → State) : combined r kind key w f s = f (forget kind key (withoutWord r w s)) := by
  obtain ⟨a, b, c⟩ := h
  have hb : combinedOk (withoutWord r w s) w = true := b
  have hc : isOutstanding (withoutWord r w s) kind key = true := c
  rw [combined, linkWord_good a]
  simp [hb, hc]

end Sys2Proof.Machine
end

