-- ==== Sys2Proof/Laws/Ops.lean ====
section
/-! SUPPORT. What the shared operations do, each said once: events, the ready state, the tolerance of the time base. -/

namespace Sys2Proof.Machine

/-- Raising an event adds one record at its raiser and changes nothing else. -/
theorem raise_spec (code e w0 w1 w2 w3 : Nat) (s : State) : ∃ r : Record,
    raise code e w0 w1 w2 w3 s = { s with err := { s.err with raised := s.err.raised ++ [r] } } ∧ r.code = code ∧
    r.engine = e ∧ r.grain = s.now ∧ r.w0 = w0 % 2 ^ 64 ∧ r.w1 = w1 % 2 ^ 64 ∧ r.w2 = w2 % 2 ^ 64 ∧
    r.w3 = w3 % 2 ^ 64 := ⟨_, rfl, rfl, rfl, rfl, rfl, rfl, rfl, rfl⟩

/-- Evaluating the ready state changes CFG.STATE, and raises READY_CHANGE or nothing. -/
theorem setReady_spec (s : State) : ∃ (r : Rst) (l : List Record),
    setReady s = { s with rst := r, err := { s.err with raised := s.err.raised ++ l } } ∧ ∀ x ∈ l, x.code = 0x0B05 := by
  unfold setReady; dsimp only; split
  · exact ⟨{ readyFlags s with state := readyCode (readyFlags s), step := 0 }, [], by simp only [List.append_nil], by simp⟩
  · exact ⟨_, [_], rfl, by simp⟩

theorem evalReady_spec (s : State) : ∃ (r : Rst) (l : List Record),
    evalReady s = { s with rst := r, err := { s.err with raised := s.err.raised ++ l } } ∧ ∀ x ∈ l, x.code = 0x0B05 := by
  unfold evalReady; split
  · exact setReady_spec s
  · exact ⟨s.rst, [], by simp, by simp⟩

/-- Judging the tolerance may set REPRO.RUN.time and changes nothing else. -/
theorem checkTol_spec (s : State) : ∃ p : Repro, checkTol s = { s with repro := p } := by
  unfold checkTol; split
  · exact ⟨_, rfl⟩
  · exact ⟨s.repro, rfl⟩

/-- Entry to drift or slewing: the state, lost_tol, one TIME_TOLERANCE, and what follows for the ready state. -/
theorem loseTol_spec (st : TimeState) (s : State) : ∃ (p : Repro) (q : Rst) (r : Record) (l : List Record),
    loseTol st s = { s with time := { s.time with st := st, lostTol := true }, repro := p, rst := q,
                            err := { s.err with raised := s.err.raised ++ r :: l } } ∧
    r.code = 0x0101 ∧ r.grain = s.now ∧ ∀ x ∈ l, x.code = 0x0B05 := by
  unfold loseTol; dsimp only
  obtain ⟨r, hr, h1, -, h2, -⟩ := raise_spec 0x0101 0
    (timeStatus { s with time := { s.time with st := st, lostTol := true } }) 0 0 0
    { s with time := { s.time with st := st, lostTol := true } }
  rw [hr]
  obtain ⟨p, hp⟩ := checkTol_spec { s with time := { s.time with st := st, lostTol := true },
                                           err := { s.err with raised := s.err.raised ++ [r] } }
  rw [hp]
  obtain ⟨q, l, hq, hl⟩ := evalReady_spec { s with time := { s.time with st := st, lostTol := true }, repro := p,
                                                   err := { s.err with raised := s.err.raised ++ [r] } }
  rw [hq]
  exact ⟨p, q, r, l, by simp, h1, h2, hl⟩

theorem ite_same_or {α : Type} (c : Prop) [Decidable c] (s y : α) (P : α → Prop) (h : P y) :
    (if c then s else y) = s ∨ P (if c then s else y) := by
  split
  · exact .inl rfl
  · exact .inr h

/-- How a flag of a tiller is reported: at once, later, or not again. -/
theorem flagReport_spec (key b : Nat) (u : State) : ∃ (c : Cut) (x : Err),
    (match u.cut.flagEvent, u.cut.flagNew with
      | none, none =>
        let v := raise 0x0201 (tillerEngine key) b 0 0 0 u
        { v with cut := { v.cut with flagEvent := some v.cut.sheaf } }
      | some _, none => { u with cut := { u.cut with flagNew := some (tillerEngine key, b) } }
      | _, some _ => u) = { u with cut := c, err := x } := by
  split
  · obtain ⟨r, hr, -⟩ := raise_spec 0x0201 (tillerEngine key) b 0 0 0 u
    dsimp only; rw [hr]; exact ⟨_, _, rfl⟩
  · exact ⟨_, u.err, rfl⟩
  · exact ⟨u.cut, u.err, rfl⟩

/-- Setting a flag of a tiller changes that tiller, and may raise TILLER_FLAG or note it for later. -/
theorem setFlag_spec (key b : Nat) (s : State) : setFlag key b s = s ∨ ∃ (f : Tiller → Tiller) (c : Cut) (x : Err),
    setFlag key b s = { s with tillers := tabMod s.tillers key {} f, cut := c, err := x } := by
  let f : Tiller → Tiller := fun t => match b with
    | 0 => { t with lowLoss := true } | 1 => { t with highClamp := true } | 2 => { t with anchorMis := true }
    | 3 => { t with selRange := true } | 4 => { t with dataError := true } | _ => { t with invalid := true }
  obtain ⟨c, x, hx⟩ := flagReport_spec key b (s.modTiller key f)
  unfold setFlag; dsimp only
  refine ite_same_or _ s _ (fun u => ∃ (f : Tiller → Tiller) (c : Cut) (x : Err),
    u = { s with tillers := tabMod s.tillers key {} f, cut := c, err := x }) ⟨f, c, x, ?_⟩
  exact hx

/-- A reply with another status than 0x0501 changes the session alone. -/
theorem sendReply_spec (c : CmdRef) (status : Nat) (last : Bool) (payload : List (BitVec 8)) (s : State)
    (h : status ≠ 0x0501) : ∃ y, sendReply c status last payload s = { s with yuley := y } := by
  unfold sendReply; rw [if_neg h]; dsimp only; split <;> exact ⟨_, rfl⟩

/-- A command that completes with another status than 0x0501 changes the session alone. -/
theorem finish_spec (c : CmdRef) (status : Nat) (payload : List (BitVec 8)) (s : State) (h : status ≠ 0x0501) :
    ∃ y, finish c status payload s = { s with yuley := y } := by
  unfold finish; split
  · split
    · exact ⟨_, rfl⟩
    · obtain ⟨y, hy⟩ := sendReply_spec c status true payload s h
      rw [hy]; exact ⟨_, rfl⟩
  · exact ⟨s.yuley, rfl⟩

theorem finishes_spec (cs : List CmdRef) (status : Nat) (payload : List (BitVec 8)) (s : State) (h : status ≠ 0x0501) :
    ∃ y, cs.foldl (fun s c => finish c status payload s) s = { s with yuley := y } := by
  induction cs generalizing s with
  | nil => exact ⟨s.yuley, rfl⟩
  | cons c cs ih =>
    obtain ⟨y, hy⟩ := finish_spec c status payload s h
    obtain ⟨z, hz⟩ := ih { s with yuley := y }
    exact ⟨z, by rw [List.foldl_cons, hy, hz]⟩

/-- What waits for a pause completes; the run's record keeps everything else. -/
theorem endPauses_spec (status : Nat) (s : State) (h : status ≠ 0x0501) :
    ∃ y, endPauses status s =
      { s with cut := { s.cut with pauseCmds := [], pauseMark := none, pausePend := false }, yuley := y } := by
  unfold endPauses finishAll
  exact finishes_spec s.cut.pauseCmds status []
    { s with cut := { s.cut with pauseCmds := [], pauseMark := none, pausePend := false } } h

/-- What a run has collected is raised: OVERRUN and TILLER_FLAG alone, and nothing else changes. -/
theorem flushRun_spec (s : State) : ∃ (n : Bool) (e : Option Nat) (f : Option (Nat × Nat)) (g : Option Nat) (l : List Record),
    flushRun s = { s with cut := { s.cut with ovrNew := n, ovrEvent := e, flagNew := f, flagEvent := g },
                          err := { s.err with raised := s.err.raised ++ l } } := by
  have hr : ∀ u : State, ∃ (f : Option (Nat × Nat)) (g : Option Nat) (l : List Record),
      raiseFlag u = { u with cut := { u.cut with flagNew := f, flagEvent := g },
                             err := { u.err with raised := u.err.raised ++ l } } := by
    intro u; unfold raiseFlag; split
    · exact ⟨u.cut.flagNew, u.cut.flagEvent, [], by simp⟩
    · exact ⟨_, _, [_], rfl⟩
  unfold flushRun; dsimp only; split
  · obtain ⟨f, g, l, h⟩ := hr (raiseOverrun s)
    rw [h]
    exact ⟨false, some s.cut.sheaf, f, g, _ :: l, by simp only [raiseOverrun, raise, List.append_assoc]; rfl⟩
  · obtain ⟨f, g, l, h⟩ := hr s
    rw [h]; exact ⟨s.cut.ovrNew, s.cut.ovrEvent, f, g, l, rfl⟩

end Sys2Proof.Machine
end

