-- ==== Sys2Proof/Laws/State.lean ====
section
/-! SUPPORT. What each named update of a state changes: the record it names, and no other field. -/

namespace Sys2Proof.Machine

variable (s : State)

/-! ### An engine is replaced -/

@[simp] theorem State.setEngine_pending (e : Nat) (v : Engine) : (s.setEngine e v).pending = s.pending := rfl
@[simp] theorem State.setEngine_free (e : Nat) (v : Engine) : (s.setEngine e v).free = s.free := rfl
@[simp] theorem State.setEngine_time (e : Nat) (v : Engine) : (s.setEngine e v).time = s.time := rfl
@[simp] theorem State.setEngine_cut (e : Nat) (v : Engine) : (s.setEngine e v).cut = s.cut := rfl
@[simp] theorem State.setEngine_repro (e : Nat) (v : Engine) : (s.setEngine e v).repro = s.repro := rfl
@[simp] theorem State.setEngine_tillers (e : Nat) (v : Engine) : (s.setEngine e v).tillers = s.tillers := rfl
@[simp] theorem State.setEngine_localStore (e : Nat) (v : Engine) : (s.setEngine e v).localStore = s.localStore := rfl
@[simp] theorem State.setEngine_crib (e : Nat) (v : Engine) : (s.setEngine e v).crib = s.crib := rfl
@[simp] theorem State.setEngine_cribErr (e : Nat) (v : Engine) : (s.setEngine e v).cribErr = s.cribErr := rfl
@[simp] theorem State.setEngine_writeback (e : Nat) (v : Engine) : (s.setEngine e v).writeback = s.writeback := rfl
@[simp] theorem State.setEngine_parts (e : Nat) (v : Engine) : (s.setEngine e v).parts = s.parts := rfl
@[simp] theorem State.setEngine_floor (e : Nat) (v : Engine) : (s.setEngine e v).floor = s.floor := rfl
@[simp] theorem State.setEngine_cstacks (e : Nat) (v : Engine) : (s.setEngine e v).cstacks = s.cstacks := rfl
@[simp] theorem State.setEngine_meshes (e : Nat) (v : Engine) : (s.setEngine e v).meshes = s.meshes := rfl
@[simp] theorem State.setEngine_sill (e : Nat) (v : Engine) : (s.setEngine e v).sill = s.sill := rfl
@[simp] theorem State.setEngine_hbm (e : Nat) (v : Engine) : (s.setEngine e v).hbm = s.hbm := rfl
@[simp] theorem State.setEngine_rails (e : Nat) (v : Engine) : (s.setEngine e v).rails = s.rails := rfl
@[simp] theorem State.setEngine_railTop (e : Nat) (v : Engine) : (s.setEngine e v).railTop = s.railTop := rfl
@[simp] theorem State.setEngine_opt (e : Nat) (v : Engine) : (s.setEngine e v).opt = s.opt := rfl
@[simp] theorem State.setEngine_fab (e : Nat) (v : Engine) : (s.setEngine e v).fab = s.fab := rfl
@[simp] theorem State.setEngine_col (e : Nat) (v : Engine) : (s.setEngine e v).col = s.col := rfl
@[simp] theorem State.setEngine_yuley (e : Nat) (v : Engine) : (s.setEngine e v).yuley = s.yuley := rfl
@[simp] theorem State.setEngine_procs (e : Nat) (v : Engine) : (s.setEngine e v).procs = s.procs := rfl
@[simp] theorem State.setEngine_boxes (e : Nat) (v : Engine) : (s.setEngine e v).boxes = s.boxes := rfl
@[simp] theorem State.setEngine_resend (e : Nat) (v : Engine) : (s.setEngine e v).resend = s.resend := rfl
@[simp] theorem State.setEngine_clk (e : Nat) (v : Engine) : (s.setEngine e v).clk = s.clk := rfl
@[simp] theorem State.setEngine_pwr (e : Nat) (v : Engine) : (s.setEngine e v).pwr = s.pwr := rfl
@[simp] theorem State.setEngine_rst (e : Nat) (v : Engine) : (s.setEngine e v).rst = s.rst := rfl
@[simp] theorem State.setEngine_sec (e : Nat) (v : Engine) : (s.setEngine e v).sec = s.sec := rfl
@[simp] theorem State.setEngine_sup (e : Nat) (v : Engine) : (s.setEngine e v).sup = s.sup := rfl
@[simp] theorem State.setEngine_dbg (e : Nat) (v : Engine) : (s.setEngine e v).dbg = s.dbg := rfl
@[simp] theorem State.setEngine_err (e : Nat) (v : Engine) : (s.setEngine e v).err = s.err := rfl
@[simp] theorem State.setEngine_arb (e : Nat) (v : Engine) : (s.setEngine e v).arb = s.arb := rfl
@[simp] theorem State.setEngine_get (e : Nat) (v : Engine) : (s.setEngine e v).engine e = v :=
  tabGet_tabPut_same ..
theorem State.setEngine_get_other (e j : Nat) (v : Engine) (h : j ≠ e) : (s.setEngine e v).engine j = s.engine j :=
  tabGet_tabPut_other _ _ _ _ _ h

/-! ### modEngine -/

@[simp] theorem State.modEngine_pending (k : Nat) (f : Engine → Engine) : (s.modEngine k f).pending = s.pending := rfl
@[simp] theorem State.modEngine_free (k : Nat) (f : Engine → Engine) : (s.modEngine k f).free = s.free := rfl
@[simp] theorem State.modEngine_time (k : Nat) (f : Engine → Engine) : (s.modEngine k f).time = s.time := rfl
@[simp] theorem State.modEngine_cut (k : Nat) (f : Engine → Engine) : (s.modEngine k f).cut = s.cut := rfl
@[simp] theorem State.modEngine_repro (k : Nat) (f : Engine → Engine) : (s.modEngine k f).repro = s.repro := rfl
@[simp] theorem State.modEngine_tillers (k : Nat) (f : Engine → Engine) : (s.modEngine k f).tillers = s.tillers := rfl
@[simp] theorem State.modEngine_localStore (k : Nat) (f : Engine → Engine) : (s.modEngine k f).localStore = s.localStore := rfl
@[simp] theorem State.modEngine_crib (k : Nat) (f : Engine → Engine) : (s.modEngine k f).crib = s.crib := rfl
@[simp] theorem State.modEngine_cribErr (k : Nat) (f : Engine → Engine) : (s.modEngine k f).cribErr = s.cribErr := rfl
@[simp] theorem State.modEngine_writeback (k : Nat) (f : Engine → Engine) : (s.modEngine k f).writeback = s.writeback := rfl
@[simp] theorem State.modEngine_parts (k : Nat) (f : Engine → Engine) : (s.modEngine k f).parts = s.parts := rfl
@[simp] theorem State.modEngine_floor (k : Nat) (f : Engine → Engine) : (s.modEngine k f).floor = s.floor := rfl
@[simp] theorem State.modEngine_cstacks (k : Nat) (f : Engine → Engine) : (s.modEngine k f).cstacks = s.cstacks := rfl
@[simp] theorem State.modEngine_meshes (k : Nat) (f : Engine → Engine) : (s.modEngine k f).meshes = s.meshes := rfl
@[simp] theorem State.modEngine_sill (k : Nat) (f : Engine → Engine) : (s.modEngine k f).sill = s.sill := rfl
@[simp] theorem State.modEngine_hbm (k : Nat) (f : Engine → Engine) : (s.modEngine k f).hbm = s.hbm := rfl
@[simp] theorem State.modEngine_rails (k : Nat) (f : Engine → Engine) : (s.modEngine k f).rails = s.rails := rfl
@[simp] theorem State.modEngine_railTop (k : Nat) (f : Engine → Engine) : (s.modEngine k f).railTop = s.railTop := rfl
@[simp] theorem State.modEngine_opt (k : Nat) (f : Engine → Engine) : (s.modEngine k f).opt = s.opt := rfl
@[simp] theorem State.modEngine_fab (k : Nat) (f : Engine → Engine) : (s.modEngine k f).fab = s.fab := rfl
@[simp] theorem State.modEngine_col (k : Nat) (f : Engine → Engine) : (s.modEngine k f).col = s.col := rfl
@[simp] theorem State.modEngine_yuley (k : Nat) (f : Engine → Engine) : (s.modEngine k f).yuley = s.yuley := rfl
@[simp] theorem State.modEngine_procs (k : Nat) (f : Engine → Engine) : (s.modEngine k f).procs = s.procs := rfl
@[simp] theorem State.modEngine_boxes (k : Nat) (f : Engine → Engine) : (s.modEngine k f).boxes = s.boxes := rfl
@[simp] theorem State.modEngine_resend (k : Nat) (f : Engine → Engine) : (s.modEngine k f).resend = s.resend := rfl
@[simp] theorem State.modEngine_clk (k : Nat) (f : Engine → Engine) : (s.modEngine k f).clk = s.clk := rfl
@[simp] theorem State.modEngine_pwr (k : Nat) (f : Engine → Engine) : (s.modEngine k f).pwr = s.pwr := rfl
@[simp] theorem State.modEngine_rst (k : Nat) (f : Engine → Engine) : (s.modEngine k f).rst = s.rst := rfl
@[simp] theorem State.modEngine_sec (k : Nat) (f : Engine → Engine) : (s.modEngine k f).sec = s.sec := rfl
@[simp] theorem State.modEngine_sup (k : Nat) (f : Engine → Engine) : (s.modEngine k f).sup = s.sup := rfl
@[simp] theorem State.modEngine_dbg (k : Nat) (f : Engine → Engine) : (s.modEngine k f).dbg = s.dbg := rfl
@[simp] theorem State.modEngine_err (k : Nat) (f : Engine → Engine) : (s.modEngine k f).err = s.err := rfl
@[simp] theorem State.modEngine_arb (k : Nat) (f : Engine → Engine) : (s.modEngine k f).arb = s.arb := rfl
@[simp] theorem State.modEngine_get (k : Nat) (f : Engine → Engine) : (s.modEngine k f).engine k = f (s.engine k) :=
  tabGet_tabPut_same ..
theorem State.modEngine_get_other (k j : Nat) (f : Engine → Engine) (h : j ≠ k) : (s.modEngine k f).engine j = s.engine j :=
  tabGet_tabPut_other _ _ _ _ _ h

/-! ### modTiller -/

@[simp] theorem State.modTiller_pending (k : Nat) (f : Tiller → Tiller) : (s.modTiller k f).pending = s.pending := rfl
@[simp] theorem State.modTiller_free (k : Nat) (f : Tiller → Tiller) : (s.modTiller k f).free = s.free := rfl
@[simp] theorem State.modTiller_time (k : Nat) (f : Tiller → Tiller) : (s.modTiller k f).time = s.time := rfl
@[simp] theorem State.modTiller_cut (k : Nat) (f : Tiller → Tiller) : (s.modTiller k f).cut = s.cut := rfl
@[simp] theorem State.modTiller_repro (k : Nat) (f : Tiller → Tiller) : (s.modTiller k f).repro = s.repro := rfl
@[simp] theorem State.modTiller_engines (k : Nat) (f : Tiller → Tiller) : (s.modTiller k f).engines = s.engines := rfl
@[simp] theorem State.modTiller_localStore (k : Nat) (f : Tiller → Tiller) : (s.modTiller k f).localStore = s.localStore := rfl
@[simp] theorem State.modTiller_crib (k : Nat) (f : Tiller → Tiller) : (s.modTiller k f).crib = s.crib := rfl
@[simp] theorem State.modTiller_cribErr (k : Nat) (f : Tiller → Tiller) : (s.modTiller k f).cribErr = s.cribErr := rfl
@[simp] theorem State.modTiller_writeback (k : Nat) (f : Tiller → Tiller) : (s.modTiller k f).writeback = s.writeback := rfl
@[simp] theorem State.modTiller_parts (k : Nat) (f : Tiller → Tiller) : (s.modTiller k f).parts = s.parts := rfl
@[simp] theorem State.modTiller_floor (k : Nat) (f : Tiller → Tiller) : (s.modTiller k f).floor = s.floor := rfl
@[simp] theorem State.modTiller_cstacks (k : Nat) (f : Tiller → Tiller) : (s.modTiller k f).cstacks = s.cstacks := rfl
@[simp] theorem State.modTiller_meshes (k : Nat) (f : Tiller → Tiller) : (s.modTiller k f).meshes = s.meshes := rfl
@[simp] theorem State.modTiller_sill (k : Nat) (f : Tiller → Tiller) : (s.modTiller k f).sill = s.sill := rfl
@[simp] theorem State.modTiller_hbm (k : Nat) (f : Tiller → Tiller) : (s.modTiller k f).hbm = s.hbm := rfl
@[simp] theorem State.modTiller_rails (k : Nat) (f : Tiller → Tiller) : (s.modTiller k f).rails = s.rails := rfl
@[simp] theorem State.modTiller_railTop (k : Nat) (f : Tiller → Tiller) : (s.modTiller k f).railTop = s.railTop := rfl
@[simp] theorem State.modTiller_opt (k : Nat) (f : Tiller → Tiller) : (s.modTiller k f).opt = s.opt := rfl
@[simp] theorem State.modTiller_fab (k : Nat) (f : Tiller → Tiller) : (s.modTiller k f).fab = s.fab := rfl
@[simp] theorem State.modTiller_col (k : Nat) (f : Tiller → Tiller) : (s.modTiller k f).col = s.col := rfl
@[simp] theorem State.modTiller_yuley (k : Nat) (f : Tiller → Tiller) : (s.modTiller k f).yuley = s.yuley := rfl
@[simp] theorem State.modTiller_procs (k : Nat) (f : Tiller → Tiller) : (s.modTiller k f).procs = s.procs := rfl
@[simp] theorem State.modTiller_boxes (k : Nat) (f : Tiller → Tiller) : (s.modTiller k f).boxes = s.boxes := rfl
@[simp] theorem State.modTiller_resend (k : Nat) (f : Tiller → Tiller) : (s.modTiller k f).resend = s.resend := rfl
@[simp] theorem State.modTiller_clk (k : Nat) (f : Tiller → Tiller) : (s.modTiller k f).clk = s.clk := rfl
@[simp] theorem State.modTiller_pwr (k : Nat) (f : Tiller → Tiller) : (s.modTiller k f).pwr = s.pwr := rfl
@[simp] theorem State.modTiller_rst (k : Nat) (f : Tiller → Tiller) : (s.modTiller k f).rst = s.rst := rfl
@[simp] theorem State.modTiller_sec (k : Nat) (f : Tiller → Tiller) : (s.modTiller k f).sec = s.sec := rfl
@[simp] theorem State.modTiller_sup (k : Nat) (f : Tiller → Tiller) : (s.modTiller k f).sup = s.sup := rfl
@[simp] theorem State.modTiller_dbg (k : Nat) (f : Tiller → Tiller) : (s.modTiller k f).dbg = s.dbg := rfl
@[simp] theorem State.modTiller_err (k : Nat) (f : Tiller → Tiller) : (s.modTiller k f).err = s.err := rfl
@[simp] theorem State.modTiller_arb (k : Nat) (f : Tiller → Tiller) : (s.modTiller k f).arb = s.arb := rfl
@[simp] theorem State.modTiller_get (k : Nat) (f : Tiller → Tiller) : (s.modTiller k f).tiller k = f (s.tiller k) :=
  tabGet_tabMod_same ..
theorem State.modTiller_get_other (k j : Nat) (f : Tiller → Tiller) (h : j ≠ k) : (s.modTiller k f).tiller j = s.tiller j :=
  tabGet_tabMod_other _ _ _ _ _ h

/-! ### modPart -/

@[simp] theorem State.modPart_pending (k : Nat) (f : Partition → Partition) : (s.modPart k f).pending = s.pending := rfl
@[simp] theorem State.modPart_free (k : Nat) (f : Partition → Partition) : (s.modPart k f).free = s.free := rfl
@[simp] theorem State.modPart_time (k : Nat) (f : Partition → Partition) : (s.modPart k f).time = s.time := rfl
@[simp] theorem State.modPart_cut (k : Nat) (f : Partition → Partition) : (s.modPart k f).cut = s.cut := rfl
@[simp] theorem State.modPart_repro (k : Nat) (f : Partition → Partition) : (s.modPart k f).repro = s.repro := rfl
@[simp] theorem State.modPart_engines (k : Nat) (f : Partition → Partition) : (s.modPart k f).engines = s.engines := rfl
@[simp] theorem State.modPart_tillers (k : Nat) (f : Partition → Partition) : (s.modPart k f).tillers = s.tillers := rfl
@[simp] theorem State.modPart_localStore (k : Nat) (f : Partition → Partition) : (s.modPart k f).localStore = s.localStore := rfl
@[simp] theorem State.modPart_crib (k : Nat) (f : Partition → Partition) : (s.modPart k f).crib = s.crib := rfl
@[simp] theorem State.modPart_cribErr (k : Nat) (f : Partition → Partition) : (s.modPart k f).cribErr = s.cribErr := rfl
@[simp] theorem State.modPart_writeback (k : Nat) (f : Partition → Partition) : (s.modPart k f).writeback = s.writeback := rfl
@[simp] theorem State.modPart_floor (k : Nat) (f : Partition → Partition) : (s.modPart k f).floor = s.floor := rfl
@[simp] theorem State.modPart_cstacks (k : Nat) (f : Partition → Partition) : (s.modPart k f).cstacks = s.cstacks := rfl
@[simp] theorem State.modPart_meshes (k : Nat) (f : Partition → Partition) : (s.modPart k f).meshes = s.meshes := rfl
@[simp] theorem State.modPart_sill (k : Nat) (f : Partition → Partition) : (s.modPart k f).sill = s.sill := rfl
@[simp] theorem State.modPart_hbm (k : Nat) (f : Partition → Partition) : (s.modPart k f).hbm = s.hbm := rfl
@[simp] theorem State.modPart_rails (k : Nat) (f : Partition → Partition) : (s.modPart k f).rails = s.rails := rfl
@[simp] theorem State.modPart_railTop (k : Nat) (f : Partition → Partition) : (s.modPart k f).railTop = s.railTop := rfl
@[simp] theorem State.modPart_opt (k : Nat) (f : Partition → Partition) : (s.modPart k f).opt = s.opt := rfl
@[simp] theorem State.modPart_fab (k : Nat) (f : Partition → Partition) : (s.modPart k f).fab = s.fab := rfl
@[simp] theorem State.modPart_col (k : Nat) (f : Partition → Partition) : (s.modPart k f).col = s.col := rfl
@[simp] theorem State.modPart_yuley (k : Nat) (f : Partition → Partition) : (s.modPart k f).yuley = s.yuley := rfl
@[simp] theorem State.modPart_procs (k : Nat) (f : Partition → Partition) : (s.modPart k f).procs = s.procs := rfl
@[simp] theorem State.modPart_boxes (k : Nat) (f : Partition → Partition) : (s.modPart k f).boxes = s.boxes := rfl
@[simp] theorem State.modPart_resend (k : Nat) (f : Partition → Partition) : (s.modPart k f).resend = s.resend := rfl
@[simp] theorem State.modPart_clk (k : Nat) (f : Partition → Partition) : (s.modPart k f).clk = s.clk := rfl
@[simp] theorem State.modPart_pwr (k : Nat) (f : Partition → Partition) : (s.modPart k f).pwr = s.pwr := rfl
@[simp] theorem State.modPart_rst (k : Nat) (f : Partition → Partition) : (s.modPart k f).rst = s.rst := rfl
@[simp] theorem State.modPart_sec (k : Nat) (f : Partition → Partition) : (s.modPart k f).sec = s.sec := rfl
@[simp] theorem State.modPart_sup (k : Nat) (f : Partition → Partition) : (s.modPart k f).sup = s.sup := rfl
@[simp] theorem State.modPart_dbg (k : Nat) (f : Partition → Partition) : (s.modPart k f).dbg = s.dbg := rfl
@[simp] theorem State.modPart_err (k : Nat) (f : Partition → Partition) : (s.modPart k f).err = s.err := rfl
@[simp] theorem State.modPart_arb (k : Nat) (f : Partition → Partition) : (s.modPart k f).arb = s.arb := rfl
@[simp] theorem State.modPart_get (k : Nat) (f : Partition → Partition) : (s.modPart k f).part k = f (s.part k) :=
  tabGet_tabMod_same ..
theorem State.modPart_get_other (k j : Nat) (f : Partition → Partition) (h : j ≠ k) : (s.modPart k f).part j = s.part j :=
  tabGet_tabMod_other _ _ _ _ _ h

/-! ### modFloor -/

@[simp] theorem State.modFloor_pending (k : Nat) (f : DieFloor → DieFloor) : (s.modFloor k f).pending = s.pending := rfl
@[simp] theorem State.modFloor_free (k : Nat) (f : DieFloor → DieFloor) : (s.modFloor k f).free = s.free := rfl
@[simp] theorem State.modFloor_time (k : Nat) (f : DieFloor → DieFloor) : (s.modFloor k f).time = s.time := rfl
@[simp] theorem State.modFloor_cut (k : Nat) (f : DieFloor → DieFloor) : (s.modFloor k f).cut = s.cut := rfl
@[simp] theorem State.modFloor_repro (k : Nat) (f : DieFloor → DieFloor) : (s.modFloor k f).repro = s.repro := rfl
@[simp] theorem State.modFloor_engines (k : Nat) (f : DieFloor → DieFloor) : (s.modFloor k f).engines = s.engines := rfl
@[simp] theorem State.modFloor_tillers (k : Nat) (f : DieFloor → DieFloor) : (s.modFloor k f).tillers = s.tillers := rfl
@[simp] theorem State.modFloor_localStore (k : Nat) (f : DieFloor → DieFloor) : (s.modFloor k f).localStore = s.localStore := rfl
@[simp] theorem State.modFloor_crib (k : Nat) (f : DieFloor → DieFloor) : (s.modFloor k f).crib = s.crib := rfl
@[simp] theorem State.modFloor_cribErr (k : Nat) (f : DieFloor → DieFloor) : (s.modFloor k f).cribErr = s.cribErr := rfl
@[simp] theorem State.modFloor_writeback (k : Nat) (f : DieFloor → DieFloor) : (s.modFloor k f).writeback = s.writeback := rfl
@[simp] theorem State.modFloor_parts (k : Nat) (f : DieFloor → DieFloor) : (s.modFloor k f).parts = s.parts := rfl
@[simp] theorem State.modFloor_cstacks (k : Nat) (f : DieFloor → DieFloor) : (s.modFloor k f).cstacks = s.cstacks := rfl
@[simp] theorem State.modFloor_meshes (k : Nat) (f : DieFloor → DieFloor) : (s.modFloor k f).meshes = s.meshes := rfl
@[simp] theorem State.modFloor_sill (k : Nat) (f : DieFloor → DieFloor) : (s.modFloor k f).sill = s.sill := rfl
@[simp] theorem State.modFloor_hbm (k : Nat) (f : DieFloor → DieFloor) : (s.modFloor k f).hbm = s.hbm := rfl
@[simp] theorem State.modFloor_rails (k : Nat) (f : DieFloor → DieFloor) : (s.modFloor k f).rails = s.rails := rfl
@[simp] theorem State.modFloor_railTop (k : Nat) (f : DieFloor → DieFloor) : (s.modFloor k f).railTop = s.railTop := rfl
@[simp] theorem State.modFloor_opt (k : Nat) (f : DieFloor → DieFloor) : (s.modFloor k f).opt = s.opt := rfl
@[simp] theorem State.modFloor_fab (k : Nat) (f : DieFloor → DieFloor) : (s.modFloor k f).fab = s.fab := rfl
@[simp] theorem State.modFloor_col (k : Nat) (f : DieFloor → DieFloor) : (s.modFloor k f).col = s.col := rfl
@[simp] theorem State.modFloor_yuley (k : Nat) (f : DieFloor → DieFloor) : (s.modFloor k f).yuley = s.yuley := rfl
@[simp] theorem State.modFloor_procs (k : Nat) (f : DieFloor → DieFloor) : (s.modFloor k f).procs = s.procs := rfl
@[simp] theorem State.modFloor_boxes (k : Nat) (f : DieFloor → DieFloor) : (s.modFloor k f).boxes = s.boxes := rfl
@[simp] theorem State.modFloor_resend (k : Nat) (f : DieFloor → DieFloor) : (s.modFloor k f).resend = s.resend := rfl
@[simp] theorem State.modFloor_clk (k : Nat) (f : DieFloor → DieFloor) : (s.modFloor k f).clk = s.clk := rfl
@[simp] theorem State.modFloor_pwr (k : Nat) (f : DieFloor → DieFloor) : (s.modFloor k f).pwr = s.pwr := rfl
@[simp] theorem State.modFloor_rst (k : Nat) (f : DieFloor → DieFloor) : (s.modFloor k f).rst = s.rst := rfl
@[simp] theorem State.modFloor_sec (k : Nat) (f : DieFloor → DieFloor) : (s.modFloor k f).sec = s.sec := rfl
@[simp] theorem State.modFloor_sup (k : Nat) (f : DieFloor → DieFloor) : (s.modFloor k f).sup = s.sup := rfl
@[simp] theorem State.modFloor_dbg (k : Nat) (f : DieFloor → DieFloor) : (s.modFloor k f).dbg = s.dbg := rfl
@[simp] theorem State.modFloor_err (k : Nat) (f : DieFloor → DieFloor) : (s.modFloor k f).err = s.err := rfl
@[simp] theorem State.modFloor_arb (k : Nat) (f : DieFloor → DieFloor) : (s.modFloor k f).arb = s.arb := rfl
@[simp] theorem State.modFloor_get (k : Nat) (f : DieFloor → DieFloor) : (s.modFloor k f).dieFloor k = f (s.dieFloor k) :=
  tabGet_tabMod_same ..
theorem State.modFloor_get_other (k j : Nat) (f : DieFloor → DieFloor) (h : j ≠ k) : (s.modFloor k f).dieFloor j = s.dieFloor j :=
  tabGet_tabMod_other _ _ _ _ _ h

/-! ### modStack -/

@[simp] theorem State.modStack_pending (k : Nat) (f : Stack → Stack) : (s.modStack k f).pending = s.pending := rfl
@[simp] theorem State.modStack_free (k : Nat) (f : Stack → Stack) : (s.modStack k f).free = s.free := rfl
@[simp] theorem State.modStack_time (k : Nat) (f : Stack → Stack) : (s.modStack k f).time = s.time := rfl
@[simp] theorem State.modStack_cut (k : Nat) (f : Stack → Stack) : (s.modStack k f).cut = s.cut := rfl
@[simp] theorem State.modStack_repro (k : Nat) (f : Stack → Stack) : (s.modStack k f).repro = s.repro := rfl
@[simp] theorem State.modStack_engines (k : Nat) (f : Stack → Stack) : (s.modStack k f).engines = s.engines := rfl
@[simp] theorem State.modStack_tillers (k : Nat) (f : Stack → Stack) : (s.modStack k f).tillers = s.tillers := rfl
@[simp] theorem State.modStack_localStore (k : Nat) (f : Stack → Stack) : (s.modStack k f).localStore = s.localStore := rfl
@[simp] theorem State.modStack_crib (k : Nat) (f : Stack → Stack) : (s.modStack k f).crib = s.crib := rfl
@[simp] theorem State.modStack_cribErr (k : Nat) (f : Stack → Stack) : (s.modStack k f).cribErr = s.cribErr := rfl
@[simp] theorem State.modStack_writeback (k : Nat) (f : Stack → Stack) : (s.modStack k f).writeback = s.writeback := rfl
@[simp] theorem State.modStack_parts (k : Nat) (f : Stack → Stack) : (s.modStack k f).parts = s.parts := rfl
@[simp] theorem State.modStack_floor (k : Nat) (f : Stack → Stack) : (s.modStack k f).floor = s.floor := rfl
@[simp] theorem State.modStack_meshes (k : Nat) (f : Stack → Stack) : (s.modStack k f).meshes = s.meshes := rfl
@[simp] theorem State.modStack_sill (k : Nat) (f : Stack → Stack) : (s.modStack k f).sill = s.sill := rfl
@[simp] theorem State.modStack_hbm (k : Nat) (f : Stack → Stack) : (s.modStack k f).hbm = s.hbm := rfl
@[simp] theorem State.modStack_rails (k : Nat) (f : Stack → Stack) : (s.modStack k f).rails = s.rails := rfl
@[simp] theorem State.modStack_railTop (k : Nat) (f : Stack → Stack) : (s.modStack k f).railTop = s.railTop := rfl
@[simp] theorem State.modStack_opt (k : Nat) (f : Stack → Stack) : (s.modStack k f).opt = s.opt := rfl
@[simp] theorem State.modStack_fab (k : Nat) (f : Stack → Stack) : (s.modStack k f).fab = s.fab := rfl
@[simp] theorem State.modStack_col (k : Nat) (f : Stack → Stack) : (s.modStack k f).col = s.col := rfl
@[simp] theorem State.modStack_yuley (k : Nat) (f : Stack → Stack) : (s.modStack k f).yuley = s.yuley := rfl
@[simp] theorem State.modStack_procs (k : Nat) (f : Stack → Stack) : (s.modStack k f).procs = s.procs := rfl
@[simp] theorem State.modStack_boxes (k : Nat) (f : Stack → Stack) : (s.modStack k f).boxes = s.boxes := rfl
@[simp] theorem State.modStack_resend (k : Nat) (f : Stack → Stack) : (s.modStack k f).resend = s.resend := rfl
@[simp] theorem State.modStack_clk (k : Nat) (f : Stack → Stack) : (s.modStack k f).clk = s.clk := rfl
@[simp] theorem State.modStack_pwr (k : Nat) (f : Stack → Stack) : (s.modStack k f).pwr = s.pwr := rfl
@[simp] theorem State.modStack_rst (k : Nat) (f : Stack → Stack) : (s.modStack k f).rst = s.rst := rfl
@[simp] theorem State.modStack_sec (k : Nat) (f : Stack → Stack) : (s.modStack k f).sec = s.sec := rfl
@[simp] theorem State.modStack_sup (k : Nat) (f : Stack → Stack) : (s.modStack k f).sup = s.sup := rfl
@[simp] theorem State.modStack_dbg (k : Nat) (f : Stack → Stack) : (s.modStack k f).dbg = s.dbg := rfl
@[simp] theorem State.modStack_err (k : Nat) (f : Stack → Stack) : (s.modStack k f).err = s.err := rfl
@[simp] theorem State.modStack_arb (k : Nat) (f : Stack → Stack) : (s.modStack k f).arb = s.arb := rfl
@[simp] theorem State.modStack_get (k : Nat) (f : Stack → Stack) : (s.modStack k f).cstack k = f (s.cstack k) :=
  tabGet_tabMod_same ..
theorem State.modStack_get_other (k j : Nat) (f : Stack → Stack) (h : j ≠ k) : (s.modStack k f).cstack j = s.cstack j :=
  tabGet_tabMod_other _ _ _ _ _ h

/-! ### modMesh -/

@[simp] theorem State.modMesh_pending (k : Nat) (f : Mesh → Mesh) : (s.modMesh k f).pending = s.pending := rfl
@[simp] theorem State.modMesh_free (k : Nat) (f : Mesh → Mesh) : (s.modMesh k f).free = s.free := rfl
@[simp] theorem State.modMesh_time (k : Nat) (f : Mesh → Mesh) : (s.modMesh k f).time = s.time := rfl
@[simp] theorem State.modMesh_cut (k : Nat) (f : Mesh → Mesh) : (s.modMesh k f).cut = s.cut := rfl
@[simp] theorem State.modMesh_repro (k : Nat) (f : Mesh → Mesh) : (s.modMesh k f).repro = s.repro := rfl
@[simp] theorem State.modMesh_engines (k : Nat) (f : Mesh → Mesh) : (s.modMesh k f).engines = s.engines := rfl
@[simp] theorem State.modMesh_tillers (k : Nat) (f : Mesh → Mesh) : (s.modMesh k f).tillers = s.tillers := rfl
@[simp] theorem State.modMesh_localStore (k : Nat) (f : Mesh → Mesh) : (s.modMesh k f).localStore = s.localStore := rfl
@[simp] theorem State.modMesh_crib (k : Nat) (f : Mesh → Mesh) : (s.modMesh k f).crib = s.crib := rfl
@[simp] theorem State.modMesh_cribErr (k : Nat) (f : Mesh → Mesh) : (s.modMesh k f).cribErr = s.cribErr := rfl
@[simp] theorem State.modMesh_writeback (k : Nat) (f : Mesh → Mesh) : (s.modMesh k f).writeback = s.writeback := rfl
@[simp] theorem State.modMesh_parts (k : Nat) (f : Mesh → Mesh) : (s.modMesh k f).parts = s.parts := rfl
@[simp] theorem State.modMesh_floor (k : Nat) (f : Mesh → Mesh) : (s.modMesh k f).floor = s.floor := rfl
@[simp] theorem State.modMesh_cstacks (k : Nat) (f : Mesh → Mesh) : (s.modMesh k f).cstacks = s.cstacks := rfl
@[simp] theorem State.modMesh_sill (k : Nat) (f : Mesh → Mesh) : (s.modMesh k f).sill = s.sill := rfl
@[simp] theorem State.modMesh_hbm (k : Nat) (f : Mesh → Mesh) : (s.modMesh k f).hbm = s.hbm := rfl
@[simp] theorem State.modMesh_rails (k : Nat) (f : Mesh → Mesh) : (s.modMesh k f).rails = s.rails := rfl
@[simp] theorem State.modMesh_railTop (k : Nat) (f : Mesh → Mesh) : (s.modMesh k f).railTop = s.railTop := rfl
@[simp] theorem State.modMesh_opt (k : Nat) (f : Mesh → Mesh) : (s.modMesh k f).opt = s.opt := rfl
@[simp] theorem State.modMesh_fab (k : Nat) (f : Mesh → Mesh) : (s.modMesh k f).fab = s.fab := rfl
@[simp] theorem State.modMesh_col (k : Nat) (f : Mesh → Mesh) : (s.modMesh k f).col = s.col := rfl
@[simp] theorem State.modMesh_yuley (k : Nat) (f : Mesh → Mesh) : (s.modMesh k f).yuley = s.yuley := rfl
@[simp] theorem State.modMesh_procs (k : Nat) (f : Mesh → Mesh) : (s.modMesh k f).procs = s.procs := rfl
@[simp] theorem State.modMesh_boxes (k : Nat) (f : Mesh → Mesh) : (s.modMesh k f).boxes = s.boxes := rfl
@[simp] theorem State.modMesh_resend (k : Nat) (f : Mesh → Mesh) : (s.modMesh k f).resend = s.resend := rfl
@[simp] theorem State.modMesh_clk (k : Nat) (f : Mesh → Mesh) : (s.modMesh k f).clk = s.clk := rfl
@[simp] theorem State.modMesh_pwr (k : Nat) (f : Mesh → Mesh) : (s.modMesh k f).pwr = s.pwr := rfl
@[simp] theorem State.modMesh_rst (k : Nat) (f : Mesh → Mesh) : (s.modMesh k f).rst = s.rst := rfl
@[simp] theorem State.modMesh_sec (k : Nat) (f : Mesh → Mesh) : (s.modMesh k f).sec = s.sec := rfl
@[simp] theorem State.modMesh_sup (k : Nat) (f : Mesh → Mesh) : (s.modMesh k f).sup = s.sup := rfl
@[simp] theorem State.modMesh_dbg (k : Nat) (f : Mesh → Mesh) : (s.modMesh k f).dbg = s.dbg := rfl
@[simp] theorem State.modMesh_err (k : Nat) (f : Mesh → Mesh) : (s.modMesh k f).err = s.err := rfl
@[simp] theorem State.modMesh_arb (k : Nat) (f : Mesh → Mesh) : (s.modMesh k f).arb = s.arb := rfl
@[simp] theorem State.modMesh_get (k : Nat) (f : Mesh → Mesh) : (s.modMesh k f).mesh k = f (s.mesh k) :=
  tabGet_tabMod_same ..
theorem State.modMesh_get_other (k j : Nat) (f : Mesh → Mesh) (h : j ≠ k) : (s.modMesh k f).mesh j = s.mesh j :=
  tabGet_tabMod_other _ _ _ _ _ h

/-! ### modMem -/

@[simp] theorem State.modMem_pending (k : Nat) (f : MemStack → MemStack) : (s.modMem k f).pending = s.pending := rfl
@[simp] theorem State.modMem_free (k : Nat) (f : MemStack → MemStack) : (s.modMem k f).free = s.free := rfl
@[simp] theorem State.modMem_time (k : Nat) (f : MemStack → MemStack) : (s.modMem k f).time = s.time := rfl
@[simp] theorem State.modMem_cut (k : Nat) (f : MemStack → MemStack) : (s.modMem k f).cut = s.cut := rfl
@[simp] theorem State.modMem_repro (k : Nat) (f : MemStack → MemStack) : (s.modMem k f).repro = s.repro := rfl
@[simp] theorem State.modMem_engines (k : Nat) (f : MemStack → MemStack) : (s.modMem k f).engines = s.engines := rfl
@[simp] theorem State.modMem_tillers (k : Nat) (f : MemStack → MemStack) : (s.modMem k f).tillers = s.tillers := rfl
@[simp] theorem State.modMem_localStore (k : Nat) (f : MemStack → MemStack) : (s.modMem k f).localStore = s.localStore := rfl
@[simp] theorem State.modMem_crib (k : Nat) (f : MemStack → MemStack) : (s.modMem k f).crib = s.crib := rfl
@[simp] theorem State.modMem_cribErr (k : Nat) (f : MemStack → MemStack) : (s.modMem k f).cribErr = s.cribErr := rfl
@[simp] theorem State.modMem_writeback (k : Nat) (f : MemStack → MemStack) : (s.modMem k f).writeback = s.writeback := rfl
@[simp] theorem State.modMem_parts (k : Nat) (f : MemStack → MemStack) : (s.modMem k f).parts = s.parts := rfl
@[simp] theorem State.modMem_floor (k : Nat) (f : MemStack → MemStack) : (s.modMem k f).floor = s.floor := rfl
@[simp] theorem State.modMem_cstacks (k : Nat) (f : MemStack → MemStack) : (s.modMem k f).cstacks = s.cstacks := rfl
@[simp] theorem State.modMem_meshes (k : Nat) (f : MemStack → MemStack) : (s.modMem k f).meshes = s.meshes := rfl
@[simp] theorem State.modMem_sill (k : Nat) (f : MemStack → MemStack) : (s.modMem k f).sill = s.sill := rfl
@[simp] theorem State.modMem_rails (k : Nat) (f : MemStack → MemStack) : (s.modMem k f).rails = s.rails := rfl
@[simp] theorem State.modMem_railTop (k : Nat) (f : MemStack → MemStack) : (s.modMem k f).railTop = s.railTop := rfl
@[simp] theorem State.modMem_opt (k : Nat) (f : MemStack → MemStack) : (s.modMem k f).opt = s.opt := rfl
@[simp] theorem State.modMem_fab (k : Nat) (f : MemStack → MemStack) : (s.modMem k f).fab = s.fab := rfl
@[simp] theorem State.modMem_col (k : Nat) (f : MemStack → MemStack) : (s.modMem k f).col = s.col := rfl
@[simp] theorem State.modMem_yuley (k : Nat) (f : MemStack → MemStack) : (s.modMem k f).yuley = s.yuley := rfl
@[simp] theorem State.modMem_procs (k : Nat) (f : MemStack → MemStack) : (s.modMem k f).procs = s.procs := rfl
@[simp] theorem State.modMem_boxes (k : Nat) (f : MemStack → MemStack) : (s.modMem k f).boxes = s.boxes := rfl
@[simp] theorem State.modMem_resend (k : Nat) (f : MemStack → MemStack) : (s.modMem k f).resend = s.resend := rfl
@[simp] theorem State.modMem_clk (k : Nat) (f : MemStack → MemStack) : (s.modMem k f).clk = s.clk := rfl
@[simp] theorem State.modMem_pwr (k : Nat) (f : MemStack → MemStack) : (s.modMem k f).pwr = s.pwr := rfl
@[simp] theorem State.modMem_rst (k : Nat) (f : MemStack → MemStack) : (s.modMem k f).rst = s.rst := rfl
@[simp] theorem State.modMem_sec (k : Nat) (f : MemStack → MemStack) : (s.modMem k f).sec = s.sec := rfl
@[simp] theorem State.modMem_sup (k : Nat) (f : MemStack → MemStack) : (s.modMem k f).sup = s.sup := rfl
@[simp] theorem State.modMem_dbg (k : Nat) (f : MemStack → MemStack) : (s.modMem k f).dbg = s.dbg := rfl
@[simp] theorem State.modMem_err (k : Nat) (f : MemStack → MemStack) : (s.modMem k f).err = s.err := rfl
@[simp] theorem State.modMem_arb (k : Nat) (f : MemStack → MemStack) : (s.modMem k f).arb = s.arb := rfl
@[simp] theorem State.modMem_get (k : Nat) (f : MemStack → MemStack) : (s.modMem k f).mstack k = f (s.mstack k) :=
  tabGet_tabMod_same ..
theorem State.modMem_get_other (k j : Nat) (f : MemStack → MemStack) (h : j ≠ k) : (s.modMem k f).mstack j = s.mstack j :=
  tabGet_tabMod_other _ _ _ _ _ h

/-! ### modRail -/

@[simp] theorem State.modRail_pending (k : Nat) (f : Rail → Rail) : (s.modRail k f).pending = s.pending := rfl
@[simp] theorem State.modRail_free (k : Nat) (f : Rail → Rail) : (s.modRail k f).free = s.free := rfl
@[simp] theorem State.modRail_time (k : Nat) (f : Rail → Rail) : (s.modRail k f).time = s.time := rfl
@[simp] theorem State.modRail_cut (k : Nat) (f : Rail → Rail) : (s.modRail k f).cut = s.cut := rfl
@[simp] theorem State.modRail_repro (k : Nat) (f : Rail → Rail) : (s.modRail k f).repro = s.repro := rfl
@[simp] theorem State.modRail_engines (k : Nat) (f : Rail → Rail) : (s.modRail k f).engines = s.engines := rfl
@[simp] theorem State.modRail_tillers (k : Nat) (f : Rail → Rail) : (s.modRail k f).tillers = s.tillers := rfl
@[simp] theorem State.modRail_localStore (k : Nat) (f : Rail → Rail) : (s.modRail k f).localStore = s.localStore := rfl
@[simp] theorem State.modRail_crib (k : Nat) (f : Rail → Rail) : (s.modRail k f).crib = s.crib := rfl
@[simp] theorem State.modRail_cribErr (k : Nat) (f : Rail → Rail) : (s.modRail k f).cribErr = s.cribErr := rfl
@[simp] theorem State.modRail_writeback (k : Nat) (f : Rail → Rail) : (s.modRail k f).writeback = s.writeback := rfl
@[simp] theorem State.modRail_parts (k : Nat) (f : Rail → Rail) : (s.modRail k f).parts = s.parts := rfl
@[simp] theorem State.modRail_floor (k : Nat) (f : Rail → Rail) : (s.modRail k f).floor = s.floor := rfl
@[simp] theorem State.modRail_cstacks (k : Nat) (f : Rail → Rail) : (s.modRail k f).cstacks = s.cstacks := rfl
@[simp] theorem State.modRail_meshes (k : Nat) (f : Rail → Rail) : (s.modRail k f).meshes = s.meshes := rfl
@[simp] theorem State.modRail_sill (k : Nat) (f : Rail → Rail) : (s.modRail k f).sill = s.sill := rfl
@[simp] theorem State.modRail_hbm (k : Nat) (f : Rail → Rail) : (s.modRail k f).hbm = s.hbm := rfl
@[simp] theorem State.modRail_railTop (k : Nat) (f : Rail → Rail) : (s.modRail k f).railTop = s.railTop := rfl
@[simp] theorem State.modRail_opt (k : Nat) (f : Rail → Rail) : (s.modRail k f).opt = s.opt := rfl
@[simp] theorem State.modRail_fab (k : Nat) (f : Rail → Rail) : (s.modRail k f).fab = s.fab := rfl
@[simp] theorem State.modRail_col (k : Nat) (f : Rail → Rail) : (s.modRail k f).col = s.col := rfl
@[simp] theorem State.modRail_yuley (k : Nat) (f : Rail → Rail) : (s.modRail k f).yuley = s.yuley := rfl
@[simp] theorem State.modRail_procs (k : Nat) (f : Rail → Rail) : (s.modRail k f).procs = s.procs := rfl
@[simp] theorem State.modRail_boxes (k : Nat) (f : Rail → Rail) : (s.modRail k f).boxes = s.boxes := rfl
@[simp] theorem State.modRail_resend (k : Nat) (f : Rail → Rail) : (s.modRail k f).resend = s.resend := rfl
@[simp] theorem State.modRail_clk (k : Nat) (f : Rail → Rail) : (s.modRail k f).clk = s.clk := rfl
@[simp] theorem State.modRail_pwr (k : Nat) (f : Rail → Rail) : (s.modRail k f).pwr = s.pwr := rfl
@[simp] theorem State.modRail_rst (k : Nat) (f : Rail → Rail) : (s.modRail k f).rst = s.rst := rfl
@[simp] theorem State.modRail_sec (k : Nat) (f : Rail → Rail) : (s.modRail k f).sec = s.sec := rfl
@[simp] theorem State.modRail_sup (k : Nat) (f : Rail → Rail) : (s.modRail k f).sup = s.sup := rfl
@[simp] theorem State.modRail_dbg (k : Nat) (f : Rail → Rail) : (s.modRail k f).dbg = s.dbg := rfl
@[simp] theorem State.modRail_err (k : Nat) (f : Rail → Rail) : (s.modRail k f).err = s.err := rfl
@[simp] theorem State.modRail_arb (k : Nat) (f : Rail → Rail) : (s.modRail k f).arb = s.arb := rfl
@[simp] theorem State.modRail_get (k : Nat) (f : Rail → Rail) : (s.modRail k f).rail k = f (s.rail k) :=
  tabGet_tabMod_same ..
theorem State.modRail_get_other (k j : Nat) (f : Rail → Rail) (h : j ≠ k) : (s.modRail k f).rail j = s.rail j :=
  tabGet_tabMod_other _ _ _ _ _ h

/-! ### modProc -/

@[simp] theorem State.modProc_pending (k : Nat) (f : Proc → Proc) : (s.modProc k f).pending = s.pending := rfl
@[simp] theorem State.modProc_free (k : Nat) (f : Proc → Proc) : (s.modProc k f).free = s.free := rfl
@[simp] theorem State.modProc_time (k : Nat) (f : Proc → Proc) : (s.modProc k f).time = s.time := rfl
@[simp] theorem State.modProc_cut (k : Nat) (f : Proc → Proc) : (s.modProc k f).cut = s.cut := rfl
@[simp] theorem State.modProc_repro (k : Nat) (f : Proc → Proc) : (s.modProc k f).repro = s.repro := rfl
@[simp] theorem State.modProc_engines (k : Nat) (f : Proc → Proc) : (s.modProc k f).engines = s.engines := rfl
@[simp] theorem State.modProc_tillers (k : Nat) (f : Proc → Proc) : (s.modProc k f).tillers = s.tillers := rfl
@[simp] theorem State.modProc_localStore (k : Nat) (f : Proc → Proc) : (s.modProc k f).localStore = s.localStore := rfl
@[simp] theorem State.modProc_crib (k : Nat) (f : Proc → Proc) : (s.modProc k f).crib = s.crib := rfl
@[simp] theorem State.modProc_cribErr (k : Nat) (f : Proc → Proc) : (s.modProc k f).cribErr = s.cribErr := rfl
@[simp] theorem State.modProc_writeback (k : Nat) (f : Proc → Proc) : (s.modProc k f).writeback = s.writeback := rfl
@[simp] theorem State.modProc_parts (k : Nat) (f : Proc → Proc) : (s.modProc k f).parts = s.parts := rfl
@[simp] theorem State.modProc_floor (k : Nat) (f : Proc → Proc) : (s.modProc k f).floor = s.floor := rfl
@[simp] theorem State.modProc_cstacks (k : Nat) (f : Proc → Proc) : (s.modProc k f).cstacks = s.cstacks := rfl
@[simp] theorem State.modProc_meshes (k : Nat) (f : Proc → Proc) : (s.modProc k f).meshes = s.meshes := rfl
@[simp] theorem State.modProc_sill (k : Nat) (f : Proc → Proc) : (s.modProc k f).sill = s.sill := rfl
@[simp] theorem State.modProc_hbm (k : Nat) (f : Proc → Proc) : (s.modProc k f).hbm = s.hbm := rfl
@[simp] theorem State.modProc_rails (k : Nat) (f : Proc → Proc) : (s.modProc k f).rails = s.rails := rfl
@[simp] theorem State.modProc_railTop (k : Nat) (f : Proc → Proc) : (s.modProc k f).railTop = s.railTop := rfl
@[simp] theorem State.modProc_opt (k : Nat) (f : Proc → Proc) : (s.modProc k f).opt = s.opt := rfl
@[simp] theorem State.modProc_fab (k : Nat) (f : Proc → Proc) : (s.modProc k f).fab = s.fab := rfl
@[simp] theorem State.modProc_col (k : Nat) (f : Proc → Proc) : (s.modProc k f).col = s.col := rfl
@[simp] theorem State.modProc_yuley (k : Nat) (f : Proc → Proc) : (s.modProc k f).yuley = s.yuley := rfl
@[simp] theorem State.modProc_boxes (k : Nat) (f : Proc → Proc) : (s.modProc k f).boxes = s.boxes := rfl
@[simp] theorem State.modProc_resend (k : Nat) (f : Proc → Proc) : (s.modProc k f).resend = s.resend := rfl
@[simp] theorem State.modProc_clk (k : Nat) (f : Proc → Proc) : (s.modProc k f).clk = s.clk := rfl
@[simp] theorem State.modProc_pwr (k : Nat) (f : Proc → Proc) : (s.modProc k f).pwr = s.pwr := rfl
@[simp] theorem State.modProc_rst (k : Nat) (f : Proc → Proc) : (s.modProc k f).rst = s.rst := rfl
@[simp] theorem State.modProc_sec (k : Nat) (f : Proc → Proc) : (s.modProc k f).sec = s.sec := rfl
@[simp] theorem State.modProc_sup (k : Nat) (f : Proc → Proc) : (s.modProc k f).sup = s.sup := rfl
@[simp] theorem State.modProc_dbg (k : Nat) (f : Proc → Proc) : (s.modProc k f).dbg = s.dbg := rfl
@[simp] theorem State.modProc_err (k : Nat) (f : Proc → Proc) : (s.modProc k f).err = s.err := rfl
@[simp] theorem State.modProc_arb (k : Nat) (f : Proc → Proc) : (s.modProc k f).arb = s.arb := rfl
@[simp] theorem State.modProc_get (k : Nat) (f : Proc → Proc) : (s.modProc k f).proc k = f (s.proc k) :=
  tabGet_tabMod_same ..
theorem State.modProc_get_other (k j : Nat) (f : Proc → Proc) (h : j ≠ k) : (s.modProc k f).proc j = s.proc j :=
  tabGet_tabMod_other _ _ _ _ _ h

/-! ### modPort -/

@[simp] theorem State.modPort_pending (k : Nat) (f : RxPort → RxPort) : (s.modPort k f).pending = s.pending := rfl
@[simp] theorem State.modPort_free (k : Nat) (f : RxPort → RxPort) : (s.modPort k f).free = s.free := rfl
@[simp] theorem State.modPort_time (k : Nat) (f : RxPort → RxPort) : (s.modPort k f).time = s.time := rfl
@[simp] theorem State.modPort_cut (k : Nat) (f : RxPort → RxPort) : (s.modPort k f).cut = s.cut := rfl
@[simp] theorem State.modPort_repro (k : Nat) (f : RxPort → RxPort) : (s.modPort k f).repro = s.repro := rfl
@[simp] theorem State.modPort_engines (k : Nat) (f : RxPort → RxPort) : (s.modPort k f).engines = s.engines := rfl
@[simp] theorem State.modPort_tillers (k : Nat) (f : RxPort → RxPort) : (s.modPort k f).tillers = s.tillers := rfl
@[simp] theorem State.modPort_localStore (k : Nat) (f : RxPort → RxPort) : (s.modPort k f).localStore = s.localStore := rfl
@[simp] theorem State.modPort_crib (k : Nat) (f : RxPort → RxPort) : (s.modPort k f).crib = s.crib := rfl
@[simp] theorem State.modPort_cribErr (k : Nat) (f : RxPort → RxPort) : (s.modPort k f).cribErr = s.cribErr := rfl
@[simp] theorem State.modPort_writeback (k : Nat) (f : RxPort → RxPort) : (s.modPort k f).writeback = s.writeback := rfl
@[simp] theorem State.modPort_parts (k : Nat) (f : RxPort → RxPort) : (s.modPort k f).parts = s.parts := rfl
@[simp] theorem State.modPort_floor (k : Nat) (f : RxPort → RxPort) : (s.modPort k f).floor = s.floor := rfl
@[simp] theorem State.modPort_cstacks (k : Nat) (f : RxPort → RxPort) : (s.modPort k f).cstacks = s.cstacks := rfl
@[simp] theorem State.modPort_meshes (k : Nat) (f : RxPort → RxPort) : (s.modPort k f).meshes = s.meshes := rfl
@[simp] theorem State.modPort_sill (k : Nat) (f : RxPort → RxPort) : (s.modPort k f).sill = s.sill := rfl
@[simp] theorem State.modPort_hbm (k : Nat) (f : RxPort → RxPort) : (s.modPort k f).hbm = s.hbm := rfl
@[simp] theorem State.modPort_rails (k : Nat) (f : RxPort → RxPort) : (s.modPort k f).rails = s.rails := rfl
@[simp] theorem State.modPort_railTop (k : Nat) (f : RxPort → RxPort) : (s.modPort k f).railTop = s.railTop := rfl
@[simp] theorem State.modPort_opt (k : Nat) (f : RxPort → RxPort) : (s.modPort k f).opt = s.opt := rfl
@[simp] theorem State.modPort_fab (k : Nat) (f : RxPort → RxPort) : (s.modPort k f).fab = s.fab := rfl
@[simp] theorem State.modPort_col (k : Nat) (f : RxPort → RxPort) : (s.modPort k f).col = s.col := rfl
@[simp] theorem State.modPort_procs (k : Nat) (f : RxPort → RxPort) : (s.modPort k f).procs = s.procs := rfl
@[simp] theorem State.modPort_boxes (k : Nat) (f : RxPort → RxPort) : (s.modPort k f).boxes = s.boxes := rfl
@[simp] theorem State.modPort_resend (k : Nat) (f : RxPort → RxPort) : (s.modPort k f).resend = s.resend := rfl
@[simp] theorem State.modPort_clk (k : Nat) (f : RxPort → RxPort) : (s.modPort k f).clk = s.clk := rfl
@[simp] theorem State.modPort_pwr (k : Nat) (f : RxPort → RxPort) : (s.modPort k f).pwr = s.pwr := rfl
@[simp] theorem State.modPort_rst (k : Nat) (f : RxPort → RxPort) : (s.modPort k f).rst = s.rst := rfl
@[simp] theorem State.modPort_sec (k : Nat) (f : RxPort → RxPort) : (s.modPort k f).sec = s.sec := rfl
@[simp] theorem State.modPort_sup (k : Nat) (f : RxPort → RxPort) : (s.modPort k f).sup = s.sup := rfl
@[simp] theorem State.modPort_dbg (k : Nat) (f : RxPort → RxPort) : (s.modPort k f).dbg = s.dbg := rfl
@[simp] theorem State.modPort_err (k : Nat) (f : RxPort → RxPort) : (s.modPort k f).err = s.err := rfl
@[simp] theorem State.modPort_arb (k : Nat) (f : RxPort → RxPort) : (s.modPort k f).arb = s.arb := rfl
@[simp] theorem State.modPort_get (k : Nat) (f : RxPort → RxPort) : (s.modPort k f).yport k = f (s.yport k) :=
  tabGet_tabMod_same ..
theorem State.modPort_get_other (k j : Nat) (f : RxPort → RxPort) (h : j ≠ k) : (s.modPort k f).yport j = s.yport j :=
  tabGet_tabMod_other _ _ _ _ _ h

/-! ### modChan -/

@[simp] theorem State.modChan_pending (k : Nat) (f : Chan → Chan) : (s.modChan k f).pending = s.pending := rfl
@[simp] theorem State.modChan_free (k : Nat) (f : Chan → Chan) : (s.modChan k f).free = s.free := rfl
@[simp] theorem State.modChan_time (k : Nat) (f : Chan → Chan) : (s.modChan k f).time = s.time := rfl
@[simp] theorem State.modChan_cut (k : Nat) (f : Chan → Chan) : (s.modChan k f).cut = s.cut := rfl
@[simp] theorem State.modChan_repro (k : Nat) (f : Chan → Chan) : (s.modChan k f).repro = s.repro := rfl
@[simp] theorem State.modChan_engines (k : Nat) (f : Chan → Chan) : (s.modChan k f).engines = s.engines := rfl
@[simp] theorem State.modChan_tillers (k : Nat) (f : Chan → Chan) : (s.modChan k f).tillers = s.tillers := rfl
@[simp] theorem State.modChan_localStore (k : Nat) (f : Chan → Chan) : (s.modChan k f).localStore = s.localStore := rfl
@[simp] theorem State.modChan_crib (k : Nat) (f : Chan → Chan) : (s.modChan k f).crib = s.crib := rfl
@[simp] theorem State.modChan_cribErr (k : Nat) (f : Chan → Chan) : (s.modChan k f).cribErr = s.cribErr := rfl
@[simp] theorem State.modChan_writeback (k : Nat) (f : Chan → Chan) : (s.modChan k f).writeback = s.writeback := rfl
@[simp] theorem State.modChan_parts (k : Nat) (f : Chan → Chan) : (s.modChan k f).parts = s.parts := rfl
@[simp] theorem State.modChan_floor (k : Nat) (f : Chan → Chan) : (s.modChan k f).floor = s.floor := rfl
@[simp] theorem State.modChan_cstacks (k : Nat) (f : Chan → Chan) : (s.modChan k f).cstacks = s.cstacks := rfl
@[simp] theorem State.modChan_meshes (k : Nat) (f : Chan → Chan) : (s.modChan k f).meshes = s.meshes := rfl
@[simp] theorem State.modChan_sill (k : Nat) (f : Chan → Chan) : (s.modChan k f).sill = s.sill := rfl
@[simp] theorem State.modChan_hbm (k : Nat) (f : Chan → Chan) : (s.modChan k f).hbm = s.hbm := rfl
@[simp] theorem State.modChan_rails (k : Nat) (f : Chan → Chan) : (s.modChan k f).rails = s.rails := rfl
@[simp] theorem State.modChan_railTop (k : Nat) (f : Chan → Chan) : (s.modChan k f).railTop = s.railTop := rfl
@[simp] theorem State.modChan_opt (k : Nat) (f : Chan → Chan) : (s.modChan k f).opt = s.opt := rfl
@[simp] theorem State.modChan_fab (k : Nat) (f : Chan → Chan) : (s.modChan k f).fab = s.fab := rfl
@[simp] theorem State.modChan_col (k : Nat) (f : Chan → Chan) : (s.modChan k f).col = s.col := rfl
@[simp] theorem State.modChan_procs (k : Nat) (f : Chan → Chan) : (s.modChan k f).procs = s.procs := rfl
@[simp] theorem State.modChan_boxes (k : Nat) (f : Chan → Chan) : (s.modChan k f).boxes = s.boxes := rfl
@[simp] theorem State.modChan_resend (k : Nat) (f : Chan → Chan) : (s.modChan k f).resend = s.resend := rfl
@[simp] theorem State.modChan_clk (k : Nat) (f : Chan → Chan) : (s.modChan k f).clk = s.clk := rfl
@[simp] theorem State.modChan_pwr (k : Nat) (f : Chan → Chan) : (s.modChan k f).pwr = s.pwr := rfl
@[simp] theorem State.modChan_rst (k : Nat) (f : Chan → Chan) : (s.modChan k f).rst = s.rst := rfl
@[simp] theorem State.modChan_sec (k : Nat) (f : Chan → Chan) : (s.modChan k f).sec = s.sec := rfl
@[simp] theorem State.modChan_sup (k : Nat) (f : Chan → Chan) : (s.modChan k f).sup = s.sup := rfl
@[simp] theorem State.modChan_dbg (k : Nat) (f : Chan → Chan) : (s.modChan k f).dbg = s.dbg := rfl
@[simp] theorem State.modChan_err (k : Nat) (f : Chan → Chan) : (s.modChan k f).err = s.err := rfl
@[simp] theorem State.modChan_arb (k : Nat) (f : Chan → Chan) : (s.modChan k f).arb = s.arb := rfl
@[simp] theorem State.modChan_get (k : Nat) (f : Chan → Chan) : (s.modChan k f).chan k = f (s.chan k) :=
  tabGet_tabMod_same ..
theorem State.modChan_get_other (k j : Nat) (f : Chan → Chan) (h : j ≠ k) : (s.modChan k f).chan j = s.chan j :=
  tabGet_tabMod_other _ _ _ _ _ h

/-! ### modPanel -/

@[simp] theorem State.modPanel_pending (k : Nat) (f : Panel → Panel) : (s.modPanel k f).pending = s.pending := rfl
@[simp] theorem State.modPanel_free (k : Nat) (f : Panel → Panel) : (s.modPanel k f).free = s.free := rfl
@[simp] theorem State.modPanel_time (k : Nat) (f : Panel → Panel) : (s.modPanel k f).time = s.time := rfl
@[simp] theorem State.modPanel_cut (k : Nat) (f : Panel → Panel) : (s.modPanel k f).cut = s.cut := rfl
@[simp] theorem State.modPanel_repro (k : Nat) (f : Panel → Panel) : (s.modPanel k f).repro = s.repro := rfl
@[simp] theorem State.modPanel_engines (k : Nat) (f : Panel → Panel) : (s.modPanel k f).engines = s.engines := rfl
@[simp] theorem State.modPanel_tillers (k : Nat) (f : Panel → Panel) : (s.modPanel k f).tillers = s.tillers := rfl
@[simp] theorem State.modPanel_localStore (k : Nat) (f : Panel → Panel) : (s.modPanel k f).localStore = s.localStore := rfl
@[simp] theorem State.modPanel_crib (k : Nat) (f : Panel → Panel) : (s.modPanel k f).crib = s.crib := rfl
@[simp] theorem State.modPanel_cribErr (k : Nat) (f : Panel → Panel) : (s.modPanel k f).cribErr = s.cribErr := rfl
@[simp] theorem State.modPanel_writeback (k : Nat) (f : Panel → Panel) : (s.modPanel k f).writeback = s.writeback := rfl
@[simp] theorem State.modPanel_parts (k : Nat) (f : Panel → Panel) : (s.modPanel k f).parts = s.parts := rfl
@[simp] theorem State.modPanel_floor (k : Nat) (f : Panel → Panel) : (s.modPanel k f).floor = s.floor := rfl
@[simp] theorem State.modPanel_cstacks (k : Nat) (f : Panel → Panel) : (s.modPanel k f).cstacks = s.cstacks := rfl
@[simp] theorem State.modPanel_meshes (k : Nat) (f : Panel → Panel) : (s.modPanel k f).meshes = s.meshes := rfl
@[simp] theorem State.modPanel_sill (k : Nat) (f : Panel → Panel) : (s.modPanel k f).sill = s.sill := rfl
@[simp] theorem State.modPanel_hbm (k : Nat) (f : Panel → Panel) : (s.modPanel k f).hbm = s.hbm := rfl
@[simp] theorem State.modPanel_rails (k : Nat) (f : Panel → Panel) : (s.modPanel k f).rails = s.rails := rfl
@[simp] theorem State.modPanel_railTop (k : Nat) (f : Panel → Panel) : (s.modPanel k f).railTop = s.railTop := rfl
@[simp] theorem State.modPanel_opt (k : Nat) (f : Panel → Panel) : (s.modPanel k f).opt = s.opt := rfl
@[simp] theorem State.modPanel_fab (k : Nat) (f : Panel → Panel) : (s.modPanel k f).fab = s.fab := rfl
@[simp] theorem State.modPanel_col (k : Nat) (f : Panel → Panel) : (s.modPanel k f).col = s.col := rfl
@[simp] theorem State.modPanel_yuley (k : Nat) (f : Panel → Panel) : (s.modPanel k f).yuley = s.yuley := rfl
@[simp] theorem State.modPanel_procs (k : Nat) (f : Panel → Panel) : (s.modPanel k f).procs = s.procs := rfl
@[simp] theorem State.modPanel_boxes (k : Nat) (f : Panel → Panel) : (s.modPanel k f).boxes = s.boxes := rfl
@[simp] theorem State.modPanel_resend (k : Nat) (f : Panel → Panel) : (s.modPanel k f).resend = s.resend := rfl
@[simp] theorem State.modPanel_pwr (k : Nat) (f : Panel → Panel) : (s.modPanel k f).pwr = s.pwr := rfl
@[simp] theorem State.modPanel_rst (k : Nat) (f : Panel → Panel) : (s.modPanel k f).rst = s.rst := rfl
@[simp] theorem State.modPanel_sec (k : Nat) (f : Panel → Panel) : (s.modPanel k f).sec = s.sec := rfl
@[simp] theorem State.modPanel_sup (k : Nat) (f : Panel → Panel) : (s.modPanel k f).sup = s.sup := rfl
@[simp] theorem State.modPanel_dbg (k : Nat) (f : Panel → Panel) : (s.modPanel k f).dbg = s.dbg := rfl
@[simp] theorem State.modPanel_err (k : Nat) (f : Panel → Panel) : (s.modPanel k f).err = s.err := rfl
@[simp] theorem State.modPanel_arb (k : Nat) (f : Panel → Panel) : (s.modPanel k f).arb = s.arb := rfl
@[simp] theorem State.modPanel_get (k : Nat) (f : Panel → Panel) : (s.modPanel k f).panel k = f (s.panel k) :=
  tabGet_tabMod_same ..
theorem State.modPanel_get_other (k j : Nat) (f : Panel → Panel) (h : j ≠ k) : (s.modPanel k f).panel j = s.panel j :=
  tabGet_tabMod_other _ _ _ _ _ h

/-! ### modFab -/

@[simp] theorem State.modFab_pending (k : Nat) (f : FabEng → FabEng) : (s.modFab k f).pending = s.pending := rfl
@[simp] theorem State.modFab_free (k : Nat) (f : FabEng → FabEng) : (s.modFab k f).free = s.free := rfl
@[simp] theorem State.modFab_time (k : Nat) (f : FabEng → FabEng) : (s.modFab k f).time = s.time := rfl
@[simp] theorem State.modFab_cut (k : Nat) (f : FabEng → FabEng) : (s.modFab k f).cut = s.cut := rfl
@[simp] theorem State.modFab_repro (k : Nat) (f : FabEng → FabEng) : (s.modFab k f).repro = s.repro := rfl
@[simp] theorem State.modFab_engines (k : Nat) (f : FabEng → FabEng) : (s.modFab k f).engines = s.engines := rfl
@[simp] theorem State.modFab_tillers (k : Nat) (f : FabEng → FabEng) : (s.modFab k f).tillers = s.tillers := rfl
@[simp] theorem State.modFab_localStore (k : Nat) (f : FabEng → FabEng) : (s.modFab k f).localStore = s.localStore := rfl
@[simp] theorem State.modFab_crib (k : Nat) (f : FabEng → FabEng) : (s.modFab k f).crib = s.crib := rfl
@[simp] theorem State.modFab_cribErr (k : Nat) (f : FabEng → FabEng) : (s.modFab k f).cribErr = s.cribErr := rfl
@[simp] theorem State.modFab_writeback (k : Nat) (f : FabEng → FabEng) : (s.modFab k f).writeback = s.writeback := rfl
@[simp] theorem State.modFab_parts (k : Nat) (f : FabEng → FabEng) : (s.modFab k f).parts = s.parts := rfl
@[simp] theorem State.modFab_floor (k : Nat) (f : FabEng → FabEng) : (s.modFab k f).floor = s.floor := rfl
@[simp] theorem State.modFab_cstacks (k : Nat) (f : FabEng → FabEng) : (s.modFab k f).cstacks = s.cstacks := rfl
@[simp] theorem State.modFab_meshes (k : Nat) (f : FabEng → FabEng) : (s.modFab k f).meshes = s.meshes := rfl
@[simp] theorem State.modFab_sill (k : Nat) (f : FabEng → FabEng) : (s.modFab k f).sill = s.sill := rfl
@[simp] theorem State.modFab_hbm (k : Nat) (f : FabEng → FabEng) : (s.modFab k f).hbm = s.hbm := rfl
@[simp] theorem State.modFab_rails (k : Nat) (f : FabEng → FabEng) : (s.modFab k f).rails = s.rails := rfl
@[simp] theorem State.modFab_railTop (k : Nat) (f : FabEng → FabEng) : (s.modFab k f).railTop = s.railTop := rfl
@[simp] theorem State.modFab_opt (k : Nat) (f : FabEng → FabEng) : (s.modFab k f).opt = s.opt := rfl
@[simp] theorem State.modFab_col (k : Nat) (f : FabEng → FabEng) : (s.modFab k f).col = s.col := rfl
@[simp] theorem State.modFab_yuley (k : Nat) (f : FabEng → FabEng) : (s.modFab k f).yuley = s.yuley := rfl
@[simp] theorem State.modFab_procs (k : Nat) (f : FabEng → FabEng) : (s.modFab k f).procs = s.procs := rfl
@[simp] theorem State.modFab_boxes (k : Nat) (f : FabEng → FabEng) : (s.modFab k f).boxes = s.boxes := rfl
@[simp] theorem State.modFab_resend (k : Nat) (f : FabEng → FabEng) : (s.modFab k f).resend = s.resend := rfl
@[simp] theorem State.modFab_clk (k : Nat) (f : FabEng → FabEng) : (s.modFab k f).clk = s.clk := rfl
@[simp] theorem State.modFab_pwr (k : Nat) (f : FabEng → FabEng) : (s.modFab k f).pwr = s.pwr := rfl
@[simp] theorem State.modFab_rst (k : Nat) (f : FabEng → FabEng) : (s.modFab k f).rst = s.rst := rfl
@[simp] theorem State.modFab_sec (k : Nat) (f : FabEng → FabEng) : (s.modFab k f).sec = s.sec := rfl
@[simp] theorem State.modFab_sup (k : Nat) (f : FabEng → FabEng) : (s.modFab k f).sup = s.sup := rfl
@[simp] theorem State.modFab_dbg (k : Nat) (f : FabEng → FabEng) : (s.modFab k f).dbg = s.dbg := rfl
@[simp] theorem State.modFab_err (k : Nat) (f : FabEng → FabEng) : (s.modFab k f).err = s.err := rfl
@[simp] theorem State.modFab_arb (k : Nat) (f : FabEng → FabEng) : (s.modFab k f).arb = s.arb := rfl
@[simp] theorem State.modFab_get (k : Nat) (f : FabEng → FabEng) : (s.modFab k f).fabEng k = f (s.fabEng k) :=
  tabGet_tabMod_same ..
theorem State.modFab_get_other (k j : Nat) (f : FabEng → FabEng) (h : j ≠ k) : (s.modFab k f).fabEng j = s.fabEng j :=
  tabGet_tabMod_other _ _ _ _ _ h

/-! ### modCol -/

@[simp] theorem State.modCol_pending (k : Nat) (f : ColEng → ColEng) : (s.modCol k f).pending = s.pending := rfl
@[simp] theorem State.modCol_free (k : Nat) (f : ColEng → ColEng) : (s.modCol k f).free = s.free := rfl
@[simp] theorem State.modCol_time (k : Nat) (f : ColEng → ColEng) : (s.modCol k f).time = s.time := rfl
@[simp] theorem State.modCol_cut (k : Nat) (f : ColEng → ColEng) : (s.modCol k f).cut = s.cut := rfl
@[simp] theorem State.modCol_repro (k : Nat) (f : ColEng → ColEng) : (s.modCol k f).repro = s.repro := rfl
@[simp] theorem State.modCol_engines (k : Nat) (f : ColEng → ColEng) : (s.modCol k f).engines = s.engines := rfl
@[simp] theorem State.modCol_tillers (k : Nat) (f : ColEng → ColEng) : (s.modCol k f).tillers = s.tillers := rfl
@[simp] theorem State.modCol_localStore (k : Nat) (f : ColEng → ColEng) : (s.modCol k f).localStore = s.localStore := rfl
@[simp] theorem State.modCol_crib (k : Nat) (f : ColEng → ColEng) : (s.modCol k f).crib = s.crib := rfl
@[simp] theorem State.modCol_cribErr (k : Nat) (f : ColEng → ColEng) : (s.modCol k f).cribErr = s.cribErr := rfl
@[simp] theorem State.modCol_writeback (k : Nat) (f : ColEng → ColEng) : (s.modCol k f).writeback = s.writeback := rfl
@[simp] theorem State.modCol_parts (k : Nat) (f : ColEng → ColEng) : (s.modCol k f).parts = s.parts := rfl
@[simp] theorem State.modCol_floor (k : Nat) (f : ColEng → ColEng) : (s.modCol k f).floor = s.floor := rfl
@[simp] theorem State.modCol_cstacks (k : Nat) (f : ColEng → ColEng) : (s.modCol k f).cstacks = s.cstacks := rfl
@[simp] theorem State.modCol_meshes (k : Nat) (f : ColEng → ColEng) : (s.modCol k f).meshes = s.meshes := rfl
@[simp] theorem State.modCol_sill (k : Nat) (f : ColEng → ColEng) : (s.modCol k f).sill = s.sill := rfl
@[simp] theorem State.modCol_hbm (k : Nat) (f : ColEng → ColEng) : (s.modCol k f).hbm = s.hbm := rfl
@[simp] theorem State.modCol_rails (k : Nat) (f : ColEng → ColEng) : (s.modCol k f).rails = s.rails := rfl
@[simp] theorem State.modCol_railTop (k : Nat) (f : ColEng → ColEng) : (s.modCol k f).railTop = s.railTop := rfl
@[simp] theorem State.modCol_opt (k : Nat) (f : ColEng → ColEng) : (s.modCol k f).opt = s.opt := rfl
@[simp] theorem State.modCol_fab (k : Nat) (f : ColEng → ColEng) : (s.modCol k f).fab = s.fab := rfl
@[simp] theorem State.modCol_yuley (k : Nat) (f : ColEng → ColEng) : (s.modCol k f).yuley = s.yuley := rfl
@[simp] theorem State.modCol_procs (k : Nat) (f : ColEng → ColEng) : (s.modCol k f).procs = s.procs := rfl
@[simp] theorem State.modCol_boxes (k : Nat) (f : ColEng → ColEng) : (s.modCol k f).boxes = s.boxes := rfl
@[simp] theorem State.modCol_resend (k : Nat) (f : ColEng → ColEng) : (s.modCol k f).resend = s.resend := rfl
@[simp] theorem State.modCol_clk (k : Nat) (f : ColEng → ColEng) : (s.modCol k f).clk = s.clk := rfl
@[simp] theorem State.modCol_pwr (k : Nat) (f : ColEng → ColEng) : (s.modCol k f).pwr = s.pwr := rfl
@[simp] theorem State.modCol_rst (k : Nat) (f : ColEng → ColEng) : (s.modCol k f).rst = s.rst := rfl
@[simp] theorem State.modCol_sec (k : Nat) (f : ColEng → ColEng) : (s.modCol k f).sec = s.sec := rfl
@[simp] theorem State.modCol_sup (k : Nat) (f : ColEng → ColEng) : (s.modCol k f).sup = s.sup := rfl
@[simp] theorem State.modCol_dbg (k : Nat) (f : ColEng → ColEng) : (s.modCol k f).dbg = s.dbg := rfl
@[simp] theorem State.modCol_err (k : Nat) (f : ColEng → ColEng) : (s.modCol k f).err = s.err := rfl
@[simp] theorem State.modCol_arb (k : Nat) (f : ColEng → ColEng) : (s.modCol k f).arb = s.arb := rfl
@[simp] theorem State.modCol_get (k : Nat) (f : ColEng → ColEng) : (s.modCol k f).colEng k = f (s.colEng k) :=
  tabGet_tabMod_same ..
theorem State.modCol_get_other (k j : Nat) (f : ColEng → ColEng) (h : j ≠ k) : (s.modCol k f).colEng j = s.colEng j :=
  tabGet_tabMod_other _ _ _ _ _ h

/-! ### modRing -/

@[simp] theorem State.modRing_pending (k : Nat) (f : Ring → Ring) : (s.modRing k f).pending = s.pending := rfl
@[simp] theorem State.modRing_free (k : Nat) (f : Ring → Ring) : (s.modRing k f).free = s.free := rfl
@[simp] theorem State.modRing_time (k : Nat) (f : Ring → Ring) : (s.modRing k f).time = s.time := rfl
@[simp] theorem State.modRing_cut (k : Nat) (f : Ring → Ring) : (s.modRing k f).cut = s.cut := rfl
@[simp] theorem State.modRing_repro (k : Nat) (f : Ring → Ring) : (s.modRing k f).repro = s.repro := rfl
@[simp] theorem State.modRing_engines (k : Nat) (f : Ring → Ring) : (s.modRing k f).engines = s.engines := rfl
@[simp] theorem State.modRing_tillers (k : Nat) (f : Ring → Ring) : (s.modRing k f).tillers = s.tillers := rfl
@[simp] theorem State.modRing_localStore (k : Nat) (f : Ring → Ring) : (s.modRing k f).localStore = s.localStore := rfl
@[simp] theorem State.modRing_crib (k : Nat) (f : Ring → Ring) : (s.modRing k f).crib = s.crib := rfl
@[simp] theorem State.modRing_cribErr (k : Nat) (f : Ring → Ring) : (s.modRing k f).cribErr = s.cribErr := rfl
@[simp] theorem State.modRing_writeback (k : Nat) (f : Ring → Ring) : (s.modRing k f).writeback = s.writeback := rfl
@[simp] theorem State.modRing_parts (k : Nat) (f : Ring → Ring) : (s.modRing k f).parts = s.parts := rfl
@[simp] theorem State.modRing_floor (k : Nat) (f : Ring → Ring) : (s.modRing k f).floor = s.floor := rfl
@[simp] theorem State.modRing_cstacks (k : Nat) (f : Ring → Ring) : (s.modRing k f).cstacks = s.cstacks := rfl
@[simp] theorem State.modRing_meshes (k : Nat) (f : Ring → Ring) : (s.modRing k f).meshes = s.meshes := rfl
@[simp] theorem State.modRing_sill (k : Nat) (f : Ring → Ring) : (s.modRing k f).sill = s.sill := rfl
@[simp] theorem State.modRing_hbm (k : Nat) (f : Ring → Ring) : (s.modRing k f).hbm = s.hbm := rfl
@[simp] theorem State.modRing_rails (k : Nat) (f : Ring → Ring) : (s.modRing k f).rails = s.rails := rfl
@[simp] theorem State.modRing_railTop (k : Nat) (f : Ring → Ring) : (s.modRing k f).railTop = s.railTop := rfl
@[simp] theorem State.modRing_fab (k : Nat) (f : Ring → Ring) : (s.modRing k f).fab = s.fab := rfl
@[simp] theorem State.modRing_col (k : Nat) (f : Ring → Ring) : (s.modRing k f).col = s.col := rfl
@[simp] theorem State.modRing_yuley (k : Nat) (f : Ring → Ring) : (s.modRing k f).yuley = s.yuley := rfl
@[simp] theorem State.modRing_procs (k : Nat) (f : Ring → Ring) : (s.modRing k f).procs = s.procs := rfl
@[simp] theorem State.modRing_boxes (k : Nat) (f : Ring → Ring) : (s.modRing k f).boxes = s.boxes := rfl
@[simp] theorem State.modRing_resend (k : Nat) (f : Ring → Ring) : (s.modRing k f).resend = s.resend := rfl
@[simp] theorem State.modRing_clk (k : Nat) (f : Ring → Ring) : (s.modRing k f).clk = s.clk := rfl
@[simp] theorem State.modRing_pwr (k : Nat) (f : Ring → Ring) : (s.modRing k f).pwr = s.pwr := rfl
@[simp] theorem State.modRing_rst (k : Nat) (f : Ring → Ring) : (s.modRing k f).rst = s.rst := rfl
@[simp] theorem State.modRing_sec (k : Nat) (f : Ring → Ring) : (s.modRing k f).sec = s.sec := rfl
@[simp] theorem State.modRing_sup (k : Nat) (f : Ring → Ring) : (s.modRing k f).sup = s.sup := rfl
@[simp] theorem State.modRing_dbg (k : Nat) (f : Ring → Ring) : (s.modRing k f).dbg = s.dbg := rfl
@[simp] theorem State.modRing_err (k : Nat) (f : Ring → Ring) : (s.modRing k f).err = s.err := rfl
@[simp] theorem State.modRing_arb (k : Nat) (f : Ring → Ring) : (s.modRing k f).arb = s.arb := rfl
@[simp] theorem State.modRing_get (k : Nat) (f : Ring → Ring) : (s.modRing k f).ring k = f (s.ring k) :=
  tabGet_tabMod_same ..
theorem State.modRing_get_other (k j : Nat) (f : Ring → Ring) (h : j ≠ k) : (s.modRing k f).ring j = s.ring j :=
  tabGet_tabMod_other _ _ _ _ _ h

/-! ### modFibre -/

@[simp] theorem State.modFibre_pending (k : Nat) (f : FibreMap → FibreMap) : (s.modFibre k f).pending = s.pending := rfl
@[simp] theorem State.modFibre_free (k : Nat) (f : FibreMap → FibreMap) : (s.modFibre k f).free = s.free := rfl
@[simp] theorem State.modFibre_time (k : Nat) (f : FibreMap → FibreMap) : (s.modFibre k f).time = s.time := rfl
@[simp] theorem State.modFibre_cut (k : Nat) (f : FibreMap → FibreMap) : (s.modFibre k f).cut = s.cut := rfl
@[simp] theorem State.modFibre_repro (k : Nat) (f : FibreMap → FibreMap) : (s.modFibre k f).repro = s.repro := rfl
@[simp] theorem State.modFibre_engines (k : Nat) (f : FibreMap → FibreMap) : (s.modFibre k f).engines = s.engines := rfl
@[simp] theorem State.modFibre_tillers (k : Nat) (f : FibreMap → FibreMap) : (s.modFibre k f).tillers = s.tillers := rfl
@[simp] theorem State.modFibre_localStore (k : Nat) (f : FibreMap → FibreMap) : (s.modFibre k f).localStore = s.localStore := rfl
@[simp] theorem State.modFibre_crib (k : Nat) (f : FibreMap → FibreMap) : (s.modFibre k f).crib = s.crib := rfl
@[simp] theorem State.modFibre_cribErr (k : Nat) (f : FibreMap → FibreMap) : (s.modFibre k f).cribErr = s.cribErr := rfl
@[simp] theorem State.modFibre_writeback (k : Nat) (f : FibreMap → FibreMap) : (s.modFibre k f).writeback = s.writeback := rfl
@[simp] theorem State.modFibre_parts (k : Nat) (f : FibreMap → FibreMap) : (s.modFibre k f).parts = s.parts := rfl
@[simp] theorem State.modFibre_floor (k : Nat) (f : FibreMap → FibreMap) : (s.modFibre k f).floor = s.floor := rfl
@[simp] theorem State.modFibre_cstacks (k : Nat) (f : FibreMap → FibreMap) : (s.modFibre k f).cstacks = s.cstacks := rfl
@[simp] theorem State.modFibre_meshes (k : Nat) (f : FibreMap → FibreMap) : (s.modFibre k f).meshes = s.meshes := rfl
@[simp] theorem State.modFibre_sill (k : Nat) (f : FibreMap → FibreMap) : (s.modFibre k f).sill = s.sill := rfl
@[simp] theorem State.modFibre_hbm (k : Nat) (f : FibreMap → FibreMap) : (s.modFibre k f).hbm = s.hbm := rfl
@[simp] theorem State.modFibre_rails (k : Nat) (f : FibreMap → FibreMap) : (s.modFibre k f).rails = s.rails := rfl
@[simp] theorem State.modFibre_railTop (k : Nat) (f : FibreMap → FibreMap) : (s.modFibre k f).railTop = s.railTop := rfl
@[simp] theorem State.modFibre_fab (k : Nat) (f : FibreMap → FibreMap) : (s.modFibre k f).fab = s.fab := rfl
@[simp] theorem State.modFibre_col (k : Nat) (f : FibreMap → FibreMap) : (s.modFibre k f).col = s.col := rfl
@[simp] theorem State.modFibre_yuley (k : Nat) (f : FibreMap → FibreMap) : (s.modFibre k f).yuley = s.yuley := rfl
@[simp] theorem State.modFibre_procs (k : Nat) (f : FibreMap → FibreMap) : (s.modFibre k f).procs = s.procs := rfl
@[simp] theorem State.modFibre_boxes (k : Nat) (f : FibreMap → FibreMap) : (s.modFibre k f).boxes = s.boxes := rfl
@[simp] theorem State.modFibre_resend (k : Nat) (f : FibreMap → FibreMap) : (s.modFibre k f).resend = s.resend := rfl
@[simp] theorem State.modFibre_clk (k : Nat) (f : FibreMap → FibreMap) : (s.modFibre k f).clk = s.clk := rfl
@[simp] theorem State.modFibre_pwr (k : Nat) (f : FibreMap → FibreMap) : (s.modFibre k f).pwr = s.pwr := rfl
@[simp] theorem State.modFibre_rst (k : Nat) (f : FibreMap → FibreMap) : (s.modFibre k f).rst = s.rst := rfl
@[simp] theorem State.modFibre_sec (k : Nat) (f : FibreMap → FibreMap) : (s.modFibre k f).sec = s.sec := rfl
@[simp] theorem State.modFibre_sup (k : Nat) (f : FibreMap → FibreMap) : (s.modFibre k f).sup = s.sup := rfl
@[simp] theorem State.modFibre_dbg (k : Nat) (f : FibreMap → FibreMap) : (s.modFibre k f).dbg = s.dbg := rfl
@[simp] theorem State.modFibre_err (k : Nat) (f : FibreMap → FibreMap) : (s.modFibre k f).err = s.err := rfl
@[simp] theorem State.modFibre_arb (k : Nat) (f : FibreMap → FibreMap) : (s.modFibre k f).arb = s.arb := rfl
@[simp] theorem State.modFibre_get (k : Nat) (f : FibreMap → FibreMap) : (s.modFibre k f).fibre k = f (s.fibre k) :=
  tabGet_tabMod_same ..
theorem State.modFibre_get_other (k j : Nat) (f : FibreMap → FibreMap) (h : j ≠ k) : (s.modFibre k f).fibre j = s.fibre j :=
  tabGet_tabMod_other _ _ _ _ _ h

/-! ### modLane -/

@[simp] theorem State.modLane_pending (k : Nat) (f : Lane → Lane) : (s.modLane k f).pending = s.pending := rfl
@[simp] theorem State.modLane_free (k : Nat) (f : Lane → Lane) : (s.modLane k f).free = s.free := rfl
@[simp] theorem State.modLane_time (k : Nat) (f : Lane → Lane) : (s.modLane k f).time = s.time := rfl
@[simp] theorem State.modLane_cut (k : Nat) (f : Lane → Lane) : (s.modLane k f).cut = s.cut := rfl
@[simp] theorem State.modLane_repro (k : Nat) (f : Lane → Lane) : (s.modLane k f).repro = s.repro := rfl
@[simp] theorem State.modLane_engines (k : Nat) (f : Lane → Lane) : (s.modLane k f).engines = s.engines := rfl
@[simp] theorem State.modLane_tillers (k : Nat) (f : Lane → Lane) : (s.modLane k f).tillers = s.tillers := rfl
@[simp] theorem State.modLane_localStore (k : Nat) (f : Lane → Lane) : (s.modLane k f).localStore = s.localStore := rfl
@[simp] theorem State.modLane_crib (k : Nat) (f : Lane → Lane) : (s.modLane k f).crib = s.crib := rfl
@[simp] theorem State.modLane_cribErr (k : Nat) (f : Lane → Lane) : (s.modLane k f).cribErr = s.cribErr := rfl
@[simp] theorem State.modLane_writeback (k : Nat) (f : Lane → Lane) : (s.modLane k f).writeback = s.writeback := rfl
@[simp] theorem State.modLane_parts (k : Nat) (f : Lane → Lane) : (s.modLane k f).parts = s.parts := rfl
@[simp] theorem State.modLane_floor (k : Nat) (f : Lane → Lane) : (s.modLane k f).floor = s.floor := rfl
@[simp] theorem State.modLane_cstacks (k : Nat) (f : Lane → Lane) : (s.modLane k f).cstacks = s.cstacks := rfl
@[simp] theorem State.modLane_meshes (k : Nat) (f : Lane → Lane) : (s.modLane k f).meshes = s.meshes := rfl
@[simp] theorem State.modLane_hbm (k : Nat) (f : Lane → Lane) : (s.modLane k f).hbm = s.hbm := rfl
@[simp] theorem State.modLane_rails (k : Nat) (f : Lane → Lane) : (s.modLane k f).rails = s.rails := rfl
@[simp] theorem State.modLane_railTop (k : Nat) (f : Lane → Lane) : (s.modLane k f).railTop = s.railTop := rfl
@[simp] theorem State.modLane_opt (k : Nat) (f : Lane → Lane) : (s.modLane k f).opt = s.opt := rfl
@[simp] theorem State.modLane_fab (k : Nat) (f : Lane → Lane) : (s.modLane k f).fab = s.fab := rfl
@[simp] theorem State.modLane_col (k : Nat) (f : Lane → Lane) : (s.modLane k f).col = s.col := rfl
@[simp] theorem State.modLane_yuley (k : Nat) (f : Lane → Lane) : (s.modLane k f).yuley = s.yuley := rfl
@[simp] theorem State.modLane_procs (k : Nat) (f : Lane → Lane) : (s.modLane k f).procs = s.procs := rfl
@[simp] theorem State.modLane_boxes (k : Nat) (f : Lane → Lane) : (s.modLane k f).boxes = s.boxes := rfl
@[simp] theorem State.modLane_resend (k : Nat) (f : Lane → Lane) : (s.modLane k f).resend = s.resend := rfl
@[simp] theorem State.modLane_clk (k : Nat) (f : Lane → Lane) : (s.modLane k f).clk = s.clk := rfl
@[simp] theorem State.modLane_pwr (k : Nat) (f : Lane → Lane) : (s.modLane k f).pwr = s.pwr := rfl
@[simp] theorem State.modLane_rst (k : Nat) (f : Lane → Lane) : (s.modLane k f).rst = s.rst := rfl
@[simp] theorem State.modLane_sec (k : Nat) (f : Lane → Lane) : (s.modLane k f).sec = s.sec := rfl
@[simp] theorem State.modLane_sup (k : Nat) (f : Lane → Lane) : (s.modLane k f).sup = s.sup := rfl
@[simp] theorem State.modLane_dbg (k : Nat) (f : Lane → Lane) : (s.modLane k f).dbg = s.dbg := rfl
@[simp] theorem State.modLane_err (k : Nat) (f : Lane → Lane) : (s.modLane k f).err = s.err := rfl
@[simp] theorem State.modLane_arb (k : Nat) (f : Lane → Lane) : (s.modLane k f).arb = s.arb := rfl
@[simp] theorem State.modLane_get (k : Nat) (f : Lane → Lane) : (s.modLane k f).lane k = f (s.lane k) :=
  tabGet_tabMod_same ..
theorem State.modLane_get_other (k j : Nat) (f : Lane → Lane) (h : j ≠ k) : (s.modLane k f).lane j = s.lane j :=
  tabGet_tabMod_other _ _ _ _ _ h

/-! ### An event is raised -/

@[simp] theorem raise_pending (c e a b x y : Nat) : (raise c e a b x y s).pending = s.pending := rfl
@[simp] theorem raise_free (c e a b x y : Nat) : (raise c e a b x y s).free = s.free := rfl
@[simp] theorem raise_time (c e a b x y : Nat) : (raise c e a b x y s).time = s.time := rfl
@[simp] theorem raise_cut (c e a b x y : Nat) : (raise c e a b x y s).cut = s.cut := rfl
@[simp] theorem raise_repro (c e a b x y : Nat) : (raise c e a b x y s).repro = s.repro := rfl
@[simp] theorem raise_engines (c e a b x y : Nat) : (raise c e a b x y s).engines = s.engines := rfl
@[simp] theorem raise_tillers (c e a b x y : Nat) : (raise c e a b x y s).tillers = s.tillers := rfl
@[simp] theorem raise_localStore (c e a b x y : Nat) : (raise c e a b x y s).localStore = s.localStore := rfl
@[simp] theorem raise_crib (c e a b x y : Nat) : (raise c e a b x y s).crib = s.crib := rfl
@[simp] theorem raise_cribErr (c e a b x y : Nat) : (raise c e a b x y s).cribErr = s.cribErr := rfl
@[simp] theorem raise_writeback (c e a b x y : Nat) : (raise c e a b x y s).writeback = s.writeback := rfl
@[simp] theorem raise_parts (c e a b x y : Nat) : (raise c e a b x y s).parts = s.parts := rfl
@[simp] theorem raise_floor (c e a b x y : Nat) : (raise c e a b x y s).floor = s.floor := rfl
@[simp] theorem raise_cstacks (c e a b x y : Nat) : (raise c e a b x y s).cstacks = s.cstacks := rfl
@[simp] theorem raise_meshes (c e a b x y : Nat) : (raise c e a b x y s).meshes = s.meshes := rfl
@[simp] theorem raise_sill (c e a b x y : Nat) : (raise c e a b x y s).sill = s.sill := rfl
@[simp] theorem raise_hbm (c e a b x y : Nat) : (raise c e a b x y s).hbm = s.hbm := rfl
@[simp] theorem raise_rails (c e a b x y : Nat) : (raise c e a b x y s).rails = s.rails := rfl
@[simp] theorem raise_railTop (c e a b x y : Nat) : (raise c e a b x y s).railTop = s.railTop := rfl
@[simp] theorem raise_opt (c e a b x y : Nat) : (raise c e a b x y s).opt = s.opt := rfl
@[simp] theorem raise_fab (c e a b x y : Nat) : (raise c e a b x y s).fab = s.fab := rfl
@[simp] theorem raise_col (c e a b x y : Nat) : (raise c e a b x y s).col = s.col := rfl
@[simp] theorem raise_yuley (c e a b x y : Nat) : (raise c e a b x y s).yuley = s.yuley := rfl
@[simp] theorem raise_procs (c e a b x y : Nat) : (raise c e a b x y s).procs = s.procs := rfl
@[simp] theorem raise_boxes (c e a b x y : Nat) : (raise c e a b x y s).boxes = s.boxes := rfl
@[simp] theorem raise_resend (c e a b x y : Nat) : (raise c e a b x y s).resend = s.resend := rfl
@[simp] theorem raise_clk (c e a b x y : Nat) : (raise c e a b x y s).clk = s.clk := rfl
@[simp] theorem raise_pwr (c e a b x y : Nat) : (raise c e a b x y s).pwr = s.pwr := rfl
@[simp] theorem raise_rst (c e a b x y : Nat) : (raise c e a b x y s).rst = s.rst := rfl
@[simp] theorem raise_sec (c e a b x y : Nat) : (raise c e a b x y s).sec = s.sec := rfl
@[simp] theorem raise_sup (c e a b x y : Nat) : (raise c e a b x y s).sup = s.sup := rfl
@[simp] theorem raise_dbg (c e a b x y : Nat) : (raise c e a b x y s).dbg = s.dbg := rfl
@[simp] theorem raise_arb (c e a b x y : Nat) : (raise c e a b x y s).arb = s.arb := rfl

end Sys2Proof.Machine
end

