-- ==== Sys2Proof/Tests/Slice0.lean ====
section
/-! SUPPORT. The model's own tests: worked examples of the spec, the checks of the operands, and for every statement with
hypotheses a state and operands that meet them. -/

open Sys2Proof Sys2Proof.Machine

namespace Sys2Proof.Tests

set_option Elab.async false
set_option linter.unusedVariables false

/-! ### Worked examples of the spec -/

/-- The step word of the example after R214, as it lies in memory and as its fields. -/
def exampleWord : StepWord := 0x1040400404A000000000999FC6600000

/-- Chapter 9, example of R212: opcode, generation, offset, advance, wait mask and post of the word. -/
theorem test_step_word_fields : stOpcode exampleWord = 0x10 ∧ stGen exampleWord = 1 ∧ stOffset exampleWord = 16 ∧
    stAdvance exampleWord = 1 ∧ stWait exampleWord = 1 ∧ stPost exampleWord = 0x0A := by decide

/-- Chapter 9, the same example: the wait selects counter 8, and the route entry 0x004C_1426 is read. -/
theorem test_step_word_waits : stWaits exampleWord = [8] ∧ rtDest 0x004C1426 = 0x1426 ∧ rtCounter 0x004C1426 = 12 ∧
    rtValid 0x004C1426 = true := by decide

/-- Chapter 3, example of R65: the MMA of the example takes 2,148 cycles; the CLOAD of 544 rows takes 80. -/
theorem test_step_cycles : stepCycles 0x10 (stBody exampleWord) 1 = 2148 ∧
    stepCycles 0x30 (BitVec.ofNat 80 (543 * 2 ^ 29)) 1 = 80 := by decide

/-- Chapter 2, example of R46: the overrun record and OVR.LAST. -/
theorem test_overrun_word : Overrun.word (some
      { sheaf := 1042, offset := 1100, mask := 1, inherited := true, late := 100, engine := 0x1425 })
    = 0x14250064944C000000000412 := by decide

/-- Chapter 2, the same example: the due grain of T, with three idle sheaves inserted before it. -/
theorem test_due_grain : State.dueGrain { cut := { runBase := 8192000000, idles := [10, 20, 30] } } 1042 1100
    = 8196281420 := by decide

/-- Chapter 4, example of R97: an MXFP4 block of 5.25, -0.8125 and 0.046875 (code 6). -/
theorem test_mx_block : (let r := mxBlock 6 ([.fin false 21 (-2), .fin true 13 (-4), .fin false 3 (-6)]
      ++ List.replicate 29 Val.zero)
    r.1 = 0x7F ∧ r.2.take 3 = [0x7, 0xA, 0x0]) := by decide +kernel

/-- The elements of the two blocks of the example of R101. -/
def cellA : List Val := [0x7, 0xB, 0x1].map (decodeElem 6)
def cellB : List Val := [0x3, 0x6, 0x5].map (decodeElem 6)

/-- Chapter 4, example of R101, anchor -4: block 0 gives 9 with nothing lost, block 1 gives -1 with a bit lost. -/
theorem test_block_terms : blockTerm cellA cellB 6 6 0x7F 0x7C (-4) = { t := 9 } ∧
    blockTerm [decodeElem 6 1] [decodeElem 6 9] 6 6 0x7D 0x7E (-4) = { t := -1, lost := true } := by decide +kernel

/-- Chapter 4, the same example with the automatic anchor -113: the terms are 18 and -1 on the grid 2^108. -/
theorem test_block_terms_auto : (blockTerm cellA cellB 6 6 0x7F 0x7C (-113)).t = 18 * 2 ^ 108 ∧
    (blockTerm [decodeElem 6 1] [decodeElem 6 9] 6 6 0x7D 0x7E (-113)).t = -(2 ^ 108) := by decide +kernel

/-- Chapter 4, the same example: the bins of 8 and of 17 round to BF16 0x3F00 and 0x3F08. -/
theorem test_bin_rounds : encodeVal 9 (binVal 8 (-4)) = 0x3F00 ∧
    encodeVal 9 (binVal (17 * 2 ^ 108) (-113)) = 0x3F08 := by decide +kernel

/-- Chapter 8, example of R195: stack, pseudo-channel, bank, row and column of 0x00A3_5C7E_1A40. -/
theorem test_address_map : hbmStack 0xA35C7E1A40 = 5 ∧ hbmChannel 0xA35C7E1A40 = 9 ∧ hbmBank 0xA35C7E1A40 = 7 ∧
    hbmRow 0xA35C7E1A40 = 13940 ∧ hbmColumn 0xA35C7E1A40 = 14 := by decide

/-- Chapter 8, example of R201: the refresh slots of pseudo-channel 9 in both modes. -/
theorem test_refresh_slots : nextSlot false 9 0 = 18 ∧ nextSlot false 9 19 = 82 ∧ nextSlot true 9 0 = 9 ∧
    nextSlot true 9 10 = 41 := by decide

/-- Chapter 11, example of R279: the feedforward at 90 degrees. -/
theorem test_feedforward : ({ hcal := 35681, tcal := 1120, kff := 130488 } : Ring).ff 1440 = 25486 := by decide

/-- Chapter 13, example of R339: the shares of 4,096 granules over 64 ranks, and the packets of a share. -/
theorem test_shares : shareLen 4096 64 3 = 2048 ∧ cdiv (shareLen 4096 64 3) 7 = 293 := by decide

/-- Chapter 19, example of R458: 0x0000_0000 is newer than 0xFFFF_FFFF. -/
theorem test_newer : newer 0 0xFFFFFFFF = true ∧ newer 0xFFFFFFFF 0 = false := by decide

/-- Chapter 24, example of R536: the w0 of MEM_UNCORRECTABLE for burst 0x123_4000 and requester 163. -/
theorem test_uncorrectable_w0 : (recordUe (0x1234000 / 32) 163 {}).err.raised.head?.map (fun r => (r.code, r.w0))
    = some (0x0401, 0x0001460001234000) := by decide +kernel

/-- Chapter 24, the same example: bits [63:0] of RUN_HALT with eseq 901. -/
theorem test_record_word : recordWord { code := 0x0504, cls := evClass 0x0504, pend := true, eseq := 901 } % 2 ^ 64 = 0x00000385000B0504 := by
  decide +kernel

/-- Chapter 15, example of R389: the opcode, channel, tag and length of the header bytes 21 01 03 00 34 12. -/
theorem test_start_header : (let p : CmdPkt := { hdr := 0x100000123400030121 }
    p.gen = 1 ∧ p.opcode = 0x301 ∧ p.channel = 2 ∧ p.ref.tag = 0x1234 ∧ p.fld 64 32 = 16) := by decide

/-- FIPS 202: the first bytes of SHAKE256 of the empty message, on which R452 rests. -/
theorem test_shake256_empty : (shakeNat [] 4) % 2 ^ 32 = 0x2BDDB946 := by decide +kernel

/-! ### The operands of a command -/

theorem test_wf_pkt : ({ port := 2 } : CmdPkt).wf = false ∧ ({ port := 1 } : CmdPkt).wf = true := by decide
theorem test_wf_burst : ({ burst := hbmTop / 32, flip := 0 } : HbmUpset).wf = false := by decide
theorem test_wf_noise : ({ fails := [⟨0, 0, [1, 1, 1, 1], []⟩] } : CribNoise).wf = false := by decide
theorem test_wf_ring : ({ place := .port 0x08 0 true, wave := 0 } : RingId).wf = false := by decide
theorem test_wf_sensor : ({ kind := 4, unit := 32 } : SensorReading).wf = false := by decide
theorem test_wf_readings : ({ stackPower := [(1, 0, 0), (1, 0, 0)] } : SheafReadings).wf = false := by decide
theorem test_wf_bring : ({ tillers := [{ tiller := ⟨0, 0⟩ }, { tiller := ⟨0, 0⟩ }] } : BringTest).wf = false := by decide
theorem test_wf_act : ({ reads := [6] } : ProcAct).wf = false := by decide
theorem test_wf_engine : (Instr.stepIssue 0x0000).wf = false ∧ (Instr.stepIssue 0x1000).wf = true := by decide

/-! ### States for the witnesses -/

/-- A step word of an opcode and a body. -/
def word (op body : Nat) : BitVec 128 := BitVec.ofNat 128 (op * 2 ^ 120 + body)

/-- A state with one step in flight on an engine. -/
def flying (e op body : Nat) : State :=
  { engines := [(e, { present := true, flight := [{ unit := unitOf op, step := { word := word op body } }] })] }

/-- A stream of engine 0x4000 that reads from HBM site 0x10, open with tag 5. -/
def frameState : State :=
  { cut := { descs := [(0, { kind := 1, site := 0, lanes := [0x400110] })] },
    sill := { streams := [{ kind := 1, owner := 0x4000, opened := some 0, tag := 5, total := 1 }] } }

/-- Its frame 0 from transmit port 1 on wavelength 3 of the bus, with a good CRC. -/
def frame0 : BitVec 2240 := BitVec.ofNat 2240 (0x6110000000000501 + 2007764706 * 2 ^ 2208)

/-- An idle frame of the same lane, with a good CRC. -/
def idle0 : BitVec 2240 := BitVec.ofNat 2240 (0x6110000000000002 + 3260349969 * 2 ^ 2208)

/-- A state in which a PEGSET is in flight, with the stacks of its plan in service. -/
def pegState : State :=
  { engines := [(0x3000, { present := true, flight := [{ unit := 4, step := { word := word 0x70 0 } }] })],
    hbm := { mstacks := [(0, { state := 2 })] } }

/-- A state in which a list loads from empty memory, and one in which a die sequencer has one step still to fetch. -/
def loadState : State := { cut := { state := .loading }, hbm := { mstacks := [(0, { state := 2 })] } }
def refillState : State :=
  { cut := { state := .running }, engines := [(0x2000, { present := true, total := 1 })],
    hbm := { mstacks := [(0, { state := 2 })] } }

/-- A command packet of an opcode on port 0, channel 0, in generation 1. -/
def pkt (op : Nat) (payload : List (BitVec 8)) : CmdPkt :=
  { hdr := BitVec.ofNat 256 (1 + op * 2 ^ 8 + payload.length * 2 ^ 64), payload := payload }

/-- A PARAM_WRITE of so many bytes to a parameter. -/
def wpkt (id n v : Nat) : CmdPkt := pkt 0x101 (toBytes 8 id ++ toBytes n v)

/-- A module that is ready, with a session open on port 0. -/
def ready : State :=
  { yuley := { isOpen := true, gen := 1, ports := [(0, { state := 5 })] }, rst := { state := 4, episode := none }, sup := { hold := 1 } }

/-- The first byte of the request area of remote-access engine 0 in the windows of the rail-site buffers. -/
def area0 : Nat := bufAddr (fabSite 0) (2048 * fabGranule 0)

/-- Engine 0 is armed, with the header of a batch of one record; and states in which a batch of one record waits for a
FENCE, and for a LOAD of one byte. -/
def batchState : State := { fab := { engs := [(0, { armed := true })], window := [(area0, 1)] } }
def fenceState : State :=
  { fab := { engs := [(0, { batch := some { count := 1 } })], window := [(area0 + 72, 0x30)] } }
def issueState : State :=
  { fab := { engs := [(0, { batch := some { count := 1 } })], window := [(area0 + 72, 1)] } }

/-- A collective engine keeps a packet that no ack has covered for 200,000 grains, with rail 0 ACTIVE. -/
def resendState : State :=
  { time := { now := 200000 }, rails := [(0, { state := 5, logical := some 0 })], railTop := { formed := [0] },
    col := { engs := [(0, { job := some { unacked := [{ dest := 1 }], op := 0x80 } })] } }

theorem some_pair {α β : Type} (o : Option (α × β)) (a : α) (b : β) (h : o.map (·.1) = some a) :
    o = some (a, (o.map (·.2)).getD b) := by
  cases o with
  | none => simp at h
  | some x => obtain ⟨x, y⟩ := x; simp at h; simp [h]

/-- A module with every memory stack in service. -/
def memUp : State :=
  { ready with hbm := { size := 1, mstacks := (List.range 32).map (fun h => (h, { state := 2 })) } }

/-- A control word that carries a post from site 0x10. -/
def w1 : BitVec 128 := controlWord 1 0x10 0 0x1000 5

theorem tabFind_replicate {α : Type} (n k : Nat) (x : α) (h : 1 ≠ k) : tabFind (List.replicate n (1, x)) k = none := by
  induction n with
  | zero => rfl
  | succ n ih => simp [List.replicate_succ, tabFind, h, ih]

theorem take_table (t : List (Nat × StreamRec)) (q : Packet) (hc : q.cls = 1) :
    takeArrived 26 (fun p => p.cls == 1 && firstIn { railTop := { arrived := [(26, q)] }, fab := { table := t } } 26 p)
      { railTop := { arrived := [(26, q)] }, fab := { table := t } } = some (q, { fab := { table := t } }) := by
  simp [takeArrived, firstIn, delFirst, hc]

/-- A state in which a list loads, with a good header of an image of 4,096 bytes at address 0. -/
def imgState : State :=
  { cut := { state := .loading },
    hbm := { mstacks := [(0, { state := 2 }), (1, { state := 2 })],
             mem := [(0, 70), (1, 81), (2, 67), (3, 76), (4, 1), (6, 1), (9, 16), (112, 3)] } }

/-- A loaded list whose RESTORE reads an image at address 0 with a good header. -/
def savedState : State :=
  { cut := { state := .loaded, ranks := 1, restore := some {} },
    floor := (List.range 8).map (fun d => (d, { enabled := List.range 256 })),
    hbm := { mstacks := [(0, { state := 2 })],
             mem := [(0, 70), (1, 81), (2, 67), (3, 75), (4, 1), (6, 1), (41, 16), (42, 24), (43, 255), (44, 7)] } }

/-- The same with the stack in reset, with nothing in memory, with the list over the image, and on another number of ranks. -/
def savedReset : State := { savedState with hbm := { savedState.hbm with mstacks := [(0, { state := 1 })] } }
def savedEmpty : State := { savedState with hbm := { savedState.hbm with mem := [] } }
def savedOver : State := { savedState with cut := { savedState.cut with len := 1 } }
def savedOther : State := { savedState with cut := { savedState.cut with ranks := 2 } }

/-- A Yuley port that is ACTIVE on its four lanes. -/
def yuleyUp : State := { yuley := { ports := [(0, { state := 5, lanes := 15 })] } }
/-- The same with its receivers locked, in superframe lock, and before the port is ACTIVE. -/
def yuleyHeld : State := { yuley := { ports := [(0, { state := 5, lanes := 15, rx := [(10, { locked := true })] })] } }
def yuleyFramed : State :=
  { yuley := { ports := [(0, { state := 5, lanes := 15, rx := [10, 11].map (fun w => (w, { locked := true, framed := true })) })] } }
def yuleyTraining : State := { yuley := { ports := [(0, { state := 4, rx := [(10, { locked := true, framed := true })] })] } }

/-- A frame CRC taken on from a value, over some of the bytes. -/
def crcOn (v a n c : Nat) : Nat :=
  crcBits 32 0x1EDC6F41 c ((List.range' a n).flatMap (fun k => (bitsOf 8 (bits v (8 * k) 8)).reverse))

theorem crcOn_split (v a m n c d e : Nat) (h1 : crcOn v a m c = d) (h2 : crcOn v (a + m) n d = e) :
    crcOn v a (m + n) c = e := by
  rw [← h2, ← h1]
  simp [crcOn, crcBits, ← List.range'_append_1, List.flatMap_append, List.foldl_append]

theorem frameCrc_frame0 : frameCrc frame0 = 2007764706 := by
  have h0 : crcOn (frame0).toNat 0 46 0xFFFFFFFF = 2888603606 := by decide +kernel
  have h1 : crcOn (frame0).toNat 0 92 0xFFFFFFFF = 3176811260 :=
    crcOn_split _ 0 46 46 _ _ _ h0 (by decide +kernel)
  have h2 : crcOn (frame0).toNat 0 138 0xFFFFFFFF = 2042270217 :=
    crcOn_split _ 0 92 46 _ _ _ h1 (by decide +kernel)
  have h3 : crcOn (frame0).toNat 0 184 0xFFFFFFFF = 843435755 :=
    crcOn_split _ 0 138 46 _ _ _ h2 (by decide +kernel)
  have h4 : crcOn (frame0).toNat 0 230 0xFFFFFFFF = 2344228737 :=
    crcOn_split _ 0 184 46 _ _ _ h3 (by decide +kernel)
  have h5 : crcOn (frame0).toNat 0 276 0xFFFFFFFF = 2007764706 :=
    crcOn_split _ 0 230 46 _ _ _ h4 (by decide +kernel)
  unfold frameCrc; rw [List.range_eq_range']; exact h5

theorem frameCrc_idle0 : frameCrc idle0 = 3260349969 := by
  have h0 : crcOn (idle0).toNat 0 46 0xFFFFFFFF = 4264834715 := by decide +kernel
  have h1 : crcOn (idle0).toNat 0 92 0xFFFFFFFF = 911556576 :=
    crcOn_split _ 0 46 46 _ _ _ h0 (by decide +kernel)
  have h2 : crcOn (idle0).toNat 0 138 0xFFFFFFFF = 162870526 :=
    crcOn_split _ 0 92 46 _ _ _ h1 (by decide +kernel)
  have h3 : crcOn (idle0).toNat 0 184 0xFFFFFFFF = 954537837 :=
    crcOn_split _ 0 138 46 _ _ _ h2 (by decide +kernel)
  have h4 : crcOn (idle0).toNat 0 230 0xFFFFFFFF = 1407082827 :=
    crcOn_split _ 0 184 46 _ _ _ h3 (by decide +kernel)
  have h5 : crcOn (idle0).toNat 0 276 0xFFFFFFFF = 3260349969 :=
    crcOn_split _ 0 230 46 _ _ _ h4 (by decide +kernel)
  unfold frameCrc; rw [List.range_eq_range']; exact h5

theorem frameCrc_zero : frameCrc (0 : BitVec 2240) = 227388550 := by
  have h0 : crcOn ((0 : BitVec 2240)).toNat 0 46 0xFFFFFFFF = 2702088265 := by decide +kernel
  have h1 : crcOn ((0 : BitVec 2240)).toNat 0 92 0xFFFFFFFF = 3899263944 :=
    crcOn_split _ 0 46 46 _ _ _ h0 (by decide +kernel)
  have h2 : crcOn ((0 : BitVec 2240)).toNat 0 138 0xFFFFFFFF = 132817961 :=
    crcOn_split _ 0 92 46 _ _ _ h1 (by decide +kernel)
  have h3 : crcOn ((0 : BitVec 2240)).toNat 0 184 0xFFFFFFFF = 1606398272 :=
    crcOn_split _ 0 138 46 _ _ _ h2 (by decide +kernel)
  have h4 : crcOn ((0 : BitVec 2240)).toNat 0 230 0xFFFFFFFF = 213326241 :=
    crcOn_split _ 0 184 46 _ _ _ h3 (by decide +kernel)
  have h5 : crcOn ((0 : BitVec 2240)).toNat 0 276 0xFFFFFFFF = 227388550 :=
    crcOn_split _ 0 230 46 _ _ _ h4 (by decide +kernel)
  unfold frameCrc; rw [List.range_eq_range']; exact h5

/-- A data frame of a rail on lane 0, its slots empty, with a good CRC. -/
def railFrame0 : BitVec 4160 := BitVec.ofNat 4160 (1 + 2084866426 * 2 ^ 4128)

theorem railCrc_railFrame0 : railCrc railFrame0 = 2084866426 := by
  have h0 : crcOn (railFrame0).toNat 0 43 0xFFFFFFFF = 3076198888 := by decide +kernel
  have h1 : crcOn (railFrame0).toNat 0 86 0xFFFFFFFF = 2119848987 :=
    crcOn_split _ 0 43 43 _ _ _ h0 (by decide +kernel)
  have h2 : crcOn (railFrame0).toNat 0 129 0xFFFFFFFF = 3496319179 :=
    crcOn_split _ 0 86 43 _ _ _ h1 (by decide +kernel)
  have h3 : crcOn (railFrame0).toNat 0 172 0xFFFFFFFF = 2968025529 :=
    crcOn_split _ 0 129 43 _ _ _ h2 (by decide +kernel)
  have h4 : crcOn (railFrame0).toNat 0 215 0xFFFFFFFF = 2044784060 :=
    crcOn_split _ 0 172 43 _ _ _ h3 (by decide +kernel)
  have h5 : crcOn (railFrame0).toNat 0 258 0xFFFFFFFF = 773613916 :=
    crcOn_split _ 0 215 43 _ _ _ h4 (by decide +kernel)
  have h6 : crcOn (railFrame0).toNat 0 301 0xFFFFFFFF = 2921911786 :=
    crcOn_split _ 0 258 43 _ _ _ h5 (by decide +kernel)
  have h7 : crcOn (railFrame0).toNat 0 344 0xFFFFFFFF = 3263747651 :=
    crcOn_split _ 0 301 43 _ _ _ h6 (by decide +kernel)
  have h8 : crcOn (railFrame0).toNat 0 387 0xFFFFFFFF = 3493725427 :=
    crcOn_split _ 0 344 43 _ _ _ h7 (by decide +kernel)
  have h9 : crcOn (railFrame0).toNat 0 430 0xFFFFFFFF = 2701744978 :=
    crcOn_split _ 0 387 43 _ _ _ h8 (by decide +kernel)
  have h10 : crcOn (railFrame0).toNat 0 473 0xFFFFFFFF = 1585952044 :=
    crcOn_split _ 0 430 43 _ _ _ h9 (by decide +kernel)
  have h11 : crcOn (railFrame0).toNat 0 516 0xFFFFFFFF = 2084866426 :=
    crcOn_split _ 0 473 43 _ _ _ h10 (by decide +kernel)
  unfold railCrc; rw [List.range_eq_range']; exact h11

/-! ### Witnesses of the statements -/

/-- A command and a rest of the queue to which StepRunsFirstCommand applies. -/
theorem wit_StepRunsFirstCommand : ∃ (c : Instr) (rest : List Instr), c ≠ .eventSend ∧ rest ≠ [] :=
  ⟨.alertNFall, [.eventSend], by decide⟩

/-- A module with an empty queue, away from a level-3 reset. -/
theorem wit_EmptyQueueCountsOneGrain_1 : ∃ s : State, s.pending = [] ∧
    (s.time.retard = false ∨ s.runActive = true ∨ s.time.retardPhase < 16) ∧
    (∀ ep, s.rst.episode = some ep → ep.level ≠ 3) ∧ s.clk.crossings = [] ∧ s.railTop.bus = [] ∧
    (∀ st ∈ s.sill.streams, st.abortAt = none) :=
  ⟨{ rst := { episode := none } }, by decide, by decide, by simp, by decide, by decide, by simp⟩

/-- A retarded counter in its seventeenth grain. -/
theorem wit_EmptyQueueCountsOneGrain_2 : ∃ s : State, s.pending = [] ∧ s.time.retard = true ∧ s.runActive = false ∧
    16 ≤ s.time.retardPhase ∧ (∀ ep, s.rst.episode = some ep → ep.level ≠ 3) ∧ s.clk.crossings = [] ∧
    s.railTop.bus = [] ∧ (∀ st ∈ s.sill.streams, st.abortAt = none) :=
  ⟨{ rst := { episode := none }, time := { retard := true, retardPhase := 16 } }, by decide, by decide, by decide, by decide,
    by simp, by decide, by decide, by simp⟩

/-- A module in a level-3 reset. -/
theorem wit_EmptyQueueCountsOneGrain_3 : ∃ (s : State) (ep : Episode), s.pending = [] ∧ s.rst.episode = some ep ∧
    ep.level = 3 ∧ s.clk.crossings = [] ∧ s.railTop.bus = [] ∧ (∀ st ∈ s.sill.streams, st.abortAt = none) :=
  ⟨{ rst := { episode := some { level := 3 } } }, { level := 3 }, by decide, by decide, by decide, by decide, by decide,
    by simp⟩

theorem wit_EveryStepKeepsMemoriesCanonical : ∃ s t : State, MemOk s ∧ step s = .next t :=
  ⟨{ pending := [.alertNFall] }, _, ⟨rfl, rfl, rfl, rfl, rfl, rfl⟩, rfl⟩

theorem wit_EveryStepTakesOneCommand : ∃ s t : State, s.pending ≠ [] ∧ step s = .next t :=
  ⟨{ pending := [.alertNFall] }, _, by decide, rfl⟩

theorem wit_OnlyPowerOnDetectionClearsTrip : ∃ s t : State,
    (∀ cause, s.pending.head? ≠ some (.powerOnDetectAssert cause)) ∧ s.pending.head? ≠ some .inputLockout ∧
    s.pending.head? ≠ some .supplyStageFault ∧ s.pwr.trip = true ∧ step s = .next t :=
  ⟨{ pending := [.alertNFall], pwr := { trip := true } }, _, by simp, by simp, by simp, rfl, rfl⟩

theorem wit_AntiRollbackCounterNeverFalls : ∃ s t : State, 0 < s.sec.counter ∧ step s = .next t :=
  ⟨{ pending := [.alertNFall], sec := { counter := 3 } }, _, by decide, rfl⟩

/-- A state and operands that meet the hypotheses of clause 1 of TimeBaseRowsComplete. -/
theorem wit_TimeBaseRowsComplete_1 : ∃ (port : Fin 2) (msg : Word128) (frac : Fin 64) (s : State),
    markOk s port.val msg frac.val = true :=
  ⟨0, 0x60000000000000000000000010000001#128, 0, {}, by decide +kernel⟩

/-- A state and operands that meet the hypotheses of clause 2 of TimeBaseRowsComplete. -/
theorem wit_TimeBaseRowsComplete_2 : ∃ (port : Fin 2) (msg : Word128) (frac : Fin 64) (s : State),
    markOk s port.val msg frac.val = false :=
  ⟨0, 0, 0, {}, by decide +kernel⟩

/-- A state and operands that meet the hypotheses of clause 3 of TimeBaseRowsComplete. -/
theorem wit_TimeBaseRowsComplete_3 : ∃ (port : Fin 2) (s : State) (k : Nat),
    markDue s port.val = some k ∧ ((s.tport port.val).freq = true ∨ (s.tport port.val).valid = true) ∧ (s.tport port.val).markSheaf = none :=
  ⟨0, { time := { now := 8300, offset := -(Config.portLatency 0 : Int), p0 := { freq := true } } }, 2, by
    have h : (Config.portLatency 0 : Int) + -(Config.portLatency 0 : Int) = 0 := by omega
    simp [markDue, State.tport, State.now, h], Or.inl rfl, rfl⟩

/-- A state and operands that meet the hypotheses of clause 4 of TimeBaseRowsComplete. -/
theorem wit_TimeBaseRowsComplete_4 : ∃ (port : Fin 2) (s : State) (k m : Nat),
    markDue s port.val = some k ∧ ((s.tport port.val).freq = true ∨ (s.tport port.val).valid = true) ∧ (s.tport port.val).markSheaf = some m ∧ m < k :=
  ⟨0, { time := { now := 8300, offset := -(Config.portLatency 0 : Int), p0 := { freq := true, markSheaf := some 1 } } }, 2, 1, by
    have h : (Config.portLatency 0 : Int) + -(Config.portLatency 0 : Int) = 0 := by omega
    simp [markDue, State.tport, State.now, h], Or.inl rfl, rfl, by decide⟩

/-- A state and operands that meet the hypotheses of clause 5 of TimeBaseRowsComplete. -/
theorem wit_TimeBaseRowsComplete_5 : ∃ (port : Fin 2) (msg : Word128) (frac : Fin 64) (s : State) (j : LockJob) (q : Nat × Nat),
    s.lockOf port.val = some j ∧ j.isOpen.find? (fun q => q.1 == tmSeq msg) = some q ∧ checkOk msg = true ∧ tmType msg = 3 ∧ tmReservedOk msg = true :=
  ⟨0, 0x62000000000000000000000000000703#128, 0, { time := { locks := [(0, { isOpen := [(7, 64)] })] } }, { isOpen := [(7, 64)] }, (7, 64), by decide +kernel, by decide +kernel, by decide +kernel, by decide +kernel, by decide +kernel⟩

/-- A state and operands that meet the hypotheses of clause 6 of TimeBaseRowsComplete. -/
theorem wit_TimeBaseRowsComplete_6 : ∃ (port : Fin 2) (s : State),
    s.time.st ≠ .unset ∧ (s.tport port.val).valid = true :=
  ⟨0, { time := { st := .locked, p0 := { valid := true } } }, by decide +kernel, by decide +kernel⟩

/-- A state and operands that meet the hypotheses of clause 7 of TimeBaseRowsComplete. -/
theorem wit_TimeBaseRowsComplete_7 : ∃ (port : Fin 2) (s : State),
    s.time.st = .unset :=
  ⟨0, {}, by decide +kernel⟩

/-- A state and operands that meet the hypotheses of clause 8 of TimeBaseRowsComplete. -/
theorem wit_TimeBaseRowsComplete_8 : ∃ (s : State),
    s.time.st ≠ .locking :=
  ⟨{}, by decide +kernel⟩

/-- A state and operands that meet the hypotheses of clause 9 of TimeBaseRowsComplete. -/
theorem wit_TimeBaseRowsComplete_9 : ∃ (s : State),
    s.time.st = .locking :=
  ⟨{ time := { st := .locking } }, by decide +kernel⟩

/-- A state and operands that meet the hypotheses of clause 10 of TimeBaseRowsComplete. -/
theorem wit_TimeBaseRowsComplete_10 : ∃ (s : State),
    s.time.st = .holdover ∧ 1000000000 < s.time.errAs :=
  ⟨{ time := { st := .holdover, errAs := 2000000000 } }, by decide +kernel, by decide +kernel⟩

/-- A state and operands that meet the hypotheses of clause 11 of TimeBaseRowsComplete. -/
theorem wit_TimeBaseRowsComplete_11 : ∃ (s : State),
    s.time.st = .holdover :=
  ⟨{ time := { st := .holdover } }, by decide +kernel⟩

/-- A state and operands that meet the hypotheses of clause 12 of TimeBaseRowsComplete. -/
theorem wit_TimeBaseRowsComplete_12 : ∃ (s : State),
    s.time.st ≠ .holdover :=
  ⟨{}, by decide +kernel⟩

/-- A state and operands that meet the hypotheses of clause 14 of TimeBaseRowsComplete. -/
theorem wit_TimeBaseRowsComplete_14 : ∃ (s : State),
    s.time.st = .slewing ∧ s.time.offset.natAbs ≤ 64 :=
  ⟨{ time := { st := .slewing, offset := 3 } }, by decide +kernel, by decide +kernel⟩

/-- A state and operands that meet the hypotheses of clause 1 of LosingToleranceIsReported. -/
theorem wit_LosingToleranceIsReported : ∃ (s : State),
    s.time.st = .holdover ∧ 1000000000 < s.time.errAs :=
  ⟨{ time := { st := .holdover, errAs := 2000000000 } }, by decide +kernel, by decide +kernel⟩

/-- A state and operands that meet the hypotheses of clause 1 of SheafBoundaryStrobesOnce. -/
theorem wit_SheafBoundaryStrobesOnce_1 : ∃ (r : SheafReadings) (s : State),
    s.atBoundary = true ∧ s.time.strobed ≠ some s.now ∧ ((∀ ep, s.rst.episode = some ep → ep.level ≠ 3)) :=
  ⟨{}, { rst := { episode := none } }, by decide +kernel, by decide +kernel, by simp⟩

/-- A state and operands that meet the hypotheses of clause 2 of SheafBoundaryStrobesOnce. -/
theorem wit_SheafBoundaryStrobesOnce_2 : ∃ (r : SheafReadings) (s : State),
    (s.atBoundary = false ∨ s.time.strobed = some s.now) :=
  ⟨{}, { time := { now := 1 } }, by decide +kernel⟩

/-- A state and operands that meet the hypotheses of clause 1 of RunStartsAtItsGrain. -/
theorem wit_RunStartsAtItsGrain_1 : ∃ (s : State) (g : Nat),
    s.cut.state = .armed ∧ s.cut.startAt = some g ∧ g ≤ s.now ∧ s.cut.resumeMark = none ∧ (s.time.strobed = some s.now → s.now < g + 4096) :=
  ⟨{ time := { now := 70000 }, cut := { state := .armed, startAt := some 65536 } }, 65536, by decide +kernel, by decide +kernel, by decide +kernel, by decide +kernel, by decide +kernel⟩

/-- A state and operands that meet the hypotheses of clause 2 of RunStartsAtItsGrain. -/
theorem wit_RunStartsAtItsGrain_2 : ∃ (s : State) (g m : Nat),
    s.cut.state = .armed ∧ s.cut.startAt = some g ∧ g ≤ s.now ∧ s.cut.resumeMark = some m ∧ (s.time.strobed = some s.now → s.now < g + 4096 ∧ s.cut.marks.getD m 0 + s.cut.idle < 2 ^ 52) :=
  ⟨{ time := { now := 70000 }, cut := { state := .armed, startAt := some 65536, resumeMark := some 0, marks := [4] } }, 65536, 0, by decide +kernel, by decide +kernel, by decide +kernel, by decide +kernel, by decide +kernel⟩

/-- A state and operands that meet the hypotheses of clause 3 of RunStartsAtItsGrain. -/
theorem wit_RunStartsAtItsGrain_3 : ∃ (s : State) (g : Nat),
    s.cut.state = .armed ∧ s.cut.startAt = some g ∧ s.now < g :=
  ⟨{ cut := { state := .armed, startAt := some 65536 } }, 65536, by decide +kernel, by decide +kernel, by decide +kernel⟩

/-- A state and operands that meet the hypotheses of clause 4 of RunStartsAtItsGrain. -/
theorem wit_RunStartsAtItsGrain_4 : ∃ (s : State),
    s.cut.state = .running ∧ s.cut.idleDue = true ∧ s.atBoundary = true :=
  ⟨{ cut := { state := .running, idleDue := true } }, by decide +kernel, by decide +kernel, by decide +kernel⟩

/-- A state and operands that meet the hypotheses of clause 1 of QueueHeadStepsComplete. -/
theorem wit_QueueHeadStepsComplete_1 : ∃ (eng : BitVec 16) (s : State) (q : QStep) (rest : List QStep),
    engValid eng.toNat = true ∧ (s.engine eng.toNat).queue = q :: rest ∧ canIssue s eng.toNat (s.engine eng.toNat) q rest = true :=
  ⟨0x1000#16, { time := { now := 1 }, cut := { state := .running }, engines := [(0x1000, { present := true, queue := [{ word := word 16 0 }] })] }, { word := word 0x10 0 }, [], by decide +kernel, by decide +kernel, by decide +kernel⟩

/-- A state and operands that meet the hypotheses of clause 2 of QueueHeadStepsComplete. -/
theorem wit_QueueHeadStepsComplete_2 : ∃ (eng : BitVec 16) (s : State) (q : QStep) (rest : List QStep),
    engValid eng.toNat = true ∧ (s.engine eng.toNat).queue = q :: rest ∧ stOpcode q.word = 0x01 ∧ canIssue s eng.toNat (s.engine eng.toNat) q rest = true :=
  ⟨0x1000#16, { time := { now := 1 }, cut := { state := .running }, engines := [(0x1000, { present := true, queue := [{ word := word 1 0 }] })] }, { word := word 1 0 }, [], by decide +kernel, by decide +kernel, by decide +kernel, by decide +kernel⟩

/-- A state and operands that meet the hypotheses of clause 3 of QueueHeadStepsComplete. -/
theorem wit_QueueHeadStepsComplete_3 : ∃ (eng : BitVec 16) (s : State) (q : QStep) (rest : List QStep),
    engValid eng.toNat = true ∧ (s.engine eng.toNat).queue = q :: rest ∧ stOpcode q.word = 0x02 ∧ canIssue s eng.toNat (s.engine eng.toNat) q rest = true :=
  ⟨0x1000#16, { time := { now := 1 }, cut := { state := .running }, engines := [(0x1000, { present := true, queue := [{ word := word 2 0 }] })] }, { word := word 2 0 }, [], by decide +kernel, by decide +kernel, by decide +kernel, by decide +kernel⟩

/-- A state and operands that meet the hypotheses of clause 4 of QueueHeadStepsComplete. -/
theorem wit_QueueHeadStepsComplete_4 : ∃ (eng : BitVec 16) (s : State) (q : QStep) (rest : List QStep),
    engValid eng.toNat = true ∧ (s.engine eng.toNat).queue = q :: rest ∧ stOpcode q.word = 0x03 ∧ canIssue s eng.toNat (s.engine eng.toNat) q rest = true :=
  ⟨0x1000#16, { time := { now := 1 }, cut := { state := .running }, engines := [(0x1000, { present := true, queue := [{ word := word 3 0 }] })] }, { word := word 3 0 }, [], by decide +kernel, by decide +kernel, by decide +kernel, by decide +kernel⟩

/-- A state and operands that meet the hypotheses of clause 5 of QueueHeadStepsComplete. -/
theorem wit_QueueHeadStepsComplete_5 : ∃ (eng : BitVec 16) (s : State) (q : QStep) (rest : List QStep),
    engValid eng.toNat = true ∧ engKind eng.toNat = 1 ∧ (s.engine eng.toNat).queue = q :: rest ∧ stOpcode q.word = 0x04 ∧ canIssue s eng.toNat (s.engine eng.toNat) q rest = true :=
  ⟨0x1000#16, { time := { now := 1 }, cut := { state := .running }, engines := [(0x1000, { present := true, queue := [{ word := word 4 0 }, { word := word 0x10 0 }] })] }, { word := word 4 0 }, [{ word := word 0x10 0 }], by decide +kernel, by decide +kernel, by decide +kernel, by decide +kernel, by decide +kernel⟩

/-- A state and operands that meet the hypotheses of clause 6 of QueueHeadStepsComplete. -/
theorem wit_QueueHeadStepsComplete_6 : ∃ (eng : BitVec 16) (s : State) (q : QStep) (rest : List QStep),
    engValid eng.toNat = true ∧ engKind eng.toNat = 4 ∧ (s.engine eng.toNat).queue = q :: rest ∧ stOpcode q.word = 0x04 ∧ canIssue s eng.toNat (s.engine eng.toNat) q rest = true :=
  ⟨0x4000#16, { time := { now := 1 }, cut := { state := .running }, engines := [(0x4000, { present := true, queue := [{ word := word 4 0 }, { word := word 0x60 0 }] })] }, { word := word 4 0 }, [{ word := word 0x60 0 }], by decide +kernel, by decide +kernel, by decide +kernel, by decide +kernel, by decide +kernel⟩

/-- A state and operands that meet the hypotheses of clause 7 of QueueHeadStepsComplete. -/
theorem wit_QueueHeadStepsComplete_7 : ∃ (eng : BitVec 16) (s : State) (q : QStep) (rest : List QStep),
    engValid eng.toNat = true ∧ (s.engine eng.toNat).queue = q :: rest ∧ stOpcode q.word = 0x05 ∧ canIssue s eng.toNat (s.engine eng.toNat) q rest = true :=
  ⟨0x1000#16, { time := { now := 1 }, cut := { state := .running }, engines := [(0x1000, { present := true, queue := [{ word := word 5 0 }] })] }, { word := word 5 0 }, [], by decide +kernel, by decide +kernel, by decide +kernel, by decide +kernel⟩

/-- A state and operands that meet the hypotheses of clause 8 of QueueHeadStepsComplete. -/
theorem wit_QueueHeadStepsComplete_8 : ∃ (eng : BitVec 16) (s : State) (q : QStep) (rest : List QStep),
    engValid eng.toNat = true ∧ (s.engine eng.toNat).queue = q :: rest ∧ stOpcode q.word = 0x06 ∧ canIssue s eng.toNat (s.engine eng.toNat) q rest = true :=
  ⟨0x1000#16, { time := { now := 1 }, cut := { state := .running }, engines := [(0x1000, { present := true, queue := [{ word := word 6 0 }] })] }, { word := word 6 0 }, [], by decide +kernel, by decide +kernel, by decide +kernel, by decide +kernel⟩

/-- A state and operands that meet the hypotheses of clause 9 of QueueHeadStepsComplete. -/
theorem wit_QueueHeadStepsComplete_9 : ∃ (eng : BitVec 16) (s : State) (q : QStep) (rest : List QStep),
    engValid eng.toNat = true ∧ (s.engine eng.toNat).queue = q :: rest ∧ canIssue s eng.toNat (s.engine eng.toNat) q rest = false :=
  ⟨0x1000#16, { engines := [(0x1000, { present := true, queue := [{ word := word 0x10 0 }] })] }, { word := word 0x10 0 }, [], by decide +kernel, by decide +kernel, by decide +kernel⟩

/-- A step that issues: its engine's queue is empty after it. -/
theorem wit_StepNeverIssuesEarly : ∃ (eng : BitVec 16) (s t : State), exec (.stepIssue eng) s = .next t ∧ t ≠ s := by
  refine ⟨0x1000#16, { time := { now := 1 }, cut := { state := .running }, engines := [(0x1000, { present := true, queue := [{ word := word 16 0 }] })] }, _, rfl, ?_⟩
  intro h
  have h := congrArg (fun s => (s.engine 0x1000).queue.length) h
  revert h
  decide +kernel

/-- A state and operands that meet the hypotheses of clause 1 of TokenPostCounts. -/
theorem wit_TokenPostCounts_1 : ∃ (eng : BitVec 16) (counter : Fin 64) (flip : Word128) (s : State) (x : Post),
    engValid eng.toNat = true ∧ s.cut.posts.find? (fun p => p.dest == eng.toNat && p.counter == counter.val) = some x ∧ x.word = none ∧ (countOf (s.engine eng.toNat) counter.val).count < 0xFFFF :=
  ⟨0x1000#16, 5, 0, { cut := { posts := [{ dest := 0x1000, counter := 5 }] } }, { dest := 0x1000, counter := 5 }, by decide +kernel, by decide +kernel, by decide +kernel, by decide +kernel⟩

/-- A state and operands that meet the hypotheses of clause 2 of TokenPostCounts. -/
theorem wit_TokenPostCounts_2 : ∃ (eng : BitVec 16) (counter : Fin 64) (flip : Word128) (s : State) (x : Post),
    engValid eng.toNat = true ∧ s.cut.posts.find? (fun p => p.dest == eng.toNat && p.counter == counter.val) = some x ∧ x.word = none ∧ (countOf (s.engine eng.toNat) counter.val).count = 0xFFFF :=
  ⟨0x1000#16, 5, 0, { cut := { posts := [{ dest := 0x1000, counter := 5 }] }, engines := [(0x1000, { tokens := [(5, { count := 0xFFFF })] })] }, { dest := 0x1000, counter := 5 }, by decide +kernel, by decide +kernel, by decide +kernel, by decide +kernel⟩

/-- A state and operands that meet the hypotheses of clause 3 of TokenPostCounts. -/
theorem wit_TokenPostCounts_3 : ∃ (eng : BitVec 16) (counter : Fin 64) (flip : Word128) (s : State) (x : Post) (w : Word128),
    engValid eng.toNat = true ∧ s.cut.posts.find? (fun p => p.dest == eng.toNat && p.counter == counter.val) = some x ∧ x.word = some w ∧ awaitsRepeat s w = false ∧ wordUnlit s w = false ∧ checkOk (w ^^^ flip) = true :=
  ⟨0x1000#16, 5, 0, { cut := { posts := [{ dest := 0x1000, counter := 5, word := some w1 }] } }, { dest := 0x1000, counter := 5, word := some w1 }, w1, by decide +kernel, by decide +kernel, by decide +kernel, by decide +kernel, by decide +kernel, by decide +kernel⟩

/-- A state and operands that meet the hypotheses of clause 4 of TokenPostCounts. -/
theorem wit_TokenPostCounts_4 : ∃ (eng : BitVec 16) (counter : Fin 64) (flip : Word128) (s : State) (x : Post) (w : Word128),
    engValid eng.toNat = true ∧ s.cut.posts.find? (fun p => p.dest == eng.toNat && p.counter == counter.val) = some x ∧ x.word = some w ∧ awaitsRepeat s w = false ∧ wordUnlit s w = false ∧ checkOk (w ^^^ flip) = false :=
  ⟨0x1000#16, 5, 1, { cut := { posts := [{ dest := 0x1000, counter := 5, word := some w1 }] } }, { dest := 0x1000, counter := 5, word := some w1 }, w1, by decide +kernel, by decide +kernel, by decide +kernel, by decide +kernel, by decide +kernel, by decide +kernel⟩

/-- A state and operands that meet the hypotheses of clause 5 of TokenPostCounts. -/
theorem wit_TokenPostCounts_5 : ∃ (eng : BitVec 16) (counter : Fin 64) (flip : Word128) (s : State) (x : Post) (w : Word128),
    engValid eng.toNat = true ∧ s.cut.posts.find? (fun p => p.dest == eng.toNat && p.counter == counter.val) = some x ∧ x.word = some w ∧ awaitsRepeat s w = true :=
  ⟨0x1000#16, 5, 1, { cut := { posts := [{ dest := 0x1000, counter := 5, word := some w1 }] }, sill := { repeats := [(16, w1)] } }, { dest := 0x1000, counter := 5, word := some w1 }, w1, by decide +kernel, by decide +kernel, by decide +kernel, by decide +kernel⟩

/-- A state and operands that meet the hypotheses of clause 1 of MatrixStepsComplete. -/
theorem wit_MatrixStepsComplete_1 : ∃ (t : TillerId) (body : Body) (s : State) (f : Flight),
    flightOf (s.engine (tEng t)) 0 (isStep 0x10 body) = some f :=
  ⟨⟨0, 0⟩, 0, flying 0x1000 0x10 0, { unit := 0, step := { word := word 0x10 0 } }, by decide +kernel⟩

/-- A state and operands that meet the hypotheses of clause 2 of MatrixStepsComplete. -/
theorem wit_MatrixStepsComplete_2 : ∃ (t : TillerId) (body : Body) (s : State) (f : Flight),
    flightOf (s.engine (tEng t)) 0 (isStep 0x11 body) = some f :=
  ⟨⟨0, 0⟩, 0, flying 0x1000 0x11 0, { unit := 0, step := { word := word 0x11 0 } }, by decide +kernel⟩

/-- A state and operands that meet the hypotheses of clause 3 of MatrixStepsComplete. -/
theorem wit_MatrixStepsComplete_3 : ∃ (t : TillerId) (body : Body) (s : State) (f : Flight),
    flightOf (s.engine (tEng t)) 0 (isStep 0x12 body) = some f :=
  ⟨⟨0, 0⟩, 0, flying 0x1000 0x12 0, { unit := 0, step := { word := word 0x12 0 } }, by decide +kernel⟩

/-- A state and operands that meet the hypotheses of clause 4 of MatrixStepsComplete. -/
theorem wit_MatrixStepsComplete_4 : ∃ (t : TillerId) (body : Body) (s : State) (f : Flight),
    flightOf (s.engine (tEng t)) 0 (isStep 0x13 body) = some f :=
  ⟨⟨0, 0⟩, 0, flying 0x1000 0x13 0, { unit := 0, step := { word := word 0x13 0 } }, by decide +kernel⟩

/-- A state and operands that meet the hypotheses of clause 1 of VectorStepsComplete. -/
theorem wit_VectorStepsComplete_1 : ∃ (t : TillerId) (body : Body) (s : State) (f : Flight),
    flightOf (s.engine (tEng t)) 1 (isStep 0x20 body) = some f :=
  ⟨⟨0, 0⟩, 0, flying 0x1000 0x20 0, { unit := 1, step := { word := word 0x20 0 } }, by decide +kernel⟩

/-- A state and operands that meet the hypotheses of clause 2 of VectorStepsComplete. -/
theorem wit_VectorStepsComplete_2 : ∃ (t : TillerId) (body : Body) (s : State) (f : Flight),
    flightOf (s.engine (tEng t)) 1 (isStep 0x21 body) = some f :=
  ⟨⟨0, 0⟩, 0, flying 0x1000 0x21 0, { unit := 1, step := { word := word 0x21 0 } }, by decide +kernel⟩

/-- A state and operands that meet the hypotheses of clause 3 of VectorStepsComplete. -/
theorem wit_VectorStepsComplete_3 : ∃ (t : TillerId) (body : Body) (s : State) (f : Flight),
    flightOf (s.engine (tEng t)) 1 (isStep 0x22 body) = some f :=
  ⟨⟨0, 0⟩, 0, flying 0x1000 0x22 0, { unit := 1, step := { word := word 0x22 0 } }, by decide +kernel⟩

/-- A state and operands that meet the hypotheses of clause 4 of VectorStepsComplete. -/
theorem wit_VectorStepsComplete_4 : ∃ (t : TillerId) (body : Body) (s : State) (f : Flight),
    flightOf (s.engine (tEng t)) 1 (isStep 0x23 body) = some f :=
  ⟨⟨0, 0⟩, 0, flying 0x1000 0x23 0, { unit := 1, step := { word := word 0x23 0 } }, by decide +kernel⟩

/-- A state and operands that meet the hypotheses of clause 5 of VectorStepsComplete. -/
theorem wit_VectorStepsComplete_5 : ∃ (t : TillerId) (body : Body) (s : State) (f : Flight),
    flightOf (s.engine (tEng t)) 1 (isStep 0x24 body) = some f :=
  ⟨⟨0, 0⟩, 0, flying 0x1000 0x24 0, { unit := 1, step := { word := word 0x24 0 } }, by decide +kernel⟩

/-- A state and operands that meet the hypotheses of clause 6 of VectorStepsComplete. -/
theorem wit_VectorStepsComplete_6 : ∃ (t : TillerId) (body : Body) (s : State) (f : Flight),
    flightOf (s.engine (tEng t)) 1 (isStep 0x25 body) = some f :=
  ⟨⟨0, 0⟩, 0, flying 0x1000 0x25 0, { unit := 1, step := { word := word 0x25 0 } }, by decide +kernel⟩

/-- A state and operands that meet the hypotheses of clause 7 of VectorStepsComplete. -/
theorem wit_VectorStepsComplete_7 : ∃ (t : TillerId) (body : Body) (s : State) (f : Flight),
    flightOf (s.engine (tEng t)) 1 (isStep 0x26 body) = some f :=
  ⟨⟨0, 0⟩, 0, flying 0x1000 0x26 0, { unit := 1, step := { word := word 0x26 0 } }, by decide +kernel⟩

/-- A state and operands that meet the hypotheses of clause 8 of VectorStepsComplete. -/
theorem wit_VectorStepsComplete_8 : ∃ (t : TillerId) (body : Body) (s : State) (f : Flight),
    flightOf (s.engine (tEng t)) 1 (isStep 0x27 body) = some f :=
  ⟨⟨0, 0⟩, 0, flying 0x1000 0x27 0, { unit := 1, step := { word := word 0x27 0 } }, by decide +kernel⟩

/-- A state and operands that meet the hypotheses of clause 9 of VectorStepsComplete. -/
theorem wit_VectorStepsComplete_9 : ∃ (t : TillerId) (body : Body) (s : State) (f : Flight),
    flightOf (s.engine (tEng t)) 1 (isStep 0x28 body) = some f :=
  ⟨⟨0, 0⟩, 0, flying 0x1000 0x28 0, { unit := 1, step := { word := word 0x28 0 } }, by decide +kernel⟩

/-- A state and operands that meet the hypotheses of clause 1 of CribStepsComplete. -/
theorem wit_CribStepsComplete_1 : ∃ (t : TillerId) (body : Body) (noise : CribNoise) (s : State) (f : Flight),
    flightOf (s.engine (tEng t)) 2 (isStep 0x30 body) = some f ∧ partRuns s (tKey t) = true :=
  ⟨⟨0, 0⟩, 0, {}, flying 0x1000 0x30 0, { unit := 2, step := { word := word 0x30 0 } }, by decide +kernel, by decide +kernel⟩

/-- A state and operands that meet the hypotheses of clause 2 of CribStepsComplete. -/
theorem wit_CribStepsComplete_2 : ∃ (t : TillerId) (body : Body) (noise : CribNoise) (s : State) (f : Flight),
    flightOf (s.engine (tEng t)) 2 (isStep 0x31 body) = some f ∧ partRuns s (tKey t) = true :=
  ⟨⟨0, 0⟩, 0, {}, flying 0x1000 0x31 0, { unit := 2, step := { word := word 0x31 0 } }, by decide +kernel, by decide +kernel⟩

/-- A state and operands that meet the hypotheses of clause 3 of CribStepsComplete. -/
theorem wit_CribStepsComplete_3 : ∃ (t : TillerId) (row : Fin 57344) (s : State),
    rowKey (tKey t) row.val ∈ s.writeback ∧ partRuns s (tKey t) = true ∧ (tabGet s.cribErr (rowKey (tKey t) row.val) {}).multi = [] :=
  ⟨⟨0, 0⟩, 3, { writeback := [3] }, by decide +kernel, by decide +kernel, by decide +kernel⟩

/-- A state and operands that meet the hypotheses of clause 4 of CribStepsComplete. -/
theorem wit_CribStepsComplete_4 : ∃ (t : TillerId) (row : Fin 57344) (s : State) (e : RowErr),
    rowKey (tKey t) row.val ∈ s.writeback ∧ partRuns s (tKey t) = true ∧ tabGet s.cribErr (rowKey (tKey t) row.val) {} = e ∧ e.multi ≠ [] :=
  ⟨⟨0, 0⟩, 3, { writeback := [3], cribErr := [(3, { multi := [1] })] }, { multi := [1] }, by decide +kernel, by decide +kernel, by decide +kernel, by decide +kernel⟩

/-- A state and operands that meet the hypotheses of clause 5 of CribStepsComplete. -/
theorem wit_CribStepsComplete_5 : ∃ (t : TillerId) (group : Fin 8) (lanes : List (Fin 2372)) (s : State),
    0 < ((s.part (tKey t)).group group.val).scans ∧ partRuns s (tKey t) = true :=
  ⟨⟨0, 0⟩, 2, [9], { parts := [(0, { groups := [(2, { scans := 1 })] })] }, by decide +kernel, by decide +kernel⟩

/-- A state and operands that meet the hypotheses of clause 6 of CribStepsComplete. -/
theorem wit_CribStepsComplete_6 : ∃ (t : TillerId) (group : Fin 8) (l : Fin 2372) (s : State),
    0 < ((s.part (tKey t)).group group.val).scans ∧ partRuns s (tKey t) = true ∧ (l.val < 2336 ∨ 2340 ≤ l.val) :=
  ⟨⟨0, 0⟩, 2, 9, { parts := [(0, { groups := [(2, { scans := 1 })] })] }, by decide +kernel, by decide +kernel, by decide +kernel⟩

/-- A state and operands that meet the hypotheses of clause 7 of CribStepsComplete. -/
theorem wit_CribStepsComplete_7 : ∃ (t : TillerId) (body : Body) (noise : CribNoise) (row : Fin 57344) (group : Fin 8) (lanes : List (Fin 2372)) (s : State),
    partRuns s (tKey t) = false :=
  ⟨⟨0, 0⟩, 0, {}, 0, 0, [], { clk := { panels := [(0, { inReset := true })] } }, by decide +kernel⟩

/-- A state and operands that meet the hypotheses of clause 8 of CribStepsComplete. -/
theorem wit_CribStepsComplete_8 : ∃ (t : TillerId) (s : State),
    s.atBoundary = true :=
  ⟨⟨0, 0⟩, {}, by decide +kernel⟩

/-- A state and operands that meet the hypotheses of clause 9 of CribStepsComplete. -/
theorem wit_CribStepsComplete_9 : ∃ (t : TillerId) (s : State),
    s.atBoundary = false :=
  ⟨⟨0, 0⟩, { time := { now := 1 } }, by decide +kernel⟩

/-- MMA answers, and its step in flight is marked. -/
theorem wit_TillerStepsWriteOnlyTheirResult_1 : ∃ (t : TillerId) (body : Body) (s u : State),
    s.engines ≠ [] ∧ exec (.mma t body) s = .next u :=
  ⟨⟨0, 0⟩, 0, flying 0x1000 0x10 0, _, by decide +kernel, rfl⟩

/-- BADD answers, and its step in flight is marked. -/
theorem wit_TillerStepsWriteOnlyTheirResult_2 : ∃ (t : TillerId) (body : Body) (s u : State),
    s.engines ≠ [] ∧ exec (.badd t body) s = .next u :=
  ⟨⟨0, 0⟩, 0, flying 0x1000 0x13 0, _, by decide +kernel, rfl⟩

/-- VSETSEL answers, and its step in flight is marked. -/
theorem wit_TillerStepsWriteOnlyTheirResult_3 : ∃ (t : TillerId) (body : Body) (s u : State),
    s.engines ≠ [] ∧ exec (.vsetsel t body) s = .next u :=
  ⟨⟨0, 0⟩, 0, flying 0x1000 0x27 0, _, by decide +kernel, rfl⟩

/-- MOUT answers, and its step in flight is marked. -/
theorem wit_TillerStepsWriteOnlyTheirResult_4 : ∃ (t : TillerId) (body : Body) (s u : State),
    s.engines ≠ [] ∧ exec (.mout t body) s = .next u :=
  ⟨⟨0, 0⟩, 0, flying 0x1000 0x11 0, _, by decide +kernel, rfl⟩

/-- BEXP answers, and its step in flight is marked. -/
theorem wit_TillerStepsWriteOnlyTheirResult_5 : ∃ (t : TillerId) (body : Body) (s u : State),
    s.engines ≠ [] ∧ exec (.bexp t body) s = .next u :=
  ⟨⟨0, 0⟩, 0, flying 0x1000 0x12 0, _, by decide +kernel, rfl⟩

/-- VBIN answers, and its step in flight is marked. -/
theorem wit_TillerStepsWriteOnlyTheirResult_6 : ∃ (t : TillerId) (body : Body) (s u : State),
    s.engines ≠ [] ∧ exec (.vbin t body) s = .next u :=
  ⟨⟨0, 0⟩, 0, flying 0x1000 0x20 0, _, by decide +kernel, rfl⟩

/-- VFMA answers, and its step in flight is marked. -/
theorem wit_TillerStepsWriteOnlyTheirResult_7 : ∃ (t : TillerId) (body : Body) (s u : State),
    s.engines ≠ [] ∧ exec (.vfma t body) s = .next u :=
  ⟨⟨0, 0⟩, 0, flying 0x1000 0x21 0, _, by decide +kernel, rfl⟩

/-- VFUN answers, and its step in flight is marked. -/
theorem wit_TillerStepsWriteOnlyTheirResult_8 : ∃ (t : TillerId) (body : Body) (s u : State),
    s.engines ≠ [] ∧ exec (.vfun t body) s = .next u :=
  ⟨⟨0, 0⟩, 0, flying 0x1000 0x22 0, _, by decide +kernel, rfl⟩

/-- VRED answers, and its step in flight is marked. -/
theorem wit_TillerStepsWriteOnlyTheirResult_9 : ∃ (t : TillerId) (body : Body) (s u : State),
    s.engines ≠ [] ∧ exec (.vred t body) s = .next u :=
  ⟨⟨0, 0⟩, 0, flying 0x1000 0x23 0, _, by decide +kernel, rfl⟩

/-- VPACK answers, and its step in flight is marked. -/
theorem wit_TillerStepsWriteOnlyTheirResult_10 : ∃ (t : TillerId) (body : Body) (s u : State),
    s.engines ≠ [] ∧ exec (.vpack t body) s = .next u :=
  ⟨⟨0, 0⟩, 0, flying 0x1000 0x24 0, _, by decide +kernel, rfl⟩

/-- VUNPACK answers, and its step in flight is marked. -/
theorem wit_TillerStepsWriteOnlyTheirResult_11 : ∃ (t : TillerId) (body : Body) (s u : State),
    s.engines ≠ [] ∧ exec (.vunpack t body) s = .next u :=
  ⟨⟨0, 0⟩, 0, flying 0x1000 0x25 0, _, by decide +kernel, rfl⟩

/-- VRNG answers, and its step in flight is marked. -/
theorem wit_TillerStepsWriteOnlyTheirResult_12 : ∃ (t : TillerId) (body : Body) (s u : State),
    s.engines ≠ [] ∧ exec (.vrng t body) s = .next u :=
  ⟨⟨0, 0⟩, 0, flying 0x1000 0x26 0, _, by decide +kernel, rfl⟩

/-- VPOS answers, and its step in flight is marked. -/
theorem wit_TillerStepsWriteOnlyTheirResult_13 : ∃ (t : TillerId) (body : Body) (s u : State),
    s.engines ≠ [] ∧ exec (.vpos t body) s = .next u :=
  ⟨⟨0, 0⟩, 0, flying 0x1000 0x28 0, _, by decide +kernel, rfl⟩

/-- A state and operands that meet the hypotheses of clause 1 of SelectorHoldsMinOfValue. -/
theorem wit_SelectorHoldsMinOfValue_1 : ∃ (t : TillerId) (body : Body) (s : State) (f : Flight),
    flightOf (s.engine (tEng t)) 1 (isStep 0x27 body) = some f :=
  ⟨⟨0, 0⟩, 0, flying 0x1000 0x27 0, { unit := 1, step := { word := word 0x27 0 } }, by decide +kernel⟩

/-- A state and operands that meet the hypotheses of clause 2 of SelectorHoldsMinOfValue. -/
theorem wit_SelectorHoldsMinOfValue_2 : ∃ (t : TillerId) (body : Body) (s : State) (f : Flight),
    flightOf (s.engine (tEng t)) 1 (isStep 0x26 body) = some f :=
  ⟨⟨0, 0⟩, 0, flying 0x1000 0x26 0, { unit := 1, step := { word := word 0x26 0 } }, by decide +kernel⟩

/-- A state and operands that meet the hypotheses of clause 1 of CeilingAndPanelRowsComplete. -/
theorem wit_CeilingAndPanelRowsComplete_1 : ∃ (die : Fin 8) (s : State) (g : Nat),
    (s.cstack die.val).lowerDue = some g ∧ s.atBoundary = true ∧ g < s.now ∧ s.sup.hold ≠ 0 :=
  ⟨1, { time := { now := 4096 }, sup := { hold := 1 }, cstacks := [(1, { lowerDue := some 0 })] }, 0, by decide +kernel, by decide +kernel, by decide +kernel, by decide +kernel⟩

/-- A state and operands that meet the hypotheses of clause 2 of CeilingAndPanelRowsComplete. -/
theorem wit_CeilingAndPanelRowsComplete_2 : ∃ (die : Fin 8) (s : State) (g : Nat),
    (s.cstack die.val).raiseDue = some g ∧ s.atBoundary = true ∧ g ≤ s.now ∧ s.sup.hold ≠ 0 :=
  ⟨1, { time := { now := 4096 }, sup := { hold := 1 }, cstacks := [(1, { raiseDue := some 0, ceiling := 4 })] }, 0, by decide +kernel, by decide +kernel, by decide +kernel, by decide +kernel⟩

/-- A state and operands that meet the hypotheses of clause 3 of CeilingAndPanelRowsComplete. -/
theorem wit_CeilingAndPanelRowsComplete_3 : ∃ (die : Fin 8) (s : State) (g : Nat),
    (s.cstack die.val).stretchDue = some g ∧ s.atBoundary = true ∧ g < s.now ∧ s.sup.hold ≠ 0 ∧ (∀ f, (s.cstack die.val).changed = some f → f + 16 ≤ s.fleetSheaf) :=
  ⟨1, { time := { now := 4096 }, sup := { hold := 1 }, cstacks := [(1, { stretchDue := some 0 })] }, 0, by decide +kernel, by decide +kernel, by decide +kernel, by decide +kernel, by intro f h; cases h⟩

/-- A state and operands that meet the hypotheses of clause 4 of CeilingAndPanelRowsComplete. -/
theorem wit_CeilingAndPanelRowsComplete_4 : ∃ (s : State) (g : Nat),
    s.pwr.lowerDue = some g ∧ s.atBoundary = true ∧ g < s.now ∧ s.sup.hold ≠ 0 :=
  ⟨{ time := { now := 4096 }, sup := { hold := 1 }, pwr := { lowerDue := some 0 } }, 0, by decide +kernel, by decide +kernel, by decide +kernel, by decide +kernel⟩

/-- A state and operands that meet the hypotheses of clause 5 of CeilingAndPanelRowsComplete. -/
theorem wit_CeilingAndPanelRowsComplete_5 : ∃ (s : State) (g : Nat),
    s.pwr.raiseDue = some g ∧ s.atBoundary = true ∧ g ≤ s.now ∧ s.sup.hold ≠ 0 :=
  ⟨{ time := { now := 4096 }, sup := { hold := 1 }, pwr := { raiseDue := some 0 } }, 0, by decide +kernel, by decide +kernel, by decide +kernel, by decide +kernel⟩

/-- A state and operands that meet the hypotheses of clause 6 of CeilingAndPanelRowsComplete. -/
theorem wit_CeilingAndPanelRowsComplete_6 : ∃ (s : State),
    256 ≤ s.pwr.cool ∧ s.sup.hold ≠ 0 ∧ (s.pwr.policyZero = true ∨ 2 ≤ s.pwr.stop) :=
  ⟨{ sup := { hold := 1 }, pwr := { cool := 256, policyZero := true } }, by decide +kernel, by decide +kernel, by decide +kernel⟩

/-- A state and operands that meet the hypotheses of clause 7 of CeilingAndPanelRowsComplete. -/
theorem wit_CeilingAndPanelRowsComplete_7 : ∃ (panel : BitVec 17) (need : Fin 6) (since : Nat) (s u : State) (x : Panel) (win want took : Nat),
    tabFind s.clk.panels panel.toNat = some x ∧ x.inReset = false ∧ need.val ≠ 0 ∧ win = ((List.replicate (min since 64) 0 ++ x.recent).take 63).sum ∧ want = min need.val (stretchSteps x.bin) ∧ took = min want (64 - win) ∧ u = s.modPanel panel.toNat (fun y => { y with recent := stretchNote x since took, stretched := satAdd y.stretched (min took 1) (0x10000 * 1024 - 1) }) :=
  ⟨0, 1, 0, { clk := { panels := [(0, { inReset := false, bin := 1 })] } }, _, { inReset := false, bin := 1 }, _, _, _, by decide +kernel, by decide +kernel, by decide, rfl, rfl, rfl, rfl⟩

/-- A state and operands that meet the hypotheses of clause 8 of CeilingAndPanelRowsComplete. -/
theorem wit_CeilingAndPanelRowsComplete_8 : ∃ (panel : BitVec 17) (s : State) (x : Panel) (g : Nat),
    tabFind s.clk.panels panel.toNat = some x ∧ x.lowerAt = some g ∧ g + 200 ≤ s.now :=
  ⟨0, { time := { now := 200 }, clk := { panels := [(0, { lowerAt := some 0 })] } }, { lowerAt := some 0 }, 0, by decide +kernel, by decide +kernel, by decide +kernel⟩

/-- A state and operands that meet the hypotheses of clause 9 of CeilingAndPanelRowsComplete. -/
theorem wit_CeilingAndPanelRowsComplete_9 : ∃ (panel : BitVec 17) (s : State) (x : Panel) (g : Nat),
    tabFind s.clk.panels panel.toNat = some x ∧ x.decided = some g ∧ s.atBoundary = true ∧ g < s.now ∧ x.changing = true ∧ x.inReset = false :=
  ⟨0, { time := { now := 4096 }, clk := { panels := [(0, { decided := some 0, changing := true, inReset := false })] } }, { decided := some 0, changing := true, inReset := false }, 0, by decide +kernel, by decide +kernel, by decide +kernel, by decide +kernel, by decide +kernel, by decide +kernel⟩

/-- A state and operands that meet the hypotheses of clause 1 of MeshRowsComplete. -/
theorem wit_MeshRowsComplete_1 : ∃ (t : TillerId) (body : Body) (s : State) (f : Flight),
    flightOf (s.engine (tEng t)) 3 (isStep 0x40 body) = some f ∧ (s.mesh t.die.val).msends.any (fun x => x.src == t.phys.val) = false ∧ msendMembers s t.die.val t.phys.val body ≠ [] :=
  ⟨⟨0, 0⟩, 0, { flying 0x1000 0x40 0 with cut := { logMap := [(0, [0, 1])] } }, { unit := 3, step := { word := word 0x40 0 } }, by decide +kernel, by decide +kernel, by decide +kernel⟩

/-- A state and operands that meet the hypotheses of clause 2 of MeshRowsComplete. -/
theorem wit_MeshRowsComplete_2 : ∃ (die : Fin 8) (flit : Nat) (s : State) (f : Flit),
    (s.mesh die.val).flits[flit]? = some f ∧ mayGo s die.val flit f = true ∧ f.kind ≠ .data ∧ f.pos = f.dst :=
  ⟨0, 0, { meshes := [(0, { plan0 := [0, 1], flits := [{ kind := .post }] })] }, { kind := .post }, by decide +kernel, by decide +kernel, by decide +kernel, by decide +kernel⟩

/-- A state and operands that meet the hypotheses of clause 3 of MeshRowsComplete. -/
theorem wit_MeshRowsComplete_3 : ∃ (die : Fin 8) (flit : Nat) (s : State) (f : Flit),
    (s.mesh die.val).flits[flit]? = some f ∧ mayGo s die.val flit f = true ∧ f.kind ≠ .data ∧ f.pos ≠ f.dst :=
  ⟨0, 0, { meshes := [(0, { plan0 := [0, 1], flits := [{ kind := .post, dst := 1 }] })] }, { kind := .post, dst := 1 }, by decide +kernel, by decide +kernel, by decide +kernel, by decide +kernel⟩

/-- A state and operands that meet the hypotheses of clause 4 of MeshRowsComplete. -/
theorem wit_MeshRowsComplete_4 : ∃ (die : Fin 8) (flit : Nat) (s : State) (f : Flit),
    (s.mesh die.val).flits[flit]? = some f ∧ mayGo s die.val flit f = true ∧ f.kind = .data ∧ f.pos = f.dst :=
  ⟨0, 0, { meshes := [(0, { plan0 := [0, 1], flits := [{ kind := .data }] })] }, { kind := .data }, by decide +kernel, by decide +kernel, by decide +kernel, by decide +kernel⟩

/-- A state and operands that meet the hypotheses of clause 5 of MeshRowsComplete. -/
theorem wit_MeshRowsComplete_5 : ∃ (die : Fin 8) (flit : Nat) (s : State) (f : Flit),
    (s.mesh die.val).flits[flit]? = some f ∧ mayGo s die.val flit f = true ∧ f.kind = .data ∧ f.pos ≠ f.dst :=
  ⟨0, 0, { meshes := [(0, { plan0 := [0, 1], flits := [{ kind := .data, dst := 1 }] })] }, { kind := .data, dst := 1 }, by decide +kernel, by decide +kernel, by decide +kernel, by decide +kernel⟩

/-- A state and operands that meet the hypotheses of clause 6 of MeshRowsComplete. -/
theorem wit_MeshRowsComplete_6 : ∃ (die : Fin 8) (node : Fin 289) (port : Fin 17) (channel : Fin 3) (s : State),
    (s.mesh die.val).held node.val port.val channel.val < tabGet (s.mesh die.val).used (bufKey node.val port.val channel.val) 0 :=
  ⟨0, 3, 1, 0, { meshes := [(0, { used := [(195, 2)] })] }, by decide +kernel⟩

/-- A state and operands that meet the hypotheses of clause 7 of MeshRowsComplete. -/
theorem wit_MeshRowsComplete_7 : ∃ (die : Fin 8) (flit : Nat) (s : State) (f : Flit),
    (s.mesh die.val).flits[flit]? = some f ∧ isHead (s.mesh die.val).flits flit = true ∧ f.escape = false ∧ f.port < inFifo ∧ tabGet (s.mesh die.val).used (bufKey f.pos f.port 2) 0 < 4 :=
  ⟨0, 0, { meshes := [(0, { flits := [{ kind := .data, dst := 1 }] })] }, { kind := .data, dst := 1 }, by decide +kernel, by decide +kernel, by decide +kernel, by decide +kernel, by decide +kernel⟩

/-- A state and operands that meet the hypotheses of clause 8 of MeshRowsComplete. -/
theorem wit_MeshRowsComplete_8 : ∃ (die : Fin 8) (node : Fin 289) (s : State) (src : Nat) (rest : List Nat),
    tabGet (s.mesh die.val).stagingReq node.val [] = src :: rest ∧ tabGet (s.mesh die.val).stagingUsed node.val 0 ≤ 16 :=
  ⟨0, 3, { meshes := [(0, { stagingReq := [(3, [5])] })] }, 5, [], by decide +kernel, by decide +kernel⟩

/-- A state and operands that meet the hypotheses of clause 9 of MeshRowsComplete. -/
theorem wit_MeshRowsComplete_9 : ∃ (die : Fin 8) (s : State),
    (s.mesh die.val).flipPending = false :=
  ⟨0, {}, by decide +kernel⟩

/-- A state and operands that meet the hypotheses of clause 10 of MeshRowsComplete. -/
theorem wit_MeshRowsComplete_10 : ∃ (die : Fin 8) (s : State) (g : Nat),
    (s.mesh die.val).request = some g ∧ s.atBoundary = true ∧ g < s.now :=
  ⟨0, { time := { now := 4096 }, meshes := [(0, { request := some 0 })] }, 0, by decide +kernel, by decide +kernel, by decide +kernel⟩

/-- A state and operands that meet the hypotheses of clause 11 of MeshRowsComplete. -/
theorem wit_MeshRowsComplete_11 : ∃ (die : Fin 8) (s : State) (g : Nat),
    (s.mesh die.val).flippedAt = some g ∧ (s.mesh die.val).drain = 0 :=
  ⟨0, { meshes := [(0, { flippedAt := some 0 })] }, 0, by decide +kernel, by decide +kernel⟩

/-- A state and operands that meet the hypotheses of clause 12 of MeshRowsComplete. -/
theorem wit_MeshRowsComplete_12 : ∃ (die : Fin 8) (s : State) (g : Nat),
    (s.mesh die.val).flippedAt = some g ∧ (s.mesh die.val).drain ≠ 0 ∧ g + 100000 ≤ s.now ∧ (s.mesh die.val).timedOut = false :=
  ⟨0, { time := { now := 200000 }, meshes := [(0, { flippedAt := some 0, epoch := true, flits := [{}] })] }, 0, by decide +kernel, by decide +kernel, by decide +kernel, by decide +kernel⟩

/-- A state and operands that meet the hypotheses of clause 1 of PegPlanRowsComplete. -/
theorem wit_PegPlanRowsComplete_1 : ∃ (noise : List HbmUpset) (s u : State) (f : Flight) (b : List (BitVec 8)),
    flightOf (s.engine sillSeq) 4 (fun f => stOpcode f.step.word == 0x70 && !f.done) = some f ∧ s.sill.pending = false ∧ hbmRead (1024 * bits f.step.word.toNat 0 31) 1024 168 (noise.foldl (fun s u => upsetBurst u s) s) = (b, 0, u) :=
  ⟨[], pegState, (hbmRead 0 1024 168 pegState).2.2, { unit := 4, step := { word := word 0x70 0 } }, (hbmRead 0 1024 168 pegState).1, by decide +kernel, by decide +kernel,
    Prod.ext rfl (Prod.ext (by decide +kernel) rfl)⟩

/-- A state and operands that meet the hypotheses of clause 2 of PegPlanRowsComplete. -/
theorem wit_PegPlanRowsComplete_2 : ∃ (s : State),
    s.schedBoundary = true ∧ s.sill.pending = true :=
  ⟨{ cut := { state := .running }, time := { strobed := some 0 }, sill := { pending := true } }, by decide +kernel, by decide +kernel⟩

/-- A state and operands that meet the hypotheses of clause 3 of PegPlanRowsComplete. -/
theorem wit_PegPlanRowsComplete_3 : ∃ (s : State),
    s.schedBoundary = true ∧ s.sill.pending = false ∧ (s.sill.deferred ≠ [] ∨ s.sill.pegs ≠ setOf (s.sill.plan s.sill.epoch)) :=
  ⟨{ cut := { state := .running }, time := { strobed := some 0 }, sill := { deferred := [3] } }, by decide +kernel, by decide +kernel, by decide +kernel⟩

/-- A state and operands that meet the hypotheses of clause 4 of PegPlanRowsComplete. -/
theorem wit_PegPlanRowsComplete_4 : ∃ (s : State),
    s.schedBoundary = false :=
  ⟨{}, by decide +kernel⟩

/-- A state and operands that meet the hypotheses of clause 1 of StreamRowsComplete. -/
theorem wit_StreamRowsComplete_1 : ∃ (eng : BitVec 16) (noise : List HbmUpset) (crib : CribNoise) (waited : Fin 4) (s : State),
    engValid eng.toNat = true ∧ streamRuns s eng.toNat 0x60 = true :=
  ⟨0x4000#16, [], {}, 0, { sill := { streams := [{ kind := 1, owner := 0x4000, opened := some 0, total := 0 }] } }, by decide +kernel, by decide +kernel⟩

/-- A state and operands that meet the hypotheses of clause 2 of StreamRowsComplete. -/
theorem wit_StreamRowsComplete_2 : ∃ (eng : BitVec 16) (crib : CribNoise) (waited : Fin 4) (s : State),
    engValid eng.toNat = true ∧ streamRuns s eng.toNat 0x61 = true :=
  ⟨0x4000#16, {}, 0, { sill := { streams := [{ kind := 2, owner := 0x4000, opened := some 0, total := 0 }] } }, by decide +kernel, by decide +kernel⟩

/-- A state and operands that meet the hypotheses of clause 3 of StreamRowsComplete. -/
theorem wit_StreamRowsComplete_3 : ∃ (eng : BitVec 16) (crib : CribNoise) (s : State),
    engValid eng.toNat = true ∧ streamRuns s eng.toNat 0x62 = true :=
  ⟨0x4000#16, {}, { sill := { streams := [{ kind := 3, owner := 0x4000, opened := some 0, total := 0 }] } }, by decide +kernel, by decide +kernel⟩

/-- A state and operands that meet the hypotheses of clause 4 of StreamRowsComplete. -/
theorem wit_StreamRowsComplete_4 : ∃ (eng : BitVec 16) (crib : CribNoise) (s : State),
    engValid eng.toNat = true ∧ streamRuns s eng.toNat 0x64 = true :=
  ⟨0x4000#16, {}, { sill := { streams := [{ kind := 5, owner := 0x4000, opened := some 0, total := 0 }] } }, by decide +kernel, by decide +kernel⟩

/-- A state and operands that meet the hypotheses of clause 5 of StreamRowsComplete. -/
theorem wit_StreamRowsComplete_5 : ∃ (eng : BitVec 16) (crib : CribNoise) (s : State),
    engValid eng.toNat = true ∧ streamRuns s eng.toNat 0x65 = true :=
  ⟨0x4000#16, {}, { sill := { streams := [{ kind := 6, owner := 0x4000, opened := some 0, total := 0 }] } }, by decide +kernel, by decide +kernel⟩

/-- A state and operands that meet the hypotheses of clause 6 of StreamRowsComplete. -/
theorem wit_StreamRowsComplete_6 : ∃ (eng : BitVec 16) (crib : CribNoise) (s : State) (st : Stream),
    engValid eng.toNat = true ∧ senderOf s eng.toNat = some st :=
  ⟨0x4010#16, {}, { sill := { streams := [{ kind := 3, owner := 0x4000, opened := some 0, peers := [0x4010] }] } }, { kind := 3, owner := 0x4000, opened := some 0, peers := [0x4010] }, by decide +kernel, by decide +kernel⟩

/-- A state and operands that meet the hypotheses of clause 7 of StreamRowsComplete. -/
theorem wit_StreamRowsComplete_7 : ∃ (eng : BitVec 16) (s : State) (st : Stream),
    engValid eng.toNat = true ∧ streamOf s eng.toNat = some st ∧ st.opened = none ∧ st.abortAt = none ∧ st.kind ≠ 3 ∧ st.kind ≠ 4 ∧ blockedBy s [s.desc st.desc] = none ∧ pegsReady s [s.desc st.desc] = true :=
  ⟨0x4000#16, { sill := { streams := [{ kind := 1, owner := 0x4000 }] } }, { kind := 1, owner := 0x4000 }, by decide +kernel, by decide +kernel, by decide +kernel, by decide +kernel, by decide +kernel, by decide +kernel, by decide +kernel, by decide +kernel⟩

/-- A state and operands that meet the hypotheses of clause 8 of StreamRowsComplete. -/
theorem wit_StreamRowsComplete_8 : ∃ (eng : BitVec 16) (s : State) (st : Stream),
    engValid eng.toNat = true ∧ streamOf s eng.toNat = some st ∧ st.opened = none ∧ st.abortAt = none ∧ st.kind ≠ 3 ∧ st.kind ≠ 4 ∧ blockedBy s [s.desc st.desc] = none ∧ pegsReady s [s.desc st.desc] = false :=
  ⟨0x4000#16, { sill := { streams := [{ kind := 1, owner := 0x4000 }] }, cut := { descs := [(0, { pegs := [7] })] } }, { kind := 1, owner := 0x4000 }, by decide +kernel, by decide +kernel, by decide +kernel, by decide +kernel, by decide +kernel, by decide +kernel, by decide +kernel, by decide +kernel⟩

/-- A state and operands that meet the hypotheses of clause 9 of StreamRowsComplete. -/
theorem wit_StreamRowsComplete_9 : ∃ (eng : BitVec 16) (s : State) (st : Stream) (k : Nat),
    engValid eng.toNat = true ∧ streamOf s eng.toNat = some st ∧ st.opened = none ∧ st.abortAt = none ∧ st.kind ≠ 3 ∧ st.kind ≠ 4 ∧ blockedBy s [s.desc st.desc] = some k :=
  ⟨0x4000#16, { sill := { streams := [{ kind := 1, owner := 0x4000 }] }, rst := { blocks := [{ kind := 6 }] } }, { kind := 1, owner := 0x4000 }, 6, by decide +kernel, by decide +kernel, by decide +kernel, by decide +kernel, by decide +kernel, by decide +kernel, by decide +kernel⟩

/-- A state and operands that meet the hypotheses of clause 10 of StreamRowsComplete. -/
theorem wit_StreamRowsComplete_10 : ∃ (eng : BitVec 16) (s : State) (st : Stream) (ps : List Stream),
    engValid eng.toNat = true ∧ streamOf s eng.toNat = some st ∧ st.opened = none ∧ st.abortAt = none ∧ st.kind = 3 ∧ matchPeers s st = some ps ∧ blockedBy s (s.desc st.desc :: ps.map (fun x => s.desc x.desc)) = none ∧ ps.any (fun x => x.total != st.total) = false ∧ pegsReady s (s.desc st.desc :: ps.map (fun x => s.desc x.desc)) = true :=
  ⟨0x4000#16, { sill := { streams := [{ kind := 3, owner := 0x4000 }, { kind := 4, owner := 0x4010, desc := 1 }] }, cut := { descs := [(0, { lanes := [1] }), (1, { site := 1, lanes := [0] })] } }, { kind := 3, owner := 0x4000 }, [{ kind := 4, owner := 0x4010, desc := 1 }], by decide +kernel, by decide +kernel, by decide +kernel, by decide +kernel, by decide +kernel, by decide +kernel, by decide +kernel, by decide +kernel, by decide +kernel⟩

/-- A state and operands that meet the hypotheses of clause 11 of StreamRowsComplete. -/
theorem wit_StreamRowsComplete_11 : ∃ (eng : BitVec 16) (s : State) (st : Stream) (ps : List Stream),
    engValid eng.toNat = true ∧ streamOf s eng.toNat = some st ∧ st.opened = none ∧ st.abortAt = none ∧ st.kind = 3 ∧ matchPeers s st = some ps ∧ blockedBy s (s.desc st.desc :: ps.map (fun x => s.desc x.desc)) = none ∧ ps.any (fun x => x.total != st.total) = false ∧ pegsReady s (s.desc st.desc :: ps.map (fun x => s.desc x.desc)) = false :=
  ⟨0x4000#16, { sill := { streams := [{ kind := 3, owner := 0x4000 }, { kind := 4, owner := 0x4010, desc := 1 }] }, cut := { descs := [(0, { pegs := [7], lanes := [1] }), (1, { site := 1, lanes := [0] })] } }, { kind := 3, owner := 0x4000 }, [{ kind := 4, owner := 0x4010, desc := 1 }], by decide +kernel, by decide +kernel, by decide +kernel, by decide +kernel, by decide +kernel, by decide +kernel, by decide +kernel, by decide +kernel, by decide +kernel⟩

/-- A state and operands that meet the hypotheses of clause 12 of StreamRowsComplete. -/
theorem wit_StreamRowsComplete_12 : ∃ (eng : BitVec 16) (s : State) (st : Stream) (ps : List Stream) (k : Nat),
    engValid eng.toNat = true ∧ streamOf s eng.toNat = some st ∧ st.opened = none ∧ st.abortAt = none ∧ st.kind = 3 ∧ matchPeers s st = some ps ∧ blockedBy s (s.desc st.desc :: ps.map (fun x => s.desc x.desc)) = some k :=
  ⟨0x4000#16, { sill := { streams := [{ kind := 3, owner := 0x4000 }, { kind := 4, owner := 0x4010, desc := 1 }] }, cut := { descs := [(0, { lanes := [1] }), (1, { site := 1, lanes := [0] })] }, rst := { blocks := [{ kind := 6 }] } }, { kind := 3, owner := 0x4000 }, [{ kind := 4, owner := 0x4010, desc := 1 }], 6, by decide +kernel, by decide +kernel, by decide +kernel, by decide +kernel, by decide +kernel, by decide +kernel, by decide +kernel⟩

/-- A state and operands that meet the hypotheses of clause 13 of StreamRowsComplete. -/
theorem wit_StreamRowsComplete_13 : ∃ (eng : BitVec 16) (s : State) (st : Stream) (ps : List Stream),
    engValid eng.toNat = true ∧ streamOf s eng.toNat = some st ∧ st.opened = none ∧ st.abortAt = none ∧ st.kind = 3 ∧ matchPeers s st = some ps ∧ blockedBy s (s.desc st.desc :: ps.map (fun x => s.desc x.desc)) = none ∧ ps.any (fun x => x.total != st.total) = true :=
  ⟨0x4000#16, { sill := { streams := [{ kind := 3, owner := 0x4000 }, { kind := 4, owner := 0x4010, desc := 1, total := 8 }] }, cut := { descs := [(0, { lanes := [1] }), (1, { site := 1, lanes := [0] })] } }, { kind := 3, owner := 0x4000 }, [{ kind := 4, owner := 0x4010, desc := 1, total := 8 }], by decide +kernel, by decide +kernel, by decide +kernel, by decide +kernel, by decide +kernel, by decide +kernel, by decide +kernel, by decide +kernel⟩

/-- A state and operands that meet the hypotheses of clause 14 of StreamRowsComplete. -/
theorem wit_StreamRowsComplete_14 : ∃ (eng : BitVec 16) (s : State) (st : Stream),
    engValid eng.toNat = true ∧ streamOf s eng.toNat = some st ∧ (st.kind = 3 ∨ st.kind = 4) ∧ st.opened = none ∧ st.issued + 2 ^ 20 ≤ s.now :=
  ⟨0x4000#16, { time := { now := 2000000 }, sill := { streams := [{ kind := 3, owner := 0x4000 }] } }, { kind := 3, owner := 0x4000 }, by decide +kernel, by decide +kernel, by decide +kernel, by decide +kernel, by decide +kernel⟩

/-- A state and operands that meet the hypotheses of clause 15 of StreamRowsComplete. -/
theorem wit_StreamRowsComplete_15 : ∃ (eng : BitVec 16) (s : State) (st : Stream),
    engValid eng.toNat = true ∧ streamOf s eng.toNat = some st ∧ s.now < st.issued + 2 ^ 20 :=
  ⟨0x4000#16, { sill := { streams := [{ kind := 3, owner := 0x4000 }] } }, { kind := 3, owner := 0x4000 }, by decide +kernel, by decide +kernel, by decide +kernel⟩

/-- A frame that passes the checks of R180. -/
theorem wit_SillFrameRowsComplete_1 : ∃ (site : BitVec 8) (port : Fin 25) (wl : Fin 45) (tag : BitVec 16) (seq : BitVec 24)
    (frame : BitVec 2240) (hops : Fin 4) (s u : State) (st : Stream) (i : Nat),
    receivedBy s site.toNat tag.toNat = some (st, i) ∧
    u = wlCheck site.toNat port.val wl.val (bits frame.toNat 61 6 == wl.val)
      (putStream { st with retry := st.retry || decide (0 < hops.val) }
        { s with sill := { s.sill with retx := satAdd s.sill.retx hops.val 0xFFFFFFFF } }) ∧
    frameOk u (u.desc st.desc) site.toNat port.val wl.val tag.toNat seq.toNat frame = true :=
  ⟨0, 1, 3, 5, 0, frame0, 1, frameState, _, { kind := 1, owner := 0x4000, opened := some 0, tag := 5, total := 1 }, 0,
    by decide +kernel, rfl, by unfold frameOk frameSound; rw [frameCrc_frame0]; decide +kernel⟩

/-- An idle frame. -/
theorem wit_SillFrameRowsComplete_2 : ∃ (site : BitVec 8) (port : Fin 25) (wl : Fin 45) (tag : BitVec 16) (seq : BitVec 24)
    (frame : BitVec 2240) (hops : Fin 4) (s u : State) (st : Stream) (i : Nat),
    receivedBy s site.toNat tag.toNat = some (st, i) ∧
    u = wlCheck site.toNat port.val wl.val (bits frame.toNat 61 6 == wl.val)
      (putStream { st with retry := st.retry || decide (0 < hops.val) }
        { s with sill := { s.sill with retx := satAdd s.sill.retx hops.val 0xFFFFFFFF } }) ∧
    frameIdle frame = true ∧
    frameSound (laneSource (u.desc st.desc) site.toNat port.val wl.val) wl.val frame = true :=
  ⟨0, 1, 3, 5, 0, idle0, 0, frameState, _, { kind := 1, owner := 0x4000, opened := some 0, tag := 5, total := 1 }, 0,
    by decide +kernel, rfl, by decide +kernel, by unfold frameSound; rw [frameCrc_idle0]; decide +kernel⟩

/-- A frame that fails a check. -/
theorem wit_SillFrameRowsComplete_3 : ∃ (site : BitVec 8) (port : Fin 25) (wl : Fin 45) (tag : BitVec 16) (seq : BitVec 24)
    (frame : BitVec 2240) (hops : Fin 4) (s u : State) (st : Stream) (i : Nat),
    receivedBy s site.toNat tag.toNat = some (st, i) ∧
    u = wlCheck site.toNat port.val wl.val (bits frame.toNat 61 6 == wl.val)
      (putStream { st with retry := st.retry || decide (0 < hops.val) }
        { s with sill := { s.sill with retx := satAdd s.sill.retx hops.val 0xFFFFFFFF } }) ∧
    (frameIdle frame = false ∨ frameSound (laneSource (u.desc st.desc) site.toNat port.val wl.val) wl.val frame = false) ∧
    frameOk u (u.desc st.desc) site.toNat port.val wl.val tag.toNat seq.toNat frame = false :=
  ⟨0, 1, 3, 5, 0, 0, 0, frameState, _, { kind := 1, owner := 0x4000, opened := some 0, tag := 5, total := 1 }, 0,
    by decide +kernel, rfl, Or.inl (by decide +kernel), by unfold frameOk frameSound; rw [frameCrc_zero]; decide +kernel⟩

/-- A state and operands that meet the hypotheses of clause 4 of SillFrameRowsComplete. -/
theorem wit_SillFrameRowsComplete_4 : ∃ (site : BitVec 8) (port : Fin 25) (wl : Fin 45) (tag : BitVec 16) (seq : BitVec 24) (flip w : Word128) (s : State) (st : Stream) (e : BitVec 32),
    s.sill.streams.find? (fun st => st.live && st.tag == tag.toNat && st.kind != 4) = some st ∧ entrySending (s.desc st.desc) site.toNat port.val wl.val = some e ∧ w = controlWord 0x5 (((entryTakes (s.desc st.desc) e).map (·.1)).getD (s.desc st.desc).site) site.toNat 0 (tag.toNat + seq.toNat * 2 ^ 16) ∧ awaitsRepeat s w = false ∧ wordUnlit s w = false ∧ checkOk (w ^^^ flip) = true :=
  ⟨0x10#8, 1, 3, 5#16, 0#24, 0, controlWord 0x5 0 0x10 0 5, frameState, { kind := 1, owner := 0x4000, opened := some 0, tag := 5, total := 1 }, 0x400110#32, by decide +kernel, by decide +kernel, by decide +kernel, by decide +kernel, by decide +kernel, by decide +kernel⟩

/-- A state and operands that meet the hypotheses of clause 5 of SillFrameRowsComplete. -/
theorem wit_SillFrameRowsComplete_5 : ∃ (site : BitVec 8) (port : Fin 25) (wl : Fin 45) (tag : BitVec 16) (seq : BitVec 24) (flip w : Word128) (s : State) (st : Stream) (e : BitVec 32),
    s.sill.streams.find? (fun st => st.live && st.tag == tag.toNat && st.kind != 4) = some st ∧ entrySending (s.desc st.desc) site.toNat port.val wl.val = some e ∧ w = controlWord 0x5 (((entryTakes (s.desc st.desc) e).map (·.1)).getD (s.desc st.desc).site) site.toNat 0 (tag.toNat + seq.toNat * 2 ^ 16) ∧ awaitsRepeat s w = false ∧ wordUnlit s w = false ∧ checkOk (w ^^^ flip) = false :=
  ⟨0x10#8, 1, 3, 5#16, 0#24, 1, controlWord 0x5 0 0x10 0 5, frameState, { kind := 1, owner := 0x4000, opened := some 0, tag := 5, total := 1 }, 0x400110#32, by decide +kernel, by decide +kernel, by decide +kernel, by decide +kernel, by decide +kernel, by decide +kernel⟩

/-- A state and operands that meet the hypotheses of clause 6 of SillFrameRowsComplete. -/
theorem wit_SillFrameRowsComplete_6 : ∃ (site : BitVec 8) (port : Fin 25) (wl : Fin 45) (tag : BitVec 16) (seq : BitVec 24) (flip : Word128) (l : Fin 64) (s : State) (st : Stream),
    s.sill.streams.find? (fun st => st.live && st.tag == tag.toNat && st.kind != 4) = some st :=
  ⟨0x10#8, 1, 3, 5#16, 0#24, 0, 0, frameState, { kind := 1, owner := 0x4000, opened := some 0, tag := 5, total := 1 }, by decide +kernel⟩

/-- A state and operands that meet the hypotheses of clause 7 of SillFrameRowsComplete. -/
theorem wit_SillFrameRowsComplete_7 : ∃ (word : Word128) (s u : State) (st x : Stream),
    wordUnlit s word = false ∧ checkOk word = true ∧ cwReservedOk word = true ∧ u = countWord word false (if cwDst word = 0xFF then s else siteCross 5 (cwDst word) s) ∧ cwType word = 2 ∧ s.sill.streams.find? (fun y => cwNames word y.owner && y.tag == cwTag word && y.opened.isNone && y.kind == (if cwType word = 2 then 4 else 3)) = some st ∧ u.sill.streams.find? (fun y => y.kind == 3 && y.tag == st.tag && engSite y.owner == cwSrc word) = some x :=
  ⟨controlWord 2 0 1 0x4010 7, { sill := { streams := [{ kind := 4, owner := 0x4010, tag := 7 }, { kind := 3, owner := 0x4000, tag := 7 }] } }, _, { kind := 4, owner := 0x4010, tag := 7 }, { kind := 3, owner := 0x4000, tag := 7 }, by decide +kernel, by decide +kernel, by decide +kernel, rfl, by decide +kernel, by decide +kernel, by decide +kernel⟩

/-- A state and operands that meet the hypotheses of clause 8 of SillFrameRowsComplete. -/
theorem wit_SillFrameRowsComplete_8 : ∃ (word : Word128) (s u : State) (st : Stream),
    wordUnlit s word = false ∧ checkOk word = true ∧ cwReservedOk word = true ∧ u = countWord word false (if cwDst word = 0xFF then s else siteCross 5 (cwDst word) s) ∧ cwType word = 3 ∧ s.sill.streams.find? (fun x => cwNames word x.owner && x.tag == cwTag word && x.opened.isNone && x.kind == (if cwType word = 2 then 4 else 3)) = some st :=
  ⟨controlWord 3 0 1 0x4010 7, { sill := { streams := [{ kind := 3, owner := 0x4010, tag := 7 }] } }, _, { kind := 3, owner := 0x4010, tag := 7 }, by decide +kernel, by decide +kernel, by decide +kernel, rfl, by decide +kernel, by decide +kernel⟩

/-- A state and operands that meet the hypotheses of clause 9 of SillFrameRowsComplete. -/
theorem wit_SillFrameRowsComplete_9 : ∃ (word : Word128) (s u v : State) (st st1 : Stream),
    wordUnlit s word = false ∧ checkOk word = true ∧ cwReservedOk word = true ∧ u = countWord word false (if cwDst word = 0xFF then s else siteCross 5 (cwDst word) s) ∧ cwType word = 4 ∧ s.sill.streams.find? (fun x => cwNames word x.owner && x.tag == cwTag word && x.live && x.kind == 3) = some st ∧ st1 = { st with acked := setIns st.acked (cwSrc word), uncorr := st.uncorr || bits word.toNat 52 2 == 1 } ∧ v = putStream st1 u :=
  ⟨controlWord 4 0 1 0x4010 (7 + 2 * 2 ^ 16), { sill := { streams := [{ kind := 3, owner := 0x4010, tag := 7, opened := some 0 }] } }, _, _, { kind := 3, owner := 0x4010, tag := 7, opened := some 0 }, _, by decide +kernel, by decide +kernel, by decide +kernel, rfl, by decide +kernel, by decide +kernel, rfl, rfl⟩

/-- A state and operands that meet the hypotheses of clause 10 of SillFrameRowsComplete. -/
theorem wit_SillFrameRowsComplete_10 : ∃ (word : Word128) (s u : State) (st : Stream),
    wordUnlit s word = false ∧ checkOk word = true ∧ cwReservedOk word = true ∧ u = countWord word false (if cwDst word = 0xFF then s else siteCross 5 (cwDst word) s) ∧ cwType word = 8 ∧ s.sill.streams.find? (fun x => x.tag == cwTag word && x.closed.isNone && x.kind != 4 && (cwNames word x.owner || x.peers.any (cwNames word))) = some st :=
  ⟨controlWord 8 0 1 0x4010 7, { sill := { streams := [{ kind := 3, owner := 0x4010, tag := 7, opened := some 0 }] } }, _, { kind := 3, owner := 0x4010, tag := 7, opened := some 0 }, by decide +kernel, by decide +kernel, by decide +kernel, rfl, by decide +kernel, by decide +kernel⟩

/-- A state and operands that meet the hypotheses of clause 11 of SillFrameRowsComplete. -/
theorem wit_SillFrameRowsComplete_11 : ∃ (word : Word128) (s : State),
    wordUnlit s word = false ∧ checkOk word = false :=
  ⟨1, {}, by decide +kernel, by decide +kernel⟩

/-- A state and operands that meet the hypotheses of clause 12 of SillFrameRowsComplete. -/
theorem wit_SillFrameRowsComplete_12 : ∃ (word : Word128) (s u : State),
    checkOk word = true ∧ s.sill.repeats.any (repeatDue s word) = true ∧ u = checkControl (cwDst word) true (checkControl (cwSrc word) false s) :=
  ⟨0, { sill := { repeats := [(0, 0)] } }, _, by decide +kernel, by decide +kernel, rfl⟩

/-- A state and operands that meet the hypotheses of clause 1 of MemoryStackRowsComplete. -/
theorem wit_MemoryStackRowsComplete_1 : ∃ (stack pc : Fin 32) (s : State),
    (s.mstack stack.val).state = 2 ∧ (s.mstack stack.val).selfRefresh = false ∧ isSlot (s.mstack stack.val).mode2x pc.val s.now = true ∧ tabFind s.hbm.lastSlot (channelKey stack.val pc.val) ≠ some s.now :=
  ⟨0, 0, { hbm := { mstacks := [(0, { state := 2 })] } }, by decide +kernel, by decide +kernel, by decide +kernel, by decide +kernel⟩

/-- A state and operands that meet the hypotheses of clause 2 of MemoryStackRowsComplete. -/
theorem wit_MemoryStackRowsComplete_2 : ∃ (stack pc : Fin 32) (s : State) (g : Nat),
    (s.mstack stack.val).state = 2 ∧ (s.mstack stack.val).selfRefresh = false ∧ isSlot (s.mstack stack.val).mode2x pc.val s.now = false ∧ overdueSlot s stack.val pc.val = some g :=
  ⟨0, 0, { time := { now := 1, refreshDue := [(64, 640)] }, hbm := { mstacks := [(0, { state := 2 })] } }, 64, by decide +kernel, by decide +kernel, by decide +kernel, by decide +kernel⟩

/-- A state and operands that meet the hypotheses of clause 3 of MemoryStackRowsComplete. -/
theorem wit_MemoryStackRowsComplete_3 : ∃ (stack pc : Fin 32) (bank : Fin 48) (s : State) (r : Refresh),
    s.hbm.inRefresh.find? (fun r => r.stack == stack.val && r.pc == pc.val && r.bank == bank.val) = some r ∧ r.since = none :=
  ⟨0, 0, 3, { hbm := { inRefresh := [{ stack := 0, pc := 0, bank := 3, atGrain := 0 }] } }, { stack := 0, pc := 0, bank := 3, atGrain := 0 }, by decide +kernel, by decide +kernel⟩

/-- A state and operands that meet the hypotheses of clause 4 of MemoryStackRowsComplete. -/
theorem wit_MemoryStackRowsComplete_4 : ∃ (stack pc : Fin 32) (bank : Fin 48) (s : State) (r : Refresh) (g : Nat),
    s.hbm.inRefresh.find? (fun r => r.stack == stack.val && r.pc == pc.val && r.bank == bank.val) = some r ∧ r.since = some g :=
  ⟨0, 0, 3, { hbm := { inRefresh := [{ stack := 0, pc := 0, bank := 3, atGrain := 0, since := some 0 }] } }, { stack := 0, pc := 0, bank := 3, atGrain := 0, since := some 0 }, 0, by decide +kernel, by decide +kernel⟩

/-- A state and operands that meet the hypotheses of clause 5 of MemoryStackRowsComplete. -/
theorem wit_MemoryStackRowsComplete_5 : ∃ (stack : Fin 32) (s : State),
    s.atBoundary = true ∧ (s.mstack stack.val).state = 2 ∧ (s.mstack stack.val).mode2x = false ∧ 85 * 16 ≤ (s.mstack stack.val).temp16 :=
  ⟨0, { hbm := { mstacks := [(0, { state := 2, temp16 := 1440 })] } }, by decide +kernel, by decide +kernel, by decide +kernel, by decide +kernel⟩

/-- A state and operands that meet the hypotheses of clause 6 of MemoryStackRowsComplete. -/
theorem wit_MemoryStackRowsComplete_6 : ∃ (stack : Fin 32) (s : State),
    s.atBoundary = true ∧ (s.mstack stack.val).state = 2 ∧ (s.mstack stack.val).mode2x = true ∧ (s.mstack stack.val).temp16 ≤ 80 * 16 :=
  ⟨0, { hbm := { mstacks := [(0, { state := 2, temp16 := 1200, mode2x := true })] } }, by decide +kernel, by decide +kernel, by decide +kernel, by decide +kernel⟩

/-- A state and operands that meet the hypotheses of clause 7 of MemoryStackRowsComplete. -/
theorem wit_MemoryStackRowsComplete_7 : ∃ (noise : List HbmUpset) (s v u : State) (b st : Nat) (d : List (BitVec 8)),
    s.runActive = false ∧ s.hbm.xfers = [] ∧ s.rst.blocks = [] ∧ scrubNext s s.hbm.scrubAt = some b ∧ v = noise.foldl (fun s u => upsetBurst u s) s ∧ readBurst b 169 v = (d, st, u) :=
  ⟨[], { hbm := { mstacks := [(0, { state := 2 })] } }, _, _, 0, 0, (readBurst 0 169 { hbm := { mstacks := [(0, { state := 2 })] } }).1, by decide +kernel, rfl, rfl, by decide +kernel, rfl, rfl⟩

/-- A state and operands that meet the hypotheses of clause 8 of MemoryStackRowsComplete. -/
theorem wit_MemoryStackRowsComplete_8 : ∃ (noise : List HbmUpset) (s : State),
    s.runActive = false ∧ s.hbm.xfers = [] ∧ s.rst.blocks = [] ∧ scrubNext s s.hbm.scrubAt = none :=
  ⟨[], {}, by decide +kernel, by decide +kernel, by decide +kernel, by decide +kernel⟩

/-- A state and operands that meet the hypotheses of clause 9 of MemoryStackRowsComplete. -/
theorem wit_MemoryStackRowsComplete_9 : ∃ (stack : Fin 32) (s : State),
    (s.mstack stack.val).state = 2 :=
  ⟨3, { hbm := { mstacks := [(3, { state := 2 })] } }, by decide +kernel⟩

/-- A state and operands that meet the hypotheses of clause 1 of RunRowsComplete. -/
theorem wit_RunRowsComplete_1 : ∃ (eng : BitVec 16) (unit : Fin 6) (s : State) (f : Flight),
    engValid eng.toNat = true ∧ unit.val ≠ 4 ∧ flightOf (s.engine eng.toNat) unit.val (fun f => f.done) = some f :=
  ⟨0x1000#16, 0, { engines := [(0x1000, { flight := [{ done := true }] })] }, { done := true }, by decide +kernel, by decide +kernel, by decide +kernel⟩

/-- A state and operands that meet the hypotheses of clause 2 of RunRowsComplete. -/
theorem wit_RunRowsComplete_2 : ∃ (eng : BitVec 16) (s : State) (f : Flight),
    engValid eng.toNat = true ∧ flightOf (s.engine eng.toNat) 4 (fun f => f.done) = some f :=
  ⟨0x4000#16, { engines := [(0x4000, { flight := [{ unit := 4, done := true }] })] }, { unit := 4, done := true }, by decide +kernel, by decide +kernel⟩

/-- A state and operands that meet the hypotheses of clause 3 of RunRowsComplete. -/
theorem wit_RunRowsComplete_3 : ∃ (eng : BitVec 16) (flip : Word128) (s : State) (f : Flight),
    engValid eng.toNat = true ∧ (s.engine eng.toNat).flight.find? (fun f => isBarrier f && !f.done && !f.moved) = some f ∧ arrivalOnMesh s eng.toNat = false ∧ engKind eng.toNat = 1 ∧ barScope (stBody f.step.word) = 0 :=
  ⟨0x1000#16, 0, flying 0x1000 3 0, { unit := 5, step := { word := word 3 0 } }, by decide +kernel, by decide +kernel, by decide +kernel, by decide +kernel, by decide +kernel⟩

/-- A state and operands that meet the hypotheses of clause 4 of RunRowsComplete. -/
theorem wit_RunRowsComplete_4 : ∃ (eng : BitVec 16) (flip w : Word128) (s : State) (f : Flight),
    engValid eng.toNat = true ∧ (s.engine eng.toNat).flight.find? (fun f => isBarrier f && !f.done && !f.moved) = some f ∧ arrivalOnMesh s eng.toNat = false ∧ (engKind eng.toNat ≠ 1 ∨ barScope (stBody f.step.word) ≠ 0) ∧ w = barrierWord eng.toNat (stBody f.step.word) ∧ awaitsRepeat s w = false ∧ wordUnlit s w = false ∧ checkOk (w ^^^ flip) = true :=
  ⟨0x2000#16, 0, _, flying 0x2000 3 0, { unit := 5, step := { word := word 3 0 } }, by decide +kernel, by decide +kernel, by decide +kernel, Or.inl (by decide +kernel), rfl, by decide +kernel, by decide +kernel, by decide +kernel⟩

/-- A state and operands that meet the hypotheses of clause 5 of RunRowsComplete. -/
theorem wit_RunRowsComplete_5 : ∃ (eng : BitVec 16) (flip w : Word128) (s : State) (f : Flight),
    engValid eng.toNat = true ∧ (s.engine eng.toNat).flight.find? (fun f => isBarrier f && !f.done && !f.moved) = some f ∧ arrivalOnMesh s eng.toNat = false ∧ (engKind eng.toNat ≠ 1 ∨ barScope (stBody f.step.word) ≠ 0) ∧ w = barrierWord eng.toNat (stBody f.step.word) ∧ awaitsRepeat s w = false ∧ wordUnlit s w = false ∧ checkOk (w ^^^ flip) = false :=
  ⟨0x2000#16, 1, _, flying 0x2000 3 0, { unit := 5, step := { word := word 3 0 } }, by decide +kernel, by decide +kernel, by decide +kernel, Or.inl (by decide +kernel), rfl, by decide +kernel, by decide +kernel, by decide +kernel⟩

/-- A state and operands that meet the hypotheses of clause 6 of RunRowsComplete. -/
theorem wit_RunRowsComplete_6 : ∃ (eng : BitVec 16) (s : State) (f : Flight),
    engValid eng.toNat = true ∧ (s.engine eng.toNat).flight.find? (fun f => isBarrier f && !f.done && decide (f.issued + 2 ^ 24 ≤ s.now)) = some f ∧ (barFind s (barKey eng.toNat (stBody f.step.word))).sent = true :=
  ⟨0x1000#16, { flying 0x1000 3 0x20000 with time := { now := 20000000 }, cut := { barriers := [{ scope := 2, number := 0, die := 0, count := 1, sent := true }] } }, { unit := 5, step := { word := word 3 0x20000 } }, by decide +kernel, by decide +kernel, by decide +kernel⟩

/-- A state and operands that meet the hypotheses of clause 7 of RunRowsComplete. -/
theorem wit_RunRowsComplete_7 : ∃ (eng : BitVec 16) (s : State) (f : Flight),
    engValid eng.toNat = true ∧ (s.engine eng.toNat).flight.find? (fun f => isBarrier f && !f.done && decide (f.issued + 2 ^ 24 ≤ s.now)) = some f ∧ (barFind s (barKey eng.toNat (stBody f.step.word))).sent = false :=
  ⟨0x1000#16, { flying 0x1000 3 0 with time := { now := 20000000 } }, { unit := 5, step := { word := word 3 0 } }, by decide +kernel, by decide +kernel, by decide +kernel⟩

/-- A state and operands that meet the hypotheses of clause 8 of RunRowsComplete. -/
theorem wit_RunRowsComplete_8 : ∃ (s : State) (k : Nat),
    s.cut.state = .running ∧ s.atBoundary = true ∧ s.cut.idleNow = false ∧ s.cut.ovrEvent = some k ∧ k + 1024 ≤ s.cut.sheaf ∧ s.cut.ovrNew = true :=
  ⟨{ cut := { state := .running, ovrEvent := some 0, sheaf := 1024, ovrNew := true } }, 0, by decide +kernel, by decide +kernel, by decide +kernel, by decide +kernel, by decide +kernel, by decide +kernel⟩

/-- A state and operands that meet the hypotheses of clause 9 of RunRowsComplete. -/
theorem wit_RunRowsComplete_9 : ∃ (s : State) (k : Nat),
    s.cut.state = .running ∧ s.atBoundary = true ∧ s.cut.idleNow = false ∧ s.cut.flagEvent = some k ∧ k + 1024 ≤ s.cut.sheaf :=
  ⟨{ cut := { state := .running, flagEvent := some 0, sheaf := 1024 } }, 0, by decide +kernel, by decide +kernel, by decide +kernel, by decide +kernel, by decide +kernel⟩

/-- A state and operands that meet the hypotheses of clause 1 of PauseEndAndLoadRowsComplete. -/
theorem wit_PauseEndAndLoadRowsComplete_1 : ∃ (s : State) (m : Nat),
    s.cut.pauseMark = some m ∧ s.cut.state = .running ∧ postsInFlight s = false ∧ s.engines.all (fun p => !p.2.present || p.2.ckpts.any (fun c => c.1 == m)) = true :=
  ⟨{ cut := { state := .running, pauseMark := some 2 } }, 2, by decide +kernel, by decide +kernel, by decide +kernel, by decide +kernel⟩

/-- A state and operands that meet the hypotheses of clause 2 of PauseEndAndLoadRowsComplete. -/
theorem wit_PauseEndAndLoadRowsComplete_2 : ∃ (s : State),
    s.cut.state = .running ∧ postsInFlight s = false ∧ s.engines.all (fun p => !p.2.present || p.2.ended) = true :=
  ⟨{ cut := { state := .running } }, by decide +kernel, by decide +kernel, by decide +kernel⟩

/-- A state and operands that meet the hypotheses of clause 3 of PauseEndAndLoadRowsComplete. -/
theorem wit_PauseEndAndLoadRowsComplete_3 : ∃ (eng : BitVec 16) (noise : List HbmUpset) (s u : State) (b : List (BitVec 8)) (n : Nat),
    engValid eng.toNat = true ∧ s.cut.state = .running ∧ (s.engine eng.toNat).present = true ∧ 8 ≤ freeEntries s eng.toNat ∧ n = min (freeEntries s eng.toNat) ((s.engine eng.toNat).total - (s.engine eng.toNat).next) ∧ 0 < n ∧ hbmRead ((s.engine eng.toNat).array + 16 * (s.engine eng.toNat).next) (16 * n) (fetchRequester eng.toNat) (noise.foldl (fun s u => upsetBurst u s) s) = (b, 0, u) :=
  ⟨0x2000#16, [], refillState, (hbmRead 0 16 160 refillState).2.2, (hbmRead 0 16 160 refillState).1, 1, by decide +kernel, by decide +kernel, by decide +kernel, by decide +kernel, by decide +kernel, by decide,
    Prod.ext rfl (Prod.ext (by decide +kernel) rfl)⟩

/-- A state and operands that meet the hypotheses of clause 4 of PauseEndAndLoadRowsComplete. -/
theorem wit_PauseEndAndLoadRowsComplete_4 : ∃ (eng : BitVec 16) (noise : List HbmUpset) (s u : State) (b : List (BitVec 8)) (n st : Nat),
    engValid eng.toNat = true ∧ s.cut.state = .running ∧ (s.engine eng.toNat).present = true ∧ 8 ≤ freeEntries s eng.toNat ∧ n = min (freeEntries s eng.toNat) ((s.engine eng.toNat).total - (s.engine eng.toNat).next) ∧ 0 < n ∧ hbmRead ((s.engine eng.toNat).array + 16 * (s.engine eng.toNat).next) (16 * n) (fetchRequester eng.toNat) (noise.foldl (fun s u => upsetBurst u s) s) = (b, st, u) ∧ st ≠ 0 :=
  ⟨0x2000#16, [], { refillState with hbm := {} }, (hbmRead 0 16 160 { refillState with hbm := {} }).2.2, (hbmRead 0 16 160 { refillState with hbm := {} }).1, 1, 2, by decide +kernel, by decide +kernel, by decide +kernel, by decide +kernel, by decide +kernel, by decide,
    Prod.ext rfl (Prod.ext (by decide +kernel) rfl), by decide⟩

/-- A state and operands that meet the hypotheses of clause 5 of PauseEndAndLoadRowsComplete. -/
theorem wit_PauseEndAndLoadRowsComplete_5 : ∃ (noise : List HbmUpset) (s u v x : State) (h b : List (BitVec 8)),
    s.cut.state = .loading ∧ hbmRead s.cut.base 256 171 (noise.foldl (fun s u => upsetBurst u s) s) = (h, 0, u) ∧ headerBad h = false ∧ lengthBad s.cut.base h = false ∧ hbmRead (s.cut.base + 256) (hdLength h - 256) 171 u = (b, 0, v) ∧ (if layoutBad (h ++ b) then (0, v) else seqReads s.cut.base (h ++ b) v) = (0, x) :=
  ⟨[], imgState, imgState, imgState, imgState, (hbmRead 0 256 171 imgState).1, (hbmRead 256 3840 171 imgState).1, rfl, Prod.ext rfl (hbmRead_clean 0 256 171 imgState (by decide +kernel)), by decide +kernel, by decide +kernel, by
    rw [show hdLength (hbmRead 0 256 171 imgState).1 = 4096 by decide +kernel,
      show imgState.cut.base + 256 = 256 from rfl, show 4096 - 256 = 3840 from rfl]
    have h := hbmRead_clean 256 3840 171 imgState (by decide +kernel)
    generalize hbmRead 256 3840 171 imgState = x at h ⊢
    exact Prod.ext (Eq.refl x.1) h, if_pos (by decide +kernel)⟩

/-- A state and operands that meet the hypotheses of clause 6 of PauseEndAndLoadRowsComplete. -/
theorem wit_PauseEndAndLoadRowsComplete_6 : ∃ (noise : List HbmUpset) (s u : State) (h : List (BitVec 8)),
    s.cut.state = .loading ∧ hbmRead s.cut.base 256 171 (noise.foldl (fun s u => upsetBurst u s) s) = (h, 0, u) ∧ headerBad h = true :=
  ⟨[], loadState, (hbmRead 0 256 171 loadState).2.2, (hbmRead 0 256 171 loadState).1, by decide +kernel, Prod.ext rfl (Prod.ext (by decide +kernel) rfl), by decide +kernel⟩

/-- A state and operands that meet the hypotheses of clause 7 of PauseEndAndLoadRowsComplete. -/
theorem wit_PauseEndAndLoadRowsComplete_7 : ∃ (noise : List HbmUpset) (s u : State) (h : List (BitVec 8)) (st : Nat),
    s.cut.state = .loading ∧ hbmRead s.cut.base 256 171 (noise.foldl (fun s u => upsetBurst u s) s) = (h, st, u) ∧ (st = 1 ∨ st = 2) :=
  ⟨[], { loadState with hbm := {} }, (hbmRead 0 256 171 { loadState with hbm := {} }).2.2, (hbmRead 0 256 171 { loadState with hbm := {} }).1, 2, by decide +kernel, Prod.ext rfl (Prod.ext (by decide +kernel) rfl), Or.inr rfl⟩

/-- A state and operands that meet the hypotheses of clause 1 of RailReceiveRowsComplete. -/
theorem wit_RailReceiveRowsComplete_1 : ∃ (rail : Fin 26) (lane wave : Fin 34) (frame : BitVec 5140) (due : Option (BitVec 16)) (codes : List (Fin 545)) (s u : State),
    2 ≤ (s.rail rail.val).state ∧ (s.rail rail.val).state ≠ 7 ∧ u = hearCodes rail.val lane.val wave.val (codes.map (·.val)) s ∧ 2 ≤ (u.rail rail.val).state ∧ lane.val ≠ 32 ∧ ((tabGet (u.rail rail.val).rx wave.val {}).sound = false ∨ railFrameOk lane.val (frame.setWidth 4160) = false) :=
  ⟨0, 0, 0, 0, none, [], { rails := [(0, { state := 5 })] }, _, by decide +kernel, by decide +kernel, rfl, by decide +kernel, by decide, Or.inl (by decide +kernel)⟩

/-- A state and operands that meet the hypotheses of clause 2 of RailReceiveRowsComplete. -/
theorem wit_RailReceiveRowsComplete_2 : ∃ (rail : Fin 26) (lane wave : Fin 34) (frame : BitVec 5140) (due : Option (BitVec 16)) (codes : List (Fin 545)) (s u v : State),
    2 ≤ (s.rail rail.val).state ∧ (s.rail rail.val).state ≠ 7 ∧ u = hearCodes rail.val lane.val wave.val (codes.map (·.val)) s ∧ 2 ≤ (u.rail rail.val).state ∧ lane.val ≠ 32 ∧ (tabGet (u.rail rail.val).rx wave.val {}).sound = true ∧ railFrameOk lane.val (frame.setWidth 4160) = true ∧ v = u.modRail rail.val (fun y => { y with rx := tabMod y.rx wave.val {} (fun y => y.pass (bit (frame.setWidth 4160).toNat 8) (bits (frame.setWidth 4160).toNat 0 2 == 3)) }) ∧ (tabGet (u.rail rail.val).rx wave.val {}).framed = false :=
  ⟨0, 0, 0, railFrame0.setWidth 5140, none, [], { rails := [(0, { state := 5, rx := [(0, { locked := true })] })] }, _, _, by decide +kernel, by decide +kernel, rfl, by decide +kernel, by decide, by decide +kernel, by rw [show (railFrame0.setWidth 5140).setWidth 4160 = railFrame0 by decide +kernel]; unfold railFrameOk; rw [railCrc_railFrame0]; decide +kernel, rfl, by decide +kernel⟩

/-- A state and operands that meet the hypotheses of clause 3 of RailReceiveRowsComplete. -/
theorem wit_RailReceiveRowsComplete_3 : ∃ (rail : Fin 26) (lane wave : Fin 34) (frame : BitVec 5140) (due : Option (BitVec 16)) (codes : List (Fin 545)) (s u v w : State),
    2 ≤ (s.rail rail.val).state ∧ (s.rail rail.val).state ≠ 7 ∧ u = hearCodes rail.val lane.val wave.val (codes.map (·.val)) s ∧ 2 ≤ (u.rail rail.val).state ∧ lane.val ≠ 32 ∧ (tabGet (u.rail rail.val).rx wave.val {}).sound = true ∧ railFrameOk lane.val (frame.setWidth 4160) = true ∧ v = u.modRail rail.val (fun y => { y with rx := tabMod y.rx wave.val {} (fun y => y.pass (bit (frame.setWidth 4160).toNat 8) (bits (frame.setWidth 4160).toNat 0 2 == 3)) }) ∧ (tabGet (u.rail rail.val).rx wave.val {}).framed = true ∧ w = observe (2 * rail.val + 1) wave.val (frameIdentity lane.val (frame.setWidth 4160)) (railRing rail.val 1 wave.val) v :=
  ⟨0, 0, 0, railFrame0.setWidth 5140, none, [], { rails := [(0, { state := 5, rx := [(0, { locked := true, framed := true })] })] }, _, _, _, by decide +kernel, by decide +kernel, rfl, by decide +kernel, by decide, by decide +kernel, by rw [show (railFrame0.setWidth 5140).setWidth 4160 = railFrame0 by decide +kernel]; unfold railFrameOk; rw [railCrc_railFrame0]; decide +kernel, rfl, by decide +kernel, rfl⟩

/-- A state and operands that meet the hypotheses of clause 4 of RailReceiveRowsComplete. -/
theorem wit_RailReceiveRowsComplete_4 : ∃ (rail : Fin 26) (lane wave : Fin 34) (frame : BitVec 5140) (due : Option (BitVec 16)) (codes : List (Fin 545)) (s u : State),
    2 ≤ (s.rail rail.val).state ∧ (s.rail rail.val).state ≠ 7 ∧ u = hearCodes rail.val lane.val wave.val (codes.map (·.val)) s ∧ 2 ≤ (u.rail rail.val).state ∧ lane.val = 32 ∧ (tabGet (u.rail rail.val).rx wave.val {}).locked = true ∧ (tabGet (u.rail rail.val).rx wave.val {}).lost = false :=
  ⟨0, 32, 0, 0, none, [], { rails := [(0, { state := 5, rx := [(0, { locked := true })] })] }, _, by decide +kernel, by decide +kernel, rfl, by decide +kernel, by decide, by decide +kernel, by decide +kernel⟩

/-- A state and operands that meet the hypotheses of clause 5 of RailReceiveRowsComplete. -/
theorem wit_RailReceiveRowsComplete_5 : ∃ (rail : Fin 26) (s : State),
    ((s.rail rail.val).state = 5 ∨ (s.rail rail.val).state = 6) :=
  ⟨0, { rails := [(0, { state := 5 })] }, by decide +kernel⟩

/-- A state and operands that meet the hypotheses of clause 6 of RailReceiveRowsComplete. -/
theorem wit_RailReceiveRowsComplete_6 : ∃ (rail : Fin 26) (word : BitVec 256) (s u : State),
    GoodWord rail.val 0x01 word s ∧ u = (withoutWord rail.val word s).modRail rail.val (fun x => { x with replay := x.replay.filter (fun f => 2048 ≤ seqDist f.seq (ctl word 8 16)) }) :=
  ⟨0, ctlWord (0x01 + 0), { rails := [(0, { state := 5, rxWords := [ctlWord (0x01 + 0)] })] }, _, by unfold GoodWord; decide +kernel, rfl⟩

/-- A state and operands that meet the hypotheses of clause 7 of RailReceiveRowsComplete. -/
theorem wit_RailReceiveRowsComplete_7 : ∃ (rail : Fin 26) (word : BitVec 256) (s : State),
    GoodWord rail.val 0x02 word s :=
  ⟨0, ctlWord (0x02 + 0), { rails := [(0, { state := 5, rxWords := [ctlWord (0x02 + 0)] })] }, by unfold GoodWord; decide +kernel⟩

/-- A state and operands that meet the hypotheses of clause 8 of RailReceiveRowsComplete. -/
theorem wit_RailReceiveRowsComplete_8 : ∃ (rail : Fin 26) (word : BitVec 256) (s u : State),
    GoodWord rail.val 0x04 word s ∧ u = (withoutWord rail.val word s).modRail rail.val (fun x => { x with trainRx := word }) ∧ (s.rail rail.val).state = 3 ∧ ctl word 57 5 ≠ rail.val :=
  ⟨0, ctlWord (0x04 + 3 * 2 ^ 57), { rails := [(0, { state := 3, rxWords := [ctlWord (0x04 + 3 * 2 ^ 57)] })] }, _, by unfold GoodWord; decide +kernel, rfl, by decide +kernel, by decide +kernel⟩

/-- A state and operands that meet the hypotheses of clause 9 of RailReceiveRowsComplete. -/
theorem wit_RailReceiveRowsComplete_9 : ∃ (rail : Fin 26) (word : BitVec 256) (s u : State),
    GoodWord rail.val 0x04 word s ∧ u = (withoutWord rail.val word s).modRail rail.val (fun x => { x with trainRx := word }) ∧ (s.rail rail.val).state = 3 ∧ ctl word 57 5 = rail.val ∧ 3 ≤ ctl word 8 4 ∧ ctl word 8 4 ≤ 6 ∧ (trainLimits word).all (fun l => decide (64 ≤ l.2)) = true :=
  ⟨0, ctlWord (0x04 + 3 * 2 ^ 8 + 2048 * 2 ^ 62 + 2048 * 2 ^ 78 + 8192 * 2 ^ 94 + 512 * 2 ^ 110), { rails := [(0, { state := 3, rxWords := [ctlWord (0x04 + 3 * 2 ^ 8 + 2048 * 2 ^ 62 + 2048 * 2 ^ 78 + 8192 * 2 ^ 94 + 512 * 2 ^ 110)] })] }, _, by unfold GoodWord; decide +kernel, rfl, by decide +kernel, by decide +kernel, by decide +kernel, by decide +kernel, by decide +kernel⟩

/-- A state and operands that meet the hypotheses of clause 10 of RailReceiveRowsComplete. -/
theorem wit_RailReceiveRowsComplete_10 : ∃ (rail : Fin 26) (word : BitVec 256) (s u : State),
    GoodWord rail.val 0x04 word s ∧ u = (withoutWord rail.val word s).modRail rail.val (fun x => { x with trainRx := word }) ∧ ((s.rail rail.val).state = 5 ∨ (s.rail rail.val).state = 6) ∧ ctl word 8 4 ≤ 3 :=
  ⟨0, ctlWord (0x04 + 0), { rails := [(0, { state := 5, rxWords := [ctlWord (0x04 + 0)] })] }, _, by unfold GoodWord; decide +kernel, rfl, by decide +kernel, by decide +kernel⟩

/-- A state and operands that meet the hypotheses of clause 11 of RailReceiveRowsComplete. -/
theorem wit_RailReceiveRowsComplete_11 : ∃ (rail : Fin 26) (word : BitVec 256) (s u : State),
    GoodWord rail.val 0x04 word s ∧ u = (withoutWord rail.val word s).modRail rail.val (fun x => { x with trainRx := word }) ∧ ((s.rail rail.val).state = 5 ∨ (s.rail rail.val).state = 6) ∧ ctl word 8 4 = 5 :=
  ⟨0, ctlWord (0x04 + 5 * 2 ^ 8), { rails := [(0, { state := 5, rxWords := [ctlWord (0x04 + 5 * 2 ^ 8)] })] }, _, by unfold GoodWord; decide +kernel, rfl, by decide +kernel, by decide +kernel⟩

/-- A state and operands that meet the hypotheses of clause 12 of RailReceiveRowsComplete. -/
theorem wit_RailReceiveRowsComplete_12 : ∃ (rail : Fin 26) (channel : Fin 3) (s : State) (p : Packet) (g q : Nat),
    queueHead (s.rail rail.val) channel.val = some (p, some g) ∧ s.activeRail (railEntry s p.epoch p.dst).2 = some q ∧ g + 4096 ≤ s.now ∧ p.slots.length ≤ (s.rail q).credit 3 :=
  ⟨0, 0, { time := { now := 5000 }, rails := [(0, { state := 5, logical := some 0, queue := [({}, some 0)] })] }, {}, 0, 0, by decide +kernel, by decide +kernel, by decide +kernel, by decide +kernel⟩

/-- A state and operands that meet the hypotheses of clause 1 of RailTrainingRowsComplete. -/
theorem wit_RailTrainingRowsComplete_1 : ∃ (link : Fin 28) (tx rx : BitVec 34) (cals : RingCals) (s : State),
    link.val < 26 ∧ (s.rail link.val).state = 1 :=
  ⟨0, 0, 0, [], { rails := [(0, { state := 1 })] }, by decide +kernel, by decide +kernel⟩

/-- A state and operands that meet the hypotheses of clause 2 of RailTrainingRowsComplete. -/
theorem wit_RailTrainingRowsComplete_2 : ∃ (link : Fin 28) (tx rx : BitVec 34) (cals : RingCals) (s : State),
    link.val < 26 ∧ (s.rail link.val).state = 2 ∧ lockDone s link.val = true :=
  ⟨0, 0, 0, [], { rails := [(0, { state := 2 })] }, by decide +kernel, by decide +kernel, by decide +kernel⟩

/-- A state and operands that meet the hypotheses of clause 3 of RailTrainingRowsComplete. -/
theorem wit_RailTrainingRowsComplete_3 : ∃ (link : Fin 28) (tx rx : BitVec 34) (cals : RingCals) (s : State),
    link.val < 26 ∧ (s.rail link.val).state = 4 ∧ measured (s.rail link.val).rxWaves (s.rail link.val).rx = true :=
  ⟨0, 0, 0, [], { rails := [(0, { state := 4 })] }, by decide +kernel, by decide +kernel, by decide +kernel⟩

/-- A state and operands that meet the hypotheses of clause 4 of RailTrainingRowsComplete. -/
theorem wit_RailTrainingRowsComplete_4 : ∃ (link : Fin 28) (tx rx : BitVec 34) (cals : RingCals) (s : State),
    link.val < 26 ∧ (s.rail link.val).state = 5 :=
  ⟨0, 0, 0, [], { rails := [(0, { state := 5 })] }, by decide +kernel, by decide +kernel⟩

/-- A state and operands that meet the hypotheses of clause 5 of RailTrainingRowsComplete. -/
theorem wit_RailTrainingRowsComplete_5 : ∃ (link : Fin 28) (tx rx : BitVec 34) (cals : RingCals) (s : State),
    link.val < 26 ∧ (s.rail link.val).state = 0 ∧ (s.rail link.val).heldDown = false ∧ s.railHeld link.val = false ∧ edgeDark s (railEdge link.val) = false ∧ s.mayTrain = true :=
  ⟨0, 0, 0, [], { rst := { built := true, state := 4, episode := none }, pwr := { domainsOff := false } }, by decide +kernel, by decide +kernel, by decide +kernel, by decide +kernel, by decide +kernel, by decide +kernel⟩

/-- A state and operands that meet the hypotheses of clause 6 of RailTrainingRowsComplete. -/
theorem wit_RailTrainingRowsComplete_6 : ∃ (link : Fin 28) (tx rx : BitVec 34) (cals : RingCals) (s : State),
    26 ≤ link.val ∧ (s.yport (link.val - 26)).state = 0 ∧ edgeDark s (link.val - 26) = false ∧ s.pwr.regFaults.contains (3, 0x60 + (link.val - 26)) = false ∧ s.mayTrain = true :=
  ⟨26, 0, 0, [], { rst := { built := true, state := 4, episode := none }, pwr := { domainsOff := false } }, by decide +kernel, by decide +kernel, by decide +kernel, by decide +kernel, by decide +kernel⟩

/-- A state and operands that meet the hypotheses of clause 7 of RailTrainingRowsComplete. -/
theorem wit_RailTrainingRowsComplete_7 : ∃ (link : Fin 28) (tx rx : BitVec 34) (cals : RingCals) (s : State),
    26 ≤ link.val ∧ (s.yport (link.val - 26)).state = 1 :=
  ⟨26, 0, 0, [], { yuley := { ports := [(0, { state := 1 })] } }, by decide +kernel, by decide +kernel⟩

/-- A state and operands that meet the hypotheses of clause 8 of RailTrainingRowsComplete. -/
theorem wit_RailTrainingRowsComplete_8 : ∃ (link : Fin 28) (tx rx : BitVec 34) (cals : RingCals) (s : State),
    26 ≤ link.val ∧ (s.yport (link.val - 26)).state = 2 ∧ yuleyLocked (s.yport (link.val - 26)) = true :=
  ⟨26, 0, 0, [], { yuley := { ports := [(0, { state := 2 })] } }, by decide +kernel, by decide +kernel, by decide +kernel⟩

/-- A state and operands that meet the hypotheses of clause 9 of RailTrainingRowsComplete. -/
theorem wit_RailTrainingRowsComplete_9 : ∃ (link : Fin 28) (tx rx : BitVec 34) (cals : RingCals) (s : State),
    26 ≤ link.val ∧ (s.yport (link.val - 26)).state = 3 :=
  ⟨26, 0, 0, [], { yuley := { ports := [(0, { state := 3 })] } }, by decide +kernel, by decide +kernel⟩

/-- A state and operands that meet the hypotheses of clause 10 of RailTrainingRowsComplete. -/
theorem wit_RailTrainingRowsComplete_10 : ∃ (link : Fin 28) (tx rx : BitVec 34) (cals : RingCals) (s : State),
    26 ≤ link.val ∧ (s.yport (link.val - 26)).state = 4 ∧ measured ((s.yport (link.val - 26)).rxWaves &&& 0x3C00) (s.yport (link.val - 26)).rx = true :=
  ⟨26, 0, 0, [], { yuley := { ports := [(0, { state := 4 })] } }, by decide +kernel, by decide +kernel, by decide +kernel⟩

/-- A state and operands that meet the hypotheses of clause 11 of RailTrainingRowsComplete. -/
theorem wit_RailTrainingRowsComplete_11 : ∃ (link : Fin 28) (s : State),
    link.val < 26 ∧ overran s (s.rail link.val).state (s.rail link.val).stateSince = true :=
  ⟨0, { time := { now := 10000000000 }, rails := [(0, { state := 1 })] }, by decide +kernel, by decide +kernel⟩

/-- A state and operands that meet the hypotheses of clause 12 of RailTrainingRowsComplete. -/
theorem wit_RailTrainingRowsComplete_12 : ∃ (link : Fin 28) (s : State),
    26 ≤ link.val ∧ overran s (s.yport (link.val - 26)).state (s.yport (link.val - 26)).stateSince = true :=
  ⟨26, { time := { now := 10000000000 }, yuley := { ports := [(0, { state := 1 })] } }, by decide +kernel, by decide +kernel⟩

/-- A state and operands that meet the hypotheses of clause 13 of RailTrainingRowsComplete. -/
theorem wit_RailTrainingRowsComplete_13 : ∃ (s : State),
    s.atBoundary = true ∧ s.railTop.assigned = true :=
  ⟨{ railTop := { assigned := true } }, by decide +kernel, by decide +kernel⟩

/-- A state and operands that meet the hypotheses of clause 1 of RailFlipRowsComplete. -/
theorem wit_RailFlipRowsComplete_1 : ∃ (p : CmdPkt) (s : State) (v : Nat),
    Writes 0x00A00001 v p s ∧ s.railTop.flipPending = false ∧ s.fleetSheaf + 64 ≤ bits v 0 52 ∧ bit v 52 ≠ s.railTop.epoch :=
  ⟨wpkt 0x00A00001 8 (2 ^ 52 + 100), ready, 2 ^ 52 + 100, by unfold Writes Accepted; decide +kernel, by decide +kernel, by decide +kernel, by decide +kernel⟩

/-- A state and operands that meet the hypotheses of clause 2 of RailFlipRowsComplete. -/
theorem wit_RailFlipRowsComplete_2 : ∃ (p : CmdPkt) (s : State) (v i : Nat),
    Writes (0x00A10000 + i) v p s ∧ i < 8192 ∧ bits v 24 5 ≤ 23 ∧ decide (4096 ≤ i) ≠ s.railTop.epoch ∧ s.railTop.flippedAt = none :=
  ⟨wpkt 0x00A11005 8 7, ready, 7, 0x1005, by unfold Writes Accepted; decide +kernel, by decide +kernel, by decide +kernel, by decide +kernel⟩

/-- A state and operands that meet the hypotheses of clause 3 of RailFlipRowsComplete. -/
theorem wit_RailFlipRowsComplete_3 : ∃ (s : State),
    s.railTop.flipPending = true ∧ s.railTop.flippedAt = none ∧ s.railTop.contributed = false ∧ s.railTop.flipSheaf ≤ s.fleetSheaf + 32 ∧ s.fleetSheaf < s.railTop.flipSheaf :=
  ⟨{ railTop := { flipPending := true, flipSheaf := 20, flipEpoch := true } }, by decide +kernel, by decide +kernel, by decide +kernel, by decide +kernel, by decide +kernel⟩

/-- A state and operands that meet the hypotheses of clause 4 of RailFlipRowsComplete. -/
theorem wit_RailFlipRowsComplete_4 : ∃ (rail : Fin 26) (word : BitVec 256) (s u : State),
    GoodResult rail.val 0x23 (ctl word 25 52) word s ∧ u = forget 0x23 (ctl word 25 52) (withoutWord rail.val word s) ∧ s.railTop.flipPending = true ∧ ctl word 25 52 = s.railTop.flipSheaf ∧ s.fleetSheaf < s.railTop.flipSheaf :=
  ⟨0, ctlWord (0x23 + 2 ^ 24 + 20 * 2 ^ 25 + 3 * 2 ^ 77), { rails := [(0, { state := 5, rxWords := [ctlWord (0x23 + 2 ^ 24 + 20 * 2 ^ 25 + 3 * 2 ^ 77)] })], railTop := { flipPending := true, flipSheaf := 20, outstanding := [{ kind := 0x23, key := 20 }] } }, _, by unfold GoodResult GoodWord; decide +kernel, rfl, by decide +kernel, by decide +kernel, by decide +kernel⟩

/-- A state and operands that meet the hypotheses of clause 5 of RailFlipRowsComplete. -/
theorem wit_RailFlipRowsComplete_5 : ∃ (s : State),
    s.railTop.flipPending = true ∧ s.railTop.flippedAt = none ∧ s.atBoundary = true ∧ s.railTop.flipSheaf ≤ s.fleetSheaf ∧ s.railTop.result = some true :=
  ⟨{ railTop := { flipPending := true, flipSheaf := 2, flipEpoch := true, result := some true }, time := { now := 8192 } }, by decide +kernel, by decide +kernel, by decide +kernel, by decide +kernel, by decide +kernel⟩

/-- A state and operands that meet the hypotheses of clause 6 of RailFlipRowsComplete. -/
theorem wit_RailFlipRowsComplete_6 : ∃ (s : State),
    s.railTop.flipPending = true ∧ s.railTop.flippedAt = none ∧ s.atBoundary = true ∧ s.railTop.flipSheaf ≤ s.fleetSheaf ∧ s.railTop.result ≠ some true :=
  ⟨{ railTop := { flipPending := true, flipSheaf := 2, flipEpoch := true }, time := { now := 8192 } }, by decide +kernel, by decide +kernel, by decide +kernel, by decide +kernel, by decide +kernel⟩

/-- A state and operands that meet the hypotheses of clause 7 of RailFlipRowsComplete. -/
theorem wit_RailFlipRowsComplete_7 : ∃ (s : State) (g : Nat),
    s.railTop.flippedAt = some g ∧ railDrain s = 0 :=
  ⟨{ railTop := { flipPending := true, flipSheaf := 2, flipEpoch := true, flippedAt := some 0 } }, 0, by decide +kernel, by decide +kernel⟩

/-- A state and operands that meet the hypotheses of clause 8 of RailFlipRowsComplete. -/
theorem wit_RailFlipRowsComplete_8 : ∃ (s : State) (g : Nat),
    s.railTop.flippedAt = some g ∧ g + 2 ^ 20 ≤ s.now ∧ s.railTop.timedOut = false ∧ railDrain s ≠ 0 :=
  ⟨{ time := { now := 2000000 }, railTop := { flippedAt := some 0, epoch := true }, fab := { engs := [(0, { out := [{}] })] } }, 0, by decide +kernel, by decide +kernel, by decide +kernel, by decide +kernel⟩

/-- A state and operands that meet the hypotheses of clause 1 of CombinedWordRowsComplete. -/
theorem wit_CombinedWordRowsComplete_1 : ∃ (rail : Fin 26) (word : BitVec 256) (s u v : State),
    GoodResult rail.val 0x21 (ctl word 24 52) word s ∧ u = forget 0x21 (ctl word 24 52) (withoutWord rail.val word s) ∧ v = { u with pwr := { u.pwr with results := tabPut u.pwr.results (ctl word 24 52) (ctl word 76 8) } } :=
  ⟨0, ctlWord (0x21 + 256 * 2 ^ 24 + 9 * 2 ^ 76 + 2 ^ 84), { rails := [(0, { state := 5, rxWords := [ctlWord (0x21 + 256 * 2 ^ 24 + 9 * 2 ^ 76 + 2 ^ 84)] })], railTop := { outstanding := [{ kind := 0x21, key := 256 }] }, cut := { state := .running, ranks := 2 } }, _, _, by unfold GoodResult GoodWord; decide +kernel, rfl, rfl⟩

/-- A state and operands that meet the hypotheses of clause 2 of CombinedWordRowsComplete. -/
theorem wit_CombinedWordRowsComplete_2 : ∃ (rail : Fin 26) (word : BitVec 256) (s u : State),
    GoodResult rail.val 0x22 (ctl word 24 52) word s ∧ u = forget 0x22 (ctl word 24 52) (withoutWord rail.val word s) :=
  ⟨0, ctlWord (0x22 + 256 * 2 ^ 24 + 4 * 2 ^ 76 + 9 * 2 ^ 128 + 2 ^ 180), { rails := [(0, { state := 5, rxWords := [ctlWord (0x22 + 256 * 2 ^ 24 + 4 * 2 ^ 76 + 9 * 2 ^ 128 + 2 ^ 180)] })], railTop := { outstanding := [{ kind := 0x22, key := 256 }] } }, _, by unfold GoodResult GoodWord; decide +kernel, rfl⟩

/-- A state and operands that meet the hypotheses of clause 3 of CombinedWordRowsComplete. -/
theorem wit_CombinedWordRowsComplete_3 : ∃ (rail : Fin 26) (word : BitVec 256) (s u : State),
    GoodResult rail.val 0x20 (ctl word 24 16) word s ∧ u = forget 0x20 (ctl word 24 16) (withoutWord rail.val word s) :=
  ⟨0, ctlWord (0x20 + 3 * 2 ^ 24 + 2 ^ 40), { rails := [(0, { state := 5, rxWords := [ctlWord (0x20 + 3 * 2 ^ 24 + 2 ^ 40)] })], railTop := { outstanding := [{ kind := 0x20, key := 3 }] } }, _, by unfold GoodResult GoodWord; decide +kernel, rfl⟩

/-- A state and operands that meet the hypotheses of clause 4 of CombinedWordRowsComplete. -/
theorem wit_CombinedWordRowsComplete_4 : ∃ (rail : Fin 26) (word : BitVec 256) (s : State),
    GoodWord rail.val (ctlKind word) word s ∧ 0x20 ≤ ctlKind word ∧ ctlKind word ≤ 0x23 ∧ combinedOk s word = false :=
  ⟨0, ctlWord (0x20 + 3 * 2 ^ 24), { rails := [(0, { state := 5, rxWords := [ctlWord (0x20 + 3 * 2 ^ 24)] })] }, by unfold GoodWord; decide +kernel, by decide +kernel, by decide +kernel, by decide +kernel⟩

/-- A state and operands that meet the hypotheses of clause 5 of CombinedWordRowsComplete. -/
theorem wit_CombinedWordRowsComplete_5 : ∃ (s : State) (g f : Nat),
    s.time.strobed = some g ∧ s.pwr.tallied.find? (fun f => decide (f + 4 ≤ g / 4096)) = some f :=
  ⟨{ time := { strobed := some 81920 }, pwr := { tallied := [3] } }, 81920, 3, by decide +kernel, by decide +kernel⟩

/-- A state and operands that meet the hypotheses of clause 1 of RingRowsComplete. -/
theorem wit_RingRowsComplete_1 : ∃ (ring : RingId) (tbank : BitVec 16) (hi lo : BitVec 8) (s u : State) (x : Ring),
    u = readBank ring.place tbank.toInt s ∧ x = u.ring (ringKey ring) :=
  ⟨{ place := .fibre 0 true, wave := 3 }, 0, 0, 0, {}, _, _, rfl, rfl⟩

/-- A state and operands that meet the hypotheses of clause 2 of RingRowsComplete. -/
theorem wit_RingRowsComplete_2 : ∃ (ring : RingId) (s : State),
    (s.ring (ringKey ring)).locked = false ∧ (s.ring (ringKey ring)).failed = false ∧ (s.ring (ringKey ring)).slipped = none ∧ (s.ring (ringKey ring)).quiet = 16 :=
  ⟨{ place := .fibre 0 true, wave := 3 }, { opt := { rings := [(ringKey ({ place := .fibre 0 true, wave := 3 }), { quiet := 16 })] } }, by decide +kernel, by decide +kernel, by decide +kernel, by decide +kernel⟩

/-- A state and operands that meet the hypotheses of clause 3 of RingRowsComplete. -/
theorem wit_RingRowsComplete_3 : ∃ (ring : RingId) (s : State),
    (s.ring (ringKey ring)).locked = true ∧ (s.ring (ringKey ring)).weak = 4 :=
  ⟨{ place := .fibre 0 true, wave := 3 }, { opt := { rings := [(ringKey ({ place := .fibre 0 true, wave := 3 }), { locked := true, weak := 4 })] } }, by decide +kernel, by decide +kernel⟩

/-- A state and operands that meet the hypotheses of clause 4 of RingRowsComplete. -/
theorem wit_RingRowsComplete_4 : ∃ (ring : RingId) (trim : BitVec 16) (power : BitVec 8) (s : State),
    (s.ring (ringKey ring)).locked = false ∧ (s.ring (ringKey ring)).failed = false ∧ (s.ring (ringKey ring)).slipped = none ∧ 2 * (trim.toInt.natAbs : Int) ≤ (s.ring (ringKey ring)).spacing :=
  ⟨{ place := .fibre 0 true, wave := 3 }, 0, 9, {}, by decide +kernel, by decide +kernel, by decide +kernel, by decide +kernel⟩

/-- A state and operands that meet the hypotheses of clause 5 of RingRowsComplete. -/
theorem wit_RingRowsComplete_5 : ∃ (ring : RingId) (s u : State) (g : Nat),
    (s.ring (ringKey ring)).slipped = some g ∧ (s.ring (ringKey ring)).failed = false ∧ railFibre ring.place = none ∧ u = s.modRing (ringKey ring) (fun x => { x with trim := x.trim - (s.ring (ringKey ring)).lines * (s.ring (ringKey ring)).spacing, slipped := none, locked := true, quiet := 16, weak := 0 }) :=
  ⟨{ place := .port 0 0 true, wave := 3 }, { opt := { rings := [(ringKey { place := .port 0 0 true, wave := 3 }, { slipped := some 0 })] } }, _, 0, by decide +kernel, by decide +kernel, by decide +kernel, rfl⟩

/-- A state and operands that meet the hypotheses of clause 6 of RingRowsComplete. -/
theorem wit_RingRowsComplete_6 : ∃ (ring : RingId) (s u : State) (g q d : Nat),
    (s.ring (ringKey ring)).slipped = some g ∧ (s.ring (ringKey ring)).failed = false ∧ railFibre ring.place = some (q, d) ∧ (s.fibre (2 * q + d)).recovering = some ring.wave.val ∧ u = s.modRing (ringKey ring) (fun x => { x with trim := x.trim - (s.ring (ringKey ring)).lines * (s.ring (ringKey ring)).spacing, slipped := none, locked := true, quiet := 16, weak := 0 }) :=
  ⟨{ place := .fibre 0 true, wave := 3 }, { opt := { rings := [(ringKey { place := .fibre 0 true, wave := 3 }, { slipped := some 0 })], fibres := [(1, { recovering := some 3 })] } }, _, 0, 0, 1, by decide +kernel, by decide +kernel, by decide +kernel, by decide +kernel, rfl⟩

/-- A state and operands that meet the hypotheses of clause 7 of RingRowsComplete. -/
theorem wit_RingRowsComplete_7 : ∃ (ring : RingId) (s : State) (g : Nat),
    (s.ring (ringKey ring)).slipped = some g ∧ (s.ring (ringKey ring)).failed = false ∧ g + 200000 ≤ s.now ∧ railFibre ring.place = none :=
  ⟨{ place := .port 0 0 true, wave := 3 }, { time := { now := 300000 }, opt := { rings := [(ringKey { place := .port 0 0 true, wave := 3 }, { slipped := some 0 })] } }, 0, by decide +kernel, by decide +kernel, by decide +kernel, by decide +kernel⟩

/-- A state and operands that meet the hypotheses of clause 8 of RingRowsComplete. -/
theorem wit_RingRowsComplete_8 : ∃ (ring : RingId) (s : State) (g q d : Nat),
    (s.ring (ringKey ring)).slipped = some g ∧ (s.ring (ringKey ring)).failed = false ∧ g + 200000 ≤ s.now ∧ railFibre ring.place = some (q, d) ∧ (s.fibre (2 * q + d)).recovering = some ring.wave.val :=
  ⟨{ place := .fibre 0 true, wave := 3 }, { time := { now := 300000 }, opt := { rings := [(ringKey { place := .fibre 0 true, wave := 3 }, { slipped := some 0 })], fibres := [(1, { recovering := some 3 })] } }, 0, 0, 1, by decide +kernel, by decide +kernel, by decide +kernel, by decide +kernel, by decide +kernel⟩

/-- A state and operands that meet the hypotheses of clause 9 of RingRowsComplete. -/
theorem wit_RingRowsComplete_9 : ∃ (comb : Fin 8) (s : State),
    ((s.comb comb.val).state = 1 ∨ (s.comb comb.val).state = 2) :=
  ⟨0, { opt := { combs := [(0, { state := 1 })] } }, by decide +kernel⟩

/-- A state and operands that meet the hypotheses of clause 1 of FibreRowsComplete. -/
theorem wit_FibreRowsComplete_1 : ∃ (rail : Fin 26) (s : State),
    2 ≤ (s.rail rail.val).state ∧ (s.rail rail.val).state ≤ 6 :=
  ⟨0, { rails := [(0, { state := 5 })] }, by decide +kernel, by decide +kernel⟩

/-- A state and operands that meet the hypotheses of clause 2 of FibreRowsComplete. -/
theorem wit_FibreRowsComplete_2 : ∃ (rail : Fin 26) (word : BitVec 256) (s u : State) (a : State × List Nat),
    GoodWord rail.val 0x03 word s ∧ u = withoutWord rail.val word s ∧ ((s.rail rail.val).state = 5 ∨ (s.rail rail.val).state = 6) ∧ a = (List.range 34).foldl (identReport rail.val word) (u, []) :=
  ⟨0, ctlWord (0x03 + 0), { rails := [(0, { state := 5, rxWords := [ctlWord (0x03 + 0)] })] }, _, _, by unfold GoodWord; decide +kernel, rfl, by decide +kernel, rfl⟩

/-- A state and operands that meet the hypotheses of clause 3 of FibreRowsComplete. -/
theorem wit_FibreRowsComplete_3 : ∃ (rail : Fin 26) (uncorrectable errors : BitVec 32) (cal : RingCal) (combs : BitVec 16) (s u : State) (w : Nat),
    (s.fibre (2 * rail.val + 1)).spare = some w ∧ ((s.rail rail.val).state = 5 ∨ (s.rail rail.val).state = 6) ∧ (s.fibre (2 * rail.val + 1)).rotating = true ∧ (s.fibre (2 * rail.val + 1)).moving = none ∧ (s.fibre (2 * rail.val + 1)).recovering = none ∧ u = measureCombs (railEdge rail.val) combs (s.modRing (ringKey (railRing rail.val 1 w)) (measureRing cal)) ∧ uncorrectable = 0 ∧ errors.toNat ≤ 356 :=
  ⟨0, 0, 0, { hcal := 0, tcal := 0, spacing := 8348, rho := 50, poff := 0 }, 0, { rails := [(0, { state := 5 })], opt := { fibres := [(1, { spare := some 33, rotating := true })] } }, _, 33, by decide +kernel, by decide +kernel, by decide +kernel, by decide +kernel, by decide +kernel, rfl, by decide +kernel, by decide +kernel⟩

/-- A state and operands that meet the hypotheses of clause 4 of FibreRowsComplete. -/
theorem wit_FibreRowsComplete_4 : ∃ (rail : Fin 26) (uncorrectable errors : BitVec 32) (cal : RingCal) (combs : BitVec 16) (s u : State) (w : Nat),
    (s.fibre (2 * rail.val + 1)).spare = some w ∧ ((s.rail rail.val).state = 5 ∨ (s.rail rail.val).state = 6) ∧ (s.fibre (2 * rail.val + 1)).rotating = true ∧ (s.fibre (2 * rail.val + 1)).moving = none ∧ (s.fibre (2 * rail.val + 1)).recovering = none ∧ u = measureCombs (railEdge rail.val) combs (s.modRing (ringKey (railRing rail.val 1 w)) (measureRing cal)) ∧ (uncorrectable ≠ 0 ∨ 356 < errors.toNat) :=
  ⟨0, 1, 0, { hcal := 0, tcal := 0, spacing := 8348, rho := 50, poff := 0 }, 0, { rails := [(0, { state := 5 })], opt := { fibres := [(1, { spare := some 33, rotating := true })] } }, _, 33, by decide +kernel, by decide +kernel, by decide +kernel, by decide +kernel, by decide +kernel, rfl, by decide +kernel⟩

/-- A state and operands that meet the hypotheses of clause 5 of FibreRowsComplete. -/
theorem wit_FibreRowsComplete_5 : ∃ (rail : Fin 26) (uncorrectable errors : BitVec 32) (cal : RingCal) (combs : BitVec 16) (s u : State) (w : Nat),
    (s.fibre (2 * rail.val)).spare = some w ∧ ((s.rail rail.val).state = 5 ∨ (s.rail rail.val).state = 6) ∧ (s.fibre (2 * rail.val)).rotating = true ∧ (s.fibre (2 * rail.val)).moving = none ∧ (s.fibre (2 * rail.val)).recovering = none ∧ u = measureCombs (railEdge rail.val) combs (s.modRing (ringKey (railRing rail.val 0 w)) (measureRing cal)) :=
  ⟨0, 0, 0, { hcal := 0, tcal := 0, spacing := 8348, rho := 50, poff := 0 }, 0, { rails := [(0, { state := 5 })], opt := { fibres := [(0, { spare := some 33, rotating := true })] } }, _, 33, by decide +kernel, by decide +kernel, by decide +kernel, by decide +kernel, by decide +kernel, rfl⟩

/-- A state and operands that meet the hypotheses of clause 1 of RemoteEngineRowsComplete. -/
theorem wit_RemoteEngineRowsComplete_1 : ∃ (eng : Fin 64) (s u : State) (q : Option (Nat × Nat)),
    (s.fabEng eng.val).armed = true ∧ (s.fabEng eng.val).batch = none ∧ u = s.modFab eng.val (fun x => { x with armed := false }) ∧ headerPost u (batchHeader u eng.val) = some q ∧ 1 ≤ bits (batchHeader u eng.val) 0 16 ∧ bits (batchHeader u eng.val) 0 16 ≤ 2046 ∧ bits (batchHeader u eng.val) 39 473 = 0 ∧ layoutOk u eng.val (bits (batchHeader u eng.val) 0 16) = true :=
  ⟨0, batchState, _, none, by decide +kernel, by decide +kernel, rfl, by decide +kernel, by decide +kernel, by decide +kernel, by decide +kernel, by decide +kernel⟩

/-- A state and operands that meet the hypotheses of clause 2 of RemoteEngineRowsComplete. -/
theorem wit_RemoteEngineRowsComplete_2 : ∃ (eng : Fin 64) (s u : State) (h : Nat),
    (s.fabEng eng.val).armed = true ∧ (s.fabEng eng.val).batch = none ∧ u = s.modFab eng.val (fun x => { x with armed := false }) ∧ h = batchHeader u eng.val ∧ (headerPost u h = none ∨ ¬ (1 ≤ bits h 0 16 ∧ bits h 0 16 ≤ 2046 ∧ bits h 39 473 = 0 ∧ layoutOk u eng.val (bits h 0 16) = true)) :=
  ⟨0, { fab := { engs := [(0, { armed := true })] } }, _, _, by decide +kernel, by decide +kernel, rfl, rfl, Or.inr (by decide +kernel)⟩

/-- A state and operands that meet the hypotheses of clause 3 of RemoteEngineRowsComplete. -/
theorem wit_RemoteEngineRowsComplete_3 : ∃ (eng : Fin 64) (s : State) (b : Batch),
    (s.fabEng eng.val).batch = some b ∧ b.next < b.count ∧ b.fence = none ∧ recordOk (batchRecord s eng.val b.next) (s.fabEng eng.val).spelt = false :=
  ⟨0, { fab := { engs := [(0, { batch := some { count := 1 } })] } }, { count := 1 }, by decide +kernel, by decide +kernel, by decide +kernel, by decide +kernel⟩

/-- A state and operands that meet the hypotheses of clause 4 of RemoteEngineRowsComplete. -/
theorem wit_RemoteEngineRowsComplete_4 : ∃ (eng : Fin 64) (s : State) (b : Batch),
    (s.fabEng eng.val).batch = some b ∧ b.next < b.count ∧ b.fence = none ∧ recordOk (batchRecord s eng.val b.next) (s.fabEng eng.val).spelt = true ∧ recOp (batchRecord s eng.val b.next) = 0x30 :=
  ⟨0, fenceState, { count := 1 }, by decide +kernel, by decide +kernel, by decide +kernel, by decide +kernel, by decide +kernel⟩

/-- A state and operands that meet the hypotheses of clause 5 of RemoteEngineRowsComplete. -/
theorem wit_RemoteEngineRowsComplete_5 : ∃ (eng : Fin 64) (s : State) (b : Batch) (r : Nat),
    (s.fabEng eng.val).batch = some b ∧ b.next < b.count ∧ b.fence = none ∧ r = batchRecord s eng.val b.next ∧ recordOk r (s.fabEng eng.val).spelt = true ∧ recOp r ≠ 0x30 ∧ s.railBlocked (fabSite eng.val) = true :=
  ⟨0, { issueState with rst := { blocks := [{ kind := 4, index := fabSite 0 }] } }, { count := 1 }, _, by decide +kernel, by decide +kernel, by decide +kernel, rfl, by decide +kernel, by decide +kernel, by decide +kernel⟩

/-- A state and operands that meet the hypotheses of clause 6 of RemoteEngineRowsComplete. -/
theorem wit_RemoteEngineRowsComplete_6 : ∃ (eng : Fin 64) (s : State) (b : Batch) (r m : Nat) (w : Way),
    (s.fabEng eng.val).batch = some b ∧ b.next < b.count ∧ b.fence = none ∧ r = batchRecord s eng.val b.next ∧ recordOk r (s.fabEng eng.val).spelt = true ∧ recOp r ≠ 0x30 ∧ s.railBlocked (fabSite eng.val) = false ∧ m = recAddr r / 2 ^ 52 ∧ w = (if m = s.fab.module then Way.rail 26 else chooseRail s s.railTop.epoch m (m + eng.val) none) ∧ mayIssue s (s.fabEng eng.val) m = true ∧ w ≠ .wait ∧ (recSflag r = false ∨ storesOut (s.fabEng eng.val) = false) :=
  ⟨0, issueState, { count := 1 }, _, _, _, by decide +kernel, by decide +kernel, by decide +kernel, rfl, by decide +kernel, by decide +kernel, by decide +kernel, rfl, rfl, by decide +kernel, by decide +kernel, by decide +kernel⟩

/-- A state and operands that meet the hypotheses of clause 7 of RemoteEngineRowsComplete. -/
theorem wit_RemoteEngineRowsComplete_7 : ∃ (eng : Fin 64) (s : State) (b : Batch) (l : List (Nat × Nat)),
    (s.fabEng eng.val).batch = some b ∧ b.fence = some l ∧ l.all (fun d => decide (seqOver d.2 ((s.fabEng eng.val).dest d.1).done < 2 ^ 23)) = true :=
  ⟨0, { fab := { engs := [(0, { batch := some { count := 1, next := 1, fence := some [] } })] } }, { count := 1, next := 1, fence := some [] }, [], by decide +kernel, by decide +kernel, by decide +kernel⟩

/-- A state and operands that meet the hypotheses of clause 8 of RemoteEngineRowsComplete. -/
theorem wit_RemoteEngineRowsComplete_8 : ∃ (rail : Fin 27) (s u : State) (p : Packet),
    takeArrived rail.val (fun p => p.cls == 2) s = some (p, u) ∧ (64 ≤ p.flow ∨ responseOk p = false ∨ (u.fabEng p.flow).outOf p.src p.seq = none) :=
  ⟨26, { railTop := { arrived := [(26, { slots := [2] })] } }, _, { slots := [2] }, some_pair _ _ {} (by decide +kernel), Or.inr (Or.inr (by decide +kernel))⟩

/-- A state and operands that meet the hypotheses of clause 9 of RemoteEngineRowsComplete. -/
theorem wit_RemoteEngineRowsComplete_9 : ∃ (rail : Fin 27) (s u v : State) (p : Packet) (o : Outreq) (marked busy : Bool),
    takeArrived rail.val (fun p => p.cls == 2) s = some (p, u) ∧ p.flow < 64 ∧ responseOk p = true ∧ (u.fabEng p.flow).outOf p.src p.seq = some o ∧ marked = (p.cmark || bit p.head 70) ∧ busy = (p.fld 104 16 == 0x0461) ∧ v = (u.modDest p.flow p.src (windowAfter u.now marked)).modFab p.flow (fun x => { x with out := x.out.map (fun y => if y.dest = p.src ∧ y.seq = p.seq then { o with marked := o.marked || marked, resent := o.resent || p.late, busy := o.busy || busy, busyAt := if busy then some u.now else o.busyAt, unsent := o.unsent && !busy } else y) }) :=
  ⟨26, { railTop := { arrived := [(26, { slots := [2] })] }, fab := { engs := [(0, { out := [{}] })] } }, _, _, { slots := [2] }, {}, _, _, some_pair _ _ {} (by decide +kernel), by decide +kernel, by decide +kernel, by decide +kernel, rfl, rfl, rfl⟩

/-- A state and operands that meet the hypotheses of clause 11 of RemoteEngineRowsComplete. -/
theorem wit_RemoteEngineRowsComplete_11 : ∃ (eng : Fin 64) (dest : Fin 4096) (seq : BitVec 24) (s : State) (o : Outreq),
    (s.fabEng eng.val).outOf dest.val seq.toNat = some o ∧ o.first + 2 ^ 22 ≤ s.now :=
  ⟨0, 0, 0, { time := { now := 5000000 }, fab := { engs := [(0, { out := [{}] })] } }, {}, by decide +kernel, by decide +kernel⟩

/-- A state and operands that meet the hypotheses of clause 1 of LineArbiterRowsComplete. -/
theorem wit_LineArbiterRowsComplete_1 : ∃ (stack : Fin 32) (entry : Fin 4096) (noise : List HbmUpset) (s : State) (r : LineReq),
    (tabGet s.fab.ports stack.val {}).queue[entry.val]? = some r ∧ [0x01].contains (r.pkt.fld 64 6) = true ∧ ((tabGet s.fab.ports stack.val {}).queue.take entry.val).all (fun x => !shareLine x.pkt r.pkt) = true :=
  ⟨0, 0, [], { fab := { ports := [(0, { queue := [{ pkt := { slots := [BitVec.ofNat 512 (0x1 * 2 ^ 64)] } }] })] } }, { pkt := { slots := [BitVec.ofNat 512 (0x1 * 2 ^ 64)] } }, by decide +kernel, by decide +kernel, by decide +kernel⟩

/-- A state and operands that meet the hypotheses of clause 2 of LineArbiterRowsComplete. -/
theorem wit_LineArbiterRowsComplete_2 : ∃ (stack : Fin 32) (entry : Fin 4096) (noise : List HbmUpset) (s : State) (r : LineReq),
    (tabGet s.fab.ports stack.val {}).queue[entry.val]? = some r ∧ [0x02].contains (r.pkt.fld 64 6) = true ∧ ((tabGet s.fab.ports stack.val {}).queue.take entry.val).all (fun x => !shareLine x.pkt r.pkt) = true :=
  ⟨0, 0, [], { fab := { ports := [(0, { queue := [{ pkt := { slots := [BitVec.ofNat 512 (0x2 * 2 ^ 64)] } }] })] } }, { pkt := { slots := [BitVec.ofNat 512 (0x2 * 2 ^ 64)] } }, by decide +kernel, by decide +kernel, by decide +kernel⟩

/-- A state and operands that meet the hypotheses of clause 3 of LineArbiterRowsComplete. -/
theorem wit_LineArbiterRowsComplete_3 : ∃ (stack : Fin 32) (entry : Fin 4096) (noise : List HbmUpset) (s : State) (r : LineReq),
    (tabGet s.fab.ports stack.val {}).queue[entry.val]? = some r ∧ [0x10, 0x11].contains (r.pkt.fld 64 6) = true ∧ ((tabGet s.fab.ports stack.val {}).queue.take entry.val).all (fun x => !shareLine x.pkt r.pkt) = true :=
  ⟨0, 0, [], { fab := { ports := [(0, { queue := [{ pkt := { slots := [BitVec.ofNat 512 (0x10 * 2 ^ 64)] } }] })] } }, { pkt := { slots := [BitVec.ofNat 512 (0x10 * 2 ^ 64)] } }, by decide +kernel, by decide +kernel, by decide +kernel⟩

/-- A state and operands that meet the hypotheses of clause 4 of LineArbiterRowsComplete. -/
theorem wit_LineArbiterRowsComplete_4 : ∃ (stack : Fin 32) (entry : Fin 4096) (noise : List HbmUpset) (s : State) (r : LineReq),
    (tabGet s.fab.ports stack.val {}).queue[entry.val]? = some r ∧ [0x12, 0x13].contains (r.pkt.fld 64 6) = true ∧ ((tabGet s.fab.ports stack.val {}).queue.take entry.val).all (fun x => !shareLine x.pkt r.pkt) = true :=
  ⟨0, 0, [], { fab := { ports := [(0, { queue := [{ pkt := { slots := [BitVec.ofNat 512 (0x12 * 2 ^ 64)] } }] })] } }, { pkt := { slots := [BitVec.ofNat 512 (0x12 * 2 ^ 64)] } }, by decide +kernel, by decide +kernel, by decide +kernel⟩

/-- A state and operands that meet the hypotheses of clause 5 of LineArbiterRowsComplete. -/
theorem wit_LineArbiterRowsComplete_5 : ∃ (stack : Fin 32) (entry : Fin 4096) (noise : List HbmUpset) (s : State) (r : LineReq),
    (tabGet s.fab.ports stack.val {}).queue[entry.val]? = some r ∧ [0x14, 0x15].contains (r.pkt.fld 64 6) = true ∧ ((tabGet s.fab.ports stack.val {}).queue.take entry.val).all (fun x => !shareLine x.pkt r.pkt) = true :=
  ⟨0, 0, [], { fab := { ports := [(0, { queue := [{ pkt := { slots := [BitVec.ofNat 512 (0x14 * 2 ^ 64)] } }] })] } }, { pkt := { slots := [BitVec.ofNat 512 (0x14 * 2 ^ 64)] } }, by decide +kernel, by decide +kernel, by decide +kernel⟩

/-- A state and operands that meet the hypotheses of clause 6 of LineArbiterRowsComplete. -/
theorem wit_LineArbiterRowsComplete_6 : ∃ (stack : Fin 32) (entry : Fin 4096) (noise : List HbmUpset) (s : State) (r : LineReq),
    (tabGet s.fab.ports stack.val {}).queue[entry.val]? = some r ∧ [0x16, 0x17].contains (r.pkt.fld 64 6) = true ∧ ((tabGet s.fab.ports stack.val {}).queue.take entry.val).all (fun x => !shareLine x.pkt r.pkt) = true :=
  ⟨0, 0, [], { fab := { ports := [(0, { queue := [{ pkt := { slots := [BitVec.ofNat 512 (0x16 * 2 ^ 64)] } }] })] } }, { pkt := { slots := [BitVec.ofNat 512 (0x16 * 2 ^ 64)] } }, by decide +kernel, by decide +kernel, by decide +kernel⟩

/-- A state and operands that meet the hypotheses of clause 7 of LineArbiterRowsComplete. -/
theorem wit_LineArbiterRowsComplete_7 : ∃ (stack : Fin 32) (entry : Fin 4096) (noise : List HbmUpset) (s : State) (r : LineReq),
    (tabGet s.fab.ports stack.val {}).queue[entry.val]? = some r ∧ [0x18, 0x19].contains (r.pkt.fld 64 6) = true ∧ ((tabGet s.fab.ports stack.val {}).queue.take entry.val).all (fun x => !shareLine x.pkt r.pkt) = true :=
  ⟨0, 0, [], { fab := { ports := [(0, { queue := [{ pkt := { slots := [BitVec.ofNat 512 (0x18 * 2 ^ 64)] } }] })] } }, { pkt := { slots := [BitVec.ofNat 512 (0x18 * 2 ^ 64)] } }, by decide +kernel, by decide +kernel, by decide +kernel⟩

/-- A state and operands that meet the hypotheses of clause 8 of LineArbiterRowsComplete. -/
theorem wit_LineArbiterRowsComplete_8 : ∃ (stack : Fin 32) (entry : Fin 4096) (noise : List HbmUpset) (s : State) (r : LineReq),
    (tabGet s.fab.ports stack.val {}).queue[entry.val]? = some r ∧ [0x1A, 0x1B].contains (r.pkt.fld 64 6) = true ∧ ((tabGet s.fab.ports stack.val {}).queue.take entry.val).all (fun x => !shareLine x.pkt r.pkt) = true :=
  ⟨0, 0, [], { fab := { ports := [(0, { queue := [{ pkt := { slots := [BitVec.ofNat 512 (0x1A * 2 ^ 64)] } }] })] } }, { pkt := { slots := [BitVec.ofNat 512 (0x1A * 2 ^ 64)] } }, by decide +kernel, by decide +kernel, by decide +kernel⟩

/-- A state and operands that meet the hypotheses of clause 9 of LineArbiterRowsComplete. -/
theorem wit_LineArbiterRowsComplete_9 : ∃ (stack : Fin 32) (entry : Fin 4096) (noise : List HbmUpset) (s : State) (r : LineReq),
    (tabGet s.fab.ports stack.val {}).queue[entry.val]? = some r ∧ [0x1C, 0x1D].contains (r.pkt.fld 64 6) = true ∧ ((tabGet s.fab.ports stack.val {}).queue.take entry.val).all (fun x => !shareLine x.pkt r.pkt) = true :=
  ⟨0, 0, [], { fab := { ports := [(0, { queue := [{ pkt := { slots := [BitVec.ofNat 512 (0x1C * 2 ^ 64)] } }] })] } }, { pkt := { slots := [BitVec.ofNat 512 (0x1C * 2 ^ 64)] } }, by decide +kernel, by decide +kernel, by decide +kernel⟩

/-- A state and operands that meet the hypotheses of clause 10 of LineArbiterRowsComplete. -/
theorem wit_LineArbiterRowsComplete_10 : ∃ (stack : Fin 32) (entry : Fin 4096) (noise : List HbmUpset) (s : State) (r : LineReq),
    (tabGet s.fab.ports stack.val {}).queue[entry.val]? = some r ∧ [0x20].contains (r.pkt.fld 64 6) = true ∧ ((tabGet s.fab.ports stack.val {}).queue.take entry.val).all (fun x => !shareLine x.pkt r.pkt) = true :=
  ⟨0, 0, [], { fab := { ports := [(0, { queue := [{ pkt := { slots := [BitVec.ofNat 512 (0x20 * 2 ^ 64)] } }] })] } }, { pkt := { slots := [BitVec.ofNat 512 (0x20 * 2 ^ 64)] } }, by decide +kernel, by decide +kernel, by decide +kernel⟩

/-- A state and operands that meet the hypotheses of clause 11 of LineArbiterRowsComplete. -/
theorem wit_LineArbiterRowsComplete_11 : ∃ (rail : Fin 27) (s u : State) (p : Packet),
    takeArrived rail.val (fun p => p.cls == 1 && firstIn s rail.val p) s = some (p, u) ∧ requestOk u p = false :=
  ⟨26, { railTop := { arrived := [(26, { slots := [1] })] } }, _, { slots := [1] }, some_pair _ _ {} (by decide +kernel), by decide +kernel⟩

/-- A state and operands that meet the hypotheses of clause 12 of LineArbiterRowsComplete. -/
theorem wit_LineArbiterRowsComplete_12 : ∃ (rail : Fin 27) (s u v : State) (p : Packet),
    takeArrived rail.val (fun p => p.cls == 1 && firstIn s rail.val p) s = some (p, u) ∧ requestOk u p = true ∧ ((tabFind u.fab.table (streamKey p.src p.flow)).isSome = true ∨ u.fab.table.length < 65536) ∧ v = { u with fab := { u.fab with table := tabPut u.fab.table (streamKey p.src p.flow) { advanceRec (p.fld 104 24) (tabGet u.fab.table (streamKey p.src p.flow) { done := p.fld 104 24, last := u.now }) with last := u.now } } } :=
  ⟨26, { railTop := { arrived := [(26, { slots := [BitVec.ofNat 512 (1 + 0x10 * 2 ^ 64 + 3 * 2 ^ 72)] })] } }, _, _, { slots := [BitVec.ofNat 512 (1 + 0x10 * 2 ^ 64 + 3 * 2 ^ 72)] }, some_pair _ _ {} (by decide +kernel), by decide +kernel, Or.inr (by decide +kernel), rfl⟩

/-- A state and operands that meet the hypotheses of clause 13 of LineArbiterRowsComplete. -/
theorem wit_LineArbiterRowsComplete_13 : ∃ (rail : Fin 27) (s u : State) (p : Packet),
    takeArrived rail.val (fun p => p.cls == 1 && firstIn s rail.val p) s = some (p, u) ∧ requestOk u p = true ∧ tabFind u.fab.table (streamKey p.src p.flow) = none ∧ 65536 ≤ u.fab.table.length :=
  ⟨26, { railTop := { arrived := [(26, { slots := [BitVec.ofNat 512 (1 + 0x10 * 2 ^ 64 + 3 * 2 ^ 72)] })] }, fab := { table := List.replicate 65536 (1, {}) } }, { fab := { table := List.replicate 65536 (1, {}) } }, { slots := [BitVec.ofNat 512 (1 + 0x10 * 2 ^ 64 + 3 * 2 ^ 72)] }, take_table _ _ (by decide +kernel), by decide +kernel, tabFind_replicate _ _ _ (by decide +kernel), Nat.le_of_eq (List.length_replicate ..).symm⟩

/-- A state and operands that meet the hypotheses of clause 14 of LineArbiterRowsComplete. -/
theorem wit_LineArbiterRowsComplete_14 : ∃ (src : Fin 4096) (flow : BitVec 8) (s : State) (x : StreamRec),
    tabFind s.fab.table (streamKey src.val flow.toNat) = some x ∧ x.queued = [] ∧ x.last + 2 ^ 23 ≤ s.now :=
  ⟨0, 0, { time := { now := 10000000 }, fab := { table := [(0, {})] } }, {}, by decide +kernel, by decide +kernel, by decide +kernel⟩

/-- A state and operands that meet the hypotheses of clause 1 of CollectiveStepRowsComplete. -/
theorem wit_CollectiveStepRowsComplete_1 : ∃ (site : Fin 26) (body : BitVec 80) (delayed : Bool) (s : State) (j : ColJob),
    (s.colEng site.val).job = none ∧ (s.engine (colEngine site.val)).flight.any (fun f => f.unit == 4 && isStep 0x80 body f) = true ∧ s.railBlocked site.val = false ∧ j = { op := 0x80, body := body, uncorr := (readsUnits s 0x80 body).any (fun u => (s.colEng site.val).uncorrArea.contains u), delayed := delayed, issued := ((flightOf (s.engine (colEngine site.val)) 4 (isStep 0x80 body)).map (·.issued)).getD s.now } :=
  ⟨0, 0, false, flying 0x5000 0x80 0, _, by decide +kernel, by decide +kernel, by decide +kernel, rfl⟩

/-- A state and operands that meet the hypotheses of clause 2 of CollectiveStepRowsComplete. -/
theorem wit_CollectiveStepRowsComplete_2 : ∃ (site : Fin 26) (body : BitVec 80) (delayed : Bool) (s : State) (j : ColJob),
    (s.colEng site.val).job = none ∧ (s.engine (colEngine site.val)).flight.any (fun f => f.unit == 4 && isStep 0x80 body f) = true ∧ s.railBlocked site.val = true ∧ j = { op := 0x80, body := body, uncorr := (readsUnits s 0x80 body).any (fun u => (s.colEng site.val).uncorrArea.contains u), delayed := delayed, issued := ((flightOf (s.engine (colEngine site.val)) 4 (isStep 0x80 body)).map (·.issued)).getD s.now } :=
  ⟨0, 0, false, { flying 0x5000 0x80 0 with rst := { blocks := [{ kind := 4, index := 0 }] } }, _, by decide +kernel, by decide +kernel, by decide +kernel, rfl⟩

/-- A state and operands that meet the hypotheses of clause 3 of CollectiveStepRowsComplete. -/
theorem wit_CollectiveStepRowsComplete_3 : ∃ (site : Fin 26) (body : BitVec 80) (delayed : Bool) (s : State) (j : ColJob),
    (s.colEng site.val).job = none ∧ (s.engine (colEngine site.val)).flight.any (fun f => f.unit == 4 && isStep 0x81 body f) = true ∧ s.railBlocked site.val = false ∧ j = { op := 0x81, body := body, uncorr := (readsUnits s 0x81 body).any (fun u => (s.colEng site.val).uncorrArea.contains u), delayed := delayed, issued := ((flightOf (s.engine (colEngine site.val)) 4 (isStep 0x81 body)).map (·.issued)).getD s.now } :=
  ⟨0, 0, false, flying 0x5000 0x81 0, _, by decide +kernel, by decide +kernel, by decide +kernel, rfl⟩

/-- A state and operands that meet the hypotheses of clause 4 of CollectiveStepRowsComplete. -/
theorem wit_CollectiveStepRowsComplete_4 : ∃ (site : Fin 26) (body : BitVec 80) (delayed : Bool) (s : State) (j : ColJob),
    (s.colEng site.val).job = none ∧ (s.engine (colEngine site.val)).flight.any (fun f => f.unit == 4 && isStep 0x81 body f) = true ∧ s.railBlocked site.val = true ∧ j = { op := 0x81, body := body, uncorr := (readsUnits s 0x81 body).any (fun u => (s.colEng site.val).uncorrArea.contains u), delayed := delayed, issued := ((flightOf (s.engine (colEngine site.val)) 4 (isStep 0x81 body)).map (·.issued)).getD s.now } :=
  ⟨0, 0, false, { flying 0x5000 0x81 0 with rst := { blocks := [{ kind := 4, index := 0 }] } }, _, by decide +kernel, by decide +kernel, by decide +kernel, rfl⟩

/-- A state and operands that meet the hypotheses of clause 5 of CollectiveStepRowsComplete. -/
theorem wit_CollectiveStepRowsComplete_5 : ∃ (site : Fin 26) (body : BitVec 80) (delayed : Bool) (s : State) (j : ColJob),
    (s.colEng site.val).job = none ∧ (s.engine (colEngine site.val)).flight.any (fun f => f.unit == 4 && isStep 0x82 body f) = true ∧ s.railBlocked site.val = false ∧ j = { op := 0x82, body := body, uncorr := (readsUnits s 0x82 body).any (fun u => (s.colEng site.val).uncorrArea.contains u), delayed := delayed, issued := ((flightOf (s.engine (colEngine site.val)) 4 (isStep 0x82 body)).map (·.issued)).getD s.now } :=
  ⟨0, 0, false, flying 0x5000 0x82 0, _, by decide +kernel, by decide +kernel, by decide +kernel, rfl⟩

/-- A state and operands that meet the hypotheses of clause 6 of CollectiveStepRowsComplete. -/
theorem wit_CollectiveStepRowsComplete_6 : ∃ (site : Fin 26) (body : BitVec 80) (delayed : Bool) (s : State) (j : ColJob),
    (s.colEng site.val).job = none ∧ (s.engine (colEngine site.val)).flight.any (fun f => f.unit == 4 && isStep 0x82 body f) = true ∧ s.railBlocked site.val = true ∧ j = { op := 0x82, body := body, uncorr := (readsUnits s 0x82 body).any (fun u => (s.colEng site.val).uncorrArea.contains u), delayed := delayed, issued := ((flightOf (s.engine (colEngine site.val)) 4 (isStep 0x82 body)).map (·.issued)).getD s.now } :=
  ⟨0, 0, false, { flying 0x5000 0x82 0 with rst := { blocks := [{ kind := 4, index := 0 }] } }, _, by decide +kernel, by decide +kernel, by decide +kernel, rfl⟩

/-- A state and operands that meet the hypotheses of clause 7 of CollectiveStepRowsComplete. -/
theorem wit_CollectiveStepRowsComplete_7 : ∃ (site : Fin 26) (body : BitVec 80) (delayed : Bool) (s : State) (j : ColJob),
    (s.colEng site.val).job = none ∧ (s.engine (colEngine site.val)).flight.any (fun f => f.unit == 4 && isStep 0x83 body f) = true ∧ s.railBlocked site.val = false ∧ j = { op := 0x83, body := body, uncorr := (readsUnits s 0x83 body).any (fun u => (s.colEng site.val).uncorrArea.contains u), delayed := delayed, issued := ((flightOf (s.engine (colEngine site.val)) 4 (isStep 0x83 body)).map (·.issued)).getD s.now } :=
  ⟨0, 0, false, flying 0x5000 0x83 0, _, by decide +kernel, by decide +kernel, by decide +kernel, rfl⟩

/-- A state and operands that meet the hypotheses of clause 8 of CollectiveStepRowsComplete. -/
theorem wit_CollectiveStepRowsComplete_8 : ∃ (site : Fin 26) (body : BitVec 80) (delayed : Bool) (s : State) (j : ColJob),
    (s.colEng site.val).job = none ∧ (s.engine (colEngine site.val)).flight.any (fun f => f.unit == 4 && isStep 0x83 body f) = true ∧ s.railBlocked site.val = true ∧ j = { op := 0x83, body := body, uncorr := (readsUnits s 0x83 body).any (fun u => (s.colEng site.val).uncorrArea.contains u), delayed := delayed, issued := ((flightOf (s.engine (colEngine site.val)) 4 (isStep 0x83 body)).map (·.issued)).getD s.now } :=
  ⟨0, 0, false, { flying 0x5000 0x83 0 with rst := { blocks := [{ kind := 4, index := 0 }] } }, _, by decide +kernel, by decide +kernel, by decide +kernel, rfl⟩

/-- A state and operands that meet the hypotheses of clause 9 of CollectiveStepRowsComplete. -/
theorem wit_CollectiveStepRowsComplete_9 : ∃ (site : Fin 26) (body : BitVec 80) (s : State) (f : Flight),
    flightOf (s.engine (colEngine site.val)) 4 (isStep 0x84 body) = some f :=
  ⟨0, 0, flying 0x5000 0x84 0, { unit := 4, step := { word := word 0x84 0 } }, by decide +kernel⟩

/-- A state and operands that meet the hypotheses of clause 10 of CollectiveStepRowsComplete. -/
theorem wit_CollectiveStepRowsComplete_10 : ∃ (site : Fin 26) (s : State) (j : ColJob),
    (s.colEng site.val).job = some j ∧ j.issued + 2 ^ 24 ≤ s.now :=
  ⟨0, { time := { now := 20000000 }, col := { engs := [(0, { job := some {} })] } }, {}, by decide +kernel, by decide +kernel⟩

/-- A state and operands that meet the hypotheses of clause 1 of CollectivePacketRowsComplete. -/
theorem wit_CollectivePacketRowsComplete_1 : ∃ (rail : Fin 26) (s u : State) (p : Packet),
    takeArrived rail.val (fun p => p.cls == 3 && pkKind p != 2) s = some (p, u) ∧ colPacketOk p = true ∧ fromPeer u p = true :=
  ⟨0, { cut := { ranks := 2 }, railTop := { arrived := [(0, { slots := [BitVec.ofNat 512 (3 + 2 ^ 64), 0] })] } }, _, { slots := [BitVec.ofNat 512 (3 + 2 ^ 64), 0] }, some_pair _ _ {} (by decide +kernel), by decide +kernel, by decide +kernel⟩

/-- A state and operands that meet the hypotheses of clause 2 of CollectivePacketRowsComplete. -/
theorem wit_CollectivePacketRowsComplete_2 : ∃ (rail : Fin 26) (s u : State) (p : Packet),
    takeArrived rail.val (fun p => p.cls == 3 && pkKind p != 2) s = some (p, u) ∧ colPacketOk p = true ∧ fromPeer u p = false :=
  ⟨0, { railTop := { arrived := [(0, { slots := [BitVec.ofNat 512 (3 + 2 ^ 64 + 5 * 2 ^ 73), 0] })] } }, _, { slots := [BitVec.ofNat 512 (3 + 2 ^ 64 + 5 * 2 ^ 73), 0] }, some_pair _ _ {} (by decide +kernel), by decide +kernel, by decide +kernel⟩

/-- A state and operands that meet the hypotheses of clause 3 of CollectivePacketRowsComplete. -/
theorem wit_CollectivePacketRowsComplete_3 : ∃ (rail : Fin 26) (s u : State) (p : Packet),
    takeArrived rail.val (fun p => p.cls == 3 && pkKind p != 2) s = some (p, u) ∧ colPacketOk p = false :=
  ⟨0, { railTop := { arrived := [(0, { slots := [3] })] } }, _, { slots := [3] }, some_pair _ _ {} (by decide +kernel), by decide +kernel⟩

/-- A state and operands that meet the hypotheses of clause 4 of CollectivePacketRowsComplete. -/
theorem wit_CollectivePacketRowsComplete_4 : ∃ (rail : Fin 26) (s u : State) (p : Packet),
    takeArrived rail.val (fun p => p.cls == 3 && pkKind p == 2) s = some (p, u) ∧ colPacketOk p = true ∧ fromPeer u p = true :=
  ⟨0, { cut := { ranks := 2 }, railTop := { arrived := [(0, { slots := [BitVec.ofNat 512 (3 + 2 * 2 ^ 64)] })] } }, _, { slots := [BitVec.ofNat 512 (3 + 2 * 2 ^ 64)] }, some_pair _ _ {} (by decide +kernel), by decide +kernel, by decide +kernel⟩

/-- A state and operands that meet the hypotheses of clause 5 of CollectivePacketRowsComplete. -/
theorem wit_CollectivePacketRowsComplete_5 : ∃ (rail : Fin 26) (s u : State) (p : Packet),
    takeArrived rail.val (fun p => p.cls == 3 && pkKind p == 2) s = some (p, u) ∧ colPacketOk p = true ∧ fromPeer u p = false :=
  ⟨0, { railTop := { arrived := [(0, { slots := [BitVec.ofNat 512 (3 + 2 * 2 ^ 64 + 5 * 2 ^ 73)] })] } }, _, { slots := [BitVec.ofNat 512 (3 + 2 * 2 ^ 64 + 5 * 2 ^ 73)] }, some_pair _ _ {} (by decide +kernel), by decide +kernel, by decide +kernel⟩

/-- A state and operands that meet the hypotheses of clause 6 of CollectivePacketRowsComplete. -/
theorem wit_CollectivePacketRowsComplete_6 : ∃ (rail : Fin 26) (s u : State) (p : Packet),
    takeArrived rail.val (fun p => p.cls == 3 && pkKind p == 2) s = some (p, u) ∧ colPacketOk p = false :=
  ⟨0, { railTop := { arrived := [(0, { slots := [BitVec.ofNat 512 (3 + 2 * 2 ^ 64), 0] })] } }, _, { slots := [BitVec.ofNat 512 (3 + 2 * 2 ^ 64), 0] }, some_pair _ _ {} (by decide +kernel), by decide +kernel⟩

/-- A state and operands that meet the hypotheses of clause 7 of CollectivePacketRowsComplete. -/
theorem wit_CollectivePacketRowsComplete_7 : ∃ (site : Fin 26) (srank : Fin 1024) (phase : Fin 2) (share : Fin 1024) (group : Fin 4096) (s : State) (j : ColJob) (g k : Nat),
    (s.colEng site.val).job = some j ∧ k = groupKey srank.val phase.val share.val group.val ∧ tabFind j.groups k = some g ∧ g + 4096 ≤ s.now :=
  ⟨0, 0, 0, 0, 0, { time := { now := 5000 }, col := { engs := [(0, { job := some { groups := [(groupKey 0 0 0 0, 0)] } })] } }, { groups := [(groupKey 0 0 0 0, 0)] }, 0, _, rfl, rfl, by decide +kernel, by decide +kernel⟩

/-- A state and operands that meet the hypotheses of clause 8 of CollectivePacketRowsComplete. -/
theorem wit_CollectivePacketRowsComplete_8 : ∃ (site : Fin 26) (dest : Fin 1024) (phase : Fin 2) (share : Fin 1024) (index : BitVec 18) (s u v : State) (j : ColJob) (c d : ColPkt),
    (s.colEng site.val).job = some j ∧ j.unacked.find? (fun c => c.dest == dest.val && c.phase == phase.val && c.share == share.val && c.index == index.toNat) = some c ∧ (((c.undelivered = true ∨ c.waits = true) ∧ s.atBoundary = true) ∨ (c.undelivered = false ∧ c.waits = false ∧ c.last + 2 ^ 17 ≤ s.now)) ∧ sendData site.val j c s = (d, u) ∧ v = u.modJob site.val (fun j => { j with resent := j.resent || !c.waits || d.undelivered, unacked := j.unacked.map (fun y => if (fun c => c.dest == dest.val && c.phase == phase.val && c.share == share.val && c.index == index.toNat) y then d else y) }) ∧ d.undelivered = false ∧ d.waits = false ∧ c.waits = false :=
  ⟨0, 1, 0, 0, 0, resendState, _, _, { unacked := [{ dest := 1 }], op := 0x80 }, { dest := 1 }, _, by decide +kernel, by decide +kernel, by decide +kernel, rfl, rfl, by decide +kernel, by decide +kernel, by decide +kernel⟩

/-- A state and operands that meet the hypotheses of clause 9 of CollectivePacketRowsComplete. -/
theorem wit_CollectivePacketRowsComplete_9 : ∃ (site : Fin 26) (dest : Fin 1024) (phase : Fin 2) (share : Fin 1024) (index : BitVec 18) (s u v : State) (j : ColJob) (c d : ColPkt),
    (s.colEng site.val).job = some j ∧ j.unacked.find? (fun c => c.dest == dest.val && c.phase == phase.val && c.share == share.val && c.index == index.toNat) = some c ∧ (((c.undelivered = true ∨ c.waits = true) ∧ s.atBoundary = true) ∨ (c.undelivered = false ∧ c.waits = false ∧ c.last + 2 ^ 17 ≤ s.now)) ∧ sendData site.val j c s = (d, u) ∧ v = u.modJob site.val (fun j => { j with resent := j.resent || !c.waits || d.undelivered, unacked := j.unacked.map (fun y => if (fun c => c.dest == dest.val && c.phase == phase.val && c.share == share.val && c.index == index.toNat) y then d else y) }) ∧ (d.undelivered = true ∨ d.waits = true ∨ c.waits = true) :=
  ⟨0, 1, 0, 0, 0, { resendState with rails := [] }, _, _, { unacked := [{ dest := 1 }], op := 0x80 }, { dest := 1 }, _, by decide +kernel, by decide +kernel, by decide +kernel, rfl, rfl, by decide +kernel⟩

/-- A state and operands that meet the hypotheses of clause 10 of CollectivePacketRowsComplete. -/
theorem wit_CollectivePacketRowsComplete_10 : ∃ (rail : Fin 26) (word : BitVec 256) (s u : State),
    GoodWord rail.val 0x10 word s ∧ u = withoutWord rail.val word s ∧ (ctl word 8 12 ≠ u.fab.module ∨ 3 < ctl word 58 3) :=
  ⟨0, ctlWord (0x110), { rails := [(0, { state := 5, rxWords := [ctlWord (0x110)] })] }, _, by unfold GoodWord; decide +kernel, rfl, by decide +kernel⟩

/-- A state and operands that meet the hypotheses of clause 11 of CollectivePacketRowsComplete. -/
theorem wit_CollectivePacketRowsComplete_11 : ∃ (rail : Fin 26) (word : BitVec 256) (s u v : State),
    GoodWord rail.val 0x10 word s ∧ u = withoutWord rail.val word s ∧ ctl word 8 12 = u.fab.module ∧ ctl word 58 3 ≤ 3 ∧ v = { u with col := { u.col with seen := u.col.seen.filter (fun x => decide (u.now < x.2.2.2 + 8192)) } } ∧ v.col.seen.any (fun x => x.1 == ctl word 20 12 && x.2.1 == ctl word 32 16 && x.2.2.1 == ctl word 48 6) = true :=
  ⟨0, ctlWord (0x10 + 0x2000 * 2 ^ 32), { rails := [(0, { state := 5, rxWords := [ctlWord (0x10 + 0x2000 * 2 ^ 32)] })], col := { seen := [(0, 0x2000, 0, 0)] } }, _, _, by unfold GoodWord; decide +kernel, rfl, by decide +kernel, by decide +kernel, rfl, by decide +kernel⟩

/-- A state and operands that meet the hypotheses of clause 12 of CollectivePacketRowsComplete. -/
theorem wit_CollectivePacketRowsComplete_12 : ∃ (rail : Fin 26) (word : BitVec 256) (s u v : State) (e : Nat),
    GoodWord rail.val 0x10 word s ∧ u = withoutWord rail.val word s ∧ ctl word 8 12 = u.fab.module ∧ ctl word 58 3 ≤ 3 ∧ v = { u with col := { u.col with seen := u.col.seen.filter (fun x => decide (u.now < x.2.2.2 + 8192)) } } ∧ v.col.seen.any (fun x => x.1 == ctl word 20 12 && x.2.1 == ctl word 32 16 && x.2.2.1 == ctl word 48 6) = false ∧ physEngine u.cut.logMap (ctl word 32 16) = some e ∧ (u.engine e).present = true ∧ (u.cut.state = .loaded ∨ u.cut.state = .armed ∨ u.cut.state = .running ∨ u.cut.state = .paused) :=
  ⟨0, ctlWord (0x10 + 0x2000 * 2 ^ 32), { rails := [(0, { state := 5, rxWords := [ctlWord (0x10 + 0x2000 * 2 ^ 32)] })], cut := { state := .running }, engines := [(0x2000, { present := true })] }, _, _, 0x2000, by unfold GoodWord; decide +kernel, rfl, by decide +kernel, by decide +kernel, rfl, by decide +kernel, by decide +kernel, by decide +kernel, by decide +kernel⟩

/-- A state and operands that meet the hypotheses of clause 13 of CollectivePacketRowsComplete. -/
theorem wit_CollectivePacketRowsComplete_13 : ∃ (rail : Fin 26) (word : BitVec 256) (s u v : State),
    GoodWord rail.val 0x10 word s ∧ u = withoutWord rail.val word s ∧ ctl word 8 12 = u.fab.module ∧ ctl word 58 3 ≤ 3 ∧ v = { u with col := { u.col with seen := u.col.seen.filter (fun x => decide (u.now < x.2.2.2 + 8192)) } } ∧ v.col.seen.any (fun x => x.1 == ctl word 20 12 && x.2.1 == ctl word 32 16 && x.2.2.1 == ctl word 48 6) = false ∧ (physEngine u.cut.logMap (ctl word 32 16) = none ∨ (∃ e, physEngine u.cut.logMap (ctl word 32 16) = some e ∧ ((u.engine e).present = false ∨ u.cut.state = .empty ∨ u.cut.state = .loading ∨ u.cut.state = .ended ∨ u.cut.state = .halted))) :=
  ⟨0, ctlWord (0x10 + 0x2000 * 2 ^ 32), { rails := [(0, { state := 5, rxWords := [ctlWord (0x10 + 0x2000 * 2 ^ 32)] })] }, _, _, by unfold GoodWord; decide +kernel, rfl, by decide +kernel, by decide +kernel, rfl, by decide +kernel, Or.inr ⟨0x2000, by decide +kernel, by decide +kernel⟩⟩

/-- A state and operands that meet the hypotheses of clause 1 of SessionCommandsComplete. -/
theorem wit_SessionCommandsComplete_1 : ∃ (p : CmdPkt) (s : State),
    p.port < 2 ∧ s.portActive p.port = true ∧ 4096 < (s.chan p.chan).used + p.slots :=
  ⟨pkt 1 [], { yuley := { ports := [(0, { state := 5 })], chans := [(0, { used := 4096 })] } }, by decide +kernel, by decide +kernel, by decide +kernel⟩

/-- A state and operands that meet the hypotheses of clause 2 of SessionCommandsComplete. -/
theorem wit_SessionCommandsComplete_2 : ∃ (p : CmdPkt) (s : State),
    canStart s p = true ∧ layoutOf p.opcode = none ∧ cmdStatus s p = 0x0101 :=
  ⟨pkt 0x7FF [], ready, by decide +kernel, by decide +kernel, by decide +kernel⟩

/-- A state and operands that meet the hypotheses of clause 3 of SessionCommandsComplete. -/
theorem wit_SessionCommandsComplete_3 : ∃ (p : CmdPkt) (s u : State),
    Accepted 0x000 p s ∧ u = finish p.ref 0 helloReply (takePacket p s) :=
  ⟨pkt 0 (toBytes 8 1), ready, _, by unfold Accepted; decide +kernel, rfl⟩

/-- A state and operands that meet the hypotheses of clause 4 of SessionCommandsComplete. -/
theorem wit_SessionCommandsComplete_4 : ∃ (p : CmdPkt) (s : State),
    Accepted 0x001 p s :=
  ⟨pkt 1 (toBytes 8 77), ready, by unfold Accepted; decide +kernel⟩

/-- A state and operands that meet the hypotheses of clause 5 of SessionCommandsComplete. -/
theorem wit_SessionCommandsComplete_5 : ∃ (p : CmdPkt) (s : State) (r : Nat × List (BitVec 8) × State),
    Accepted 0x100 p s ∧ r = readParams (readIds p) (takePacket p s) :=
  ⟨pkt 0x100 (toBytes 4 0x00200000), ready, _, by unfold Accepted; decide +kernel, rfl⟩

/-- A state and operands that meet the hypotheses of clause 6 of SessionCommandsComplete. -/
theorem wit_SessionCommandsComplete_6 : ∃ (p : CmdPkt) (s : State) (id v : Nat),
    Writes id v p s ∧ ownRow id = false :=
  ⟨wpkt 0x00200004 8 500, ready, 0x00200004, 500, by unfold Writes Accepted; decide +kernel, by decide +kernel⟩

/-- A state and operands that meet the hypotheses of clause 7 of SessionCommandsComplete. -/
theorem wit_SessionCommandsComplete_7 : ∃ (p : CmdPkt) (s : State) (v : Nat),
    Writes 0x00200004 v p s ∧ 1 ≤ v ∧ v ≤ 1000 :=
  ⟨wpkt 0x00200004 8 500, ready, 500, by unfold Writes Accepted; decide +kernel, by decide, by decide⟩

/-- A state and operands that meet the hypotheses of clause 8 of SessionCommandsComplete. -/
theorem wit_SessionCommandsComplete_8 : ∃ (p : CmdPkt) (s : State),
    Accepted 0x700 p s :=
  ⟨pkt 0x700 (toBytes 40 0x806), ready, by unfold Accepted; decide +kernel⟩

/-- A state and operands that meet the hypotheses of clause 9 of SessionCommandsComplete. -/
theorem wit_SessionCommandsComplete_9 : ∃ (p : CmdPkt) (s : State),
    Accepted 0x701 p s :=
  ⟨pkt 0x701 (toBytes 8 6), ready, by unfold Accepted; decide +kernel⟩

/-- A state and operands that meet the hypotheses of clause 1 of MemoryCommandsComplete. -/
theorem wit_MemoryCommandsComplete_1 : ∃ (p : CmdPkt) (noise : List HbmUpset) (s u : State) (d : List (BitVec 8)) (x : Xfer) (r : Nat × Nat × State),
    Accepted 0x200 p s ∧ d = p.payload.drop 8 ∧ u = noise.foldl (fun s u => upsetBurst u s) (takePacket p s) ∧ x = openXfer p p.ref false d.length ∧ xferBarred u x = false ∧ r = writeRange (p.arg 0 8) d (portRequester p) u :=
  ⟨pkt 0x200 (toBytes 16 4096), [], memUp, _, _, _, _, by unfold Accepted; decide +kernel, rfl, rfl, rfl, by decide +kernel, rfl⟩

/-- A state and operands that meet the hypotheses of clause 2 of MemoryCommandsComplete. -/
theorem wit_MemoryCommandsComplete_2 : ∃ (p : CmdPkt) (noise : List HbmUpset) (s u : State) (d : List (BitVec 8)) (x : Xfer),
    Accepted 0x200 p s ∧ d = p.payload.drop 8 ∧ u = noise.foldl (fun s u => upsetBurst u s) (takePacket p s) ∧ x = openXfer p p.ref false d.length ∧ xferBarred u x = true :=
  ⟨pkt 0x200 (toBytes 16 4096), [], { memUp with rst := { ready.rst with blocks := [{ kind := 6 }] } }, _, _, _, by unfold Accepted; decide +kernel, rfl, rfl, rfl, by decide +kernel⟩

/-- A state and operands that meet the hypotheses of clause 3 of MemoryCommandsComplete. -/
theorem wit_MemoryCommandsComplete_3 : ∃ (p : CmdPkt) (noise : List HbmUpset) (s u : State) (d : List (BitVec 8)) (x : Xfer) (r : Nat × Nat × State),
    Accepted 0x202 p s ∧ d = (List.range (xferBytes p)).map (fun i => ((p.payload.drop 16).take 8).getD ((p.arg 0 8 + i) % 8) 0) ∧ u = noise.foldl (fun s u => upsetBurst u s) (takePacket p s) ∧ x = openXfer p p.ref false d.length ∧ xferBarred u x = false ∧ r = writeRange (p.arg 0 8) d (portRequester p) u :=
  ⟨pkt 0x202 (toBytes 8 4096 ++ toBytes 16 64), [], memUp, _, _, _, _, by unfold Accepted; decide +kernel, rfl, rfl, rfl, by decide +kernel, rfl⟩

/-- A state and operands that meet the hypotheses of clause 4 of MemoryCommandsComplete. -/
theorem wit_MemoryCommandsComplete_4 : ∃ (p : CmdPkt) (noise : List HbmUpset) (s u : State) (d : List (BitVec 8)) (x : Xfer),
    Accepted 0x202 p s ∧ d = (List.range (xferBytes p)).map (fun i => ((p.payload.drop 16).take 8).getD ((p.arg 0 8 + i) % 8) 0) ∧ u = noise.foldl (fun s u => upsetBurst u s) (takePacket p s) ∧ x = openXfer p p.ref false d.length ∧ xferBarred u x = true :=
  ⟨pkt 0x202 (toBytes 8 4096 ++ toBytes 16 64), [], { memUp with rst := { ready.rst with blocks := [{ kind := 6 }] } }, _, _, _, by unfold Accepted; decide +kernel, rfl, rfl, rfl, by decide +kernel⟩

/-- A state and operands that meet the hypotheses of clause 5 of MemoryCommandsComplete. -/
theorem wit_MemoryCommandsComplete_5 : ∃ (p : CmdPkt) (noise : List HbmUpset) (s u : State) (x : Xfer) (r : List (BitVec 8) × Nat × State),
    Accepted 0x201 p s ∧ u = noise.foldl (fun s u => upsetBurst u s) (takePacket p s) ∧ x = openXfer p p.ref true (xferBytes p) ∧ xferBarred u x = false ∧ r = readRange (p.arg 0 8) (xferBytes p) (portRequester p) u :=
  ⟨pkt 0x201 (toBytes 8 4096 ++ toBytes 8 64), [], memUp, _, _, _, by unfold Accepted; decide +kernel, rfl, rfl, by decide +kernel, rfl⟩

/-- A state and operands that meet the hypotheses of clause 6 of MemoryCommandsComplete. -/
theorem wit_MemoryCommandsComplete_6 : ∃ (p : CmdPkt) (noise : List HbmUpset) (s u : State) (x : Xfer),
    Accepted 0x201 p s ∧ u = noise.foldl (fun s u => upsetBurst u s) (takePacket p s) ∧ x = openXfer p p.ref true (xferBytes p) ∧ xferBarred u x = true :=
  ⟨pkt 0x201 (toBytes 8 4096 ++ toBytes 8 64), [], { memUp with rst := { ready.rst with blocks := [{ kind := 6 }] } }, _, _, by unfold Accepted; decide +kernel, rfl, rfl, by decide +kernel⟩

/-- A state and operands that meet the hypotheses of clause 7 of MemoryCommandsComplete. -/
theorem wit_MemoryCommandsComplete_7 : ∃ (port : Fin 2) (channel : Fin 8) (s : State) (x : Xfer),
    s.hbm.xfers.find? (fun x => x.cmd.port == port.val && x.cmd.channel == channel.val) = some x :=
  ⟨0, 0, { hbm := { xfers := [{}] } }, {}, by decide +kernel⟩

/-- A state and operands that meet the hypotheses of clause 1 of RunCommandsComplete. -/
theorem wit_RunCommandsComplete_1 : ∃ (p : CmdPkt) (s : State),
    Accepted 0x300 p s ∧ (s.cut.state = .empty ∨ s.cut.state = .loaded ∨ s.cut.state = .ended ∨ s.cut.state = .halted) :=
  ⟨pkt 0x300 (toBytes 8 4096), memUp, by unfold Accepted; decide +kernel, by decide +kernel⟩

/-- A state and operands that meet the hypotheses of clause 2 of RunCommandsComplete. -/
theorem wit_RunCommandsComplete_2 : ∃ (p : CmdPkt) (s : State),
    canStart s p = true ∧ p.opcode = 0x300 ∧ (cmdStatus s p = 0x0213 ∨ (cmdStatus s p = 0 ∧ (s.cut.state = .loading ∨ s.cut.state = .armed ∨ s.cut.state = .running ∨ s.cut.state = .paused))) :=
  ⟨pkt 0x300 (toBytes 8 4096), { ready with cut := { state := .running, ranks := 1 } }, by decide +kernel, by decide +kernel, Or.inr (by decide +kernel)⟩

/-- A state and operands that meet the hypotheses of clause 3 of RunCommandsComplete. -/
theorem wit_RunCommandsComplete_3 : ∃ (p : CmdPkt) (s : State),
    Accepted 0x301 p s ∧ s.cut.state = .loaded ∧ grainOk s (arrivalOf p s) (p.arg 0 8) = true :=
  ⟨pkt 0x301 (toBytes 16 65536), { ready with cut := { state := .loaded, ranks := 1 } }, by unfold Accepted; decide +kernel, by decide +kernel, by decide +kernel⟩

/-- A state and operands that meet the hypotheses of clause 4 of RunCommandsComplete. -/
theorem wit_RunCommandsComplete_4 : ∃ (p : CmdPkt) (s : State),
    Accepted 0x301 p s ∧ (s.cut.state ≠ .loaded ∨ grainOk s (arrivalOf p s) (p.arg 0 8) = false) :=
  ⟨pkt 0x301 (toBytes 16 65536), ready, by unfold Accepted; decide +kernel, Or.inl (by decide +kernel)⟩

/-- A state and operands that meet the hypotheses of clause 5 of RunCommandsComplete. -/
theorem wit_RunCommandsComplete_5 : ∃ (p : CmdPkt) (s : State),
    Accepted 0x302 p s ∧ (s.cut.state = .armed ∨ s.cut.state = .running) :=
  ⟨pkt 0x302 [], { ready with cut := { state := .running, ranks := 1 } }, by unfold Accepted; decide +kernel, by decide +kernel⟩

/-- A state and operands that meet the hypotheses of clause 6 of RunCommandsComplete. -/
theorem wit_RunCommandsComplete_6 : ∃ (p : CmdPkt) (s : State),
    Accepted 0x302 p s ∧ s.cut.state ≠ .armed ∧ s.cut.state ≠ .running :=
  ⟨pkt 0x302 [], ready, by unfold Accepted; decide +kernel, by decide +kernel, by decide +kernel⟩

/-- A state and operands that meet the hypotheses of clause 7 of RunCommandsComplete. -/
theorem wit_RunCommandsComplete_7 : ∃ (p : CmdPkt) (s : State),
    Accepted 0x303 p s ∧ s.cut.state = .paused ∧ grainOk s (arrivalOf p s) (p.arg 0 8) = true :=
  ⟨pkt 0x303 (toBytes 8 65536), { ready with cut := { state := .paused, ranks := 1 } }, by unfold Accepted; decide +kernel, by decide +kernel, by decide +kernel⟩

/-- A state and operands that meet the hypotheses of clause 8 of RunCommandsComplete. -/
theorem wit_RunCommandsComplete_8 : ∃ (p : CmdPkt) (s : State),
    Accepted 0x303 p s ∧ (s.cut.state ≠ .paused ∨ grainOk s (arrivalOf p s) (p.arg 0 8) = false) :=
  ⟨pkt 0x303 (toBytes 8 65536), ready, by unfold Accepted; decide +kernel, Or.inl (by decide +kernel)⟩

/-- A state and operands that meet the hypotheses of clause 1 of SaveRestoreRowsComplete. -/
theorem wit_SaveRestoreRowsComplete_1 : ∃ (p : CmdPkt) (s : State) (n : Nat),
    Accepted 0x400 p s ∧ s.cut.state = .paused ∧ n = imgLen s.cut.kind ∧ p.arg 0 8 + n ≤ hbmTop ∧ overlaps (p.arg 0 8) n s.cut.base s.cut.len = false ∧ s.cut.saves.any (fun j => overlaps (p.arg 0 8) n j.addr j.len) = false :=
  ⟨pkt 0x400 (toBytes 8 4096), { ready with cut := { state := .paused, ranks := 1 } }, imgLen 0, by unfold Accepted; decide +kernel, by decide +kernel, by decide +kernel, by decide +kernel, by decide +kernel, by decide +kernel⟩

/-- A state and operands that meet the hypotheses of clause 2 of SaveRestoreRowsComplete. -/
theorem wit_SaveRestoreRowsComplete_2 : ∃ (p : CmdPkt) (s : State) (n : Nat),
    Accepted 0x400 p s ∧ s.cut.state = .paused ∧ n = imgLen s.cut.kind ∧ (hbmTop < p.arg 0 8 + n ∨ overlaps (p.arg 0 8) n s.cut.base s.cut.len = true ∨ s.cut.saves.any (fun j => overlaps (p.arg 0 8) n j.addr j.len) = true) :=
  ⟨pkt 0x400 (toBytes 8 (2 ^ 41 - 4096)), { ready with cut := { state := .paused, ranks := 1 } }, imgLen 0, by unfold Accepted; decide +kernel, by decide +kernel, by decide +kernel, Or.inl (by decide +kernel)⟩

/-- A state and operands that meet the hypotheses of clause 3 of SaveRestoreRowsComplete. -/
theorem wit_SaveRestoreRowsComplete_3 : ∃ (p : CmdPkt) (s : State),
    Accepted 0x400 p s ∧ s.cut.state ≠ .paused :=
  ⟨pkt 0x400 (toBytes 8 4096), ready, by unfold Accepted; decide +kernel, by decide +kernel⟩

/-- A state and operands that meet the hypotheses of clause 4 of SaveRestoreRowsComplete. -/
theorem wit_SaveRestoreRowsComplete_4 : ∃ (port : Fin 2) (channel : Fin 8) (noise : List HbmUpset) (s u : State) (j : SaveJob) (r : Nat × Nat × State),
    s.cut.saves.find? (fun j => j.cmd.port == port.val && j.cmd.channel == channel.val) = some j ∧ s.cut.state = .paused ∧ u = noise.foldl (fun s u => upsetBurst u s) { s with cut := { s.cut with saves := delFirst (fun j => j.cmd.port == port.val && j.cmd.channel == channel.val) s.cut.saves } } ∧ r = writeRange j.addr (imageOf u) 171 u :=
  ⟨0, 0, [], { cut := { state := .paused, saves := [{}] } }, _, {}, _, by decide +kernel, by decide +kernel, rfl, rfl⟩

/-- A state and operands that meet the hypotheses of clause 5 of SaveRestoreRowsComplete. -/
theorem wit_SaveRestoreRowsComplete_5 : ∃ (port : Fin 2) (channel : Fin 8) (noise : List HbmUpset) (s : State) (j : SaveJob),
    s.cut.saves.find? (fun j => j.cmd.port == port.val && j.cmd.channel == channel.val) = some j ∧ s.cut.state ≠ .paused :=
  ⟨0, 0, [], { cut := { state := .halted, saves := [{}] } }, {}, by decide +kernel, by decide +kernel⟩

/-- A state and operands that meet the hypotheses of clause 6 of SaveRestoreRowsComplete. -/
theorem wit_SaveRestoreRowsComplete_6 : ∃ (p : CmdPkt) (s : State),
    Accepted 0x401 p s ∧ s.cut.state = .loaded ∧ s.cut.restore = none :=
  ⟨pkt 0x401 (toBytes 8 4096), { ready with cut := { state := .loaded, ranks := 1 } }, by unfold Accepted; decide +kernel, by decide +kernel, by decide +kernel⟩

/-- A state and operands that meet the hypotheses of clause 7 of SaveRestoreRowsComplete. -/
theorem wit_SaveRestoreRowsComplete_7 : ∃ (p : CmdPkt) (s : State),
    Accepted 0x401 p s ∧ (s.cut.state ≠ .loaded ∨ s.cut.restore.isSome = true) :=
  ⟨pkt 0x401 (toBytes 8 4096), ready, by unfold Accepted; decide +kernel, Or.inl (by decide +kernel)⟩

/-- A state and operands that meet the hypotheses of clause 8 of SaveRestoreRowsComplete. -/
theorem wit_SaveRestoreRowsComplete_8 : ∃ (noise : List HbmUpset) (s : State) (j : SaveJob),
    s.cut.restore = some j ∧ s.cut.state ≠ .loaded :=
  ⟨[], { cut := { state := .halted, restore := some {} } }, {}, by decide +kernel, by decide +kernel⟩

/-- A state and operands that meet the hypotheses of clause 9 of SaveRestoreRowsComplete. -/
theorem wit_SaveRestoreRowsComplete_9 : ∃ (noise : List HbmUpset) (s u v : State) (j : SaveJob) (h : List (BitVec 8)) (e : Nat),
    s.cut.restore = some j ∧ s.cut.state = .loaded ∧ u = noise.foldl (fun s u => upsetBurst u s) { s with cut := { s.cut with restore := none } } ∧ readRange j.addr (min 256 (hbmTop - j.addr)) 171 u = (h, e, v) ∧ e = 0x0412 :=
  ⟨[], savedReset, _, (readRange 0 256 171 { savedReset with cut := { savedReset.cut with restore := none } }).2.2, {}, (readRange 0 256 171 { savedReset with cut := { savedReset.cut with restore := none } }).1, (readRange 0 256 171 { savedReset with cut := { savedReset.cut with restore := none } }).2.1, by decide +kernel, by decide +kernel, rfl, rfl, by decide +kernel⟩

/-- A state and operands that meet the hypotheses of clause 10 of SaveRestoreRowsComplete. -/
theorem wit_SaveRestoreRowsComplete_10 : ∃ (noise : List HbmUpset) (s u v : State) (j : SaveJob) (h : List (BitVec 8)) (e : Nat),
    s.cut.restore = some j ∧ s.cut.state = .loaded ∧ u = noise.foldl (fun s u => upsetBurst u s) { s with cut := { s.cut with restore := none } } ∧ readRange j.addr (min 256 (hbmTop - j.addr)) 171 u = (h, e, v) ∧ e ≠ 0x0412 ∧ imgHeaderOk h = false :=
  ⟨[], savedEmpty, _, (readRange 0 256 171 { savedEmpty with cut := { savedEmpty.cut with restore := none } }).2.2, {}, (readRange 0 256 171 { savedEmpty with cut := { savedEmpty.cut with restore := none } }).1, (readRange 0 256 171 { savedEmpty with cut := { savedEmpty.cut with restore := none } }).2.1, by decide +kernel, by decide +kernel, rfl, rfl, by decide +kernel, by decide +kernel⟩

/-- A state and operands that meet the hypotheses of clause 11 of SaveRestoreRowsComplete. -/
theorem wit_SaveRestoreRowsComplete_11 : ∃ (noise : List HbmUpset) (s u v : State) (j : SaveJob) (h : List (BitVec 8)) (e : Nat),
    s.cut.restore = some j ∧ s.cut.state = .loaded ∧ u = noise.foldl (fun s u => upsetBurst u s) { s with cut := { s.cut with restore := none } } ∧ readRange j.addr (min 256 (hbmTop - j.addr)) 171 u = (h, e, v) ∧ e ≠ 0x0412 ∧ imgHeaderOk h = true ∧ (hbmTop < j.addr + ihdr h 320 64 ∨ overlaps j.addr (ihdr h 320 64) v.cut.base v.cut.len = true) :=
  ⟨[], savedOver, _, (readRange 0 256 171 { savedOver with cut := { savedOver.cut with restore := none } }).2.2, {}, (readRange 0 256 171 { savedOver with cut := { savedOver.cut with restore := none } }).1, (readRange 0 256 171 { savedOver with cut := { savedOver.cut with restore := none } }).2.1, by decide +kernel, by decide +kernel, rfl, rfl, by decide +kernel, by decide +kernel, Or.inr (by decide +kernel)⟩

/-- A state and operands that meet the hypotheses of clause 12 of SaveRestoreRowsComplete. -/
theorem wit_SaveRestoreRowsComplete_12 : ∃ (noise : List HbmUpset) (s u v : State) (j : SaveJob) (h : List (BitVec 8)) (e : Nat),
    s.cut.restore = some j ∧ s.cut.state = .loaded ∧ u = noise.foldl (fun s u => upsetBurst u s) { s with cut := { s.cut with restore := none } } ∧ readRange j.addr (min 256 (hbmTop - j.addr)) 171 u = (h, e, v) ∧ e ≠ 0x0412 ∧ imgHeaderOk h = true ∧ j.addr + ihdr h 320 64 ≤ hbmTop ∧ overlaps j.addr (ihdr h 320 64) v.cut.base v.cut.len = false ∧ imgIdentity v h ≠ 0 :=
  ⟨[], savedOther, _, (readRange 0 256 171 { savedOther with cut := { savedOther.cut with restore := none } }).2.2, {}, (readRange 0 256 171 { savedOther with cut := { savedOther.cut with restore := none } }).1, (readRange 0 256 171 { savedOther with cut := { savedOther.cut with restore := none } }).2.1, by decide +kernel, by decide +kernel, rfl, rfl, by decide +kernel, by decide +kernel, by decide +kernel, by decide +kernel, by decide +kernel⟩

/-- A state and operands that meet the hypotheses of clause 13 of SaveRestoreRowsComplete. -/
theorem wit_SaveRestoreRowsComplete_13 : ∃ (noise : List HbmUpset) (s u v : State) (j : SaveJob) (h : List (BitVec 8)) (e : Nat) (r : List (BitVec 8) × Nat × State),
    s.cut.restore = some j ∧ s.cut.state = .loaded ∧ u = noise.foldl (fun s u => upsetBurst u s) { s with cut := { s.cut with restore := none } } ∧ readRange j.addr (min 256 (hbmTop - j.addr)) 171 u = (h, e, v) ∧ e ≠ 0x0412 ∧ imgHeaderOk h = true ∧ j.addr + ihdr h 320 64 ≤ hbmTop ∧ overlaps j.addr (ihdr h 320 64) v.cut.base v.cut.len = false ∧ imgIdentity v h = 0 ∧ r = readRange (j.addr + 256) (ihdr h 320 64 - 256) 171 v :=
  ⟨[], savedState, _, (readRange 0 256 171 { savedState with cut := { savedState.cut with restore := none } }).2.2, {}, (readRange 0 256 171 { savedState with cut := { savedState.cut with restore := none } }).1, (readRange 0 256 171 { savedState with cut := { savedState.cut with restore := none } }).2.1, _, by decide +kernel, by decide +kernel, rfl, rfl, by decide +kernel, by decide +kernel, by decide +kernel, by decide +kernel, by decide +kernel, rfl⟩

/-- A state and operands that meet the hypotheses of clause 1 of BlockResetRowsComplete. -/
theorem wit_BlockResetRowsComplete_1 : ∃ (p : CmdPkt) (s : State),
    Accepted 0x500 p s ∧ p.arg 0 1 = 1 ∧ s.rst.blocks.any (fun b => b.kind == 1 && b.index == p.arg 1 1) = false :=
  ⟨pkt 0x500 (toBytes 8 1), ready, by unfold Accepted; decide +kernel, by decide +kernel, by decide +kernel⟩

/-- A state and operands that meet the hypotheses of clause 2 of BlockResetRowsComplete. -/
theorem wit_BlockResetRowsComplete_2 : ∃ (p : CmdPkt) (s : State),
    Accepted 0x500 p s ∧ p.arg 0 1 = 1 ∧ s.rst.blocks.any (fun b => b.kind == 1 && b.index == p.arg 1 1) = true :=
  ⟨pkt 0x500 (toBytes 8 1), { ready with rst := { ready.rst with blocks := [{ kind := 1 }] } }, by unfold Accepted; decide +kernel, by decide +kernel, by decide +kernel⟩

/-- A state and operands that meet the hypotheses of clause 3 of BlockResetRowsComplete. -/
theorem wit_BlockResetRowsComplete_3 : ∃ (p : CmdPkt) (s : State),
    Accepted 0x500 p s ∧ p.arg 0 1 = 3 ∧ s.rst.blocks.any (fun b => b.kind == 3 && b.index == p.arg 1 1) = false :=
  ⟨pkt 0x500 (toBytes 8 3), ready, by unfold Accepted; decide +kernel, by decide +kernel, by decide +kernel⟩

/-- A state and operands that meet the hypotheses of clause 4 of BlockResetRowsComplete. -/
theorem wit_BlockResetRowsComplete_4 : ∃ (p : CmdPkt) (s : State),
    Accepted 0x500 p s ∧ p.arg 0 1 = 3 ∧ s.rst.blocks.any (fun b => b.kind == 3 && b.index == p.arg 1 1) = true :=
  ⟨pkt 0x500 (toBytes 8 3), { ready with rst := { ready.rst with blocks := [{ kind := 3 }] } }, by unfold Accepted; decide +kernel, by decide +kernel, by decide +kernel⟩

/-- A state and operands that meet the hypotheses of clause 5 of BlockResetRowsComplete. -/
theorem wit_BlockResetRowsComplete_5 : ∃ (p : CmdPkt) (s : State),
    Accepted 0x500 p s ∧ p.arg 0 1 = 4 ∧ s.rst.blocks.any (fun b => b.kind == 4 && b.index == p.arg 1 1) = false :=
  ⟨pkt 0x500 (toBytes 8 4), ready, by unfold Accepted; decide +kernel, by decide +kernel, by decide +kernel⟩

/-- A state and operands that meet the hypotheses of clause 6 of BlockResetRowsComplete. -/
theorem wit_BlockResetRowsComplete_6 : ∃ (p : CmdPkt) (s : State),
    Accepted 0x500 p s ∧ p.arg 0 1 = 4 ∧ s.rst.blocks.any (fun b => b.kind == 4 && b.index == p.arg 1 1) = true :=
  ⟨pkt 0x500 (toBytes 8 4), { ready with rst := { ready.rst with blocks := [{ kind := 4 }] } }, by unfold Accepted; decide +kernel, by decide +kernel, by decide +kernel⟩

/-- A state and operands that meet the hypotheses of clause 7 of BlockResetRowsComplete. -/
theorem wit_BlockResetRowsComplete_7 : ∃ (p : CmdPkt) (s : State),
    Accepted 0x500 p s ∧ p.arg 0 1 = 5 ∧ s.rst.blocks.any (fun b => b.kind == 5 && b.index == p.arg 1 1) = false :=
  ⟨pkt 0x500 (toBytes 8 5), ready, by unfold Accepted; decide +kernel, by decide +kernel, by decide +kernel⟩

/-- A state and operands that meet the hypotheses of clause 8 of BlockResetRowsComplete. -/
theorem wit_BlockResetRowsComplete_8 : ∃ (p : CmdPkt) (s : State),
    Accepted 0x500 p s ∧ p.arg 0 1 = 5 ∧ s.rst.blocks.any (fun b => b.kind == 5 && b.index == p.arg 1 1) = true :=
  ⟨pkt 0x500 (toBytes 8 5), { ready with rst := { ready.rst with blocks := [{ kind := 5 }] } }, by unfold Accepted; decide +kernel, by decide +kernel, by decide +kernel⟩

/-- A state and operands that meet the hypotheses of clause 9 of BlockResetRowsComplete. -/
theorem wit_BlockResetRowsComplete_9 : ∃ (p : CmdPkt) (s : State),
    Accepted 0x500 p s ∧ p.arg 0 1 = 6 ∧ s.rst.blocks.any (fun b => b.kind == 6 && b.index == p.arg 1 1) = false :=
  ⟨pkt 0x500 (toBytes 8 6), ready, by unfold Accepted; decide +kernel, by decide +kernel, by decide +kernel⟩

/-- A state and operands that meet the hypotheses of clause 10 of BlockResetRowsComplete. -/
theorem wit_BlockResetRowsComplete_10 : ∃ (p : CmdPkt) (s : State),
    Accepted 0x500 p s ∧ p.arg 0 1 = 6 ∧ s.rst.blocks.any (fun b => b.kind == 6 && b.index == p.arg 1 1) = true :=
  ⟨pkt 0x500 (toBytes 8 6), { ready with rst := { ready.rst with blocks := [{ kind := 6 }] } }, by unfold Accepted; decide +kernel, by decide +kernel, by decide +kernel⟩

/-- A state and operands that meet the hypotheses of clause 11 of BlockResetRowsComplete. -/
theorem wit_BlockResetRowsComplete_11 : ∃ (p : CmdPkt) (s : State),
    canStart s p = true ∧ p.opcode = 0x500 ∧ p.arg 0 1 = 2 ∧ cmdStatus s p = 0x0107 :=
  ⟨pkt 0x500 (toBytes 8 2), ready, by decide +kernel, by decide +kernel, by decide +kernel, by decide +kernel⟩

/-- A state and operands that meet the hypotheses of clause 12 of BlockResetRowsComplete. -/
theorem wit_BlockResetRowsComplete_12 : ∃ (kind : Fin 8) (index : Fin 32) (s : State) (b : BlockJob),
    blockJob s kind.val index.val 0 = some b ∧ blockIdle s kind.val index.val = true :=
  ⟨5, 0, { rst := { blocks := [{ kind := 5, index := 0 }] } }, { kind := 5, index := 0 }, by decide +kernel, by decide +kernel⟩

/-- A state and operands that meet the hypotheses of clause 13 of BlockResetRowsComplete. -/
theorem wit_BlockResetRowsComplete_13 : ∃ (kind : Fin 8) (index : Fin 32) (s : State) (b : BlockJob),
    blockJob s kind.val index.val 0 = some b ∧ b.start + b.limit ≤ s.now :=
  ⟨5, 0, { rst := { blocks := [{ kind := 5, index := 0 }] } }, { kind := 5, index := 0 }, by decide +kernel, by decide +kernel⟩

/-- A state and operands that meet the hypotheses of clause 14 of BlockResetRowsComplete. -/
theorem wit_BlockResetRowsComplete_14 : ∃ (kind : Fin 8) (index : Fin 32) (fixed : Fin 64) (cals : RingCals) (s u : State) (b : BlockJob),
    blockJob s kind.val index.val 1 = some b ∧ b.since ≤ s.now ∧ (kind.val = 4 → railSettled s index.val = true) ∧ u = (if kind.val = 5 then calibrateBay index.val cals s else s) :=
  ⟨5, 0, 0, [], { rst := { blocks := [{ kind := 5, index := 0, phase := 1 }] } }, _, { kind := 5, index := 0, phase := 1 }, by decide +kernel, by decide, by decide, rfl⟩

/-- A state and operands that meet the hypotheses of clause 15 of BlockResetRowsComplete. -/
theorem wit_BlockResetRowsComplete_15 : ∃ (kind : Fin 8) (index : Fin 32) (s : State) (b : BlockJob),
    blockJob s kind.val index.val 1 = some b ∧ b.since + readyBound kind.val < s.now :=
  ⟨5, 0, { rst := { blocks := [{ kind := 5, index := 0, phase := 1 }] }, time := { now := 3000000 } }, { kind := 5, index := 0, phase := 1 }, by decide +kernel, by decide +kernel⟩

/-- A state and operands that meet the hypotheses of clause 1 of CalibrationCommandsComplete. -/
theorem wit_CalibrationCommandsComplete_1 : ∃ (p : CmdPkt) (s : State),
    Accepted 0x501 p s ∧ p.arg 0 1 = 1 ∧ s.cut.state ≠ .armed ∧ s.cut.state ≠ .running :=
  ⟨pkt 0x501 (toBytes 8 1), ready, by unfold Accepted; decide +kernel, by decide +kernel, by decide +kernel, by decide +kernel⟩

/-- A state and operands that meet the hypotheses of clause 2 of CalibrationCommandsComplete. -/
theorem wit_CalibrationCommandsComplete_2 : ∃ (p : CmdPkt) (s : State),
    Accepted 0x501 p s ∧ p.arg 0 1 = 1 ∧ (s.cut.state = .armed ∨ s.cut.state = .running) :=
  ⟨pkt 0x501 (toBytes 8 1), { ready with cut := { state := .running, ranks := 1 } }, by unfold Accepted; decide +kernel, by decide +kernel, by decide +kernel⟩

/-- A state and operands that meet the hypotheses of clause 3 of CalibrationCommandsComplete. -/
theorem wit_CalibrationCommandsComplete_3 : ∃ (failing : List (Fin 1064960)) (cals : RingCals) (s u : State),
    s.sill.calibOn = true ∧ u = calibrateLanes (failing.map (·.val)) cals s :=
  ⟨[], [], { sill := { calibOn := true } }, _, by decide +kernel, rfl⟩

/-- A state and operands that meet the hypotheses of clause 4 of CalibrationCommandsComplete. -/
theorem wit_CalibrationCommandsComplete_4 : ∃ (p : CmdPkt) (s : State),
    Accepted 0x501 p s ∧ p.arg 0 1 = 2 ∧ (s.rail (p.arg 1 1)).state ≠ 0 ∧ (s.rail (p.arg 1 1)).state ≠ 7 :=
  ⟨pkt 0x501 (toBytes 8 2), { ready with rails := [(0, { state := 5 })] }, by unfold Accepted; decide +kernel, by decide +kernel, by decide +kernel, by decide +kernel⟩

/-- A state and operands that meet the hypotheses of clause 5 of CalibrationCommandsComplete. -/
theorem wit_CalibrationCommandsComplete_5 : ∃ (p : CmdPkt) (s u : State),
    Accepted 0x501 p s ∧ p.arg 0 1 = 2 ∧ ((s.rail (p.arg 1 1)).state = 0 ∨ (s.rail (p.arg 1 1)).state = 7) ∧ u = retrainRail (p.arg 1 1) (takePacket p s) :=
  ⟨pkt 0x501 (toBytes 8 2), ready, _, by unfold Accepted; decide +kernel, by decide +kernel, by decide +kernel, rfl⟩

/-- A state and operands that meet the hypotheses of clause 6 of CalibrationCommandsComplete. -/
theorem wit_CalibrationCommandsComplete_6 : ∃ (p : CmdPkt) (s u : State),
    Accepted 0x501 p s ∧ p.arg 0 1 = 3 ∧ u = (railDown (p.arg 1 1) 4 0 (takePacket p s)).modRail (p.arg 1 1) (fun x => { x with heldDown := true }) :=
  ⟨pkt 0x501 (toBytes 8 3), ready, _, by unfold Accepted; decide +kernel, by decide +kernel, rfl⟩

/-- A state and operands that meet the hypotheses of clause 7 of CalibrationCommandsComplete. -/
theorem wit_CalibrationCommandsComplete_7 : ∃ (p : CmdPkt) (s : State),
    Accepted 0x501 p s ∧ p.arg 0 1 = 4 :=
  ⟨pkt 0x501 (toBytes 8 4), ready, by unfold Accepted; decide +kernel, by decide +kernel⟩

/-- A state and operands that meet the hypotheses of clause 8 of CalibrationCommandsComplete. -/
theorem wit_CalibrationCommandsComplete_8 : ∃ (p : CmdPkt) (s u v w x : State) (l : List Nat),
    Accepted 0x502 p s ∧ s.cut.state ≠ .loading ∧ s.cut.state ≠ .armed ∧ s.cut.state ≠ .running ∧ s.rst.recovering = false ∧ u = (List.range 8).foldl buildMesh (seqProcs.foldl startProc (clear2 (takePacket p s))) ∧ v = releasePanels (fun k => decide (k < 65536)) u.now u ∧ l = (List.range 32).filter (fun h => (v.mstack h).state == 3) ∧ w = l.foldl (fun s h => s.modMem h (fun m => { m with state := 1, selfRefresh := true })) v ∧ x = stopScrub { w with rst := { w.rst with state := 3, step := 0, recovery := some p.ref, recovering := true, blocks := w.rst.blocks ++ l.map (fun h => { kind := 3, index := h, phase := 1, start := v.now, since := v.now, limit := 60000000 }) } } :=
  ⟨pkt 0x502 [], ready, _, _, _, _, _, by unfold Accepted; decide +kernel, by decide +kernel, by decide +kernel, by decide +kernel, by decide +kernel, rfl, rfl, rfl, rfl, rfl⟩

/-- A state and operands that meet the hypotheses of clause 9 of CalibrationCommandsComplete. -/
theorem wit_CalibrationCommandsComplete_9 : ∃ (p : CmdPkt) (s : State),
    Accepted 0x502 p s ∧ (s.cut.state = .loading ∨ s.cut.state = .armed ∨ s.cut.state = .running ∨ s.rst.recovering = true) :=
  ⟨pkt 0x502 [], { ready with cut := { state := .running, ranks := 1 } }, by unfold Accepted; decide +kernel, by decide +kernel⟩

/-- A state and operands that meet the hypotheses of clause 10 of CalibrationCommandsComplete. -/
theorem wit_CalibrationCommandsComplete_10 : ∃ (test : BringTest) (s u : State),
    s.rst.state = 3 ∧ s.rst.recovering = true ∧ recovered s = true ∧ s.sup.hold ≠ 0 ∧ u = buildFloor (selfTest test (calibrateLanes (test.lanes.map (·.val)) test.rings (calibrateDowels test s))) :=
  ⟨{}, { rst := { state := 3, recovering := true }, sup := { hold := 1 } }, _, by decide +kernel, by decide +kernel, by decide +kernel, by decide +kernel, rfl⟩

/-- A state and operands that meet the hypotheses of clause 1 of SecurityCommandsComplete. -/
theorem wit_SecurityCommandsComplete_1 : ∃ (p : CmdPkt) (s : State),
    Accepted 0x600 p s ∧ s.procUp 0 = false :=
  ⟨pkt 0x600 (List.replicate 32 0), { ready with procs := [(0, { state := 6 })] }, by unfold Accepted; decide +kernel, by decide +kernel⟩

/-- A state and operands that meet the hypotheses of clause 2 of SecurityCommandsComplete. -/
theorem wit_SecurityCommandsComplete_2 : ∃ (p : CmdPkt) (s : State),
    Accepted 0x601 p s ∧ s.procUp 0 = false :=
  ⟨pkt 0x601 [], { ready with procs := [(0, { state := 6 })] }, by unfold Accepted; decide +kernel, by decide +kernel⟩

/-- A state and operands that meet the hypotheses of clause 3 of SecurityCommandsComplete. -/
theorem wit_SecurityCommandsComplete_3 : ∃ (p : CmdPkt) (s : State),
    Accepted 0x602 p s ∧ s.procUp 0 = false :=
  ⟨pkt 0x602 (toBytes 72 0), { ready with procs := [(0, { state := 6 })] }, by unfold Accepted; decide +kernel, by decide +kernel⟩

/-- A state and operands that meet the hypotheses of clause 4 of SecurityCommandsComplete. -/
theorem wit_SecurityCommandsComplete_4 : ∃ (p : CmdPkt) (s : State),
    Accepted 0x603 p s ∧ s.procUp 0 = false :=
  ⟨pkt 0x603 [], { ready with procs := [(0, { state := 6 })] }, by unfold Accepted; decide +kernel, by decide +kernel⟩

/-- A state and operands that meet the hypotheses of clause 5 of SecurityCommandsComplete. -/
theorem wit_SecurityCommandsComplete_5 : ∃ (p : CmdPkt) (s : State),
    Accepted 0x604 p s ∧ s.procUp 0 = false :=
  ⟨pkt 0x604 (List.replicate 3208 0), { ready with procs := [(0, { state := 6 })] }, by unfold Accepted; decide +kernel, by decide +kernel⟩

/-- A state and operands that meet the hypotheses of clause 6 of SecurityCommandsComplete. -/
theorem wit_SecurityCommandsComplete_6 : ∃ (p : CmdPkt) (s : State),
    Accepted 0x605 p s ∧ s.procUp 0 = false :=
  ⟨pkt 0x605 [], { ready with procs := [(0, { state := 6 })] }, by unfold Accepted; decide +kernel, by decide +kernel⟩

/-- A state and operands that meet the hypotheses of clause 7 of SecurityCommandsComplete. -/
theorem wit_SecurityCommandsComplete_7 : ∃ (p : CmdPkt) (s : State),
    Accepted 0x600 p s ∧ s.procUp 0 = true ∧ s.sec.identityOk = false :=
  ⟨pkt 0x600 (List.replicate 32 0), ready, by unfold Accepted; decide +kernel, by decide +kernel, by decide +kernel⟩

/-- A state and operands that meet the hypotheses of clause 8 of SecurityCommandsComplete. -/
theorem wit_SecurityCommandsComplete_8 : ∃ (p : CmdPkt) (s : State),
    Accepted 0x601 p s ∧ s.procUp 0 = true ∧ s.sec.identityOk = false :=
  ⟨pkt 0x601 [], ready, by unfold Accepted; decide +kernel, by decide +kernel, by decide +kernel⟩

/-- A state and operands that meet the hypotheses of clause 9 of SecurityCommandsComplete. -/
theorem wit_SecurityCommandsComplete_9 : ∃ (p : CmdPkt) (s : State),
    Accepted 0x602 p s ∧ s.procUp 0 = true ∧ (p.arg 0 4 ≠ 0 ∧ (p.arg 0 4 % 64 ≠ 0 ∨ (p.payload.drop 8).length % 64 ≠ 0 ∨ 0xBFFFC0 < p.arg 0 4 + (p.payload.drop 8).length)) :=
  ⟨pkt 0x602 (toBytes 72 1), ready, by unfold Accepted; decide +kernel, by decide +kernel, by decide +kernel⟩

/-- A state and operands that meet the hypotheses of clause 10 of SecurityCommandsComplete. -/
theorem wit_SecurityCommandsComplete_10 : ∃ (p : CmdPkt) (s : State),
    Accepted 0x602 p s ∧ s.procUp 0 = true ∧ (¬ (p.arg 0 4 ≠ 0 ∧ (p.arg 0 4 % 64 ≠ 0 ∨ (p.payload.drop 8).length % 64 ≠ 0 ∨ 0xBFFFC0 < p.arg 0 4 + (p.payload.drop 8).length))) ∧ s.sec.committing.isSome = true :=
  ⟨pkt 0x602 (toBytes 72 0), { ready with sec := { committing := some {} } }, by unfold Accepted; decide +kernel, by decide +kernel, by decide +kernel, by decide +kernel⟩

/-- A state and operands that meet the hypotheses of clause 11 of SecurityCommandsComplete. -/
theorem wit_SecurityCommandsComplete_11 : ∃ (p : CmdPkt) (s : State),
    Accepted 0x603 p s ∧ s.procUp 0 = true ∧ s.sec.committing.isSome = true :=
  ⟨pkt 0x603 [], { ready with sec := { committing := some {} } }, by unfold Accepted; decide +kernel, by decide +kernel, by decide +kernel⟩

/-- A state and operands that meet the hypotheses of clause 12 of SecurityCommandsComplete. -/
theorem wit_SecurityCommandsComplete_12 : ∃ (p : CmdPkt) (s : State),
    Accepted 0x600 p s ∧ s.procUp 0 = true ∧ s.sec.identityOk = true :=
  ⟨pkt 0x600 (List.replicate 32 0), { ready with sec := { identityOk := true } }, by unfold Accepted; decide +kernel, by decide +kernel, by decide +kernel⟩

/-- A state and operands that meet the hypotheses of clause 13 of SecurityCommandsComplete. -/
theorem wit_SecurityCommandsComplete_13 : ∃ (p : CmdPkt) (s : State),
    Accepted 0x601 p s ∧ s.procUp 0 = true ∧ s.sec.identityOk = true :=
  ⟨pkt 0x601 [], { ready with sec := { identityOk := true } }, by unfold Accepted; decide +kernel, by decide +kernel, by decide +kernel⟩

/-- A state and operands that meet the hypotheses of clause 14 of SecurityCommandsComplete. -/
theorem wit_SecurityCommandsComplete_14 : ∃ (p : CmdPkt) (s : State),
    Accepted 0x602 p s ∧ s.procUp 0 = true ∧ p.arg 0 4 = 0 ∧ s.sec.committing = none :=
  ⟨pkt 0x602 (toBytes 72 0), ready, by unfold Accepted; decide +kernel, by decide +kernel, by decide +kernel, by decide +kernel⟩

/-- A state and operands that meet the hypotheses of clause 15 of SecurityCommandsComplete. -/
theorem wit_SecurityCommandsComplete_15 : ∃ (p : CmdPkt) (s : State),
    Accepted 0x602 p s ∧ s.procUp 0 = true ∧ p.arg 0 4 ≠ 0 ∧ p.arg 0 4 % 64 = 0 ∧ (p.payload.drop 8).length % 64 = 0 ∧ p.arg 0 4 + (p.payload.drop 8).length ≤ 0xBFFFC0 ∧ s.sec.committing = none :=
  ⟨pkt 0x602 (toBytes 72 64), ready, by unfold Accepted; decide +kernel, by decide +kernel, by decide +kernel, by decide +kernel, by decide +kernel, by decide +kernel, by decide +kernel⟩

/-- A state and operands that meet the hypotheses of clause 16 of SecurityCommandsComplete. -/
theorem wit_SecurityCommandsComplete_16 : ∃ (p : CmdPkt) (s : State),
    Accepted 0x603 p s ∧ s.procUp 0 = true ∧ s.sec.committing = none :=
  ⟨pkt 0x603 [], ready, by unfold Accepted; decide +kernel, by decide +kernel, by decide +kernel⟩

/-- A state and operands that meet the hypotheses of clause 17 of SecurityCommandsComplete. -/
theorem wit_SecurityCommandsComplete_17 : ∃ (s u : State) (c : CmdRef) (f : Nat),
    s.sec.committing = some c ∧ f = slotFault s (1 - s.sec.slot) false ∧ u = { s with sec := { s.sec with committing := none } } :=
  ⟨{ sec := { committing := some {} } }, _, {}, _, by decide +kernel, rfl, rfl⟩

/-- A state and operands that meet the hypotheses of clause 18 of SecurityCommandsComplete. -/
theorem wit_SecurityCommandsComplete_18 : ∃ (p : CmdPkt) (s u : State),
    Accepted 0x604 p s ∧ s.procUp 0 = true ∧ u = endUnlock 2 (freshNonce (takePacket p s)) :=
  ⟨pkt 0x604 (List.replicate 3208 0), ready, _, by unfold Accepted; decide +kernel, by decide +kernel, rfl⟩

/-- A state and operands that meet the hypotheses of clause 19 of SecurityCommandsComplete. -/
theorem wit_SecurityCommandsComplete_19 : ∃ (p : CmdPkt) (s : State),
    Accepted 0x605 p s ∧ s.procUp 0 = true :=
  ⟨pkt 0x605 [], ready, by unfold Accepted; decide +kernel, by decide +kernel⟩

/-- A state and operands that meet the hypotheses of clause 20 of SecurityCommandsComplete. -/
theorem wit_SecurityCommandsComplete_20 : ∃ (s : State),
    s.sec.unlocked = true ∧ s.sec.expiry ≤ s.now :=
  ⟨{ sec := { unlocked := true } }, by decide +kernel, by decide +kernel⟩

/-- A state and operands that meet the hypotheses of clause 1 of DiagnosticCommandsComplete. -/
theorem wit_DiagnosticCommandsComplete_1 : ∃ (p : CmdPkt) (s : State),
    Accepted 0xF00 p s :=
  ⟨pkt 0xF00 (toBytes 8 0), { ready with sec := { unlocked := true, scopes := 7 } }, by unfold Accepted; decide +kernel⟩

/-- A state and operands that meet the hypotheses of clause 2 of DiagnosticCommandsComplete. -/
theorem wit_DiagnosticCommandsComplete_2 : ∃ (p : CmdPkt) (s : State),
    Accepted 0xF02 p s :=
  ⟨pkt 0xF02 (toBytes 8 0), { ready with sec := { unlocked := true, scopes := 7 } }, by unfold Accepted; decide +kernel⟩

/-- A state and operands that meet the hypotheses of clause 3 of DiagnosticCommandsComplete. -/
theorem wit_DiagnosticCommandsComplete_3 : ∃ (p : CmdPkt) (s : State) (v n : Nat) (o : Obs),
    Writes (0x01500020 + n) v p s ∧ n < 16 ∧ o = tabGet s.dbg.obs n {} :=
  ⟨wpkt 0x01500021 8 9, ready, 9, 1, _, by unfold Writes Accepted; decide +kernel, by decide, rfl⟩

/-- A state and operands that meet the hypotheses of clause 4 of DiagnosticCommandsComplete. -/
theorem wit_DiagnosticCommandsComplete_4 : ∃ (p : CmdPkt) (s : State) (v n : Nat),
    Writes (0x01500040 + n) v p s ∧ n < 9 ∧ bits v 0 2 ≠ 3 ∧ bit s.scopesNow 0 = true :=
  ⟨wpkt 0x01500041 8 1, { ready with sec := { unlocked := true, scopes := 7 } }, 1, 1, by unfold Writes Accepted; decide +kernel, by decide, by decide, by decide +kernel⟩

/-- A state and operands that meet the hypotheses of clause 5 of DiagnosticCommandsComplete. -/
theorem wit_DiagnosticCommandsComplete_5 : ∃ (p : CmdPkt) (s : State) (v n : Nat),
    Writes (0x01500040 + n) v p s ∧ n < 9 ∧ (bits v 0 2 = 3 ∨ bit s.scopesNow 0 = false) :=
  ⟨wpkt 0x01500041 8 1, ready, 1, 1, by unfold Writes Accepted; decide +kernel, by decide, by decide +kernel⟩

/-- A state and operands that meet the hypotheses of clause 6 of DiagnosticCommandsComplete. -/
theorem wit_DiagnosticCommandsComplete_6 : ∃ (p : CmdPkt) (s u : State) (v : Nat),
    Writes 0x01200003 v p s ∧ bit v 0 = true ∧ s.rst.busy = false ∧ u = flashErase (copyBase (commitPlace (takePacket p s)).1) 0x100000 (takePacket p s) :=
  ⟨wpkt 0x01200003 8 1, ready, _, 1, by unfold Writes Accepted; decide +kernel, by decide, by decide +kernel, rfl⟩

/-- A state and operands that meet the hypotheses of clause 7 of DiagnosticCommandsComplete. -/
theorem wit_DiagnosticCommandsComplete_7 : ∃ (p : CmdPkt) (s : State) (v : Nat),
    Writes 0x01200003 v p s ∧ (bit v 0 = false ∨ s.rst.busy = true) :=
  ⟨wpkt 0x01200003 8 0, ready, 0, by unfold Writes Accepted; decide +kernel, by decide +kernel⟩

/-- A state and operands that meet the hypotheses of clause 8 of DiagnosticCommandsComplete. -/
theorem wit_DiagnosticCommandsComplete_8 : ∃ (s u : State) (k seq : Nat) (b : List (BitVec 8)),
    s.rst.commit = some (k, seq, b) ∧ u = { s with rst := { s.rst with commit := none, busy := false } } :=
  ⟨{ rst := { commit := some (0, 1, []) } }, _, 0, 1, [], by decide +kernel, rfl⟩

/-- A state and operands that meet the hypotheses of clause 9 of DiagnosticCommandsComplete. -/
theorem wit_DiagnosticCommandsComplete_9 : ∃ (s : State) (k seq : Nat) (b : List (BitVec 8)),
    s.rst.commit = some (k, seq, b) :=
  ⟨{ rst := { commit := some (0, 1, []) } }, 0, 1, [], by decide +kernel⟩

/-- A state and operands that meet the hypotheses of clause 10 of DiagnosticCommandsComplete. -/
theorem wit_DiagnosticCommandsComplete_10 : ∃ (s : State) (g : Nat) (last : Option Nat) (k seq : Nat) (b : List (BitVec 8)),
    s.err.dirty = some g ∧ s.err.prevCopied = true ∧ last = mirrorNewest s ∧ k = (match last with | some 0 => 1 | _ => 0) ∧ seq = (match last with | some j => (mirrorSeq s j + 1) % 2 ^ 32 | none => 0) ∧ b = (List.range 64).flatMap (fun i => toBytes 64 (recordWord (tabGet s.err.fault i {}))) ++ toBytes 4 seq ++ List.replicate 28 0 :=
  ⟨{ err := { dirty := some 0, prevCopied := true } }, 0, _, _, _, _, by decide +kernel, by decide +kernel, rfl, rfl, rfl, rfl⟩

/-- A state and operands that meet the hypotheses of clause 11 of DiagnosticCommandsComplete. -/
theorem wit_DiagnosticCommandsComplete_11 : ∃ (p : CmdPkt) (s : State) (v k : Nat) (r : Record),
    Writes (0x01620000 + k) v p s ∧ k < 64 ∧ r = tabGet s.err.fault k {} ∧ bit v 19 = true ∧ r.pend = true ∧ r.grain ≠ s.now :=
  ⟨wpkt 0x01620000 64 0x80000, { ready with err := { fault := [(0, { pend := true })] }, time := { now := 5 } }, 0x80000, 0, _, by unfold Writes Accepted; decide +kernel, by decide, rfl, by decide, by decide +kernel, by decide +kernel⟩

/-- A state and operands that meet the hypotheses of clause 12 of DiagnosticCommandsComplete. -/
theorem wit_DiagnosticCommandsComplete_12 : ∃ (p : CmdPkt) (s : State) (v k : Nat) (r : Record),
    Writes (0x01620000 + k) v p s ∧ k < 64 ∧ r = tabGet s.err.fault k {} ∧ (bit v 19 = false ∨ r.pend = false ∨ r.grain = s.now) :=
  ⟨wpkt 0x01620000 64 0x80000, { ready with err := { fault := [(0, { pend := false })] }, time := { now := 5 } }, 0x80000, 0, _, by unfold Writes Accepted; decide +kernel, by decide, rfl, by decide +kernel⟩

/-- A state and operands that meet the hypotheses of clause 13 of DiagnosticCommandsComplete. -/
theorem wit_DiagnosticCommandsComplete_13 : ∃ (p : CmdPkt) (s : State) (v k : Nat) (r : Record),
    Writes (0x01630000 + k) v p s ∧ k < 64 ∧ r = tabGet s.err.prev k {} ∧ bit v 19 = true ∧ r.pend = true ∧ r.grain ≠ s.now :=
  ⟨wpkt 0x01630000 64 0x80000, { ready with err := { prev := [(0, { pend := true })] }, time := { now := 5 } }, 0x80000, 0, _, by unfold Writes Accepted; decide +kernel, by decide, rfl, by decide, by decide +kernel, by decide +kernel⟩

/-- A state and operands that meet the hypotheses of clause 14 of DiagnosticCommandsComplete. -/
theorem wit_DiagnosticCommandsComplete_14 : ∃ (p : CmdPkt) (s : State) (v k : Nat) (r : Record),
    Writes (0x01630000 + k) v p s ∧ k < 64 ∧ r = tabGet s.err.prev k {} ∧ (bit v 19 = false ∨ r.pend = false ∨ r.grain = s.now) :=
  ⟨wpkt 0x01630000 64 0x80000, { ready with err := { prev := [(0, { pend := false })] }, time := { now := 5 } }, 0x80000, 0, _, by unfold Writes Accepted; decide +kernel, by decide, rfl, by decide +kernel⟩

/-- A state and operands that meet the hypotheses of clause 15 of DiagnosticCommandsComplete. -/
theorem wit_DiagnosticCommandsComplete_15 : ∃ (s : State),
    s.now / 2 ^ 30 ≠ s.err.window :=
  ⟨{ time := { now := 2000000000 } }, by decide +kernel⟩

/-- A state and operands that meet the hypotheses of clause 1 of ProcessorRowsComplete. -/
theorem wit_ProcessorRowsComplete_1 : ∃ (src dst : Fin 16) (msg : BitVec 512) (s : State),
    procPresent src.val = true ∧ procPresent dst.val = true ∧ src ≠ dst ∧ procRuns s src.val = true ∧ boxRejects s dst.val = true :=
  ⟨0, 3, 0, { procs := [(0, { state := 2 }), (3, { state := 0 })] }, by decide +kernel, by decide +kernel, by decide +kernel, by decide +kernel, by decide +kernel⟩

/-- A state and operands that meet the hypotheses of clause 2 of ProcessorRowsComplete. -/
theorem wit_ProcessorRowsComplete_2 : ∃ (src dst : Fin 16) (msg : BitVec 512) (s : State),
    procPresent src.val = true ∧ procPresent dst.val = true ∧ src ≠ dst ∧ procRuns s src.val = true ∧ boxRejects s dst.val = false ∧ (tabGet s.boxes (boxKey src.val dst.val) []).length < 16 :=
  ⟨0, 3, 0, { procs := [(0, { state := 2 }), (3, { state := 2 })] }, by decide +kernel, by decide +kernel, by decide +kernel, by decide +kernel, by decide +kernel, by decide +kernel⟩

/-- A state and operands that meet the hypotheses of clause 3 of ProcessorRowsComplete. -/
theorem wit_ProcessorRowsComplete_3 : ∃ (src dst : Fin 16) (msg : BitVec 512) (s : State),
    procPresent src.val = true ∧ procPresent dst.val = true ∧ src ≠ dst ∧ procRuns s src.val = true ∧ boxRejects s dst.val = false ∧ 16 ≤ (tabGet s.boxes (boxKey src.val dst.val) []).length :=
  ⟨0, 3, 0, { procs := [(0, { state := 2 }), (3, { state := 2 })], boxes := [(3, List.replicate 16 {})] }, by decide +kernel, by decide +kernel, by decide +kernel, by decide +kernel, by decide +kernel, by decide +kernel⟩

/-- A state and operands that meet the hypotheses of clause 4 of ProcessorRowsComplete. -/
theorem wit_ProcessorRowsComplete_4 : ∃ (src dst : Fin 16) (s : State) (g : Nat) (m : Msg),
    procPresent src.val = true ∧ procPresent dst.val = true ∧ src ≠ dst ∧ s.resend.find? (fun x => x.1 == boxKey src.val dst.val) = some (boxKey src.val dst.val, g, m) ∧ (g + 1000 ≤ s.now ∨ ∃ d, (s.proc src.val).delivered = some d ∧ g ≤ d) ∧ procRuns s src.val = true :=
  ⟨0, 3, { time := { now := 1000 }, procs := [(0, { state := 2 })], resend := [(3, 0, {})] }, 0, {}, by decide +kernel, by decide +kernel, by decide, by decide +kernel, Or.inl (by decide), by decide +kernel⟩

/-- A state and operands that meet the hypotheses of clause 5 of ProcessorRowsComplete. -/
theorem wit_ProcessorRowsComplete_5 : ∃ (proc : Fin 16) (cause : Fin 3) (address data : BitVec 32) (s : State),
    procPresent proc.val = true ∧ 1 ≤ (s.proc proc.val).state ∧ (s.proc proc.val).state ≤ 3 :=
  ⟨0, 0, 0, 0, { procs := [(0, { state := 2 })] }, by decide +kernel, by decide +kernel⟩

/-- A state and operands that meet the hypotheses of clause 6 of ProcessorRowsComplete. -/
theorem wit_ProcessorRowsComplete_6 : ∃ (proc : Fin 16) (address : BitVec 32) (s : State),
    procPresent proc.val = true ∧ (s.proc proc.val).state = 2 ∧ (s.proc proc.val).written + 2 ^ 24 ≤ s.now :=
  ⟨0, 0, { time := { now := 20000000 }, procs := [(0, { state := 2 })] }, by decide +kernel, by decide +kernel, by decide +kernel⟩

/-- A state and operands that meet the hypotheses of clause 7 of ProcessorRowsComplete. -/
theorem wit_ProcessorRowsComplete_7 : ∃ (proc : Fin 16) (s : State),
    procPresent proc.val = true ∧ (s.proc proc.val).state = 2 ∧ (s.proc proc.val).written + 2 ^ 23 ≤ s.now ∧ (s.proc proc.val).warned = false :=
  ⟨0, { time := { now := 10000000 }, procs := [(0, { state := 2 })] }, by decide +kernel, by decide +kernel, by decide +kernel, by decide +kernel⟩

/-- A state and operands that meet the hypotheses of clause 8 of ProcessorRowsComplete. -/
theorem wit_ProcessorRowsComplete_8 : ∃ (proc : Fin 16) (s u : State),
    procPresent proc.val = true ∧ (s.proc proc.val).state = 5 ∧ proc.val ≠ 1 ∧ proc.val ≠ 2 ∧ (s.sup.hold ≠ 0 ∨ proc.val = 5 ∨ 8 ≤ proc.val) ∧ u = s.modProc proc.val (fun x => { x with state := 2, restarted := true, written := s.now, warned := false, presented := 0, timerAt := none }) :=
  ⟨5, { procs := [(5, { state := 5 })] }, _, by decide +kernel, by decide +kernel, by decide, by decide, by decide, rfl⟩

/-- A state and operands that meet the hypotheses of clause 1 of PortRowsComplete. -/
theorem wit_PortRowsComplete_1 : ∃ (port : Fin 2) (lane : Fin 4) (f : BitVec 4160) (due : Option (BitVec 16)) (codes : List (Fin 545)) (s u : State),
    2 ≤ (s.yport port.val).state ∧ (s.yport port.val).state ≤ 5 ∧ u = missCodewords (60 + 2 * port.val + 1) (10 + lane.val) (codes.map (·.val)) (yuleyRing port.val lane.val) (s.modPort port.val (fun y => { y with rx := tabMod y.rx (10 + lane.val) {} (fun x => (x.codes (codes.map (·.val))).1) })) ∧ ((tabGet (u.yport port.val).rx (10 + lane.val) {}).sound = false ∨ bits f.toNat 4128 32 ≠ railCrc f ∨ bits f.toNat 0 2 = 0 ∨ bits f.toNat 25 7 ≠ 0) :=
  ⟨0, 0, 0, none, [], yuleyUp, _, by decide +kernel, by decide +kernel, rfl, Or.inl (by decide +kernel)⟩

/-- A state and operands that meet the hypotheses of clause 2 of PortRowsComplete. -/
theorem wit_PortRowsComplete_2 : ∃ (port : Fin 2) (lane : Fin 4) (f : BitVec 4160) (due : Option (BitVec 16)) (codes : List (Fin 545)) (s u v : State),
    2 ≤ (s.yport port.val).state ∧ (s.yport port.val).state ≤ 5 ∧ u = missCodewords (60 + 2 * port.val + 1) (10 + lane.val) (codes.map (·.val)) (yuleyRing port.val lane.val) (s.modPort port.val (fun y => { y with rx := tabMod y.rx (10 + lane.val) {} (fun x => (x.codes (codes.map (·.val))).1) })) ∧ (tabGet (u.yport port.val).rx (10 + lane.val) {}).sound = true ∧ bits f.toNat 4128 32 = railCrc f ∧ bits f.toNat 0 2 ≠ 0 ∧ bits f.toNat 25 7 = 0 ∧ v = u.modPort port.val (fun y => { y with rx := tabMod y.rx (10 + lane.val) {} (fun y => y.pass (bit f.toNat 8) (bits f.toNat 0 2 == 3)) }) ∧ (tabGet (u.yport port.val).rx (10 + lane.val) {}).framed = false :=
  ⟨0, 0, railFrame0, none, [], yuleyHeld, _, _, by decide +kernel, by decide +kernel, rfl, by decide +kernel, by rw [railCrc_railFrame0]; decide +kernel, by decide +kernel, by decide +kernel, rfl, by decide +kernel⟩

/-- A state and operands that meet the hypotheses of clause 3 of PortRowsComplete. -/
theorem wit_PortRowsComplete_3 : ∃ (port : Fin 2) (lane : Fin 4) (f : BitVec 4160) (due : Option (BitVec 16)) (codes : List (Fin 545)) (s u v w : State),
    2 ≤ (s.yport port.val).state ∧ (s.yport port.val).state ≤ 5 ∧ u = missCodewords (60 + 2 * port.val + 1) (10 + lane.val) (codes.map (·.val)) (yuleyRing port.val lane.val) (s.modPort port.val (fun y => { y with rx := tabMod y.rx (10 + lane.val) {} (fun x => (x.codes (codes.map (·.val))).1) })) ∧ (tabGet (u.yport port.val).rx (10 + lane.val) {}).sound = true ∧ bits f.toNat 4128 32 = railCrc f ∧ bits f.toNat 0 2 ≠ 0 ∧ bits f.toNat 25 7 = 0 ∧ v = u.modPort port.val (fun y => { y with rx := tabMod y.rx (10 + lane.val) {} (fun y => y.pass (bit f.toNat 8) (bits f.toNat 0 2 == 3)) }) ∧ (tabGet (u.yport port.val).rx (10 + lane.val) {}).framed = true ∧ w = observe (60 + 2 * port.val + 1) (10 + lane.val) (yuleyIdentity f) (yuleyRing port.val lane.val) (v.modFibre (60 + 2 * port.val + 1) (fun g => { g with map := tabPut g.map (10 + lane.val) lane.val })) ∧ bits f.toNat 2 6 ≠ lane.val :=
  ⟨0, 1, railFrame0, none, [], yuleyFramed, _, _, _, by decide +kernel, by decide +kernel, rfl, by decide +kernel, by rw [railCrc_railFrame0]; decide +kernel, by decide +kernel, by decide +kernel, rfl, by decide +kernel, rfl, by decide +kernel⟩

/-- A state and operands that meet the hypotheses of clause 4 of PortRowsComplete. -/
theorem wit_PortRowsComplete_4 : ∃ (port : Fin 2) (lane : Fin 4) (f : BitVec 4160) (due : Option (BitVec 16)) (codes : List (Fin 545)) (s u v w : State),
    2 ≤ (s.yport port.val).state ∧ (s.yport port.val).state ≤ 5 ∧ u = missCodewords (60 + 2 * port.val + 1) (10 + lane.val) (codes.map (·.val)) (yuleyRing port.val lane.val) (s.modPort port.val (fun y => { y with rx := tabMod y.rx (10 + lane.val) {} (fun x => (x.codes (codes.map (·.val))).1) })) ∧ (tabGet (u.yport port.val).rx (10 + lane.val) {}).sound = true ∧ bits f.toNat 4128 32 = railCrc f ∧ bits f.toNat 0 2 ≠ 0 ∧ bits f.toNat 25 7 = 0 ∧ v = u.modPort port.val (fun y => { y with rx := tabMod y.rx (10 + lane.val) {} (fun y => y.pass (bit f.toNat 8) (bits f.toNat 0 2 == 3)) }) ∧ (tabGet (u.yport port.val).rx (10 + lane.val) {}).framed = true ∧ w = observe (60 + 2 * port.val + 1) (10 + lane.val) (yuleyIdentity f) (yuleyRing port.val lane.val) (v.modFibre (60 + 2 * port.val + 1) (fun g => { g with map := tabPut g.map (10 + lane.val) lane.val })) ∧ bits f.toNat 2 6 = lane.val ∧ ((w.yport port.val).state ≠ 5 ∨ bit (w.yport port.val).lanes lane.val = false) :=
  ⟨0, 0, railFrame0, none, [], yuleyTraining, _, _, _, by decide +kernel, by decide +kernel, rfl, by decide +kernel, by rw [railCrc_railFrame0]; decide +kernel, by decide +kernel, by decide +kernel, rfl, by decide +kernel, rfl, by decide +kernel, Or.inl (by decide +kernel)⟩

/-- A state and operands that meet the hypotheses of clause 5 of PortRowsComplete. -/
theorem wit_PortRowsComplete_5 : ∃ (port : Fin 2) (lane : Fin 4) (f : BitVec 4160) (due : Option (BitVec 16)) (codes : List (Fin 545)) (s u v w : State),
    2 ≤ (s.yport port.val).state ∧ (s.yport port.val).state ≤ 5 ∧ u = missCodewords (60 + 2 * port.val + 1) (10 + lane.val) (codes.map (·.val)) (yuleyRing port.val lane.val) (s.modPort port.val (fun y => { y with rx := tabMod y.rx (10 + lane.val) {} (fun x => (x.codes (codes.map (·.val))).1) })) ∧ (tabGet (u.yport port.val).rx (10 + lane.val) {}).sound = true ∧ bits f.toNat 4128 32 = railCrc f ∧ bits f.toNat 0 2 ≠ 0 ∧ bits f.toNat 25 7 = 0 ∧ v = u.modPort port.val (fun y => { y with rx := tabMod y.rx (10 + lane.val) {} (fun y => y.pass (bit f.toNat 8) (bits f.toNat 0 2 == 3)) }) ∧ (tabGet (u.yport port.val).rx (10 + lane.val) {}).framed = true ∧ w = observe (60 + 2 * port.val + 1) (10 + lane.val) (yuleyIdentity f) (yuleyRing port.val lane.val) (v.modFibre (60 + 2 * port.val + 1) (fun g => { g with map := tabPut g.map (10 + lane.val) lane.val })) ∧ bits f.toNat 2 6 = lane.val ∧ (w.yport port.val).state = 5 ∧ bit (w.yport port.val).lanes lane.val = true :=
  ⟨0, 0, railFrame0, none, [], yuleyFramed, _, _, _, by decide +kernel, by decide +kernel, rfl, by decide +kernel, by rw [railCrc_railFrame0]; decide +kernel, by decide +kernel, by decide +kernel, rfl, by decide +kernel, rfl, by decide +kernel, by decide +kernel, by decide +kernel⟩

/-- A state and operands that meet the hypotheses of clause 6 of PortRowsComplete. -/
theorem wit_PortRowsComplete_6 : ∃ (raiser : Fin 16) (s : State) (r : Record),
    s.err.raised.find? (fun r => r.raiser == raiser.val) = some r ∧ s.procUp 3 = true :=
  ⟨0, { err := { raised := [{}] } }, {}, by decide +kernel, by decide +kernel⟩

/-- A state and operands that meet the hypotheses of clause 7 of PortRowsComplete. -/
theorem wit_PortRowsComplete_7 : ∃ (s : State) (r : Record) (rest : List Record) (q : Nat),
    s.yuley.events = r :: rest ∧ s.portFor 0 = some q ∧ (tabGet s.yuley.subs (r.code / 256) {}).enabled = true :=
  ⟨{ yuley := { ports := [(0, { state := 5 })], events := [{}], subs := [(0, { enabled := true })] } }, {}, [], 0, by decide +kernel, by decide +kernel, by decide +kernel⟩

/-- A state and operands that meet the hypotheses of clause 8 of PortRowsComplete. -/
theorem wit_PortRowsComplete_8 : ∃ (s : State) (r : Record) (rest : List Record) (q : Nat),
    s.yuley.events = r :: rest ∧ s.portFor 0 = some q ∧ (tabGet s.yuley.subs (r.code / 256) {}).enabled = false :=
  ⟨{ yuley := { ports := [(0, { state := 5 })], events := [{}] } }, {}, [], 0, by decide +kernel, by decide +kernel, by decide +kernel⟩

/-- A state and operands that meet the hypotheses of clause 9 of PortRowsComplete. -/
theorem wit_PortRowsComplete_9 : ∃ (port : Fin 2) (channel : Fin 8) (s : State) (q : Nat),
    s.portFor port.val = some q :=
  ⟨0, 0, { yuley := { ports := [(0, { state := 5 })], chans := [(0, { held := [{}] })] } }, 0, by decide +kernel⟩

/-- A state and operands that meet the hypotheses of clause 1 of InterruptRowsComplete. -/
theorem wit_InterruptRowsComplete_1 : ∃ (proc : Fin 16) (source : Fin 64) (edges : Fin 3) (high : Bool) (s : State),
    procPresent proc.val = true ∧ inputUsed proc.val source.val = true ∧ (s.proc proc.val).state ≠ 0 ∧ (source.val = 48 → s.atBoundary = true) :=
  ⟨0, 16, 1, true, { procs := [(0, { state := 2 })] }, by decide +kernel, by decide +kernel, by decide +kernel, by decide⟩

/-- A state and operands that meet the hypotheses of clause 2 of InterruptRowsComplete. -/
theorem wit_InterruptRowsComplete_2 : ∃ (proc : Fin 16) (s : State),
    procPresent proc.val = true ∧ ((s.proc proc.val).state = 2 ∨ (s.proc proc.val).state = 3) ∧ (s.proc proc.val).presented = 0 ∧ deliverable (s.proc proc.val) ≠ 0 ∧ mayDeliver s proc.val = true :=
  ⟨0, { procs := [(0, { state := 3, pend := 1, enable := 1 })] }, by decide +kernel, by decide +kernel, by decide +kernel, by decide +kernel, by decide +kernel⟩

/-- A state and operands that meet the hypotheses of clause 3 of InterruptRowsComplete. -/
theorem wit_InterruptRowsComplete_3 : ∃ (proc : Fin 16) (bits : BitVec 64) (act : ProcAct) (s : State),
    procPresent proc.val = true ∧ (s.proc proc.val).state = 2 :=
  ⟨0, 1, {}, { procs := [(0, { state := 2 })] }, by decide +kernel, by decide +kernel⟩

/-- A state and operands that meet the hypotheses of clause 4 of InterruptRowsComplete. -/
theorem wit_InterruptRowsComplete_4 : ∃ (proc : Fin 16) (bits : BitVec 64) (s : State),
    procPresent proc.val = true ∧ (s.proc proc.val).state = 2 :=
  ⟨0, 1, { procs := [(0, { state := 2 })] }, by decide +kernel, by decide +kernel⟩

/-- A state and operands that meet the hypotheses of clause 5 of InterruptRowsComplete. -/
theorem wit_InterruptRowsComplete_5 : ∃ (proc : Fin 16) (bits : BitVec 64) (s : State),
    procPresent proc.val = true ∧ (s.proc proc.val).state = 2 :=
  ⟨0, 1, { procs := [(0, { state := 2 })] }, by decide +kernel, by decide +kernel⟩

/-- A state and operands that meet the hypotheses of clause 6 of InterruptRowsComplete. -/
theorem wit_InterruptRowsComplete_6 : ∃ (proc : Fin 16) (source : Fin 64) (s : State) (g : Nat),
    procPresent proc.val = true ∧ (s.proc proc.val).stuckTh ≠ 0 ∧ tabFind (s.proc proc.val).cleared source.val = some g ∧ g + (s.proc proc.val).stuckTh * 1024 ≤ s.now ∧ bit (s.proc proc.val).line.toNat source.val = true ∧ bit (s.proc proc.val).episode.toNat source.val = false ∧ (s.proc proc.val).state ≠ 4 :=
  ⟨0, 16, { time := { now := 2000 }, procs := [(0, { state := 2, stuckTh := 1, cleared := [(16, 0)], line := 0x10000 })] }, 0, by decide +kernel, by decide +kernel, by decide +kernel, by decide +kernel, by decide +kernel, by decide +kernel, by decide +kernel⟩

/-- A state and operands that meet the hypotheses of clause 7 of InterruptRowsComplete. -/
theorem wit_InterruptRowsComplete_7 : ∃ (proc : Fin 16) (source : Fin 64) (s : State),
    procPresent proc.val = true ∧ bit (s.proc proc.val).episode.toNat source.val = true :=
  ⟨0, 16, { procs := [(0, { episode := 0x10000 })] }, by decide +kernel, by decide +kernel⟩

/-- A state and operands that meet the hypotheses of clause 8 of InterruptRowsComplete. -/
theorem wit_InterruptRowsComplete_8 : ∃ (proc : Fin 16) (s : State) (g : Nat),
    procPresent proc.val = true ∧ (s.proc proc.val).timerAt = some g ∧ g ≤ s.now :=
  ⟨0, { procs := [(0, { timerAt := some 0 })] }, 0, by decide +kernel, by decide +kernel, by decide +kernel⟩

/-- A state and operands that meet the hypotheses of clause 9 of InterruptRowsComplete. -/
theorem wit_InterruptRowsComplete_9 : ∃ (proc : Fin 16) (s : State),
    procPresent proc.val = true ∧ (s.proc proc.val).state = 3 ∧ (proc.val = 1 ∨ proc.val = 2 → (s.proc proc.val).sleepOk = true) ∧ (proc.val = 3 → s.yuley.isOpen = false) :=
  ⟨0, { procs := [(0, { state := 3 })] }, by decide +kernel, by decide +kernel, by decide +kernel, by decide +kernel⟩

/-- A state and operands that meet the hypotheses of clause 10 of InterruptRowsComplete. -/
theorem wit_InterruptRowsComplete_10 : ∃ (proc : Fin 16) (ordered : Bool) (s : State) (r : Retained),
    procPresent proc.val = true ∧ (s.proc proc.val).state = 4 ∧ (s.proc proc.val).retained = some r ∧ (ordered = true ∨ (s.proc proc.val).latch.any (fun c => c.2 != 0 && (bit r.enable.toNat c.1 || c.1 == 49)) = true) :=
  ⟨0, true, { procs := [(0, { state := 4, retained := some {} })] }, {}, by decide +kernel, by decide +kernel, by decide +kernel, by decide +kernel⟩

/-- A state and operands that meet the hypotheses of clause 2 of PowerRowsComplete. -/
theorem wit_PowerRowsComplete_2 : ∃ (volts : BitVec 12) (s u : State),
    (1240 ≤ volts.toNat ∧ volts.toNat < 1320 ∨ 1560 < volts.toNat ∧ volts.toNat ≤ 1600) ∧ s.pwr.rangeEpisode = false ∧ u = { s with pwr := { s.pwr with range := true, rangeEpisode := true } } :=
  ⟨1300, {}, _, by decide, by decide +kernel, rfl⟩

/-- A state and operands that meet the hypotheses of clause 3 of PowerRowsComplete. -/
theorem wit_PowerRowsComplete_3 : ∃ (volts : BitVec 12) (s : State),
    (1240 ≤ volts.toNat ∧ volts.toNat < 1320 ∨ 1560 < volts.toNat ∧ volts.toNat ≤ 1600) ∧ s.pwr.rangeEpisode = true :=
  ⟨1300, { pwr := { rangeEpisode := true } }, by decide +kernel, by decide +kernel⟩

/-- A state and operands that meet the hypotheses of clause 4 of PowerRowsComplete. -/
theorem wit_PowerRowsComplete_4 : ∃ (volts : BitVec 12) (s : State),
    ¬ (1240 ≤ volts.toNat ∧ volts.toNat < 1320) ∧ ¬ (1560 < volts.toNat ∧ volts.toNat ≤ 1600) :=
  ⟨1400, {}, by decide +kernel, by decide +kernel⟩

/-- A state and operands that meet the hypotheses of clause 5 of PowerRowsComplete. -/
theorem wit_PowerRowsComplete_5 : ∃ (kind : Fin 4) (index : BitVec 16) (s u : State),
    domainOk kind.val index.toNat = true ∧ s.pwr.domainsOff = false ∧ s.pwr.regFaults.contains (kind.val, index.toNat) = false ∧ u = raise 0x0A03 0 (kind.val + index.toNat * 256) 0 0 0 { s with pwr := { s.pwr with regFaults := s.pwr.regFaults ++ [(kind.val, index.toNat)] } } :=
  ⟨1, 3, { pwr := { domainsOff := false } }, _, by decide +kernel, by decide +kernel, by decide +kernel, rfl⟩

/-- A state and operands that meet the hypotheses of clause 6 of PowerRowsComplete. -/
theorem wit_PowerRowsComplete_6 : ∃ (kind : Fin 4) (index : BitVec 16) (s : State),
    domainOk kind.val index.toNat = true ∧ (s.pwr.domainsOff = true ∨ s.pwr.regFaults.contains (kind.val, index.toNat) = true) :=
  ⟨1, 3, { pwr := { domainsOff := true } }, by decide +kernel, by decide +kernel⟩

/-- A state and operands that meet the hypotheses of clause 7 of PowerRowsComplete. -/
theorem wit_PowerRowsComplete_7 : ∃ (s : State),
    (s.pwr.trip = true ∨ s.pwr.stagesOff = true) :=
  ⟨{ pwr := { stagesOff := true } }, by decide +kernel⟩

/-- A state and operands that meet the hypotheses of clause 8 of PowerRowsComplete. -/
theorem wit_PowerRowsComplete_8 : ∃ (s : State),
    s.pwr.trip = false ∧ s.pwr.stagesOff = false :=
  ⟨{ pwr := { stagesOff := false } }, by decide +kernel, by decide +kernel⟩

/-- A state and operands that meet the hypotheses of clause 1 of ResetRowsComplete. -/
theorem wit_ResetRowsComplete_1 : ∃ (s : State),
    s.rst.resetN = true :=
  ⟨{ rst := { resetN := true } }, by decide +kernel⟩

/-- A state and operands that meet the hypotheses of clause 2 of ResetRowsComplete. -/
theorem wit_ResetRowsComplete_2 : ∃ (s : State),
    s.rst.resetN = false :=
  ⟨{ rst := { resetN := false } }, by decide +kernel⟩

/-- A state and operands that meet the hypotheses of clause 3 of ResetRowsComplete. -/
theorem wit_ResetRowsComplete_3 : ∃ (cause : Fin 3) (s u : State),
    u = powerOnAssert { s with rst := { s.rst with pwrOk := s.rst.pwrOk && decide (cause.val ≠ 2) }, pwr := { s.pwr with lockout := s.pwr.lockout || decide (cause.val = 1) } } :=
  ⟨0, {}, _, rfl⟩

/-- A state and operands that meet the hypotheses of clause 4 of ResetRowsComplete. -/
theorem wit_ResetRowsComplete_4 : ∃ (s : State) (ep : Episode),
    s.rst.episode = some ep ∧ ep.por = true :=
  ⟨{ rst := { episode := some { por := true } } }, { por := true }, by decide +kernel, by decide +kernel⟩

/-- A state and operands that meet the hypotheses of clause 5 of ResetRowsComplete. -/
theorem wit_ResetRowsComplete_5 : ∃ (s u v : State) (ep : Episode) (level : Nat),
    s.rst.episode = some ep ∧ ep.pin = false ∧ ep.por = false ∧ level = (if ep.level = 2 ∧ s.rst.built = false then 3 else ep.level) ∧ u = (if level ≠ ep.level then clearLevel 3 false s else s) ∧ v = { u with rst := { u.rst with episode := none, lastLevel := level, lastSource := b2n ep.sawPin + 2 * b2n ep.sawPor } } :=
  ⟨{ rst := { built := true, episode := some { level := 2, pin := false, por := false } } }, _, _, { level := 2, pin := false, por := false }, 2, by decide +kernel, by decide, by decide, by decide +kernel, rfl, rfl⟩

/-- A state and operands that meet the hypotheses of clause 6 of ResetRowsComplete. -/
theorem wit_ResetRowsComplete_6 : ∃ (test : BringTest) (s : State),
    coldRuns s = true ∧ s.rst.step ≠ 1 ∧ (s.rst.step = 12 → s.time.st = .locked) :=
  ⟨{}, { rst := { state := 1, step := 3, episode := none }, pwr := { stagesOff := false }, sup := { hold := 1 } }, by decide +kernel, by decide, by decide⟩

/-- A state and operands that meet the hypotheses of clause 7 of ResetRowsComplete. -/
theorem wit_ResetRowsComplete_7 : ∃ (test : BringTest) (s : State),
    coldRuns s = true ∧ s.rst.step = 1 ∧ s.sec.nextJudge = 0 :=
  ⟨{}, { rst := { state := 1, step := 1, episode := none }, pwr := { stagesOff := false } }, by decide +kernel, by decide +kernel, by decide +kernel⟩

/-- A state and operands that meet the hypotheses of clause 8 of ResetRowsComplete. -/
theorem wit_ResetRowsComplete_8 : ∃ (test : BringTest) (s u : State),
    coldRuns s = true ∧ s.rst.stepSince + stepLimit s.rst.step < s.now ∧ 2 ≤ s.rst.step ∧ s.rst.step ≤ 5 ∧ u = { failBringup s.rst.step s with rst := { (failBringup s.rst.step s).rst with state := 6, step := 0 } } :=
  ⟨{}, { time := { now := 100000000000 }, rst := { state := 1, step := 3, episode := none }, pwr := { stagesOff := false }, sup := { hold := 1 } }, _, by decide +kernel, by decide +kernel, by decide, by decide, rfl⟩

/-- A state and operands that meet the hypotheses of clause 9 of ResetRowsComplete. -/
theorem wit_ResetRowsComplete_9 : ∃ (test : BringTest) (s : State),
    coldRuns s = true ∧ s.rst.stepSince + stepLimit s.rst.step < s.now ∧ (s.rst.step = 6 ∨ s.rst.step = 8 ∨ s.rst.step = 9 ∨ s.rst.step = 11 ∨ s.rst.step = 12) :=
  ⟨{}, { time := { now := 100000000000 }, rst := { state := 1, step := 6, episode := none }, pwr := { stagesOff := false }, sup := { hold := 1 } }, by decide +kernel, by decide +kernel, by decide⟩

/-- A state and operands that meet the hypotheses of clause 10 of ResetRowsComplete. -/
theorem wit_ResetRowsComplete_10 : ∃ (test : BringTest) (s : State),
    coldRuns s = true ∧ s.rst.stepSince + stepLimit s.rst.step < s.now ∧ (s.rst.step = 0 ∨ s.rst.step = 1 ∨ s.rst.step = 7 ∨ s.rst.step = 10) :=
  ⟨{}, { time := { now := 10000000000000 }, rst := { state := 1, step := 7, episode := none }, pwr := { stagesOff := false }, sup := { hold := 1 } }, by decide +kernel, by decide +kernel, by decide⟩

/-- A state and operands that meet the hypotheses of clause 11 of ResetRowsComplete. -/
theorem wit_ResetRowsComplete_11 : ∃ (s : State),
    coldRuns s = true ∧ s.rst.step = 1 ∧ s.sec.nextJudge ≠ 0 ∧ s.sec.nextJudge ≤ s.now :=
  ⟨{ rst := { state := 1, step := 1, episode := none }, pwr := { stagesOff := false }, sec := { nextJudge := 1 }, time := { now := 5 } }, by decide +kernel, by decide +kernel, by decide +kernel, by decide +kernel⟩

/-- A state and operands that meet the hypotheses of clause 12 of ResetRowsComplete. -/
theorem wit_ResetRowsComplete_12 : ∃ (s u : State),
    s.rst.state = 2 ∧ s.rst.warm = true ∧ s.sup.hold ≠ 0 ∧ u = s.parts.foldl (fun s p => markDegraded p.1 s) s :=
  ⟨{ rst := { state := 2, warm := true }, sup := { hold := 1 } }, _, by decide, by decide, by decide, rfl⟩

/-- A state and operands that meet the hypotheses of clause 1 of SupervisorRowsComplete. -/
theorem wit_SupervisorRowsComplete_1 : ∃ (s : State),
    supRuns s = true :=
  ⟨{ sup := { hold := 1 }, procs := [(1, { state := 2 })] }, by decide +kernel⟩

/-- A state and operands that meet the hypotheses of clause 2 of SupervisorRowsComplete. -/
theorem wit_SupervisorRowsComplete_2 : ∃ (s u : State),
    s.sup.hold ≠ 0 ∧ s.sup.beat + 10 ^ 7 ≤ s.now ∧ u = (clearProc (endCommit s) s.sup.hold).modProc s.sup.hold (fun x => { x with state := 0 }) :=
  ⟨{ sup := { hold := 1 }, time := { now := 10000000 } }, _, by decide, by decide +kernel, rfl⟩

/-- A state and operands that meet the hypotheses of clause 3 of SupervisorRowsComplete. -/
theorem wit_SupervisorRowsComplete_3 : ∃ (s u : State) (g : Nat),
    s.sup.phase = 1 ∧ s.sup.hold = 0 ∧ s.sup.aReleased = true ∧ s.sup.headlessDue = none ∧ s.sup.bBooted = true ∧ s.sup.released = some g ∧ s.now ≤ g + 500000000 ∧ procRuns s 2 = true ∧ s.rst.episode = none ∧ u = resumePolicy (chooseSaved s).1 { s with sup := { s.sup with hold := 2, phase := 0, failover := true, source := (chooseSaved s).2, takeover := min 1023 ((s.now - g) / 1000000), beat := s.now }, rst := { s.rst with stepSince := s.now } } :=
  ⟨{ sup := { phase := 1, hold := 0, aReleased := true, headlessDue := none, bBooted := true, released := some 0 }, procs := [(2, { state := 2 })], rst := { episode := none } }, _, 0, by decide, by decide, by decide, by decide, by decide, by decide, by decide +kernel, by decide +kernel, by decide, rfl⟩

/-- A state and operands that meet the hypotheses of clause 4 of SupervisorRowsComplete. -/
theorem wit_SupervisorRowsComplete_4 : ∃ (s : State) (g : Nat),
    s.sup.released = some g ∧ s.sup.phase = 1 ∧ s.sup.hold = 0 ∧ s.sup.headlessDue = none ∧ g + 500000000 < s.now :=
  ⟨{ sup := { released := some 0, phase := 1, hold := 0, headlessDue := none }, time := { now := 600000000 } }, 0, by decide +kernel, by decide +kernel, by decide +kernel, by decide +kernel, by decide +kernel⟩

/-- A state and operands that meet the hypotheses of clause 5 of SupervisorRowsComplete. -/
theorem wit_SupervisorRowsComplete_5 : ∃ (s : State) (g : Nat),
    s.sup.headlessDue = some g ∧ s.atBoundary = true ∧ g < s.now :=
  ⟨{ sup := { headlessDue := some 0 }, time := { now := 4096 } }, 0, by decide +kernel, by decide +kernel, by decide +kernel⟩

/-- A state and operands that meet the hypotheses of clause 6 of SupervisorRowsComplete. -/
theorem wit_SupervisorRowsComplete_6 : ∃ (s : State),
    s.sup.headlessDue = none ∧ s.sup.phase = 2 ∧ s.cut.state = .running ∧ s.cut.safeDue = true ∧ s.schedBoundary = true :=
  ⟨{ sup := { headlessDue := none, phase := 2 }, time := { now := 4096, strobed := some 4096 }, cut := { state := .running, safeDue := true, runBase := 4096 } }, by decide +kernel, by decide +kernel, by decide +kernel, by decide +kernel, by decide +kernel⟩

/-- A state and operands that meet the hypotheses of clause 7 of SupervisorRowsComplete. -/
theorem wit_SupervisorRowsComplete_7 : ∃ (s : State),
    s.sup.headlessDue = none ∧ s.sup.phase = 2 ∧ s.cut.state ≠ .running ∧ s.cut.safeDue = true :=
  ⟨{ sup := { headlessDue := none, phase := 2 }, cut := { state := .halted, safeDue := true } }, by decide +kernel, by decide +kernel, by decide +kernel, by decide +kernel⟩

/-- A state and operands that meet the hypotheses of clause 8 of SupervisorRowsComplete. -/
theorem wit_SupervisorRowsComplete_8 : ∃ (s : State),
    s.sup.headlessDue = none ∧ s.sup.phase = 2 ∧ s.cut.state = .running ∧ s.cut.safeDue = false ∧ s.cut.safeStop = true ∧ drained s = true :=
  ⟨{ sup := { headlessDue := none, phase := 2 }, cut := { state := .running, safeStop := true } }, by decide +kernel, by decide +kernel, by decide +kernel, by decide +kernel, by decide +kernel, by decide +kernel⟩

/-- A state and operands that meet the hypotheses of clause 9 of SupervisorRowsComplete. -/
theorem wit_SupervisorRowsComplete_9 : ∃ (s : State),
    supRuns s = true ∧ s.atBoundary = true ∧ savedStale s s.sup.retained = true ∧ s.sup.savedAt < s.now :=
  ⟨{ sup := { hold := 1 }, procs := [(1, { state := 2 })], time := { now := 4096 } }, by decide +kernel, by decide +kernel, by decide +kernel, by decide +kernel⟩

/-- A state and operands that meet the hypotheses of clause 10 of SupervisorRowsComplete. -/
theorem wit_SupervisorRowsComplete_10 : ∃ (ok : Bool) (s : State),
    supRuns s = true ∧ s.sup.flashAt + 10 ^ 10 ≤ s.now :=
  ⟨true, { sup := { hold := 1 }, procs := [(1, { state := 2 })], time := { now := 20000000000 } }, by decide +kernel, by decide +kernel⟩

/-- A state and operands that meet the hypotheses of clause 2 of DebugPortRowsComplete. -/
theorem wit_DebugPortRowsComplete_2 : ∃ (code : BitVec 8) (s : State),
    code ∉ [0, 1, 2, 0x10, 0x11, 0xFF] :=
  ⟨5, {}, by decide +kernel⟩

/-- A state and operands that meet the hypotheses of clause 3 of DebugPortRowsComplete. -/
theorem wit_DebugPortRowsComplete_3 : ∃ (a : BitVec 24) (data : BitVec 64) (s : State),
    flashOpen s = true :=
  ⟨0, 0, { sec := { scopes := 7 }, rst := { episode := none, state := 4 } }, by decide +kernel⟩

/-- A state and operands that meet the hypotheses of clause 4 of DebugPortRowsComplete. -/
theorem wit_DebugPortRowsComplete_4 : ∃ (a : BitVec 24) (data : BitVec 64) (s : State),
    flashOpen s = true :=
  ⟨0, 0, { sec := { scopes := 7 }, rst := { episode := none, state := 4 } }, by decide +kernel⟩

/-- A state and operands that meet the hypotheses of clause 5 of DebugPortRowsComplete. -/
theorem wit_DebugPortRowsComplete_5 : ∃ (a : BitVec 24) (data : BitVec 64) (s : State),
    flashOpen s = true ∧ inSlots a.toNat = true :=
  ⟨0x400000, 0, { sec := { scopes := 7 }, rst := { episode := none, state := 4 } }, by decide +kernel, by decide +kernel⟩

/-- A state and operands that meet the hypotheses of clause 6 of DebugPortRowsComplete. -/
theorem wit_DebugPortRowsComplete_6 : ∃ (a : BitVec 24) (data : BitVec 64) (s : State),
    flashOpen s = true ∧ inSlots a.toNat = false :=
  ⟨0, 0, { sec := { scopes := 7 }, rst := { episode := none, state := 4 } }, by decide +kernel, by decide +kernel⟩

/-- A state and operands that meet the hypotheses of clause 7 of DebugPortRowsComplete. -/
theorem wit_DebugPortRowsComplete_7 : ∃ (a : BitVec 24) (command : BitVec 8) (data : BitVec 64) (s : State),
    flashOpen s = true ∧ command ∉ [1, 2, 3] :=
  ⟨0, 0, 0, { sec := { scopes := 7 }, rst := { episode := none, state := 4 } }, by decide +kernel, by decide +kernel⟩

/-- A state and operands that meet the hypotheses of clause 8 of DebugPortRowsComplete. -/
theorem wit_DebugPortRowsComplete_8 : ∃ (a : BitVec 24) (command : BitVec 8) (data : BitVec 64) (s : State),
    flashOpen s = false :=
  ⟨0, 0, 0, { rst := { episode := none, state := 4 } }, by decide +kernel⟩

/-- A state and operands that meet the hypotheses of clause 9 of DebugPortRowsComplete. -/
theorem wit_DebugPortRowsComplete_9 : ∃ (panel : BitVec 16) (s u : State) (n : Nat),
    bit s.scopesNow 2 = true ∧ s.cut.state ≠ .armed ∧ s.cut.state ≠ .running ∧ s.cut.state ≠ .paused ∧ panel.toNat < 0x1000 ∧ panel.toNat % 512 ≤ 288 ∧ n = tabGet s.dbg.scanned panel.toNat 0 ∧ u = { s with dbg := { s.dbg with scanned := tabPut s.dbg.scanned panel.toNat (n + 1) } } :=
  ⟨0, { sec := { scopes := 7 }, rst := { episode := none, state := 4 } }, _, _, by decide +kernel, by decide, by decide, by decide, by decide, by decide, rfl, rfl⟩

/-- A state and operands that meet the hypotheses of clause 10 of DebugPortRowsComplete. -/
theorem wit_DebugPortRowsComplete_10 : ∃ (panel : BitVec 16) (s : State),
    (bit s.scopesNow 2 = false ∨ s.cut.state = .armed ∨ s.cut.state = .running ∨ s.cut.state = .paused ∨ 0x1000 ≤ panel.toNat ∨ 288 < panel.toNat % 512) :=
  ⟨0, { rst := { episode := none, state := 4 } }, by decide +kernel⟩

/-- A state and operands that meet the hypotheses of clause 13 of DebugPortRowsComplete. -/
theorem wit_DebugPortRowsComplete_13 : ∃ (count : Nat) (s : State) (snap : List (BitVec 8)),
    snap = (if s.dbg.snapshot.isEmpty then snapshotOf s else s.dbg.snapshot) :=
  ⟨1, {}, _, rfl⟩

/-- A state and operands that meet the hypotheses of clause 1 of FirstFailedCheckAnswers. -/
theorem wit_FirstFailedCheckAnswers_1 : ∃ (c : Instr) (p : CmdPkt) (s : State),
    IsRow p c ∧ canStart s p = true ∧ cmdStatus s p ≠ 0 :=
  ⟨.memFill (pkt 0x202 []) [], pkt 0x202 [], ready, ⟨rfl, by decide +kernel⟩, by decide +kernel, by decide +kernel⟩

/-- A state and operands that meet the hypotheses of clause 2 of FirstFailedCheckAnswers. -/
theorem wit_FirstFailedCheckAnswers_2 : ∃ (p : CmdPkt) (s : State),
    (p.opcode ≠ 0x300 ∨ cmdStatus s p ≠ 0x0213) ∧ cmdStatus s p ≠ 0 :=
  ⟨pkt 1 [], ready, by decide +kernel, by decide +kernel⟩

/-- A state and operands that meet the hypotheses of clause 3 of FirstFailedCheckAnswers. -/
theorem wit_FirstFailedCheckAnswers_3 : ∃ (c : Instr) (p : CmdPkt) (s : State),
    IsRow p c ∧ canStart s p = false :=
  ⟨.ping (pkt 1 []), pkt 1 [], {}, ⟨rfl, by decide +kernel⟩, by decide +kernel⟩

/-- A state and operands that meet the hypotheses of clause 1 of HeadlessRefusesAllButSeven. -/
theorem wit_HeadlessRefusesAllButSeven_1 : ∃ (c : Instr) (p : CmdPkt) (s : State),
    IsRow p c ∧ canStart s p = true ∧ s.yuley.headless = true ∧ formStatus s p = 0 ∧ rangeStatus p = 0 ∧ (0xF00 ≤ p.opcode → bit s.scopesNow 0 = true) ∧ p.opcode ∉ [0x000, 0x001, 0x100, 0x700, 0x701, 0x600, 0x601] :=
  ⟨.startRun (pkt 0x301 (toBytes 16 65536)), pkt 0x301 (toBytes 16 65536), { ready with yuley := { isOpen := true, gen := 1, headless := true, ports := [(0, { state := 5 })] } }, ⟨rfl, by decide +kernel⟩, by decide +kernel, by decide +kernel, by decide +kernel, by decide +kernel, by decide +kernel, by decide +kernel⟩

/-- A state and operands that meet the hypotheses of clause 2 of HeadlessRefusesAllButSeven. -/
theorem wit_HeadlessRefusesAllButSeven_2 : ∃ (p : CmdPkt) (s : State),
    s.yuley.headless = true ∧ formStatus s p = 0 ∧ rangeStatus p = 0 ∧ p.opcode ∈ [0x000, 0x001, 0x100, 0x700, 0x701, 0x600, 0x601] :=
  ⟨pkt 1 (toBytes 8 5), { ready with yuley := { isOpen := true, gen := 1, headless := true, ports := [(0, { state := 5 })] } }, by decide +kernel, by decide +kernel, by decide +kernel, by decide +kernel⟩

/-- A state and operands that meet the hypotheses of clause 1 of ErrAckAcknowledgesUpToItsValue. -/
theorem wit_ErrAckAcknowledgesUpToItsValue_1 : ∃ (p : CmdPkt) (s : State) (v : Nat),
    Writes 0x01600001 v p s ∧ s.err.log ≠ [] ∧ oldestSeq s ≤ v ∧ v < s.yuley.nextSeq :=
  ⟨wpkt 0x01600001 8 3, { ready with err := { log := [(0, { eseq := 3 })] }, yuley := { isOpen := true, gen := 1, ports := [(0, { state := 5 })], nextSeq := 4 } }, 3, by unfold Writes Accepted; decide +kernel, by decide +kernel, by decide +kernel, by decide +kernel⟩

/-- A state and operands that meet the hypotheses of clause 2 of ErrAckAcknowledgesUpToItsValue. -/
theorem wit_ErrAckAcknowledgesUpToItsValue_2 : ∃ (p : CmdPkt) (s : State) (v : Nat),
    Writes 0x01600001 v p s ∧ s.err.log ≠ [] ∧ (v < oldestSeq s ∨ s.yuley.nextSeq ≤ v) :=
  ⟨wpkt 0x01600001 8 4, { ready with err := { log := [(0, { eseq := 3 })] }, yuley := { isOpen := true, gen := 1, ports := [(0, { state := 5 })], nextSeq := 4 } }, 4, by unfold Writes Accepted; decide +kernel, by decide +kernel, by decide +kernel⟩

/-- A state and operands that meet the hypotheses of clause 1 of MemWriteWritesExactlyItsBytes. -/
theorem wit_MemWriteWritesExactlyItsBytes_1 : ∃ (p : CmdPkt) (s t : State) (a : Nat),
    Accepted 0x200 p s ∧ s.hbm.errs = [] ∧ memWf 0 s.hbm.mem = true ∧ exec (.memWrite p []) s = .next t ∧ (a < p.arg 0 8 ∨ p.arg 0 8 + (p.payload.length - 8) ≤ a) :=
  ⟨pkt 0x200 (toBytes 16 4096), { ready with hbm := { size := 1 } }, writeXfer (pkt 0x200 (toBytes 16 4096)) (pkt 0x200 (toBytes 16 4096)).ref [] ((toBytes 16 4096).drop 8) (takePacket (pkt 0x200 (toBytes 16 4096)) { ready with hbm := { size := 1 } }), 0, by unfold Accepted; decide +kernel, by decide +kernel, by decide +kernel, by
    show Host.Outcome.next (runCmd _ _ _ _) = _
    rw [runCmd_accepted (op := 0x200) (by unfold Accepted; decide +kernel) _ (by intro _; decide +kernel)]
    rfl, by decide +kernel⟩

/-- A state and operands that meet the hypotheses of clause 2 of MemWriteWritesExactlyItsBytes. -/
theorem wit_MemWriteWritesExactlyItsBytes_2 : ∃ (p : CmdPkt) (s t : State) (i : Nat),
    Accepted 0x200 p s ∧ s.hbm.errs = [] ∧ memWf 0 s.hbm.mem = true ∧ s.rst.blocks = [] ∧ (∀ h < 32, (s.mstack h).state = 2) ∧ exec (.memWrite p []) s = .next t ∧ i < p.payload.length - 8 :=
  ⟨pkt 0x200 (toBytes 16 4096), memUp, writeXfer (pkt 0x200 (toBytes 16 4096)) (pkt 0x200 (toBytes 16 4096)).ref [] ((toBytes 16 4096).drop 8) (takePacket (pkt 0x200 (toBytes 16 4096)) memUp), 0, by unfold Accepted; decide +kernel, by decide +kernel, by decide +kernel, by decide +kernel, by decide +kernel, by
    show Host.Outcome.next (runCmd _ _ _ _) = _
    rw [runCmd_accepted (op := 0x200) (by unfold Accepted; decide +kernel) _ (by intro _; decide +kernel)]
    rfl, by decide +kernel⟩

/-- A state and operands that meet the hypotheses of clause 1 of ControlCommandsKeepMemory. -/
theorem wit_ControlCommandsKeepMemory : ∃ (p : CmdPkt) (c : Instr) (s t : State),
    c ∈ [Instr.hello p, Instr.ping p, Instr.paramRead p, Instr.paramWrite p, Instr.evtSubscribe p, Instr.evtQuery p, Instr.startRun p, Instr.pauseRun p, Instr.resumeRun p, Instr.loadList p, Instr.saveImage p, Instr.restoreImage p, Instr.attest p, Instr.identity p, Instr.fwCommit p, Instr.debugUnlock p, Instr.debugLock p, Instr.diagCatalog p, Instr.traceRead p, Instr.dbgCntWrite p, Instr.dbgTraceWrite p, Instr.errAck p, Instr.faultAck p, Instr.railFlipWrite p, Instr.railMapWrite p, Instr.blockResetComputeStack p, Instr.blockResetCrib p, Instr.blockResetHbmSite p, Instr.blockResetRailSite p, Instr.blockResetSillPath p, Instr.blockResetSillSequencer p, Instr.calibrateSillLanes p, Instr.calibrateRemeasureDelay p] ∧ exec c s = .next t :=
  ⟨pkt 1 [], .ping (pkt 1 []), {}, {}, by decide +kernel, by
    show Host.Outcome.next (runCmd _ _ _ _) = _
    rw [runCmd_waits _ _ _ _ (by decide +kernel)]⟩

/-- A state and operands that meet the hypotheses of clause 1 of SourceEdgesFollowTheTable. -/
theorem wit_SourceEdgesFollowTheTable_1 : ∃ (proc : Fin 16) (source : Fin 64) (edges : Fin 3) (high : Bool) (s t : State) (j : Nat),
    procPresent proc.val = true ∧ inputUsed proc.val source.val = true ∧ (s.proc proc.val).state ≠ 0 ∧ (s.proc proc.val).state ≠ 4 ∧ (source.val = 48 → s.atBoundary = true) ∧ exec (.irqSourceEdge proc source edges high) s = .next t ∧ j < 64 :=
  ⟨0, 16, 2, true, { procs := [(0, { state := 2 })] }, sourceEdges 0 16 2 (sourceLine 0 16 true { procs := [(0, { state := 2 })] }), 16, by decide +kernel, by decide +kernel, by decide +kernel, by decide +kernel, by decide, by
    simp only [exec, execIrqSourceEdge]; rw [if_neg (by decide), if_pos (by decide +kernel)]; rfl, by decide⟩

/-- A state and operands that meet the hypotheses of clause 2 of SourceEdgesFollowTheTable. -/
theorem wit_SourceEdgesFollowTheTable_2 : ∃ (proc : Fin 16) (b : BitVec 64) (s u : State) (i : Nat) (r : EdgeRec),
    procPresent proc.val = true ∧ (s.proc proc.val).state = 2 ∧ tabFind (s.proc proc.val).edges i = some r ∧ r.grain = some s.now ∧ 1 ≤ r.k ∧ i < 64 ∧ b.getLsbD i = true ∧ exec (.irqAcknowledge proc b {}) s = .next u :=
  ⟨0, 1, { procs := [(0, { state := 2, pend := 1, edges := [(0, { grain := some 0, k := 1 })] })] }, _, 0, { grain := some 0, k := 1 }, by decide +kernel, by decide +kernel, by decide +kernel, by decide +kernel, by decide, by decide, by decide +kernel, rfl⟩

/-- A state and operands that meet the hypotheses of clause 3 of SourceEdgesFollowTheTable. -/
theorem wit_SourceEdgesFollowTheTable_3 : ∃ (proc : Fin 16) (b : BitVec 64) (s u : State) (i : Nat) (r : EdgeRec),
    procPresent proc.val = true ∧ (s.proc proc.val).state = 2 ∧ tabFind (s.proc proc.val).edges i = some r ∧ r.grain = some s.now ∧ 1 ≤ r.k ∧ (r.pend = true ∨ 2 ≤ r.k) ∧ i < 64 ∧ exec (.irqOverrunClear proc b) s = .next u :=
  ⟨0, 1, { procs := [(0, { state := 2, ovr := 1, edges := [(0, { grain := some 0, k := 2 })] })] }, _, 0, { grain := some 0, k := 2 }, by decide +kernel, by decide +kernel, by decide +kernel, by decide +kernel, by decide, Or.inr (by decide), by decide, rfl⟩

/-- A state and operands that meet the hypotheses of clause 4 of SourceEdgesFollowTheTable. -/
theorem wit_SourceEdgesFollowTheTable_4 : ∃ (proc : Fin 16) (b : BitVec 64) (s : State),
    procPresent proc.val = true ∧ (s.proc proc.val).state = 2 ∧ (s.proc proc.val).edges.all (fun e => e.2.grain != some s.now) = true :=
  ⟨0, 1, { procs := [(0, { state := 2 })] }, by decide +kernel, by decide +kernel, by decide +kernel⟩

/-- A state and operands that meet the hypotheses of clause 1 of RowsOfAbsentUnitsFault. -/
theorem wit_RowsOfAbsentUnitsFault_1 : ∃ (eng : BitVec 16) (s : State),
    engValid eng.toNat = false :=
  ⟨0, {}, by decide +kernel⟩

/-- A state and operands that meet the hypotheses of clause 2 of RowsOfAbsentUnitsFault. -/
theorem wit_RowsOfAbsentUnitsFault_2 : ∃ (proc : Fin 16) (s : State),
    procPresent proc.val = false :=
  ⟨6, {}, by decide +kernel⟩

/-- A state and operands that meet the hypotheses of clause 3 of RowsOfAbsentUnitsFault. -/
theorem wit_RowsOfAbsentUnitsFault_3 : ∃ (src dst : Fin 16) (s : State),
    (procPresent src.val = false ∨ procPresent dst.val = false ∨ src = dst) :=
  ⟨6, 0, {}, by decide +kernel⟩

/-- A state and operands that meet the hypotheses of clause 4 of RowsOfAbsentUnitsFault. -/
theorem wit_RowsOfAbsentUnitsFault_4 : ∃ (kind : Fin 4) (index : BitVec 16) (s : State),
    domainOk kind.val index.toNat = false :=
  ⟨1, 40, {}, by decide +kernel⟩

/-- A state and operands that meet the hypotheses of clause 5 of RowsOfAbsentUnitsFault. -/
theorem wit_RowsOfAbsentUnitsFault_5 : ∃ (panel : BitVec 17) (s : State),
    panelIndex panel.toNat = false ∧ tabFind s.clk.panels panel.toNat = none :=
  ⟨0x1FFFF, {}, by decide +kernel, by decide +kernel⟩

end Sys2Proof.Tests
end

section
/-! PROOFS. While the module is headless Scribe executes seven commands and answers every other 0x0531 (R379, R385). Every
command row is a `runCmd`, whatever the row; the checks of R379 alone decide what it answers. -/

namespace Sys2Proof.Machine

/-! ### Every command row goes through the checks of R379 -/

/-- The outcome of a row that the packet belongs to: the checks of R379, then some effect of the row's own. A LOAD that they
refuse shows in CUT.LOAD first (R233). -/
def RunsCmd (p : CmdPkt) (s : State) (o : Host.Outcome State Fault Refusal) : Prop :=
  ∃ f, o = .next (runCmd p true f (noteRefusedLoad p s))

theorem noteRefusedLoad_of_not_load {p : CmdPkt} (h : p.opcode ≠ 0x300) (s : State) : noteRefusedLoad p s = s := by
  simp [noteRefusedLoad, h]

theorem runsCmd_runCmd {p : CmdPkt} {s : State} {mine : Bool} {f : CmdRef → State → State} (hop : p.opcode ≠ 0x300)
    (hm : mine = true) : RunsCmd p s (.next (runCmd p mine f s)) :=
  ⟨f, by rw [hm, noteRefusedLoad_of_not_load hop]⟩

/-- A row of one opcode. -/
theorem runsCmd_opcode {p : CmdPkt} {s : State} {op : Nat} {f : CmdRef → State → State} (hop : p.opcode = op)
    (hl : op ≠ 0x300) : RunsCmd p s (.next (runCmd p (p.opcode == op) f s)) :=
  runsCmd_runCmd (hop ▸ hl) (by simp [hop])

/-- A row of one opcode and one kind or action. -/
theorem runsCmd_action {p : CmdPkt} {s : State} {op k : Nat} {f : CmdRef → State → State} (hop : p.opcode = op)
    (hk : p.arg 0 1 = k) (hl : op ≠ 0x300) :
    RunsCmd p s (.next (runCmd p (p.opcode == op && p.arg 0 1 == k) f s)) :=
  runsCmd_runCmd (hop ▸ hl) (by simp [hop, hk])

/-- A parameter write with a row of its own. -/
theorem runsCmd_runWrite {p : CmdPkt} {s : State} {ids : Nat → Bool} {f : Nat → State → Nat × State}
    (hop : p.opcode = 0x101) (hid : ids (writeId p) = true) : RunsCmd p s (.next (runWrite p ids f s)) :=
  runsCmd_runCmd (by simp [hop]) (by simp [hop, hid])

theorem runsCmd_loadList {p : CmdPkt} (s : State) (hop : p.opcode = 0x300) : RunsCmd p s (execLoadList p s) :=
  ⟨_, by rw [execLoadList, beq_iff_eq.mpr hop]⟩

theorem runsCmd_blockResetComputeStack {p : CmdPkt} (s : State) (hop : p.opcode = 0x500)
    (hk : p.arg 0 1 < 2 ∨ 6 < p.arg 0 1) : RunsCmd p s (execBlockResetComputeStack p s) := by
  unfold execBlockResetComputeStack
  split
  next => exact runsCmd_opcode hop (by decide)
  next h => exact runsCmd_action hop (by omega) (by decide)

/-- An action of CALIBRATE that R392 does not list has no index. -/
theorem calibCount_eq_zero_or_one {k : Nat} (h : k < 2 ∨ 4 < k) : calibCount k = 0 ∨ k = 1 := by
  unfold calibCount
  split <;> omega

/-- Whichever row a packet belongs to, the row runs it through the checks of R379. -/
theorem exec_runsCmd {c : Instr} {p : CmdPkt} (s : State) (h : IsRow p c) : RunsCmd p s (exec c s) := by
  cases c with
  | commandUnassigned q =>
    obtain ⟨rfl, hl⟩ := h
    exact runsCmd_runCmd (fun ho => by simp [ho, layoutOf] at hl) hl
  | loadList q =>
    obtain ⟨rfl, hop⟩ := h
    exact runsCmd_loadList s hop
  | paramWrite q | railFlipWrite q | railMapWrite q | cfgCommit q | dbgCntWrite q | dbgTraceWrite q | errAck q | faultAck q =>
    obtain ⟨rfl, hop, hid⟩ := h
    exact runsCmd_runWrite hop (by simpa using hid)
  | blockResetComputeStack q =>
    obtain ⟨rfl, hop, hk⟩ := h
    exact runsCmd_blockResetComputeStack s hop hk
  | calibrateSillLanes q =>
    obtain ⟨rfl, hop, hk⟩ := h
    exact runsCmd_runCmd (by simp [hop]) (by simpa [hop] using calibCount_eq_zero_or_one hk)
  | blockResetCrib q | blockResetHbmSite q | blockResetRailSite q | blockResetSillPath q | blockResetSillSequencer q
  | calibrateRetrainRail q | calibrateHoldDown q | calibrateRemeasureDelay q =>
    obtain ⟨rfl, hop, hk⟩ := h
    exact runsCmd_action hop hk (by decide)
  | hello q | ping q | paramRead q | memWrite q _ | memRead q _ | memFill q _ | startRun q | pauseRun q | resumeRun q
  | saveImage q | restoreImage q | recover q | attest q | identity q | fwStage q | fwCommit q | debugUnlock q | debugLock q
  | evtSubscribe q | evtQuery q | diagCatalog q | traceRead q =>
    obtain ⟨rfl, hop⟩ := h
    exact runsCmd_opcode hop (by decide)
  | _ => exact h.elim

/-- A packet that fails a check with a status other than 0x0213 is answered with it, and nothing else happens. -/
theorem exec_refused {c : Instr} {p : CmdPkt} {s : State} (h : IsRow p c) (hc : canStart s p = true)
    (hz : cmdStatus s p ≠ 0) (hl : cmdStatus s p ≠ 0x0213) :
    exec c s = .next (finish p.ref (cmdStatus s p) [] (takePacket p s)) := by
  obtain ⟨f, hf⟩ := exec_runsCmd s h
  have hn : noteRefusedLoad p s = s := by simp [noteRefusedLoad, hz, hl]
  rw [hf, hn, runCmd_refused p s true f rfl hc hz]

/-! ### The supervisor check of a headless module -/

/-- Where steps 1 to 5 of R379 pass, step 6 decides before step 7. -/
theorem cmdStatus_of_form_range {s : State} {p : CmdPkt} (hf : formStatus s p = 0) (hr : rangeStatus p = 0) :
    cmdStatus s p = if lockStatus s p ≠ 0 then lockStatus s p else readyStatus s p := by
  simp [cmdStatus, hf, hr]

theorem lockStatus_headless {s : State} {p : CmdPkt} (hh : s.yuley.headless = true)
    (hd : 0xF00 ≤ p.opcode → bit s.scopesNow 0 = true) (ho : p.opcode ∉ headlessOps) : lockStatus s p = 0x0531 := by
  have hdiag : ¬(0xF00 ≤ p.opcode ∧ (!bit s.scopesNow 0) = true) := fun ⟨hge, hb⟩ => by simp [hd hge] at hb
  rw [lockStatus, if_neg hdiag, if_pos ⟨hh, ho⟩]

/-- None of the seven commands is a diagnostics opcode or needs a supervisor, so each passes step 6 in every state. -/
theorem lockStatus_of_mem_headlessOps {p : CmdPkt} (s : State) (ho : p.opcode ∈ headlessOps) : lockStatus s p = 0 := by
  have hcase : p.opcode < 0xF00 ∧ p.opcode ≠ 0x500 ∧ p.opcode ≠ 0x501 ∧ p.opcode ≠ 0x502 :=
    (by decide : ∀ op ∈ headlessOps, op < 0xF00 ∧ op ≠ 0x500 ∧ op ≠ 0x501 ∧ op ≠ 0x502) _ ho
  obtain ⟨hlt, hreset, hcal, hrec⟩ := hcase
  simp [lockStatus, needsSupervisor, ho, Nat.not_le.mpr hlt, hreset, hcal, hrec]

/-- R385's list is the model's, in another order. -/
theorem mem_headlessOps {op : Nat} :
    op ∈ headlessOps ↔ op ∈ [0x000, 0x001, 0x100, 0x700, 0x701, 0x600, 0x601] :=
  List.Perm.mem_iff (by decide)

/-- Settles O55: a headless module's step 6 answers 0x0531 for every opcode off R385's list, which every row obeys, and
passes those on it. -/
theorem headlessRefusesAllButSeven : Obligations.HeadlessRefusesAllButSeven := by
  unfold Obligations.HeadlessRefusesAllButSeven
  refine ⟨fun c p s hrow hstart hh hf hr hd ho => ?_, fun p s _ hf hr ho => ?_⟩
  · have hlock : lockStatus s p = 0x0531 := lockStatus_headless hh hd (mt mem_headlessOps.mp ho)
    have hst : cmdStatus s p = 0x0531 := by simp [cmdStatus_of_form_range hf hr, hlock]
    rw [exec_refused hrow hstart (by simp [hst]) (by simp [hst]), hst]
  · simp [cmdStatus_of_form_range hf hr, lockStatus_of_mem_headlessOps s (mem_headlessOps.mpr ho)]

end Sys2Proof.Machine
end

section
/-! PROOFS. A write to ERR.ACK acknowledges the log records up to its value, or is refused as out of range (R532). -/

namespace Sys2Proof.Machine

/-! ### The value of an accepted write -/

/-- A value that a PARAM_WRITE carries fits the parameter's width (R386). -/
theorem Writes.lt_two_pow_width {id v : Nat} {p : CmdPkt} {s : State} {q : Param} (h : Writes id v p s)
    (hq : param (takePacket p s) id = some q) : v < 2 ^ q.width := by
  obtain ⟨-, -, -, hp⟩ := h
  simp only [hq, Option.any_some, decide_eq_true_eq] at hp
  obtain ⟨-, hv, -⟩ := hp
  exact hv ▸ Nat.mod_lt _ (Nat.two_pow_pos _)

/-- ERR.ACK is a parameter of one 32-bit field. -/
theorem param_errAck (s : State) : param s 0x01600001 = some (Param.of s 32 [(0, 32, s.err.ackReg)]) := rfl

/-! ### What ERR_ACK does with an accepted write -/

/-- Rewriting every record of a table and no key rewrites what each key finds. -/
theorem tabFind_map {α : Type} (g : α → α) (t : List (Nat × α)) (k : Nat) :
    tabFind (t.map fun r => (r.1, g r.2)) k = (tabFind t k).map g := by
  induction t with
  | nil => rfl
  | cons r t ih => by_cases hk : r.1 = k <;> simp [tabFind, hk, ih]

@[simp] theorem oldestSeq_takePacket (p : CmdPkt) (s : State) : oldestSeq (takePacket p s) = oldestSeq s := rfl

@[simp] theorem takePacket_nextSeq (p : CmdPkt) (s : State) : (takePacket p s).yuley.nextSeq = s.yuley.nextSeq := rfl

/-- A log record once eseqs up to v are acknowledged. -/
def ackRecord (v : Nat) (r : Record) : Record := if r.eseq ≤ v then { r with pend := false } else r

/-- The state once the log is acknowledged up to v: the log and ERR.ACK alone differ (R532). -/
def ackLog (v : Nat) (s : State) : State :=
  { s with err := { s.err with log := s.err.log.map (fun r => (r.1, ackRecord v r.2)), ackReg := v } }

/-- An accepted write to ERR.ACK acknowledges within the range of R532 and is refused outside it. The value is 32 bits wide
already, so the row's reduction modulo 2^32 leaves it as it is. -/
theorem exec_errAck_writes {p : CmdPkt} {s : State} {v : Nat} (h : Writes 0x01600001 v p s) (hl : s.err.log ≠ []) :
    exec (.errAck p) s = .next (if v < oldestSeq s ∨ s.yuley.nextSeq ≤ v then finish p.ref 0x0106 [] (takePacket p s)
      else finish p.ref 0 [] (ackLog v (takePacket p s))) := by
  have hv : v % 2 ^ 32 = v := Nat.mod_eq_of_lt (h.lt_two_pow_width (param_errAck _))
  change execErrAck p s = _
  rw [execErrAck, runWrite_writes h _ rfl]
  simp only [hv, oldestSeq_takePacket, takePacket_nextSeq, takePacket_err, List.isEmpty_iff, hl, false_or]
  split <;> rfl

/-- Settles O56: in range the row is `ackLog`, which rewrites the log record by record; out of range it answers 0x0106. -/
theorem errAckAcknowledgesUpToItsValue : Obligations.ErrAckAcknowledgesUpToItsValue := by
  unfold Obligations.ErrAckAcknowledgesUpToItsValue
  refine ⟨fun p s v hw hl hlo hhi => ?_, fun p s v hw hl hout => ?_⟩
  · have hin : ¬(v < oldestSeq s ∨ s.yuley.nextSeq ≤ v) := by omega
    refine ⟨ackLog v (takePacket p s), ?_, rfl, rfl, fun k => tabFind_map (ackRecord v) s.err.log k, rfl⟩
    rw [exec_errAck_writes hw hl, if_neg hin]
  · rw [exec_errAck_writes hw hl, if_pos hout]

end Sys2Proof.Machine
end

section
/-! PROOFS. What every step keeps: each row's meaning keeps the queue, the canonical form of the memories, the blown bits of
the anti-rollback counter and, away from power-on detection, the trip latch, and so does a step (Laws/Kept.lean). -/

namespace Sys2Proof.Machine

/-- The commands that assert power-on detection (R429, R440, R515). -/
def assertsPowerOn : Instr → Bool
  | .powerOnDetectAssert _ | .inputLockout | .supplyStageFault => true
  | _ => false

/-- Each row's own law, gathered over the rows. -/
theorem exec_kept (c : Instr) (s : State) : KeptO (assertsPowerOn c) s (exec c s) := by
  cases c with
  | powerOnDetectAssert cause => exact execPowerOnDetectAssert_kept cause s
  | inputLockout => exact execInputLockout_kept s
  | supplyStageFault => exact execSupplyStageFault_kept s
  | _ => simp [exec]

theorem step_of_empty {s : State} (h : s.pending = []) : step s = .next (sampleObs (tick s)) := by
  simp [step, h]

theorem step_of_cons {s : State} {c : Instr} {rest : List Instr} (h : s.pending = c :: rest) :
    step s = exec c { s with pending := rest } := by
  simp [step, h]

/-- A step keeps what its command keeps, once that command has left the queue. -/
theorem step_kept {s t : State} (h : step s = .next t) :
    Kept (s.pending.head?.any assertsPowerOn) { s with pending := s.pending.tail } t := by
  cases hp : s.pending with
  | nil =>
    rw [step_of_empty hp] at h
    obtain rfl : sampleObs (tick s) = t := by simpa using h
    have hs : { s with pending := ([] : List Instr).tail } = s := by rw [List.tail_nil, ← hp]
    rw [hs]
    exact sampleObs_kept _ (tick_kept _ (.refl _ _))
  | cons c rest =>
    rw [step_of_cons hp] at h
    simpa using exec_kept c _ t h

/-- Settles O5: the six memories are among what a step keeps. -/
theorem everyStepKeepsMemoriesCanonical : Obligations.EveryStepKeepsMemoriesCanonical := by
  unfold Obligations.EveryStepKeepsMemoriesCanonical
  intro s t hs h
  have hs' : MemOk { s with pending := s.pending.tail } :=
    ⟨hs.localStore, hs.crib, hs.hbm, hs.area, hs.window, hs.flash⟩
  exact (step_kept h).memOk hs'

/-- Settles O6: a step keeps the queue that its command has left. -/
theorem everyStepTakesOneCommand : Obligations.EveryStepTakesOneCommand := by
  unfold Obligations.EveryStepTakesOneCommand
  exact fun s t h => (step_kept h).pending

/-- Settles O7: a command at the front that is none of the three does not assert power-on detection, and then the latch is
among what a step keeps. -/
theorem onlyPowerOnDetectionClearsTrip : Obligations.OnlyPowerOnDetectionClearsTrip := by
  unfold Obligations.OnlyPowerOnDetectionClearsTrip
  intro s t hdetect hlockout hstage htrip h
  have hno : s.pending.head?.any assertsPowerOn = false := by
    cases hc : s.pending.head? with
    | none => rfl
    | some c =>
      rw [Option.any_some]
      unfold assertsPowerOn
      split
      · exact absurd hc (hdetect _)
      · exact absurd hc hlockout
      · exact absurd hc hstage
      · rfl
  exact (step_kept h).trip hno htrip

/-- Settles O8: the blown bits are among what a step keeps. -/
theorem antiRollbackCounterNeverFalls : Obligations.AntiRollbackCounterNeverFalls := by
  unfold Obligations.AntiRollbackCounterNeverFalls
  exact fun s t h => (step_kept h).counter

end Sys2Proof.Machine
end

section
/-! PROOFS. What the operations of control leave alone: every memory of the module and the record of the last strobe. The
issue of steps leaves the whole HBM3E record alone too. -/

namespace Sys2Proof.Machine

/-- Between two states no memory has changed, nor has the record of the last strobe; where `whole` is set, nothing of the
HBM3E record has. -/
structure Still (whole : Bool) (s t : State) : Prop where
  strobed : t.time.strobed = s.time.strobed
  localStore : t.localStore = s.localStore
  crib : t.crib = s.crib
  mem : t.hbm.mem = s.hbm.mem
  area : t.col.area = s.col.area
  window : t.fab.window = s.fab.window
  flash : t.rst.flash = s.rst.flash
  hbm : whole = true → t.hbm = s.hbm

namespace Still

variable {whole : Bool} {z s t : State}

@[simp] theorem refl (whole : Bool) (s : State) : Still whole s s := ⟨rfl, rfl, rfl, rfl, rfl, rfl, rfl, fun _ => rfl⟩

theorem trans (h : Still whole z s) (k : Still whole s t) : Still whole z t :=
  ⟨k.strobed.trans h.strobed, k.localStore.trans h.localStore, k.crib.trans h.crib, k.mem.trans h.mem,
   k.area.trans h.area, k.window.trans h.window, k.flash.trans h.flash, fun p => (k.hbm p).trans (h.hbm p)⟩

/-- An update of fields that leaves these alone. -/
@[simp] theorem update
    {x_free : Nat} {x_time : Time} {x_cut : Cut} {x_repro : Repro} {x_engines : List (Nat × Engine)} {x_tillers :
    List (Nat × Tiller)} {x_cribErr : List (Nat × RowErr)} {x_writeback : List Nat} {x_parts : List (Nat × Partition)}
    {x_floor : List (Nat × DieFloor)} {x_cstacks : List (Nat × Stack)} {x_meshes : List (Nat × Mesh)} {x_sill : Sill}
    {x_hbm : Hbm} {x_rails : List (Nat × Rail)} {x_railTop : RailTop} {x_opt : Opt} {x_fab : Fab} {x_col : Col}
    {x_yuley : Yuley} {x_procs : List (Nat × Proc)} {x_boxes : List (Nat × List Msg)} {x_resend : List (Nat × Nat × Msg)}
    {x_clk : Clk} {x_pwr : Power} {x_rst : Rst} {x_sec : Sec} {x_sup : Sup} {x_dbg : Dbg} {x_err : Err}
    {x_arb : Arbiters} (h : Still whole z s) (h1 : x_time.strobed = s.time.strobed) (h2 : x_hbm.mem = s.hbm.mem)
    (h3 : x_col.area = s.col.area) (h4 : x_fab.window = s.fab.window) (h5 : x_rst.flash = s.rst.flash)
    (h6 : whole = true → x_hbm = s.hbm) :
    Still whole z
      (State.mk
        s.pending x_free x_time x_cut x_repro x_engines x_tillers s.localStore s.crib x_cribErr x_writeback x_parts
        x_floor x_cstacks x_meshes x_sill x_hbm x_rails x_railTop x_opt x_fab x_col x_yuley x_procs x_boxes x_resend
        x_clk x_pwr x_rst x_sec x_sup x_dbg x_err x_arb) :=
  h.trans ⟨h1, rfl, rfl, h2, h3, h4, h5, h6⟩

@[simp] theorem ite_snd {α : Type} {c : Prop} [Decidable c] {a b : α × State} (h1 : Still whole z a.2)
    (h2 : Still whole z b.2) : Still whole z (if c then a else b).2 := by split <;> assumption

@[simp] theorem ite {c : Prop} [Decidable c] (h1 : Still whole z s) (h2 : Still whole z t) :
    Still whole z (if c then s else t) := by split <;> assumption

@[simp] theorem foldl {α : Type} {g : State → α → State} (hg : ∀ s x, Still whole s (g s x)) (l : List α)
    (h : Still whole z s) : Still whole z (l.foldl g s) := by
  induction l generalizing s with
  | nil => exact h
  | cons x r ih => exact ih (h.trans (hg s x))

end Still

/-- What an outcome leaves alone, where it is a next state. -/
def StillO (whole : Bool) (s : State) (o : Host.Outcome State Fault Refusal) : Prop := ∀ t, o = .next t → Still whole s t

namespace StillO

variable {whole : Bool} {s t : State}

@[simp] theorem next (h : Still whole s t) : StillO whole s (.next t) := by rintro _ ⟨⟩; exact h

@[simp] theorem fault (f : Fault) : StillO whole s (.fault f) := by rintro _ ⟨⟩

@[simp] theorem refused (r : Refusal) : StillO whole s (.refused r) := by rintro _ ⟨⟩

@[simp] theorem ite {c : Prop} [Decidable c] {o p : Host.Outcome State Fault Refusal} (h1 : StillO whole s o)
    (h2 : StillO whole s p) : StillO whole s (if c then o else p) := by split <;> assumption

end StillO

variable {whole : Bool} {z : State}

@[simp] theorem State.takeFree_still (s : State) (hz : Still whole z s) : Still whole z (State.takeFree s).2 := by
  simp (maxDischargeDepth := 40) [State.takeFree, hz]

@[simp] theorem State.setEngine_still (s : State) (e : Nat) (v : Engine) (hz : Still whole z s) : Still whole z (State.setEngine s e v) := by
  simp (maxDischargeDepth := 40) [State.setEngine, hz]

@[simp] theorem State.modEngine_still (s : State) (e : Nat) (f : Engine → Engine) (hz : Still whole z s) : Still whole z (State.modEngine s e f) := by
  simp (maxDischargeDepth := 40) [State.modEngine, hz]

@[simp] theorem State.modTiller_still (s : State) (k : Nat) (f : Tiller → Tiller) (hz : Still whole z s) : Still whole z (State.modTiller s k f) := by
  simp (maxDischargeDepth := 40) [State.modTiller, hz]

@[simp] theorem State.modPart_still (s : State) (k : Nat) (f : Partition → Partition) (hz : Still whole z s) : Still whole z (State.modPart s k f) := by
  simp (maxDischargeDepth := 40) [State.modPart, hz]

@[simp] theorem State.modStack_still (s : State) (d : Nat) (f : Stack → Stack) (hz : Still whole z s) : Still whole z (State.modStack s d f) := by
  simp (maxDischargeDepth := 40) [State.modStack, hz]

@[simp] theorem State.modMesh_still (s : State) (d : Nat) (f : Mesh → Mesh) (hz : Still whole z s) : Still whole z (State.modMesh s d f) := by
  simp (maxDischargeDepth := 40) [State.modMesh, hz]

@[simp] theorem State.modMem_still (s : State) (k : Nat) (f : MemStack → MemStack) (hz : Still false z s) : Still false z (State.modMem s k f) := by
  simp (maxDischargeDepth := 40) [State.modMem, hz]

@[simp] theorem State.modRail_still (s : State) (r : Nat) (f : Rail → Rail) (hz : Still whole z s) : Still whole z (State.modRail s r f) := by
  simp (maxDischargeDepth := 40) [State.modRail, hz]

@[simp] theorem State.modProc_still (s : State) (p : Nat) (f : Proc → Proc) (hz : Still whole z s) : Still whole z (State.modProc s p f) := by
  simp (maxDischargeDepth := 40) [State.modProc, hz]

@[simp] theorem State.modChan_still (s : State) (c : Nat) (f : Chan → Chan) (hz : Still whole z s) : Still whole z (State.modChan s c f) := by
  simp (maxDischargeDepth := 40) [State.modChan, hz]

@[simp] theorem State.modPanel_still (s : State) (k : Nat) (f : Panel → Panel) (hz : Still whole z s) : Still whole z (State.modPanel s k f) := by
  simp (maxDischargeDepth := 40) [State.modPanel, hz]

@[simp] theorem State.modFab_still (s : State) (e : Nat) (f : FabEng → FabEng) (hz : Still whole z s) : Still whole z (State.modFab s e f) := by
  simp (maxDischargeDepth := 40) [State.modFab, hz]

@[simp] theorem State.modCol_still (s : State) (r : Nat) (f : ColEng → ColEng) (hz : Still whole z s) : Still whole z (State.modCol s r f) := by
  simp (maxDischargeDepth := 40) [State.modCol, hz]

@[simp] theorem State.modFibre_still (s : State) (k : Nat) (f : FibreMap → FibreMap) (hz : Still whole z s) : Still whole z (State.modFibre s k f) := by
  simp (maxDischargeDepth := 40) [State.modFibre, hz]

@[simp] theorem raise_still (code : Nat) (engine w0 w1 w2 w3 : Nat) (s : State) (hz : Still whole z s) : Still whole z (raise code engine w0 w1 w2 w3 s) := by
  simp (maxDischargeDepth := 40) [raise, hz]

@[simp] theorem faultEnter_still (r : Record) (s : State) (hz : Still whole z s) : Still whole z (faultEnter r s) := by
  simp only [faultEnter]; (repeat' split) <;> simp (maxDischargeDepth := 40) [hz]

@[simp] theorem rateCount_still (r : Record) (s : State) (hz : Still whole z s) : Still whole z (rateCount r s) := by
  simp (maxDischargeDepth := 40) [rateCount, hz]

@[simp] theorem logEnter_still (r : Record) (s : State) (hz : Still whole z s) : Still whole z (logEnter r s) := by
  simp (maxDischargeDepth := 40) [logEnter, hz]

@[simp] theorem queueEvent_still (r : Record) (s : State) (hz : Still whole z s) : Still whole z (queueEvent r s) := by
  simp (maxDischargeDepth := 40) [queueEvent, hz]

@[simp] theorem recordEvent_still (r : Record) (s : State) (hz : Still whole z s) : Still whole z (recordEvent r s) := by
  simp (maxDischargeDepth := 40) [recordEvent, hz]

@[simp] theorem recordAll_still (s : State) (hz : Still whole z s) : Still whole z (recordAll s) := by
  simp (maxDischargeDepth := 40) [recordAll, hz]

@[simp] theorem sendReply_still (c : CmdRef) (status : Nat) (last : Bool) (payload : List (BitVec 8)) (s : State) (hz : Still whole z s) : Still whole z (sendReply c status last payload s) := by
  simp only [sendReply]; (repeat' split) <;> simp (maxDischargeDepth := 40) [hz]

@[simp] theorem finish_still (c : CmdRef) (status : Nat) (payload : List (BitVec 8)) (s : State) (hz : Still whole z s) : Still whole z (finish c status payload s) := by
  simp (maxDischargeDepth := 40) [finish, hz]

@[simp] theorem finishAll_still (cs : List CmdRef) (status : Nat) (s : State) (hz : Still whole z s) : Still whole z (finishAll cs status s) := by
  simp (maxDischargeDepth := 40) [finishAll, hz]

@[simp] theorem raiseOverrun_still (s : State) (hz : Still whole z s) : Still whole z (raiseOverrun s) := by
  simp (maxDischargeDepth := 40) [raiseOverrun, hz]

@[simp] theorem raiseFlag_still (s : State) (hz : Still whole z s) : Still whole z (raiseFlag s) := by
  unfold raiseFlag; (repeat' split) <;> simp (maxDischargeDepth := 40) [hz]

@[simp] theorem flushRun_still (s : State) (hz : Still whole z s) : Still whole z (flushRun s) := by
  simp (maxDischargeDepth := 40) [flushRun, hz]

@[simp] theorem setFlag_still (key b : Nat) (s : State) (hz : Still whole z s) : Still whole z (setFlag key b s) := by
  simp only [setFlag]; (repeat' split) <;> simp (maxDischargeDepth := 40) [hz]

@[simp] theorem endPauses_still (status : Nat) (s : State) (hz : Still whole z s) : Still whole z (endPauses status s) := by
  simp (maxDischargeDepth := 40) [endPauses, hz]

@[simp] theorem checkTol_still (s : State) (hz : Still whole z s) : Still whole z (checkTol s) := by
  simp (maxDischargeDepth := 40) [checkTol, hz]

@[simp] theorem stopScrub_still (s : State) (hz : Still false z s) : Still false z (stopScrub s) := by
  simp (maxDischargeDepth := 40) [stopScrub, hz]

@[simp] theorem State.modCrossing_still (s : State) (k : Nat) (f : Crossing → Crossing) (hz : Still whole z s) : Still whole z (State.modCrossing s k f) := by
  simp (maxDischargeDepth := 40) [State.modCrossing, hz]

@[simp] theorem throughCross_still (kind place n : Nat) (s : State) (hz : Still whole z s) : Still whole z (throughCross kind place n s) := by
  simp (maxDischargeDepth := 40) [throughCross, hz]

@[simp] theorem quietMeshes_still (s : State) (hz : Still whole z s) : Still whole z (quietMeshes s) := by
  simp (maxDischargeDepth := 40) [quietMeshes, hz]

@[simp] theorem writeFlit_still (d n : Nat) (s : State) (hz : Still whole z s) : Still whole z (writeFlit d n s) := by
  simp (maxDischargeDepth := 40) [writeFlit, hz]

@[simp] theorem injectFlit_still (d : Nat) (f : Flit) (s : State) (hz : Still whole z s) : Still whole z (injectFlit d f s) := by
  simp (maxDischargeDepth := 40) [injectFlit, hz]

@[simp] theorem siteCross_still (kind site : Nat) (s : State) (hz : Still whole z s) : Still whole z (siteCross kind site s) := by
  simp (maxDischargeDepth := 40) [siteCross, hz]

@[simp] theorem sendWord_still (w : Word128) (s : State) (hz : Still whole z s) : Still whole z (sendWord w s) := by
  simp (maxDischargeDepth := 40) [sendWord, hz]

@[simp] theorem traceStep_still (e : Nat) (f : Flight) (s : State) (hz : Still whole z s) : Still whole z (traceStep e f s) := by
  unfold traceStep; (repeat' split) <;> simp (maxDischargeDepth := 40) [hz]

@[simp] theorem wavePost_still (src : Nat) (p : Post) (s : State) (hz : Still whole z s) : Still whole z (wavePost src p s) := by
  simp (maxDischargeDepth := 40) [wavePost, hz]

@[simp] theorem sendPost_still (e : Nat) (s : State) (p : Post) (hz : Still whole z s) : Still whole z (sendPost e s p) := by
  unfold sendPost; (repeat' split) <;> simp (maxDischargeDepth := 40) [hz]

@[simp] theorem noteDelay_still (e mask : Nat) (s : State) (hz : Still whole z s) : Still whole z (noteDelay e mask s) := by
  simp (maxDischargeDepth := 40) [noteDelay, hz]

@[simp] theorem completeStep_still (e : Nat) (f : Flight) (s : State) (hz : Still whole z s) : Still whole z (completeStep e f s) := by
  simp (maxDischargeDepth := 40) [completeStep, hz]

@[simp] theorem completeFlight_still (e u : Nat) (p : Flight → Bool) (s : State) (hz : Still whole z s) : Still whole z (completeFlight e u p s) := by
  unfold completeFlight; (repeat' split) <;> simp (maxDischargeDepth := 40) [hz]

@[simp] theorem modFlight_still (e u : Nat) (p : Flight → Bool) (g : Flight → Flight) (s : State) (hz : Still whole z s) : Still whole z (modFlight e u p g s) := by
  simp (maxDischargeDepth := 40) [modFlight, hz]

@[simp] theorem recordOverrun_still (e : Nat) (q : QStep) (mask : Nat) (inherited : Bool) (late : Nat) (s : State) (hz : Still whole z s) : Still whole z (recordOverrun e q mask inherited late s) := by
  simp (maxDischargeDepth := 40) [recordOverrun, hz]

@[simp] theorem ckptIssued_still (e : Nat) (q : QStep) (s : State) (hz : Still whole z s) : Still whole z (ckptIssued e q s) := by
  simp (maxDischargeDepth := 40) [ckptIssued, hz]

@[simp] theorem addStream_still (e : Nat) (w : StepWord) (s : State) (hz : Still whole z s) : Still whole z (addStream e w s) := by
  simp (maxDischargeDepth := 40) [addStream, hz]

@[simp] theorem sendArrival_still (e : Nat) (q : QStep) (s : State) (hz : Still whole z s) : Still whole z (sendArrival e q s) := by
  simp (maxDischargeDepth := 40) [sendArrival, hz]

@[simp] theorem flagSelect_still (e : Nat) (q : QStep) (past : Bool) (s : State) (hz : Still whole z s) : Still whole z (flagSelect e q past s) := by
  unfold flagSelect; (repeat' split) <;> simp (maxDischargeDepth := 40) [hz]

@[simp] theorem takeHead_still (e : Nat) (q : QStep) (left : List QStep) (mi : Nat × Bool) (late : Nat) (s : State) (hz : Still whole z s) : Still whole z (takeHead e q left mi late s) := by
  simp (maxDischargeDepth := 40) [takeHead, hz]

@[simp] theorem launch_still (e : Nat) (q run : QStep) (f : Flight) (s : State) (hz : Still whole z s) : Still whole z (launch e q run f s) := by
  simp (maxDischargeDepth := 40) [launch, hz]

@[simp] theorem issueHead_still (e : Nat) (q : QStep) (rest : List QStep) (s : State) (hz : Still whole z s) : Still whole z (issueHead e q rest s) := by
  simp (maxDischargeDepth := 40) [issueHead, hz]

@[simp] theorem abortFlight_still (e u : Nat) (p : Flight → Bool) (s : State) (hz : Still whole z s) : Still whole z (abortFlight e u p s) := by
  simp (maxDischargeDepth := 40) [abortFlight, hz]

@[simp] theorem endSender_still (st : Stream) (s : State) (hz : Still whole z s) : Still whole z (endSender st s) := by
  simp (maxDischargeDepth := 40) [endSender, hz]

@[simp] theorem abortEnds_still (st : Stream) (s : State) (hz : Still whole z s) : Still whole z (abortEnds st s) := by
  simp (maxDischargeDepth := 40) [abortEnds, hz]

@[simp] theorem reportAbort_still (cause : Nat) (st : Stream) (s : State) (hz : Still whole z s) : Still whole z (reportAbort cause st s) := by
  simp (maxDischargeDepth := 40) [reportAbort, hz]

@[simp] theorem abortStream_still (cause : Nat) (st : Stream) (s : State) (hz : Still whole z s) : Still whole z (abortStream cause st s) := by
  simp (maxDischargeDepth := 40) [abortStream, hz]

@[simp] theorem abortStreams_still (cause : Nat) (p : Stream → Bool) (s : State) (hz : Still whole z s) : Still whole z (abortStreams cause p s) := by
  simp (maxDischargeDepth := 40) [abortStreams, hz]

@[simp] theorem haltRun_still (cause w1 : Nat) (s : State) (hz : Still whole z s) : Still whole z (haltRun cause w1 s) := by
  simp (maxDischargeDepth := 40) [haltRun, hz]

@[simp] theorem putWord_still (r : Nat) (w : Word256) (s : State) (hz : Still whole z s) : Still whole z (putWord r w s) := by
  simp (maxDischargeDepth := 40) [putWord, hz]

@[simp] theorem putEvery_still (w : Word256) (s : State) (hz : Still whole z s) : Still whole z (putEvery w s) := by
  simp (maxDischargeDepth := 40) [putEvery, hz]

@[simp] theorem contribute_still (kind key rest : Nat) (s : State) (hz : Still whole z s) : Still whole z (contribute kind key rest s) := by
  simp (maxDischargeDepth := 40) [contribute, hz]

@[simp] theorem contributeTally_still (sheaf v : Nat) (s : State) (hz : Still whole z s) : Still whole z (contributeTally sheaf v s) := by
  simp (maxDischargeDepth := 40) [contributeTally, hz]

@[simp] theorem setReady_still (s : State) (h : Still whole z s) : Still whole z (setReady s) := by
  simp (maxDischargeDepth := 40) [setReady, h, readyFlags_flash]

@[simp] theorem evalReady_still (s : State) (hz : Still whole z s) : Still whole z (evalReady s) := by
  simp (maxDischargeDepth := 40) [evalReady, hz]

@[simp] theorem formRails_still (s : State) (hz : Still whole z s) : Still whole z (formRails s) := by
  simp (maxDischargeDepth := 40) [formRails, hz]

@[simp] theorem pump_still (r : Nat) (s : State) (hz : Still whole z s) : Still whole z (pump r s) := by
  simp (maxDischargeDepth := 40) [pump, hz]

@[simp] theorem sendOn_still (r : Nat) (p : Packet) (s : State) (hz : Still whole z s) : Still whole z (sendOn r p s) := by
  simp (maxDischargeDepth := 40) [sendOn, hz]

@[simp] theorem onBus_still (site dst : Nat) (col out : Bool) (p : Packet) (s : State) (hz : Still whole z s) : Still whole z (onBus site dst col out p s) := by
  simp (maxDischargeDepth := 40) [onBus, hz]

@[simp] theorem sendFrom_still (site r : Nat) (col : Bool) (p : Packet) (s : State) (hz : Still whole z s) : Still whole z (sendFrom site r col p s) := by
  simp (maxDischargeDepth := 40) [sendFrom, hz]

@[simp] theorem sendBack_still (r : Nat) (p : Packet) (s : State) (hz : Still whole z s) : Still whole z (sendBack r p s) := by
  simp only [sendBack]; (repeat' split) <;> simp (maxDischargeDepth := 40) [hz]

@[simp] theorem sendEscape_still (r : Nat) (p : Packet) (s : State) (hz : Still whole z s) : Still whole z (sendEscape r p s) := by
  simp (maxDischargeDepth := 40) [sendEscape, hz]

@[simp] theorem sendWaiting_still (s : State) (hz : Still whole z s) : Still whole z (sendWaiting s) := by
  simp (maxDischargeDepth := 40) [sendWaiting, hz]

/-! ### The grain counter moves -/

@[simp] theorem shiftCounter_strobed (n : Int) (t : Time) : (shiftCounter n t).strobed = t.strobed := rfl

@[simp] theorem State.modTport_still (s : State) (p : Nat) (f : TimePort → TimePort) (hz : Still whole z s) : Still whole z (State.modTport s p f) := by
  simp (maxDischargeDepth := 40) [State.modTport, hz]

@[simp] theorem enterTime_still (st : TimeState) (s : State) (hz : Still whole z s) : Still whole z (enterTime st s) := by
  simp (maxDischargeDepth := 40) [enterTime, hz]

@[simp] theorem loseTol_still (st : TimeState) (s : State) (hz : Still whole z s) : Still whole z (loseTol st s) := by
  simp (maxDischargeDepth := 40) [loseTol, hz]

@[simp] theorem stepForward_still (s : State) (hz : Still whole z s) : Still whole z (stepForward s) := by
  simp only [stepForward]; (repeat' split) <;> simp (maxDischargeDepth := 40) [hz]

@[simp] theorem lockTo_still (p : Nat) (s : State) (hz : Still whole z s) : Still whole z (lockTo p s) := by
  simp (maxDischargeDepth := 40) [lockTo, hz]

@[simp] theorem nextJob_still (p : Nat) (s : State) (hz : Still whole z s) : Still whole z (nextJob p s) := by
  unfold nextJob; (repeat' split) <;> simp (maxDischargeDepth := 40) [hz]

@[simp] theorem addJob_still (j : LockJob) (s : State) (hz : Still whole z s) : Still whole z (addJob j s) := by
  simp (maxDischargeDepth := 40) [addJob, hz]

@[simp] theorem giveUpPort0_still (s : State) (hz : Still whole z s) : Still whole z (giveUpPort0 s) := by
  unfold giveUpPort0; (repeat' split) <;> simp (maxDischargeDepth := 40) [hz]

@[simp] theorem sendRequest_still (s : State) (p : Nat) (hz : Still whole z s) : Still whole z (sendRequest s p) := by
  unfold sendRequest; (repeat' split) <;> simp (maxDischargeDepth := 40) [hz]

@[simp] theorem growErr_still (s : State) (hz : Still whole z s) : Still whole z (growErr s) := by
  simp (maxDischargeDepth := 40) [growErr, hz]

@[simp] theorem slewOnce_still (s : State) (hz : Still whole z s) : Still whole z (slewOnce s) := by
  unfold slewOnce
  split
  · exact hz.update (shiftCounter_strobed _ _) rfl rfl rfl rfl fun _ => rfl
  · exact hz

@[simp] theorem accumulate_still (s : State) (hz : Still whole z s) : Still whole z (accumulate s) := by
  simp (maxDischargeDepth := 40) [accumulate, hz]

@[simp] theorem noteBins_still (s : State) (hz : Still whole z s) : Still whole z (noteBins s) := by
  simp (maxDischargeDepth := 40) [noteBins, hz]

@[simp] theorem askPause_still (s : State) (hz : Still whole z s) : Still whole z (askPause s) := by
  simp (maxDischargeDepth := 40) [askPause, hz]

end Sys2Proof.Machine
end

section
/-! PROOFS. What the rows of the session, of parameters, of run control and of diagnostics leave alone: every memory
(R384, R386, R391, R394). -/

namespace Sys2Proof.Machine

variable {whole : Bool} {z : State}

/-- What a read of a parameter leaves alone, once it has cleared its RS fields. -/
def StillP (s : State) (o : Option Param) : Prop := ∀ p, o = some p → Still false s p.after

@[simp] theorem StillP.some (s : State) (p : Param) : StillP s (some p) ↔ Still false s p.after :=
  ⟨fun h => h p rfl, by rintro h _ ⟨⟩; exact h⟩

@[simp] theorem StillP.none (s : State) : StillP s none := by rintro _ ⟨⟩

@[simp] theorem acceptLoad_still (addr : Nat) (c : CmdRef) (s : State) (hz : Still whole z s) : Still whole z (acceptLoad addr c s) := by
  simp (maxDischargeDepth := 40) [acceptLoad, hz]

@[simp] theorem readMod_still (s : State) (i : Nat) : StillP s (readMod s i) := by
  unfold readMod; (repeat' split) <;> simp (maxDischargeDepth := 40)

@[simp] theorem readTime_still (s : State) (i : Nat) : StillP s (readTime s i) := by
  unfold readTime; dsimp only; (repeat' split) <;> simp (maxDischargeDepth := 40)

@[simp] theorem readTiller_still (s : State) (i : Nat) : StillP s (readTiller s i) := by
  unfold readTiller; dsimp only; (repeat' split) <;> simp (maxDischargeDepth := 40)

@[simp] theorem readPower_still (s : State) (i : Nat) : StillP s (readPower s i) := by
  unfold readPower; dsimp only; (repeat' split) <;> simp (maxDischargeDepth := 40)

@[simp] theorem readStack_still (s : State) (i : Nat) : StillP s (readStack s i) := by
  unfold readStack; dsimp only; (repeat' split) <;> simp (maxDischargeDepth := 40)

@[simp] theorem readMesh_still (s : State) (i : Nat) : StillP s (readMesh s i) := by
  unfold readMesh; dsimp only; (repeat' split) <;> simp (maxDischargeDepth := 40)

@[simp] theorem readSill_still (s : State) (i : Nat) : StillP s (readSill s i) := by
  unfold readSill; dsimp only; (repeat' split) <;> simp (maxDischargeDepth := 40)

@[simp] theorem readMem_still (s : State) (i : Nat) : StillP s (readMem s i) := by
  unfold readMem; dsimp only; (repeat' split) <;> simp (maxDischargeDepth := 40)

@[simp] theorem readCut_still (s : State) (i : Nat) : StillP s (readCut s i) := by
  unfold readCut; dsimp only; (repeat' split) <;> simp (maxDischargeDepth := 40)

@[simp] theorem readRail_still (s : State) (i : Nat) : StillP s (readRail s i) := by
  unfold readRail; dsimp only; (repeat' split) <;> simp (maxDischargeDepth := 40)

@[simp] theorem readOpt_still (s : State) (i : Nat) : StillP s (readOpt s i) := by
  unfold readOpt; dsimp only; (repeat' split) <;> simp (maxDischargeDepth := 40)

@[simp] theorem readFab_still (s : State) (i : Nat) : StillP s (readFab s i) := by
  unfold readFab; dsimp only; (repeat' split) <;> simp (maxDischargeDepth := 40)

@[simp] theorem readCol_still (s : State) (i : Nat) : StillP s (readCol s i) := by
  unfold readCol; dsimp only; (repeat' split) <;> simp (maxDischargeDepth := 40)

@[simp] theorem readCmd_still (s : State) (i : Nat) : StillP s (readCmd s i) := by
  unfold readCmd; dsimp only; (repeat' split) <;> simp (maxDischargeDepth := 40)

@[simp] theorem readProc_still (s : State) (i : Nat) : StillP s (readProc s i) := by
  unfold readProc; dsimp only; (repeat' split) <;> simp (maxDischargeDepth := 40)

@[simp] theorem readClk_still (s : State) (i : Nat) : StillP s (readClk s i) := by
  unfold readClk; (repeat' split) <;> simp (maxDischargeDepth := 40)

@[simp] theorem readCfg_still (s : State) (i : Nat) : StillP s (readCfg s i) := by
  unfold readCfg; dsimp only; (repeat' split) <;> simp (maxDischargeDepth := 40)

@[simp] theorem readSec_still (s : State) (i : Nat) : StillP s (readSec s i) := by
  unfold readSec; (repeat' split) <;> simp (maxDischargeDepth := 40)

@[simp] theorem readSup_still (s : State) (i : Nat) : StillP s (readSup s i) := by
  unfold readSup; dsimp only; (repeat' split) <;> simp (maxDischargeDepth := 40)

@[simp] theorem readDbg_still (s : State) (i : Nat) : StillP s (readDbg s i) := by
  unfold readDbg; dsimp only; (repeat' split) <;> simp (maxDischargeDepth := 40)

@[simp] theorem readErr_still (s : State) (i : Nat) : StillP s (readErr s i) := by
  unfold readErr; dsimp only; (repeat' split) <;> simp (maxDischargeDepth := 40)

@[simp] theorem readDiag_still (s : State) (id : Nat) : StillP s (readDiag s id) := by
  unfold readDiag; dsimp only; (repeat' split) <;> simp (maxDischargeDepth := 40)

@[simp] theorem param_stillP (s : State) (id : Nat) : StillP s (param s id) := by
  unfold param; dsimp only; (repeat' split) <;> simp

theorem param_still (s : State) (id : Nat) (p : Param) (e : param s id = some p) : Still false s p.after :=
  param_stillP s id p e

@[simp] theorem readParams_still (l : List Nat) (s : State) (h : Still false z s) : Still false z (readParams l s).2.2 := by
  induction l generalizing s with
  | nil => exact h
  | cons id r ih =>
    unfold readParams; split
    · exact h
    · split
      · exact h
      · exact ih _ (h.trans (param_still _ _ _ ‹_›))

@[simp] theorem storeParam_still (id v : Nat) (s : State) (hz : Still false z s) : Still false z (storeParam id v s).2 := by
  simp only [storeParam]; (repeat' split) <;> simp (maxDischargeDepth := 40) [hz]

@[simp] theorem checkWrite_still (id : Nat) (val : List (BitVec 8)) (f : Nat → State → Nat × State) (s : State)
    (h_f : ∀ x0 t, Still false t (f x0 t).2) (hz : Still false z s) : Still false z (checkWrite id val f s).2 := by
  unfold checkWrite; dsimp only; (repeat' split) <;> first | exact hz | exact hz.trans (h_f _ _)

@[simp] theorem takePacket_still (p : CmdPkt) (s : State) (hz : Still whole z s) : Still whole z (takePacket p s) := by
  simp (maxDischargeDepth := 40) [takePacket, hz]

@[simp] theorem runCmd_still (p : CmdPkt) (mine : Bool) (f : CmdRef → State → State) (s : State)
    (h_f : ∀ x0 t, Still false t (f x0 t)) (hz : Still false z s) : Still false z (runCmd p mine f s) := by
  have := Still.trans (takePacket_still p s hz) (h_f p.ref _)
  unfold runCmd; dsimp only; (repeat' split) <;> simp (maxDischargeDepth := 40) [hz, this]

@[simp] theorem execHello_still (p : CmdPkt) (s : State) : StillO false s (execHello p s) := by
  simp (maxDischargeDepth := 40) [execHello]

@[simp] theorem execPing_still (p : CmdPkt) (s : State) : StillO false s (execPing p s) := by
  simp (maxDischargeDepth := 40) [execPing]

@[simp] theorem execParamRead_still (p : CmdPkt) (s : State) : StillO false s (execParamRead p s) := by
  simp (maxDischargeDepth := 40) [execParamRead]

@[simp] theorem runWrite_still (p : CmdPkt) (ids : Nat → Bool) (f : Nat → State → Nat × State) (s : State)
    (h_f : ∀ x0 t, Still false t (f x0 t).2) (hz : Still false z s) : Still false z (runWrite p ids f s) := by
  unfold runWrite; refine runCmd_still _ _ _ _ (fun c t => ?_) hz
  simp (maxDischargeDepth := 40) [h_f]

@[simp] theorem execParamWrite_still (p : CmdPkt) (s : State) : StillO false s (execParamWrite p s) := by
  simp (maxDischargeDepth := 40) [execParamWrite]

@[simp] theorem execRailFlipWrite_still (p : CmdPkt) (s : State) : StillO false s (execRailFlipWrite p s) := by
  simp (maxDischargeDepth := 40) [execRailFlipWrite]

@[simp] theorem execRailMapWrite_still (p : CmdPkt) (s : State) : StillO false s (execRailMapWrite p s) := by
  simp (maxDischargeDepth := 40) [execRailMapWrite]

@[simp] theorem sendChunks_still (n : Nat) (c : CmdRef) (st : Nat) (d : List (BitVec 8)) (s : State)
    (h : Still whole z s) : Still whole z (sendChunks n c st d s) := by
  induction n generalizing s d with
  | zero => simp [sendChunks, h]
  | succ n ih =>
    unfold sendChunks; split
    · simp [h]
    · apply ih; simp [h]

@[simp] theorem noteRefusedLoad_still (p : CmdPkt) (s : State) (hz : Still false z s) : Still false z (noteRefusedLoad p s) := by
  simp (maxDischargeDepth := 40) [noteRefusedLoad, hz]

@[simp] theorem execLoadList_still (p : CmdPkt) (s : State) : StillO false s (execLoadList p s) := by
  simp (maxDischargeDepth := 40) [execLoadList]

@[simp] theorem execStartRun_still (p : CmdPkt) (s : State) : StillO false s (execStartRun p s) := by
  simp (maxDischargeDepth := 40) [execStartRun]

@[simp] theorem execPauseRun_still (p : CmdPkt) (s : State) : StillO false s (execPauseRun p s) := by
  simp (maxDischargeDepth := 40) [execPauseRun]

@[simp] theorem execResumeRun_still (p : CmdPkt) (s : State) : StillO false s (execResumeRun p s) := by
  simp (maxDischargeDepth := 40) [execResumeRun]

@[simp] theorem execCalibrateSillLanes_still (p : CmdPkt) (s : State) : StillO false s (execCalibrateSillLanes p s) := by
  simp (maxDischargeDepth := 40) [execCalibrateSillLanes]

@[simp] theorem execCalibrateRemeasureDelay_still (p : CmdPkt) (s : State) : StillO false s (execCalibrateRemeasureDelay p s) := by
  simp (maxDischargeDepth := 40) [execCalibrateRemeasureDelay]

@[simp] theorem execEvtSubscribe_still (p : CmdPkt) (s : State) : StillO false s (execEvtSubscribe p s) := by
  simp (maxDischargeDepth := 40) [execEvtSubscribe]

@[simp] theorem execEvtQuery_still (p : CmdPkt) (s : State) : StillO false s (execEvtQuery p s) := by
  simp (maxDischargeDepth := 40) [execEvtQuery]

@[simp] theorem execDiagCatalog_still (p : CmdPkt) (s : State) : StillO false s (execDiagCatalog p s) := by
  simp (maxDischargeDepth := 40) [execDiagCatalog]

@[simp] theorem execTraceRead_still (p : CmdPkt) (s : State) : StillO false s (execTraceRead p s) := by
  simp (maxDischargeDepth := 40) [execTraceRead]

@[simp] theorem execDbgCntWrite_still (p : CmdPkt) (s : State) : StillO false s (execDbgCntWrite p s) := by
  simp (maxDischargeDepth := 40) [execDbgCntWrite]

@[simp] theorem execDbgTraceWrite_still (p : CmdPkt) (s : State) : StillO false s (execDbgTraceWrite p s) := by
  simp (maxDischargeDepth := 40) [execDbgTraceWrite]

@[simp] theorem execErrAck_still (p : CmdPkt) (s : State) : StillO false s (execErrAck p s) := by
  simp (maxDischargeDepth := 40) [execErrAck]

@[simp] theorem execFaultAck_still (p : CmdPkt) (s : State) : StillO false s (execFaultAck p s) := by
  simp (maxDischargeDepth := 40) [execFaultAck]

@[simp] theorem execSaveImage_still (p : CmdPkt) (s : State) : StillO false s (execSaveImage p s) := by
  simp (maxDischargeDepth := 40) [execSaveImage]

@[simp] theorem execRestoreImage_still (p : CmdPkt) (s : State) : StillO false s (execRestoreImage p s) := by
  simp (maxDischargeDepth := 40) [execRestoreImage]

@[simp] theorem freshNonce_still (s : State) (hz : Still whole z s) : Still whole z (freshNonce s) := by
  simp (maxDischargeDepth := 40) [freshNonce, hz]

@[simp] theorem runSquare_still (p : CmdPkt) (op : Nat) (f : CmdRef → State → State) (s : State) (h_f : ∀ x0 t, Still false t (f x0 t)) (hz : Still false z s) : Still false z (runSquare p op f s) := by
  simp (maxDischargeDepth := 40) [runSquare, hz, h_f]

@[simp] theorem execFwCommit_still (p : CmdPkt) (s : State) : StillO false s (execFwCommit p s) := by
  simp (maxDischargeDepth := 40) [execFwCommit]

@[simp] theorem execAttest_still (p : CmdPkt) (s : State) : StillO false s (execAttest p s) := by
  unfold execAttest; apply StillO.next; refine runSquare_still _ _ _ _ (fun c t => ?_) (by simp)
  dsimp only; split
  · simp
  · apply finish_still; simp

@[simp] theorem execIdentity_still (p : CmdPkt) (s : State) : StillO false s (execIdentity p s) := by
  simp (maxDischargeDepth := 40) [execIdentity]

@[simp] theorem closeJtag_still (s : State) (hz : Still whole z s) : Still whole z (closeJtag s) := by
  simp (maxDischargeDepth := 40) [closeJtag, hz]

@[simp] theorem endCapture_still (s : State) (hz : Still whole z s) : Still whole z (endCapture s) := by
  simp (maxDischargeDepth := 40) [endCapture, hz]

@[simp] theorem endUnlock_still (why : Nat) (s : State) (hz : Still whole z s) : Still whole z (endUnlock why s) := by
  simp (maxDischargeDepth := 40) [endUnlock, hz]

@[simp] theorem execDebugUnlock_still (p : CmdPkt) (s : State) : StillO false s (execDebugUnlock p s) := by
  simp (maxDischargeDepth := 40) [execDebugUnlock]

@[simp] theorem execDebugLock_still (p : CmdPkt) (s : State) : StillO false s (execDebugLock p s) := by
  simp (maxDischargeDepth := 40) [execDebugLock]

@[simp] theorem runBlock_still (kind : Nat) (p : CmdPkt) (s : State) (hz : Still false z s) : Still false z (runBlock kind p s) := by
  simp (maxDischargeDepth := 40) [runBlock, hz]

@[simp] theorem execBlockResetComputeStack_still (p : CmdPkt) (s : State) : StillO false s (execBlockResetComputeStack p s) := by
  simp (maxDischargeDepth := 40) [execBlockResetComputeStack]

@[simp] theorem execBlockResetCrib_still (p : CmdPkt) (s : State) : StillO false s (execBlockResetCrib p s) := by
  simp (maxDischargeDepth := 40) [execBlockResetCrib]

@[simp] theorem execBlockResetHbmSite_still (p : CmdPkt) (s : State) : StillO false s (execBlockResetHbmSite p s) := by
  simp (maxDischargeDepth := 40) [execBlockResetHbmSite]

@[simp] theorem execBlockResetRailSite_still (p : CmdPkt) (s : State) : StillO false s (execBlockResetRailSite p s) := by
  simp (maxDischargeDepth := 40) [execBlockResetRailSite]

@[simp] theorem execBlockResetSillPath_still (p : CmdPkt) (s : State) : StillO false s (execBlockResetSillPath p s) := by
  simp (maxDischargeDepth := 40) [execBlockResetSillPath]

@[simp] theorem execBlockResetSillSequencer_still (p : CmdPkt) (s : State) : StillO false s (execBlockResetSillSequencer p s) := by
  simp (maxDischargeDepth := 40) [execBlockResetSillSequencer]

end Sys2Proof.Machine
end

section
/-! PROOFS. The sheaf strobe (R22, R34, R449) and the issue of steps (R42) leave every memory alone; the strobe leaves the
record of itself alone too. -/

namespace Sys2Proof.Machine

variable {whole : Bool} {z : State}

@[simp] theorem showBin_still (k b : Nat) (s : State) (hz : Still whole z s) : Still whole z (showBin k b s) := by
  simp (maxDischargeDepth := 40) [showBin, hz]

@[simp] theorem changeBins_still (s : State) (hz : Still whole z s) : Still whole z (changeBins s) := by
  simp (maxDischargeDepth := 40) [changeBins, hz]

@[simp] theorem selectObs_still (s : State) (hz : Still whole z s) : Still whole z (selectObs s) := by
  simp (maxDischargeDepth := 40) [selectObs, hz]

@[simp] theorem limitStack_still (r : SheafReadings) (s : State) (d : Nat) (hz : Still whole z s) : Still whole z (limitStack r s d) := by
  simp (maxDischargeDepth := 40) [limitStack, hz]

@[simp] theorem limitInput_still (r : SheafReadings) (s : State) (hz : Still whole z s) : Still whole z (limitInput r s) := by
  simp (maxDischargeDepth := 40) [limitInput, hz]

@[simp] theorem judgeSensor_still (s : State) (x : SensorReading) (hz : Still whole z s) : Still whole z (judgeSensor s x) := by
  simp (maxDischargeDepth := 40) [judgeSensor, hz]

@[simp] theorem readTemps_still (r : SheafReadings) (s : State) (hz : Still false z s) : Still false z (readTemps r s) := by
  simp only [readTemps]; (repeat' split) <;> simp (maxDischargeDepth := 40) [hz]

@[simp] theorem sendTally_still (s : State) (hz : Still whole z s) : Still whole z (sendTally s) := by
  simp (maxDischargeDepth := 40) [sendTally, hz]

@[simp] theorem applyTally_still (s : State) (hz : Still whole z s) : Still whole z (applyTally s) := by
  simp only [applyTally]; (repeat' split) <;> simp (maxDischargeDepth := 40) [hz]

@[simp] theorem thermStop_still (s : State) (hz : Still whole z s) : Still whole z (thermStop s) := by
  simp (maxDischargeDepth := 40) [thermStop, hz]

@[simp] theorem thermHalt_still (s : State) (hz : Still whole z s) : Still whole z (thermHalt s) := by
  simp (maxDischargeDepth := 40) [thermHalt, hz]

@[simp] theorem thermalDecision_still (s : State) (hz : Still whole z s) : Still whole z (thermalDecision s) := by
  simp (maxDischargeDepth := 40) [thermalDecision, hz]

@[simp] theorem thermalPolicy_still (s : State) (hz : Still whole z s) : Still whole z (thermalPolicy s) := by
  simp (maxDischargeDepth := 40) [thermalPolicy, hz]

@[simp] theorem supervise_still (r : SheafReadings) (s : State) (hz : Still false z s) : Still false z (supervise r s) := by
  simp (maxDischargeDepth := 40) [supervise, hz]

@[simp] theorem rejoinLanes_still (s : State) (r : Nat) (hz : Still whole z s) : Still whole z (rejoinLanes s r) := by
  simp (maxDischargeDepth := 40) [rejoinLanes, hz]

@[simp] theorem boundRails_still (s : State) (hz : Still whole z s) : Still whole z (boundRails s) := by
  simp (maxDischargeDepth := 40) [boundRails, hz]

/-- The record of a strobe that is due, and what a boundary ends. -/
def noteStrobe (s : State) : State :=
  { s with time := { s.time with strobed := some s.now }, arb := { s.arb with pointers := [] },
           cut := { s.cut with idleNow := false } }

def takeSnapshot (s : State) : State := { s with dbg := { s.dbg with snapshot := snapshotOf s } }

/-- The snapshot does not hold itself. -/
theorem takeSnapshot_snapshot (s : State) : (takeSnapshot s).dbg.snapshot = snapshotOf (takeSnapshot s) := rfl

/-- A strobe that is due records its grain, acts, and takes the snapshot last. -/
theorem execFleetSheafBoundary_due (r : SheafReadings) {s : State} (hb : s.atBoundary = true)
    (hs : s.time.strobed ≠ some s.now) (h3 : ∀ ep, s.rst.episode = some ep → ep.level ≠ 3) :
    ∃ t, exec (.fleetSheafBoundary r) s = .next (takeSnapshot t) ∧ Still false (noteStrobe s) t := by
  have hguard : (!s.atBoundary || s.time.strobed == some s.now || s.rst.episode.any (fun ep => ep.level == 3)) = false := by
    simpa [hb, hs, Option.any_eq_false] using h3
  rw [show exec (.fleetSheafBoundary r) s = execFleetSheafBoundary r s from rfl, execFleetSheafBoundary,
    if_neg (ne_true_of_eq_false hguard)]
  extract_lets _ _ _ noted timed supervised counted decided binned bounded dbg
  have h0 : Still false (noteStrobe s) noted := .refl _ _
  have h1 : Still false (noteStrobe s) timed := by simp (maxDischargeDepth := 10) [timed, h0]
  have h2 : Still false (noteStrobe s) supervised := by simp (maxDischargeDepth := 10) [supervised, h1]
  have h3 : Still false (noteStrobe s) counted := by simp [counted, h2]
  have h4 : Still false (noteStrobe s) decided := by simp (maxDischargeDepth := 10) [decided, h3]
  have h5 : Still false (noteStrobe s) binned := by simp (maxDischargeDepth := 10) [binned, h4]
  have h6 : Still false (noteStrobe s) bounded := by simp (maxDischargeDepth := 10) [bounded, h5]
  clear_value bounded
  exact ⟨bounded, rfl, h6⟩

/-- Settles O11: what a due strobe does after it has recorded its grain leaves that record alone. -/
theorem sheafBoundaryStrobesOnce : Obligations.SheafBoundaryStrobesOnce := by
  unfold Obligations.SheafBoundaryStrobesOnce
  refine ⟨fun r s hb hs h3 => ?_, fun r s h => ?_⟩
  · obtain ⟨t, ht, hstill⟩ := execFleetSheafBoundary_due r hb hs h3
    exact ⟨_, ht, hstill.strobed, takeSnapshot_snapshot t⟩
  · obtain h | h := h <;> simp [exec, execFleetSheafBoundary, h]

/-- STEP_ISSUE that changes anything issues a head step that may issue. -/
theorem stepIssue_changes {eng : BitVec 16} {s t : State} (h : exec (.stepIssue eng) s = .next t) (hne : t ≠ s) :
    ∃ q rest, (s.engine eng.toNat).queue = q :: rest ∧ canIssue s eng.toNat (s.engine eng.toNat) q rest = true ∧
      t = issueHead eng.toNat q rest s := by
  simp only [exec, execStepIssue, issueIf, Bool.true_and] at h
  split at h
  · split at h
    · obtain rfl : s = t := by simpa using h
      exact absurd rfl hne
    · next q rest hq =>
      split at h
      · next hc => exact ⟨q, rest, hq, hc, by simpa using h.symm⟩
      · obtain rfl : s = t := by simpa using h
        exact absurd rfl hne
  · simp at h

/-- What a head step that may issue has met: the part of R42 that the counters and the grain decide. -/
theorem canIssue_meets {s : State} {e : Nat} {g : Engine} {q : QStep} {rest : List QStep}
    (h : canIssue s e g q rest = true) :
    s.cut.state = .running ∧ s.cut.idleNow = false ∧ s.dueGrain q.sheaf (stOffset q.word) ≤ s.now ∧
      ∀ c ∈ stWaits q.word, 1 ≤ (countOf g c).count := by
  simp only [canIssue, waitsMet, Bool.and_eq_true, Bool.not_eq_true', beq_iff_eq, decide_eq_true_eq,
    List.all_eq_true] at h
  obtain ⟨⟨⟨⟨⟨⟨⟨⟨⟨⟨⟨hrun, -⟩, hidle⟩, -⟩, -⟩, -⟩, -⟩, hdue⟩, -⟩, hwaits⟩, -⟩, -⟩ := h
  exact ⟨hrun, hidle, hdue, hwaits⟩

/-- Settles O14: a change by STEP_ISSUE is the issue of a head step that may issue, which touches no memory. -/
theorem stepNeverIssuesEarly : Obligations.StepNeverIssuesEarly := by
  unfold Obligations.StepNeverIssuesEarly
  intro eng s t h hne
  obtain ⟨q, rest, hq, hcan, rfl⟩ := stepIssue_changes h hne
  obtain ⟨hrun, hidle, hdue, hwaits⟩ := canIssue_meets hcan
  have hstill : Still true s (issueHead eng.toNat q rest s) := issueHead_still _ _ _ _ (.refl _ _)
  exact ⟨hrun, hidle, hstill.localStore, hstill.crib, hstill.hbm rfl, q, rest, hq, hdue, hwaits⟩

end Sys2Proof.Machine
end

section
/-! PROOFS. Commands as a whole: the first failed check of R379 answers (R233, R376, R379), and the commands of the session,
of parameters, of run control and of diagnostics touch no memory (R384, R386, R391, R394). -/

namespace Sys2Proof.Machine

/-! ### The checks do not see CUT.LOAD -/

theorem canStart_noteRefusedLoad (p : CmdPkt) (s : State) : canStart (noteRefusedLoad p s) p = canStart s p := by
  unfold noteRefusedLoad
  split <;> rfl

theorem cmdStatus_noteRefusedLoad (p : CmdPkt) (s : State) : cmdStatus (noteRefusedLoad p s) p = cmdStatus s p := by
  unfold noteRefusedLoad
  split <;> rfl

/-- A command that is refused notes the refusal only for a LOAD refused with 0x0213 (R233). -/
theorem noteRefusedLoad_of_other {p : CmdPkt} {s : State} (h : p.opcode ≠ 0x300 ∨ cmdStatus s p ≠ 0x0213)
    (hz : cmdStatus s p ≠ 0) : noteRefusedLoad p s = s := by
  obtain hop | hst := h
  · exact noteRefusedLoad_of_not_load hop s
  · simp [noteRefusedLoad, hst, hz]

theorem noteRefusedLoad_of_waits {p : CmdPkt} {s : State} (h : canStart s p = false) : noteRefusedLoad p s = s := by
  simp [noteRefusedLoad, h]

/-- Settles O54: every row is a `runCmd`, which answers the status of the checks, and does nothing with a packet that its
channel does not start. -/
theorem firstFailedCheckAnswers : Obligations.FirstFailedCheckAnswers := by
  unfold Obligations.FirstFailedCheckAnswers
  refine ⟨fun c p s hrow hstart hst => ?_, fun p s h hz => noteRefusedLoad_of_other h hz, fun c p s hrow hwait => ?_⟩
  · obtain ⟨f, hf⟩ := exec_runsCmd s hrow
    rw [hf, runCmd_refused p _ true f rfl (by rwa [canStart_noteRefusedLoad]) (by rwa [cmdStatus_noteRefusedLoad]),
      cmdStatus_noteRefusedLoad]
  · obtain ⟨f, hf⟩ := exec_runsCmd s hrow
    rw [hf, noteRefusedLoad_of_waits hwait, runCmd_waits p s true f hwait]

/-- Settles O58: each of these rows leaves every memory alone, by a law of its own. -/
theorem controlCommandsKeepMemory : Obligations.ControlCommandsKeepMemory := by
  unfold Obligations.ControlCommandsKeepMemory
  intro p c s t hc h
  suffices hstill : StillO false s (exec c s) by
    have hs := hstill t h
    exact ⟨hs.mem, hs.localStore, hs.crib, hs.area, hs.window, hs.flash⟩
  clear h
  revert c
  simp only [List.mem_cons, List.not_mem_nil, or_false, forall_eq_or_imp, forall_eq]
  exact ⟨execHello_still p s, execPing_still p s, execParamRead_still p s, execParamWrite_still p s,
    execEvtSubscribe_still p s, execEvtQuery_still p s, execStartRun_still p s, execPauseRun_still p s,
    execResumeRun_still p s, execLoadList_still p s, execSaveImage_still p s, execRestoreImage_still p s,
    execAttest_still p s, execIdentity_still p s, execFwCommit_still p s, execDebugUnlock_still p s,
    execDebugLock_still p s, execDiagCatalog_still p s, execTraceRead_still p s, execDbgCntWrite_still p s,
    execDbgTraceWrite_still p s, execErrAck_still p s, execFaultAck_still p s, execRailFlipWrite_still p s,
    execRailMapWrite_still p s, execBlockResetComputeStack_still p s, execBlockResetCrib_still p s,
    execBlockResetHbmSite_still p s, execBlockResetRailSite_still p s, execBlockResetSillPath_still p s,
    execBlockResetSillSequencer_still p s, execCalibrateSillLanes_still p s, execCalibrateRemeasureDelay_still p s⟩

end Sys2Proof.Machine
end

section
/-! PROOFS. Entry to drift loses the tolerance and reports it (R32, R33, R536). -/

namespace Sys2Proof.Machine

/-- Settles O10: the row is `loseTol`, whose law says what it raises. -/
theorem losingToleranceIsReported : Obligations.LosingToleranceIsReported := by
  unfold Obligations.LosingToleranceIsReported
  intro s hst herr
  obtain ⟨p, q, r, l, ht, hcode, hgrain, hl⟩ := loseTol_spec .drift s
  have hrow : exec .holdoverToDrift s = .next (loseTol .drift s) := by simp [exec, execHoldoverToDrift, hst, herr]
  rw [hrow, ht]
  exact ⟨_, r, l, rfl, rfl, rfl, rfl, hcode, hgrain, hl, rfl⟩

end Sys2Proof.Machine
end

section
/-! PROOFS. A token post in flight is counted, saturates its counter, or is discarded and repeated (R40, R43, R56, R178,
R179). -/

namespace Sys2Proof.Machine

/-- The state with one token counter of an engine replaced. -/
def putCount (e c : Nat) (v : Token) (s : State) : State :=
  s.modEngine e (fun g => { g with tokens := tabPut g.tokens c v })

section
variable (e c : Nat) (v : Token) (s : State)

@[simp] theorem countOf_putCount : countOf ((putCount e c v s).engine e) c = v := by
  simp [putCount, countOf]

theorem countOf_putCount_other (j : Nat) (h : j ≠ c) :
    countOf ((putCount e c v s).engine e) j = countOf (s.engine e) j := by
  simp [putCount, countOf, h]

theorem putCount_engine :
    (putCount e c v s).engine e = { s.engine e with tokens := ((putCount e c v s).engine e).tokens } := by
  simp [putCount]

theorem putCount_engine_other (j : Nat) (h : j ≠ e) : (putCount e c v s).engine j = s.engine j :=
  State.modEngine_get_other s e j _ h

end

/-- What a post makes of its counter: the count given, with the post's causes and error added (R43, R56). -/
def markToken (x : Post) (t : Token) : Token := { t with mask := t.mask ||| x.mask, err := t.err || x.err }

/-- A post to a counter that is not full adds one count. -/
theorem applyPost_counts (x : Post) {s : State} (h : (countOf (s.engine x.dest) x.counter).count < 0xFFFF) :
    ∃ v, applyPost x s = putCount x.dest x.counter v s ∧
      v.count = (countOf (s.engine x.dest) x.counter).count + 1 ∧
      v.mask = (countOf (s.engine x.dest) x.counter).mask ||| x.mask ∧
      v.err = ((countOf (s.engine x.dest) x.counter).err || x.err) := by
  unfold applyPost
  dsimp only
  rw [if_neg (by omega)]
  exact ⟨_, rfl, rfl, rfl, rfl⟩

/-- A post to a full counter leaves the count and raises TOKEN_OVERFLOW. -/
theorem applyPost_overflows (x : Post) {s : State} (h : (countOf (s.engine x.dest) x.counter).count = 0xFFFF) :
    applyPost x s = raise 0x0103 x.dest x.counter 0 0 0
      { putCount x.dest x.counter (markToken x (countOf (s.engine x.dest) x.counter)) s with
        repro := { s.repro with stepError := true } } := by
  unfold applyPost
  dsimp only
  rw [if_pos (by omega)]
  rfl

/-- A post in flight to a counter of an engine. -/
def postTo (e c : Nat) (p : Post) : Bool := p.dest == e && p.counter == c

/-- The state in which the first post to a counter has left flight. -/
def landed (e c : Nat) (s : State) : State :=
  { s with cut := { s.cut with posts := delFirst (postTo e c) s.cut.posts } }

section
variable {eng : BitVec 16} {counter : Fin 64} {s : State} {x : Post} {w : Word128}
variable (hv : engValid eng.toNat = true) (hx : s.cut.posts.find? (postTo eng.toNat counter.val) = some x)

include hx in
theorem post_dest : x.dest = eng.toNat ∧ x.counter = counter.val := by
  simpa [postTo] using List.find?_some hx

include hv hx

theorem exec_tokenPost_wordless (flip : Word128) (hw : x.word = none) :
    exec (.tokenPost eng counter flip) s = .next (applyPost x (landed eng.toNat counter.val s)) := by
  have hf : s.cut.posts.find? (fun p => p.dest == eng.toNat && p.counter == counter.val) = some x := hx
  simp only [exec, execTokenPost, hv, if_true, hf, hw]
  rfl

theorem exec_tokenPost_word (flip : Word128) (hw : x.word = some w) (ha : awaitsRepeat s w = false)
    (hl : wordUnlit s w = false) :
    exec (.tokenPost eng counter flip) s = .next (if checkOk (w ^^^ flip)
      then applyPost x (landed eng.toNat counter.val (countWord w false (siteCross 5 (cwDst w) s)))
      else discardWord w s) := by
  have hf : s.cut.posts.find? (fun p => p.dest == eng.toNat && p.counter == counter.val) = some x := hx
  simp only [exec, execTokenPost, hv, if_true, hf, hw, ha, Bool.false_eq_true, if_false, arriveWord, hl]
  rfl

theorem exec_tokenPost_awaits (flip : Word128) (hw : x.word = some w) (ha : awaitsRepeat s w = true) :
    exec (.tokenPost eng counter flip) s = .next s := by
  have hf : s.cut.posts.find? (fun p => p.dest == eng.toNat && p.counter == counter.val) = some x := hx
  simp [exec, execTokenPost, hv, hf, hw, ha]

end

/-- Settles O15: the first post to the counter is applied once it has left flight, directly or with its word. -/
theorem tokenPostCounts : Obligations.TokenPostCounts := by
  unfold Obligations.TokenPostCounts
  refine ⟨fun eng counter flip s x hv hx hw hc => ?_, fun eng counter flip s x hv hx hw hc => ?_,
    fun eng counter flip s x w hv hx hw ha hl hk => ?_, fun eng counter flip s x w hv hx hw ha hl hk => ?_,
    fun eng counter flip s x w hv hx hw ha => exec_tokenPost_awaits hv hx flip hw ha⟩
  · obtain ⟨hd, hn⟩ := post_dest hx
    obtain ⟨v, ht, hcount, hmask, herr⟩ := applyPost_counts x (s := landed eng.toNat counter.val s) (by rw [hd, hn]; exact hc)
    rw [hd, hn] at ht hcount hmask herr
    rw [exec_tokenPost_wordless hv hx flip hw, ht]
    refine ⟨_, rfl, ?_, ?_, ?_, fun c h => countOf_putCount_other _ _ _ _ c h, putCount_engine _ _ _ _,
      fun e h => putCount_engine_other _ _ _ _ e h, rfl, rfl⟩ <;> rw [countOf_putCount]
    exacts [hcount, hmask, herr]
  · obtain ⟨hd, hn⟩ := post_dest hx
    have ht := applyPost_overflows x (s := landed eng.toNat counter.val s) (by rw [hd, hn]; exact hc)
    rw [hd, hn] at ht
    rw [exec_tokenPost_wordless hv hx flip hw, ht]
    obtain ⟨r, hr, hcode, heng, -, h0, -⟩ := raise_spec 0x0103 eng.toNat counter.val 0 0 0 _
    rw [hr]
    have hcounter : counter.val % 2 ^ 64 = counter.val := by omega
    have hsame := countOf_putCount eng.toNat counter.val
      (markToken x (countOf (s.engine eng.toNat) counter.val)) (landed eng.toNat counter.val s)
    exact ⟨_, r, rfl, (congrArg Token.count hsame).trans hc, congrArg Token.mask hsame, congrArg Token.err hsame,
      fun c h => countOf_putCount_other _ _ _ _ c h, putCount_engine _ _ _ _, fun e h => putCount_engine_other _ _ _ _ e h,
      rfl, hcode, heng, h0.trans hcounter, rfl, rfl, rfl⟩
  · exact ⟨_, rfl, by rw [exec_tokenPost_word hv hx flip hw ha hl, if_pos hk]; rfl⟩
  · rw [exec_tokenPost_word hv hx flip hw ha hl, if_neg (by simp [hk])]

end Sys2Proof.Machine
end

section
/-! PROOFS. What a matrix or vector step of a tiller can change: its own record, its own engine, its result region, and the
state of the run (R63 to R85). -/

namespace Sys2Proof.Machine

/-- What a step of the tiller with a key, in flight on an engine, can change beside the local stores. -/
structure Touches (key eng : Nat) (s u : State) : Prop where
  tiller : ∀ k, k ≠ key → u.tiller k = s.tiller k
  engine : ∀ e, e ≠ eng → u.engine e = s.engine e
  rest : ∃ ls ts es c x p f, u = { s with
    localStore := ls, tillers := ts, engines := es, cut := c, err := x, repro := p, free := f }

namespace Touches

variable {key eng : Nat} {s u v : State}

theorem refl (key eng : Nat) (s : State) : Touches key eng s s :=
  ⟨fun _ _ => rfl, fun _ _ => rfl, _, _, _, _, _, _, _, rfl⟩

theorem trans (h : Touches key eng s u) (k : Touches key eng u v) : Touches key eng s v := by
  obtain ⟨ls, ts, es, c, x, p, f, rfl⟩ := h.rest
  obtain ⟨ls', ts', es', c', x', p', f', rfl⟩ := k.rest
  exact ⟨fun j hj => (k.tiller j hj).trans (h.tiller j hj), fun e he => (k.engine e he).trans (h.engine e he),
    ls', ts', es', c', x', p', f', rfl⟩

theorem rest_eq (h : Touches key eng s u) : u = { s with
    localStore := u.localStore, tillers := u.tillers, engines := u.engines, cut := u.cut, err := u.err,
    repro := u.repro, free := u.free } := by
  obtain ⟨ls, ts, es, c, x, p, f, rfl⟩ := h.rest
  rfl

theorem lsStore (h : Touches key eng s u) (a : Nat) (b : List (BitVec 8)) : Touches key eng s (u.lsStore a b) :=
  h.trans ⟨fun _ _ => rfl, fun _ _ => rfl, _, _, _, _, _, _, _, rfl⟩

theorem modTiller (h : Touches key eng s u) (f : Tiller → Tiller) : Touches key eng s (u.modTiller key f) :=
  h.trans ⟨fun k hk => State.modTiller_get_other u key k f hk, fun _ _ => rfl, _, _, _, _, _, _, _, rfl⟩

theorem modBank (h : Touches key eng s u) (b : Nat) (f : Bank → Bank) : Touches key eng s (u.modBank key b f) :=
  h.modTiller _

theorem modFlight (h : Touches key eng s u) (n : Nat) (p : Flight → Bool) (g : Flight → Flight) :
    Touches key eng s (modFlight eng n p g u) :=
  h.trans ⟨fun _ _ => rfl, fun e he => State.modEngine_get_other u eng e _ he, _, _, _, _, _, _, _, rfl⟩

theorem setFlag (h : Touches key eng s u) (b : Nat) : Touches key eng s (setFlag key b u) := by
  obtain he | ⟨f, c, x, he⟩ := setFlag_spec key b u
  · rwa [he]
  · rw [he]
    exact h.trans ⟨fun k hk => tabGet_tabMod_other _ _ _ _ _ hk, fun _ _ => rfl, _, _, _, _, _, _, _, rfl⟩

theorem noteSat (h : Touches key eng s u) (b : Bool) : Touches key eng s (noteSat b u) := by
  unfold Machine.noteSat
  split
  · exact h.trans ⟨fun _ _ => rfl, fun _ _ => rfl, _, _, _, _, _, _, _, rfl⟩
  · exact h

theorem ite {c : Prop} [Decidable c] (h : Touches key eng s u) (k : Touches key eng s v) :
    Touches key eng s (if c then u else v) := by split <;> assumption

end Touches

/-! ### What the effects store -/

@[simp] theorem setFlag_localStore (key b : Nat) (s : State) : (setFlag key b s).localStore = s.localStore := by
  obtain he | ⟨f, c, x, he⟩ := setFlag_spec key b s <;> rw [he]

@[simp] theorem noteSat_localStore (b : Bool) (s : State) : (noteSat b s).localStore = s.localStore := by
  unfold noteSat; split <;> rfl

@[simp] theorem modBank_localStore (key b : Nat) (f : Bank → Bank) (s : State) :
    (s.modBank key b f).localStore = s.localStore := rfl

@[simp] theorem modFlight_localStore (e n : Nat) (p : Flight → Bool) (g : Flight → Flight) (s : State) :
    (modFlight e n p g s).localStore = s.localStore := rfl

@[simp] theorem lsStore_localStore (a : Nat) (b : List (BitVec 8)) (s : State) :
    (s.lsStore a b).localStore = memStore 0 s.localStore a b := rfl

@[simp] theorem ite_localStore {c : Prop} [Decidable c] (s t : State) :
    (if c then s else t).localStore = if c then s.localStore else t.localStore := by split <;> rfl

@[simp] theorem length_toBytes (n v : Nat) : (toBytes n v).length = n := by
  induction n generalizing v with
  | zero => rfl
  | succ n ih => simp [toBytes, ih]

/-- Pieces of one length. -/
theorem length_flatMap_of_const {α β : Type} {l : List α} {f : α → List β} {n : Nat} (h : ∀ x ∈ l, (f x).length = n) :
    (l.flatMap f).length = l.length * n := by
  induction l with
  | nil => simp
  | cons x l ih =>
    rw [List.flatMap_cons, List.length_append, h x (by simp), ih fun y hy => h y (by simp [hy]), List.length_cons,
      Nat.succ_mul, Nat.add_comm]

@[simp] theorem length_elemBytes (n : Nat) (l : List Nat) : (elemBytes n l).length = n * l.length := by
  simp [elemBytes, List.length_flatMap, Nat.mul_comm]

@[simp] theorem length_blockOut (f : Nat) (vs : List Val) : (blockOut f vs).1.length = 4 * fmtBits f := by
  unfold blockOut
  split <;> simp [packBlock]

theorem length_tileOut (f : Nat) (k : Bank) (o : Int) :
    (tileOut f k o).length = if fmtMx f then 6144 * fmtBits f / 8 + 192 else 6144 * fmtBits f / 8 := by
  have hw : 192 * (4 * fmtBits f) = 6144 * fmtBits f / 8 := by omega
  unfold tileOut
  extract_lets bl
  have hbl : bl.length = 192 := by rw [List.length_map, List.length_range]
  have hel : (bl.flatMap (·.1)).length = 192 * (4 * fmtBits f) := by
    rw [length_flatMap_of_const (n := 4 * fmtBits f) (fun x hx => ?_), hbl]
    obtain ⟨g, -, rfl⟩ := List.mem_map.mp hx
    exact length_blockOut _ _
  rw [List.length_append, hel, hw]
  split
  · rw [List.length_map, hbl]
  · rfl

theorem length_binRecord (k : Bank) : (binRecord k).length = 147520 := by
  have hbins : ((List.range 6144).flatMap (fun i => toBytes 24 (tabGet k.bins i 0).toNat)).length = 6144 * 24 := by
    rw [length_flatMap_of_const (n := 24) fun i _ => length_toBytes _ _, List.length_range]
  simp only [binRecord, List.length_append, length_toBytes, List.length_replicate, hbins, List.length_cons, List.length_nil]

/-- The bytes that a step's effect stores from an address on. -/
def Stores (lo n : Nat) (s u : State) : Prop :=
  ∃ b : List (BitVec 8), b.length = n ∧ u.localStore = memStore 0 s.localStore lo b

theorem writeVec_stores (key gran size : Nat) {n : Nat} {r : List (Nat × Bool)} (s : State) (h : r.length = n) :
    Stores (lsAddr key gran) (size * n) s (writeVec key gran size r s) :=
  ⟨elemBytes size (r.map (·.1)), by simp [h], by simp [writeVec]⟩

theorem Touches.writeVec {key eng : Nat} {s u : State} (h : Touches key eng s u) (gran size : Nat) (r : List (Nat × Bool)) :
    Touches key eng s (writeVec key gran size r u) :=
  .ite ((h.lsStore _ _).setFlag 5) (h.lsStore _ _)

/-! ### The frame of a row -/

/-- What the thirteen rows leave alone, as the obligation says it. -/
def FrameOf (key eng : Nat) (s u : State) : Prop :=
  (∀ k, k ≠ key → u.tiller k = s.tiller k) ∧ (∀ e, e ≠ eng → u.engine e = s.engine e) ∧
    u = { s with
      localStore := u.localStore, tillers := u.tillers, engines := u.engines, cut := u.cut, err := u.err,
      repro := u.repro, free := u.free }

section
variable {key eng op lo n : Nat} {b : Body} {f : State → State} {s : State}

theorem applyStep_cases (eng op : Nat) (b : Body) (f : State → State) (s : State) :
    applyStep eng op b f s = s ∨
      applyStep eng op b f s = modFlight eng (unitOf op) (isStep op b) (fun x => { x with done := true }) (f s) := by
  unfold applyStep
  split
  · exact .inl rfl
  · exact .inr rfl

theorem applyStep_frame (h : Touches key eng s (f s)) : FrameOf key eng s (applyStep eng op b f s) := by
  have ht : Touches key eng s (applyStep eng op b f s) := by
    obtain he | he := applyStep_cases eng op b f s <;> rw [he]
    · exact .refl _ _ _
    · exact h.modFlight _ _ _
  exact ⟨ht.tiller, ht.engine, ht.rest_eq⟩

/-- A step whose effect stores nothing. -/
theorem applyStep_keeps (hs : (f s).localStore = s.localStore) (h : Touches key eng s (f s)) :
    (applyStep eng op b f s).localStore = s.localStore ∧ FrameOf key eng s (applyStep eng op b f s) := by
  refine ⟨?_, applyStep_frame h⟩
  obtain he | he := applyStep_cases eng op b f s <;> rw [he]
  exact hs

/-- A step whose effect stores one run of bytes. -/
theorem applyStep_writes (hs : Stores lo n s (f s)) (h : Touches key eng s (f s)) :
    (∀ a, a < lo ∨ lo + n ≤ a → memRead 0 (applyStep eng op b f s).localStore a = memRead 0 s.localStore a) ∧
      FrameOf key eng s (applyStep eng op b f s) := by
  refine ⟨fun a ha => ?_, applyStep_frame h⟩
  obtain ⟨bytes, hlen, hst⟩ := hs
  obtain he | he := applyStep_cases eng op b f s <;> rw [he]
  rw [modFlight_localStore, hst, memRead_memStore_other 0 _ _ _ _ (by rwa [hlen])]

end

theorem tillerEngine_tKey (t : TillerId) : tillerEngine (tKey t) = tEng t := by
  have := t.phys.isLt
  unfold tillerEngine tKey tEng
  omega

/-! ### The effects -/

section
variable (key eng : Nat) (b : Body) (s : State)

theorem mmaEffect_touches : Touches key eng s (mmaEffect key b s) :=
  ((Touches.refl key eng s).modBank _ _).noteSat _

theorem mmaEffect_localStore : (mmaEffect key b s).localStore = s.localStore := by
  simp [mmaEffect]

theorem baddEffect_touches : Touches key (tillerEngine key) s (baddEffect key b s) :=
  have h := Touches.refl key (tillerEngine key) s
  .ite (h.modBank _ _) (.ite ((h.setFlag 2).modFlight _ _ _) ((h.modBank _ _).noteSat _))

theorem baddEffect_localStore : (baddEffect key b s).localStore = s.localStore := by
  simp [baddEffect, failStep]

theorem vsetselEffect_touches : Touches key eng s (vsetselEffect key b s) :=
  (Touches.refl key eng s).modTiller _

theorem vsetselEffect_localStore : (vsetselEffect key b s).localStore = s.localStore := rfl

theorem moutEffect_touches : Touches key eng s (moutEffect key b s) := by
  unfold moutEffect
  extract_lets k stored low high
  have hlow : Touches key eng s low := .ite (((Touches.refl key eng s).lsStore _ _).setFlag 0) ((Touches.refl key eng s).lsStore _ _)
  have hhigh : Touches key eng s high := .ite (hlow.setFlag 1) hlow
  exact .ite (hhigh.modBank _ _) hhigh

theorem moutEffect_stores : Stores (lsAddr key (fld b 0 15))
    (if fmtMx (fld b 15 4) then 6144 * fmtBits (fld b 15 4) / 8 + 192 else 6144 * fmtBits (fld b 15 4) / 8)
    s (moutEffect key b s) :=
  ⟨_, length_tileOut _ _ _, by simp [moutEffect]; rfl⟩

theorem bexpEffect_touches : Touches key eng s (bexpEffect key b s) :=
  have h := (Touches.refl key eng s).lsStore _ _
  .ite (h.modBank _ _) h

theorem bexpEffect_stores : Stores (lsAddr key (fld b 0 15)) 147520 s (bexpEffect key b s) :=
  ⟨_, length_binRecord _, by simp [bexpEffect]; rfl⟩

theorem vpackEffect_touches : Touches key eng s (vpackEffect key b s) :=
  have h := (Touches.refl key eng s).lsStore _ _
  .ite (h.setFlag 5) h

theorem vpackEffect_stores : Stores (lsAddr key (fld b 15 15)) (opndBytes (fld b 30 7 + 1) (fld b 37 8) (fld b 45 4)) s
    (vpackEffect key b s) := by
  unfold vpackEffect
  extract_lets r kb f vf bl out bad stored
  have hbl : bl.length = (kb + 1) * r := by
    simp only [bl]
    rw [length_flatMap_of_const (n := r) (by simp), List.length_range]
  have hout : out.length = (kb + 1) * r := by rw [List.length_map, hbl]
  have hel : (out.flatMap (·.1)).length = (kb + 1) * r * (4 * fmtBits f) := by
    rw [length_flatMap_of_const (n := 4 * fmtBits f) (fun x hx => ?_), hout]
    obtain ⟨vs, -, rfl⟩ := List.mem_map.mp hx
    exact length_blockOut _ _
  have hsc : (if fmtMx f then out.map (fun x => BitVec.ofNat 8 x.2) else []).length = (kb + 1) * r * b2n (fmtMx f) := by
    cases fmtMx f <;> simp [b2n, hout]
  refine ⟨_, ?_, by simp [stored]; rfl⟩
  rw [List.length_append, hel, hsc]
  exact (Nat.mul_add _ _ _).symm

theorem vunpackEffect_touches : Touches key eng s (vunpackEffect key b s) := (Touches.refl key eng s).lsStore _ _

theorem vunpackEffect_stores : Stores (lsAddr key (fld b 15 15))
    (vecBytes (fld b 49 1) * ((fld b 30 7 + 1) * (32 * (fld b 37 8 + 1)))) s (vunpackEffect key b s) := by
  unfold vunpackEffect
  extract_lets r kb f vf a l
  have hl : l.length = r * ((kb + 1) * 32) := by
    simp only [l]
    rw [length_flatMap_of_const (n := (kb + 1) * 32) (fun i _ => ?_), List.length_range]
    rw [length_flatMap_of_const (n := 32) (by simp [opndBlock]), List.length_range]
  exact ⟨_, by rw [length_elemBytes, hl, Nat.mul_comm 32], rfl⟩

theorem vrngEffect_touches : Touches key eng s (vrngEffect key b s) := ((Touches.refl key eng s).lsStore _ _).modTiller _

theorem vrngEffect_stores : Stores (lsAddr key (fld b 0 15)) ((if fld b 31 2 ≤ 1 then 4 else 2) * (fld b 15 16 + 1)) s
    (vrngEffect key b s) :=
  ⟨_, by rw [length_elemBytes, List.length_map, List.length_range], rfl⟩

theorem vposEffect_touches : Touches key eng s (vposEffect key b s) := (Touches.refl key eng s).lsStore _ _

theorem vposEffect_stores : Stores (lsAddr key (fld b 0 15)) (4 * (fld b 15 16 + 1)) s (vposEffect key b s) :=
  ⟨_, by rw [length_elemBytes, List.length_map, List.length_range], rfl⟩

theorem vbinEffect_touches : Touches key eng s (vbinEffect key b s) := (Touches.refl key eng s).writeVec _ _ _

theorem vbinEffect_stores : Stores (lsAddr key (fld b 30 15)) (vecBytes (fld b 67 1) * (fld b 45 16 + 1)) s
    (vbinEffect key b s) :=
  writeVec_stores _ _ _ _ (by rw [List.length_map, List.length_range])

theorem vfmaEffect_touches : Touches key eng s (vfmaEffect key b s) := (Touches.refl key eng s).writeVec _ _ _

theorem vfmaEffect_stores : Stores (lsAddr key (fld b 45 15)) (vecBytes (fld b 76 1) * (fld b 60 16 + 1)) s
    (vfmaEffect key b s) :=
  writeVec_stores _ _ _ _ (by rw [List.length_map, List.length_range])

theorem vfunEffect_touches : Touches key eng s (vfunEffect key b s) :=
  have h : Touches key eng s { s with free := s.free + (fld b 30 16 + 1) } :=
    ⟨fun _ _ => rfl, fun _ _ => rfl, _, _, _, _, _, _, _, rfl⟩
  h.writeVec _ _ _

theorem vfunEffect_stores : Stores (lsAddr key (fld b 15 15)) (vecBytes (fld b 51 1) * (fld b 30 16 + 1)) s
    (vfunEffect key b s) :=
  writeVec_stores _ _ _ { s with free := s.free + (fld b 30 16 + 1) } (by rw [List.length_map, List.length_range])

theorem vredEffect_touches : Touches key eng s (vredEffect key b s) := (Touches.refl key eng s).writeVec _ _ _

theorem vredEffect_stores : Stores (lsAddr key (fld b 15 15))
    ((if fld b 54 2 = 3 then 4 else vecBytes (fld b 58 1)) * (fld b 46 8 + 1)) s (vredEffect key b s) :=
  writeVec_stores _ _ _ _ (by rw [List.length_map, List.length_range])

end

/-! ### The rows -/

/-- A row is its effect applied to the step in flight. -/
theorem next_applyStep {eng op : Nat} {b : Body} {f : State → State} {s u : State}
    (h : Host.Outcome.next (applyStep eng op b f s) = (.next u : Host.Outcome State Fault Refusal)) :
    applyStep eng op b f s = u := Host.Outcome.next.inj h

/-- Settles O19: each effect touches only what `Touches` lists, and stores nothing or its result region. -/
theorem tillerStepsWriteOnlyTheirResult : Obligations.TillerStepsWriteOnlyTheirResult := by
  unfold Obligations.TillerStepsWriteOnlyTheirResult
  refine ⟨?mma, ?badd, ?vsetsel, ?mout, ?bexp, ?vbin, ?vfma, ?vfun, ?vred, ?vpack, ?vunpack, ?vrng, ?vpos⟩ <;>
    intro t body s u h <;> obtain rfl := next_applyStep h
  case mma => exact applyStep_keeps (mmaEffect_localStore _ _ _) (mmaEffect_touches _ _ _ _)
  case badd => exact applyStep_keeps (baddEffect_localStore _ _ _) (tillerEngine_tKey t ▸ baddEffect_touches _ _ _)
  case vsetsel => exact applyStep_keeps (vsetselEffect_localStore _ _ _) (vsetselEffect_touches _ _ _ _)
  case mout => exact applyStep_writes (moutEffect_stores _ _ _) (moutEffect_touches _ _ _ _)
  case bexp => exact applyStep_writes (bexpEffect_stores _ _ _) (bexpEffect_touches _ _ _ _)
  case vbin => exact applyStep_writes (vbinEffect_stores _ _ _) (vbinEffect_touches _ _ _ _)
  case vfma => exact applyStep_writes (vfmaEffect_stores _ _ _) (vfmaEffect_touches _ _ _ _)
  case vfun => exact applyStep_writes (vfunEffect_stores _ _ _) (vfunEffect_touches _ _ _ _)
  case vred => exact applyStep_writes (vredEffect_stores _ _ _) (vredEffect_touches _ _ _ _)
  case vpack => exact applyStep_writes (vpackEffect_stores _ _ _) (vpackEffect_touches _ _ _ _)
  case vunpack => exact applyStep_writes (vunpackEffect_stores _ _ _) (vunpackEffect_touches _ _ _ _)
  case vrng => exact applyStep_writes (vrngEffect_stores _ _ _) (vrngEffect_touches _ _ _ _)
  case vpos => exact applyStep_writes (vposEffect_stores _ _ _) (vposEffect_touches _ _ _ _)

/-! ### Steps in flight take effect -/

/-- A step in flight that has still to take effect takes it, and is marked done. -/
theorem applyStep_inFlight {eng op : Nat} {b : Body} {s : State} {x : Flight}
    (h : flightOf (s.engine eng) (unitOf op) (isStep op b) = some x) (f : State → State) :
    applyStep eng op b f s = modFlight eng (unitOf op) (isStep op b) (fun x => { x with done := true }) (f s) := by
  rw [applyStep, h]

/-- So does its row. -/
theorem row_inFlight {eng : Nat} (op : Nat) {b : Body} {s : State} {x : Flight}
    (h : flightOf (s.engine eng) (unitOf op) (isStep op b) = some x) (f : State → State) :
    (.next (applyStep eng op b f s) : Host.Outcome State Fault Refusal) =
      .next (modFlight eng (unitOf op) (isStep op b) (fun x => { x with done := true }) (f s)) :=
  congrArg _ (applyStep_inFlight h f)

/-- Settles O16: each of the four rows is its effect applied to the step in flight on the matrix unit. -/
theorem matrixStepsComplete : Obligations.MatrixStepsComplete := by
  unfold Obligations.MatrixStepsComplete
  exact ⟨fun _ _ _ _ h => row_inFlight 0x10 h _, fun _ _ _ _ h => row_inFlight 0x11 h _,
    fun _ _ _ _ h => row_inFlight 0x12 h _, fun _ _ _ _ h => row_inFlight 0x13 h _⟩

/-- Settles O17: each of the nine rows is its effect applied to the step in flight on the vector unit. -/
theorem vectorStepsComplete : Obligations.VectorStepsComplete := by
  unfold Obligations.VectorStepsComplete
  exact ⟨fun _ _ _ _ h => row_inFlight 0x20 h _, fun _ _ _ _ h => row_inFlight 0x21 h _,
    fun _ _ _ _ h => row_inFlight 0x22 h _, fun _ _ _ _ h => row_inFlight 0x23 h _,
    fun _ _ _ _ h => row_inFlight 0x24 h _, fun _ _ _ _ h => row_inFlight 0x25 h _,
    fun _ _ _ _ h => row_inFlight 0x26 h _, fun _ _ _ _ h => row_inFlight 0x27 h _,
    fun _ _ _ _ h => row_inFlight 0x28 h _⟩

/-- Settles O20: the effect of a VSETSEL is one entry of the table of selectors, that of a VRNG advances the counter once
its elements are stored. -/
theorem selectorHoldsMinOfValue : Obligations.SelectorHoldsMinOfValue := by
  unfold Obligations.SelectorHoldsMinOfValue
  refine ⟨fun t body s f h => ⟨_, row_inFlight 0x27 h _, ?_, fun r hr => ?_⟩,
    fun t body s f h => ⟨_, row_inFlight 0x26 h _, ?_⟩⟩
  · change tabGet ((vsetselEffect (tKey t) body s).tiller (tKey t)).sel _ 0 = _
    simp [vsetselEffect]
  · change tabGet ((vsetselEffect (tKey t) body s).tiller (tKey t)).sel r 0 = _
    simp [vsetselEffect, hr]
  · change ((vrngEffect (tKey t) body s).tiller (tKey t)).rng = _
    exact congrArg Tiller.rng (State.modTiller_get _ _ _)

end Sys2Proof.Machine
end

section
/-! PROOFS. Edges, acknowledges and overrun clears of an interrupt controller (R406, R407). -/

namespace Sys2Proof.Machine

/-! ### The number with given bits -/

theorem mem_setIns (l : List Nat) (k j : Nat) : j ∈ setIns l k ↔ j = k ∨ j ∈ l := by
  induction l with
  | nil => simp [setIns]
  | cons i r ih =>
    unfold setIns
    split_ifs
    · simp
    · simp [*]
    · rw [List.mem_cons, ih, List.mem_cons]; tauto

theorem pairwise_setIns {l : List Nat} (h : l.Pairwise (· < ·)) (k : Nat) : (setIns l k).Pairwise (· < ·) := by
  induction l with
  | nil => simp [setIns]
  | cons i r ih =>
    obtain ⟨hi, hr⟩ := List.pairwise_cons.mp h
    unfold setIns
    split_ifs with hlt heq
    · exact List.pairwise_cons.mpr ⟨fun j hj => by
        obtain rfl | hj := List.mem_cons.mp hj
        · exact hlt
        · exact hlt.trans (hi j hj), h⟩
    · exact h
    · refine List.pairwise_cons.mpr ⟨fun j hj => ?_, ih hr⟩
      obtain rfl | hj := (mem_setIns r k j).mp hj
      · omega
      · exact hi j hj

theorem mem_setOf (l : List Nat) (j : Nat) : j ∈ setOf l ↔ j ∈ l := by
  have hgen : ∀ a : List Nat, j ∈ l.foldl setIns a ↔ j ∈ l ∨ j ∈ a := by
    induction l with
    | nil => simp
    | cons i r ih => intro a; rw [List.foldl_cons, ih, mem_setIns, List.mem_cons]; tauto
  exact (hgen []).trans (by simp)

theorem pairwise_setOf (l : List Nat) : (setOf l).Pairwise (· < ·) := by
  have hgen : ∀ a : List Nat, a.Pairwise (· < ·) → (l.foldl setIns a).Pairwise (· < ·) := by
    induction l with
    | nil => exact fun a h => h
    | cons i r ih => exact fun a h => ih _ (pairwise_setIns h i)
  exact hgen [] List.Pairwise.nil

/-- Powers of two above a number, added in rising order, set their bits. -/
theorem testBit_foldl_pow {l : List Nat} (h : l.Pairwise (· < ·)) (a j : Nat) (ha : ∀ i ∈ l, a < 2 ^ i) :
    (l.foldl (fun a i => a + 2 ^ i) a).testBit j = (a.testBit j || decide (j ∈ l)) := by
  induction l generalizing a with
  | nil => simp
  | cons i r ih =>
    obtain ⟨hi, hr⟩ := List.pairwise_cons.mp h
    have hlt := ha i (by simp)
    have hor : a + 2 ^ i = 2 ^ i ||| a := by simpa [Nat.add_comm] using Nat.two_pow_add_eq_or_of_lt hlt 1
    have hnext : ∀ k ∈ r, a + 2 ^ i < 2 ^ k := fun k hk =>
      calc a + 2 ^ i < 2 ^ (i + 1) := by rw [Nat.pow_succ]; omega
        _ ≤ 2 ^ k := Nat.pow_le_pow_right (by decide) (hi k hk)
    rw [List.foldl_cons, ih hr _ hnext, hor, Nat.testBit_or, Nat.testBit_two_pow]
    by_cases hj : i = j
    · simp [hj]
    · simp [hj, Ne.symm hj]

theorem testBit_maskOf (l : List Nat) (j : Nat) : (maskOf l).testBit j = decide (j ∈ l) := by
  cases hl : setOf l with
  | nil =>
    have hj : j ∉ l := by rw [← mem_setOf, hl]; simp
    simp [maskOf, hl, hj]
  | cons i r =>
    have hp : 0 < 2 ^ i := Nat.two_pow_pos i
    rw [maskOf, testBit_foldl_pow (pairwise_setOf l) 0 j (fun k _ => Nat.two_pow_pos k)]
    simp [mem_setOf]

theorem mem_setBits (n v j : Nat) : j ∈ setBits n v ↔ j < n ∧ v.testBit j = true := by
  simp [setBits]

/-- The mask of one source. -/
theorem getLsbD_one (i j : Nat) (hj : j < 64) : (BitVec.ofNat 64 (2 ^ i)).getLsbD j = decide (j = i) := by
  rw [BitVec.getLsbD_ofNat, Nat.testBit_two_pow]
  simp [hj, eq_comm]

/-! ### Edges -/

/-- The edges of a grain, on a controller that is awake. -/
def takeEdges (now src k : Nat) (x : Proc) : Proc :=
  let y := if k = 0 then x else noteEdges now src k x
  if k = 0 then y
  else if y.state = 4 then { y with latch := tabPut y.latch src (min 3 (tabGet y.latch src 0 + k)) }
  else if bit y.pend.toNat src then { y with ovr := y.ovr ||| BitVec.ofNat 64 (2 ^ src) }
  else if k = 1 then { y with pend := y.pend ||| BitVec.ofNat 64 (2 ^ src) }
  else { y with pend := y.pend ||| BitVec.ofNat 64 (2 ^ src), ovr := y.ovr ||| BitVec.ofNat 64 (2 ^ src) }

theorem sourceEdges_eq (p src k : Nat) (s : State) : sourceEdges p src k s = s.modProc p (takeEdges s.now src k) := rfl

section
variable {x : Proc} (now : Nat) {src k : Nat} (hx : x.state ≠ 4)

theorem takeEdges_none : takeEdges now src 0 x = x := rfl

include hx

theorem takeEdges_of_pend (hk : k ≠ 0) (hp : x.pend.getLsbD src = true) :
    (takeEdges now src k x).pend = x.pend ∧ (takeEdges now src k x).ovr = x.ovr ||| BitVec.ofNat 64 (2 ^ src) := by
  have hbit : bit x.pend.toNat src = true := hp
  simp only [takeEdges, hk, if_false, noteEdges, hx, hbit, if_true, and_self]

theorem takeEdges_one (hp : x.pend.getLsbD src = false) :
    (takeEdges now src 1 x).pend = x.pend ||| BitVec.ofNat 64 (2 ^ src) ∧ (takeEdges now src 1 x).ovr = x.ovr := by
  have hbit : bit x.pend.toNat src = false := hp
  simp only [takeEdges, Nat.one_ne_zero, if_false, noteEdges, hx, hbit, Bool.false_eq_true, if_true, and_self]

theorem takeEdges_two (hp : x.pend.getLsbD src = false) :
    (takeEdges now src 2 x).pend = x.pend ||| BitVec.ofNat 64 (2 ^ src) ∧
      (takeEdges now src 2 x).ovr = x.ovr ||| BitVec.ofNat 64 (2 ^ src) := by
  have hbit : bit x.pend.toNat src = false := hp
  simp [takeEdges, noteEdges, hx, hbit]

/-- The table of R406. -/
theorem takeEdges_bits (source : Fin 64) (edges : Fin 3) {j : Nat} (hj : j < 64) :
    (takeEdges now source.val edges.val x).pend.getLsbD j =
        (x.pend.getLsbD j || (decide (j = source.val) && decide (1 ≤ edges.val))) ∧
      (takeEdges now source.val edges.val x).ovr.getLsbD j = (x.ovr.getLsbD j || (decide (j = source.val) &&
        ((decide (1 ≤ edges.val) && x.pend.getLsbD j) || decide (2 ≤ edges.val)))) := by
  have hone := getLsbD_one source.val j hj
  have hj' : j = source.val → x.pend.getLsbD j = x.pend.getLsbD source.val := fun h => h ▸ rfl
  match edges, hp : x.pend.getLsbD source.val with
  | 0, _ => simp [takeEdges_none]
  | 1, true =>
    obtain ⟨hpend, hovr⟩ := takeEdges_of_pend now hx Nat.one_ne_zero hp
    simp only [Fin.val_one, hpend, hovr, BitVec.getLsbD_or, hone]
    by_cases h : j = source.val <;> simp_all
  | 2, true =>
    obtain ⟨hpend, hovr⟩ := takeEdges_of_pend now hx (by decide : 2 ≠ 0) hp
    simp only [Fin.val_two, hpend, hovr, BitVec.getLsbD_or, hone]
    by_cases h : j = source.val <;> simp_all
  | 1, false =>
    obtain ⟨hpend, hovr⟩ := takeEdges_one now hx hp
    simp only [Fin.val_one, hpend, hovr, BitVec.getLsbD_or, hone]
    by_cases h : j = source.val <;> simp_all
  | 2, false =>
    obtain ⟨hpend, hovr⟩ := takeEdges_two now hx hp
    simp only [Fin.val_two, hpend, hovr, BitVec.getLsbD_or, hone]
    by_cases h : j = source.val <;> simp_all

end

/-! ### Acknowledges and overrun clears of the same grain -/

section
variable {now i : Nat} {x : Proc}

theorem reEdge_of_fresh (h : (tabGet x.edges i {}).fresh now = true) :
    (reEdge now x i).pend = x.pend ||| BitVec.ofNat 64 (2 ^ i) ∧
      (reEdge now x i).ovr = (if (tabGet x.edges i {}).ovr || decide (2 ≤ (tabGet x.edges i {}).k)
        then x.ovr ||| BitVec.ofNat 64 (2 ^ i) else x.ovr &&& ~~~BitVec.ofNat 64 (2 ^ i)) ∧
      (reEdge now x i).edges = tabPut x.edges i { tabGet x.edges i {} with pend := false } := by
  simp only [reEdge, h, if_true, and_self]

theorem reEdge_of_stale (h : (tabGet x.edges i {}).fresh now = false) : reEdge now x i = x := by
  simp only [reEdge, h, Bool.false_eq_true, if_false]

/-- The source's edges of this grain, with what it held before them. -/
def EdgesOf (now i : Nat) (r : EdgeRec) (x : Proc) : Prop :=
  (tabGet x.edges i {}).fresh now = true ∧ (tabGet x.edges i {}).ovr = r.ovr ∧ (tabGet x.edges i {}).k = r.k

/-- The source is pending again, and overrun as its edges say (R407). -/
def SetAgain (i : Nat) (r : EdgeRec) (x : Proc) : Prop :=
  x.pend.getLsbD i = true ∧ x.ovr.getLsbD i = (r.ovr || decide (2 ≤ r.k))

variable {r : EdgeRec} (hi : i < 64)

include hi

theorem EdgesOf.reEdge_same (h : EdgesOf now i r x) : EdgesOf now i r (reEdge now x i) ∧ SetAgain i r (reEdge now x i) := by
  obtain ⟨hf, ho, hk⟩ := h
  obtain ⟨hpend, hovr, hedges⟩ := reEdge_of_fresh hf
  have hone := getLsbD_one i i hi
  refine ⟨⟨?_, ?_, ?_⟩, ?_, ?_⟩
  · rw [hedges, tabGet_tabPut_same]; exact hf
  · rw [hedges, tabGet_tabPut_same]; exact ho
  · rw [hedges, tabGet_tabPut_same]; exact hk
  · rw [hpend, BitVec.getLsbD_or, hone]; simp
  · rw [hovr, ho, hk]
    split
    · next h => rw [h, BitVec.getLsbD_or, hone]; simp
    · next h => rw [Bool.eq_false_iff.mpr h, BitVec.getLsbD_and, BitVec.getLsbD_not, hone]; simp

theorem reEdge_other {j : Nat} (hj : j ≠ i) :
    tabGet (reEdge now x j).edges i {} = tabGet x.edges i {} ∧
      (reEdge now x j).pend.getLsbD i = x.pend.getLsbD i ∧ (reEdge now x j).ovr.getLsbD i = x.ovr.getLsbD i := by
  have hone : (BitVec.ofNat 64 (2 ^ j)).getLsbD i = false := by rw [getLsbD_one j i hi]; simp [hj.symm]
  cases hf : (tabGet x.edges j {}).fresh now with
  | false => simp [reEdge_of_stale hf]
  | true =>
    obtain ⟨hpend, hovr, hedges⟩ := reEdge_of_fresh hf
    refine ⟨?_, ?_, ?_⟩
    · rw [hedges, tabGet_tabPut_other _ _ _ _ _ hj.symm]
    · rw [hpend, BitVec.getLsbD_or, hone, Bool.or_false]
    · rw [hovr]
      split
      · rw [BitVec.getLsbD_or, hone, Bool.or_false]
      · rw [BitVec.getLsbD_and, BitVec.getLsbD_not, hone]; simp [hi]

theorem EdgesOf.reEdge (h : EdgesOf now i r x) (j : Nat) : EdgesOf now i r (reEdge now x j) := by
  obtain rfl | hj := eq_or_ne j i
  · exact (h.reEdge_same hi).1
  · rw [EdgesOf, (reEdge_other hi hj).1]; exact h

theorem SetAgain.reEdge (h : EdgesOf now i r x) (ha : SetAgain i r x) (j : Nat) : SetAgain i r (reEdge now x j) := by
  obtain rfl | hj := eq_or_ne j i
  · exact (h.reEdge_same hi).2
  · rw [SetAgain, (reEdge_other hi hj).2.1, (reEdge_other hi hj).2.2]; exact ha

/-- However often and in whatever order the sources are taken, one that is among them or was set again stays so. -/
theorem setAgain_foldl (h : EdgesOf now i r x) (l : List Nat) (hl : i ∈ l ∨ SetAgain i r x) :
    SetAgain i r (l.foldl (Machine.reEdge now) x) := by
  induction l generalizing x with
  | nil => simpa using hl
  | cons j l ih =>
    refine ih (h.reEdge hi j) ?_
    obtain hm | ha := hl
    · obtain rfl | hm := List.mem_cons.mp hm
      · exact .inr (h.reEdge_same hi).2
      · exact .inl hm
    · exact .inr (ha.reEdge hi h j)

end

theorem foldl_reEdge_of_stale {now : Nat} {x : Proc} (h : ∀ i, (tabGet x.edges i {}).fresh now = false) (l : List Nat) :
    l.foldl (reEdge now) x = x := by
  induction l with
  | nil => rfl
  | cons j l ih => rw [List.foldl_cons, reEdge_of_stale (h j), ih]

/-- Where no record of edges is of this grain, no source has edges of this grain. -/
theorem not_fresh_of_all {now : Nat} {x : Proc} (h : x.edges.all (fun e => e.2.grain != some now) = true) (i : Nat) :
    (tabGet x.edges i {}).fresh now = false := by
  have hg : (tabGet x.edges i {}).grain ≠ some now := by
    generalize x.edges = t at h
    induction t with
    | nil => simp [tabGet, tabFind]
    | cons e t ih =>
      obtain ⟨he, ht⟩ : e.2.grain ≠ some now ∧ _ := by simpa using h
      by_cases hk : e.1 = i
      · simpa [tabGet, tabFind, hk] using he
      · simpa [tabGet, tabFind, hk] using ih (by simpa using ht)
  simp [EdgeRec.fresh, hg]

theorem getLsbD_newOverruns (now : Nat) (x : Proc) {i : Nat} (hi : i < 64) : (newOverruns now x).getLsbD i =
    ((tabGet x.edges i {}).fresh now && ((tabGet x.edges i {}).pend || decide (2 ≤ (tabGet x.edges i {}).k))) := by
  rw [newOverruns, BitVec.getLsbD_ofNat, testBit_maskOf]
  simp [hi]

/-- A processor that only acknowledges. -/
theorem procAct_default (p : Nat) (s : State) : ∃ f : Proc → Proc, procAct p {} s = s.modProc p f ∧
    ∀ x, (f x).pend = x.pend ∧ (f x).ovr = x.ovr := ⟨_, rfl, fun _ => ⟨rfl, rfl⟩⟩

/-- What an acknowledge makes of its controller, before firmware goes on. -/
def acknowledged (now : Nat) (b : BitVec 64) (x : Proc) : Proc :=
  (setBits 64 b.toNat).foldl (reEdge now) { x with
    pend := x.pend &&& ~~~b
    cleared := (setBits 64 (b &&& x.pend &&& x.line).toNat).foldl (fun t i => tabPut t i now) x.cleared }

theorem acknowledged_of_stale {now : Nat} {x : Proc} (h : ∀ i, (tabGet x.edges i {}).fresh now = false) (b : BitVec 64) :
    (acknowledged now b x).pend = x.pend &&& ~~~b ∧ (acknowledged now b x).ovr = x.ovr := by
  unfold acknowledged
  rw [foldl_reEdge_of_stale]
  · exact ⟨rfl, rfl⟩
  · exact h

theorem exec_irqAcknowledge {proc : Fin 16} (b : BitVec 64) {s : State} (hp : procPresent proc.val = true)
    (hs : (s.proc proc.val).state = 2) : ∃ u : State, exec (.irqAcknowledge proc b {}) s = .next u ∧
      (u.proc proc.val).pend = (acknowledged s.now b (s.proc proc.val)).pend ∧
      (u.proc proc.val).ovr = (acknowledged s.now b (s.proc proc.val)).ovr := by
  obtain ⟨f, hact, hf⟩ := procAct_default proc.val (s.modProc proc.val (acknowledged s.now b))
  refine ⟨procAct proc.val {} (s.modProc proc.val (acknowledged s.now b)), ?_, ?_, ?_⟩
  · simp only [exec, execIrqAcknowledge, hp, Bool.not_true, Bool.false_eq_true, if_false]
    rw [if_pos hs]
    rfl
  · rw [hact, State.modProc_get, (hf _).1, State.modProc_get]
  · rw [hact, State.modProc_get, (hf _).2, State.modProc_get]

theorem exec_irqOverrunClear {proc : Fin 16} (b : BitVec 64) {s : State} (hp : procPresent proc.val = true)
    (hs : (s.proc proc.val).state = 2) :
    exec (.irqOverrunClear proc b) s = .next (s.modProc proc.val fun x =>
      { x with ovr := x.ovr &&& ~~~(b &&& ~~~newOverruns s.now x) }) := by
  simp [exec, execIrqOverrunClear, hp, hs]

theorem exec_irqSourceEdge {proc : Fin 16} {source : Fin 64} (edges : Fin 3) (high : Bool) {s : State}
    (hp : procPresent proc.val = true) (hi : inputUsed proc.val source.val = true) (hs : (s.proc proc.val).state ≠ 0)
    (hb : source.val = 48 → s.atBoundary = true) :
    exec (.irqSourceEdge proc source edges high) s =
      .next (sourceEdges proc.val source.val edges.val (sourceLine proc.val source.val high s)) := by
  simp only [exec, execIrqSourceEdge, hp, Bool.not_true, Bool.false_eq_true, if_false]
  rw [if_pos ⟨hi, hs, hb⟩]

/-- A line's level is no part of pending or overrun, and of no other processor. -/
theorem sourceLine_proc (p src : Nat) (high : Bool) (s : State) :
    ((sourceLine p src high s).proc p).pend = (s.proc p).pend ∧ ((sourceLine p src high s).proc p).ovr = (s.proc p).ovr ∧
      ((sourceLine p src high s).proc p).state = (s.proc p).state ∧
      ∀ q, q ≠ p → (sourceLine p src high s).proc q = s.proc q := by
  unfold sourceLine
  refine ⟨?_, ?_, ?_, fun q hq => State.modProc_get_other s p q _ hq⟩ <;> rw [State.modProc_get] <;> cases high <;> rfl

/-- Settles O59: the table of R406 for the edges of one row, then R407: an acknowledge sets again the sources whose edges
fell in its grain, an overrun clear leaves their new overruns, and away from such edges both clear the bits they write. -/
theorem sourceEdgesFollowTheTable : Obligations.SourceEdgesFollowTheTable := by
  unfold Obligations.SourceEdgesFollowTheTable
  refine ⟨fun proc source edges high s t j hp hi h0 h4 hb h hj => ?_, fun proc b s u i r hp hs hr hg hk hi hb h => ?_,
    fun proc b s u i r hp hs hr hg hk hover hi h => ?_, fun proc b s hp hs hstale => ?_⟩
  · rw [exec_irqSourceEdge edges high hp hi h0 hb] at h
    obtain rfl := Host.Outcome.next.inj h
    obtain ⟨hpend, hovr, hstate, hother⟩ := sourceLine_proc proc.val source.val high s
    have hbits := takeEdges_bits (x := (sourceLine proc.val source.val high s).proc proc.val)
      (sourceLine proc.val source.val high s).now (by rwa [hstate]) source edges hj
    rw [hpend, hovr] at hbits
    rw [sourceEdges_eq, State.modProc_get]
    exact ⟨hbits.1, hbits.2, fun q hq => (State.modProc_get_other _ _ _ _ hq).trans (hother q hq)⟩
  · obtain ⟨v, hv, hpend, hovr⟩ := exec_irqAcknowledge b hp hs
    obtain rfl : v = u := Host.Outcome.next.inj (hv.symm.trans h)
    rw [hpend, hovr]
    refine setAgain_foldl hi ⟨?_, ?_, ?_⟩ _ (.inl ((mem_setBits _ _ _).mpr ⟨hi, hb⟩)) <;>
      simp [tabGet, hr, EdgeRec.fresh, hg, hk]
  · rw [exec_irqOverrunClear b hp hs] at h
    obtain rfl := Host.Outcome.next.inj h
    have hnew : (newOverruns s.now (s.proc proc.val)).getLsbD i = true := by
      rw [getLsbD_newOverruns _ _ hi]
      simpa [tabGet, hr, EdgeRec.fresh, hg, hk] using hover
    rw [State.modProc_get, BitVec.getLsbD_and, BitVec.getLsbD_not, BitVec.getLsbD_and, BitVec.getLsbD_not, hnew]
    simp [hi]
  · have hf := not_fresh_of_all hstale
    have hnew : newOverruns s.now (s.proc proc.val) = 0#64 :=
      BitVec.eq_of_getLsbD_eq fun i hi => by rw [getLsbD_newOverruns _ _ hi, hf i]; simp
    obtain ⟨u, hu, hpend, hovr⟩ := exec_irqAcknowledge b hp hs
    obtain ⟨hp', ho'⟩ := acknowledged_of_stale hf b
    refine ⟨_, u, exec_irqOverrunClear b hp hs, hu, ?_, ?_, hpend.trans hp', hovr.trans ho'⟩
    · have hall : b &&& ~~~0#64 = b := by
        rw [BitVec.not_zero, BitVec.and_allOnes]
      rw [State.modProc_get, hnew, hall]
    · rw [State.modProc_get]

end Sys2Proof.Machine
end

section
/-! PROOFS. An accepted MEM_WRITE writes exactly the bytes of its range (R196, R198, R384, R388). -/

namespace Sys2Proof.Machine

/-! ### Stores and reads -/

/-- A byte among those stored reads as stored. -/
theorem memRead_memStore_mem (d : BitVec 8) (m : List Host.Cell) (a x : Nat) (l : List (BitVec 8)) (hw : memWf d m = true)
    (h1 : a ≤ x) (h2 : x < a + l.length) : memRead d (memStore d m a l) x = l.getD (x - a) 0 := by
  induction l generalizing m a with
  | nil => simp at h2; omega
  | cons b r ih =>
    rw [List.length_cons] at h2
    obtain rfl | hlt := Nat.eq_or_lt_of_le h1
    · rw [memStore, memRead_memStore_other d _ _ _ _ (by omega), memRead_memWrite_same d m a b hw]
      simp
    · rw [memStore, ih _ _ (memWf_memWrite d m a b hw) hlt (by omega)]
      obtain ⟨k, rfl⟩ := Nat.exists_eq_add_of_lt hlt
      rw [show a + k + 1 - (a + 1) = k by omega, show a + k + 1 - a = k + 1 by omega, List.getD_cons_succ]

@[simp] theorem length_memBytes (d : BitVec 8) (m : List Host.Cell) (a n : Nat) : (memBytes d m a n).length = n := by
  simp [memBytes]

theorem getD_memBytes (d : BitVec 8) (m : List Host.Cell) (a : Nat) {n i : Nat} (h : i < n) :
    (memBytes d m a n).getD i 0 = memRead d m (a + i) := by
  simp [memBytes, h]

/-- A burst with the bytes of a part of it replaced. -/
theorem getD_merge {u l : List (BitVec 8)} {off i : Nat} (hu : u.length = 32) (hl : off + l.length ≤ 32) :
    (u.take off ++ l ++ u.drop (off + l.length)).getD i 0 =
      if off ≤ i ∧ i < off + l.length then l.getD (i - off) 0 else u.getD i 0 := by
  have hoff : (u.take off).length = off := by rw [List.length_take]; omega
  obtain hlo | hlo := Nat.lt_or_ge i off
  · rw [if_neg (by omega), List.append_assoc, List.getD_append _ _ _ _ (by omega)]
    simp [List.getD_eq_getElem?_getD, hlo]
  · obtain hhi | hhi := Nat.lt_or_ge i (off + l.length)
    · rw [if_pos ⟨hlo, hhi⟩, List.append_assoc, List.getD_append_right _ _ _ _ (by omega), hoff,
        List.getD_append _ _ _ _ (by omega)]
    · rw [if_neg (by omega), List.getD_append_right _ _ _ _ (by rw [List.length_append]; omega), List.length_append, hoff]
      rw [List.getD_eq_getElem?_getD, List.getElem?_drop, List.getD_eq_getElem?_getD]
      congr 2
      omega

theorem length_merge {u l : List (BitVec 8)} {off : Nat} (hu : u.length = 32) (hl : off + l.length ≤ 32) :
    (u.take off ++ l ++ u.drop (off + l.length)).length = 32 := by
  simp only [List.length_append, List.length_take, List.length_drop]
  omega

/-! ### One burst -/

/-- The state with the HBM3E memory replaced. -/
def withMem (s : State) (m : List Host.Cell) : State := { s with hbm := { s.hbm with mem := m } }

section
variable {s : State} {b off req : Nat} {d : List (BitVec 8)}

/-- What a write leaves in one burst without stored errors: nothing changes, or its part of the burst does. -/
theorem writeBurst_cases (he : s.hbm.errs = []) (hl : off + d.length ≤ 32) :
    ((writeBurst b off d req s).1 ≠ 0 ∧ (writeBurst b off d req s).2 = s ∧ stackFor s (hbmStack (32 * b)) req ≠ 2) ∨
      ∃ l : List (BitVec 8), writeBurst b off d req s = (0, withMem s (memStore 0 s.hbm.mem (32 * b) l)) ∧ l.length = 32 ∧
        ∀ i < 32, l.getD i 0 =
          if off ≤ i ∧ i < off + d.length then d.getD (i - off) 0 else memRead 0 s.hbm.mem (32 * b + i) := by
  have hput : ∀ l, putBurst b l s = withMem s (memStore 0 s.hbm.mem (32 * b) l) := fun l => by
    simp [putBurst, withMem, he, tabDel]
  by_cases h2 : stackFor s (hbmStack (32 * b)) req = 2
  · right
    by_cases hd : d.length = 32
    · refine ⟨d, by simp [writeBurst, mergeBurst, h2, hd, hput], hd, fun i hi => ?_⟩
      have hz : off = 0 := by omega
      rw [if_pos (by omega), hz, Nat.sub_zero]
    · have hread := readBurst_clean b req s h2 (by rw [he]; rfl)
      have hu := length_memBytes 0 s.hbm.mem (32 * b) 32
      refine ⟨_, by simp only [writeBurst, mergeBurst, h2, hd, if_false, hread, if_true, hput], length_merge hu hl, fun i hi => ?_⟩
      rw [getD_merge hu hl, getD_memBytes 0 _ _ hi]
  · left
    unfold writeBurst mergeBurst
    split <;> simp_all

end

/-! ### A range of bursts -/

/-- The bursts that have been written hold their part of the write; every other byte is as it was. -/
structure Wrote (a : Nat) (d : List (BitVec 8)) (z : State) (done : List Nat) (s : State) : Prop where
  wf : memWf 0 s.hbm.mem = true
  rest : s = withMem z s.hbm.mem
  read : ∀ x, memRead 0 s.hbm.mem x =
    if a ≤ x ∧ x < a + d.length ∧ x / 32 ∈ done then d.getD (x - a) 0 else memRead 0 z.hbm.mem x

section
variable {a req : Nat} {d : List (BitVec 8)} {z s : State}

theorem Wrote.refl (hw : memWf 0 z.hbm.mem = true) : Wrote a d z [] z := ⟨hw, rfl, fun x => by simp⟩

theorem burstPart_fits {b : Nat} (h1 : a < 32 * b + 32) (h2 : 32 * b < a + d.length) :
    (burstPart a d b).1 + (burstPart a d b).2.length ≤ 32 ∧
      (burstPart a d b).2.length = min (a + d.length) (32 * b + 32) - max a (32 * b) := by
  simp only [burstPart, List.length_take, List.length_drop]
  omega

theorem getD_burstPart {b i : Nat} (h1 : a < 32 * b + 32) (h2 : 32 * b < a + d.length)
    (h : (burstPart a d b).1 ≤ i ∧ i < (burstPart a d b).1 + (burstPart a d b).2.length) :
    (burstPart a d b).2.getD (i - (burstPart a d b).1) 0 = d.getD (32 * b + i - a) 0 := by
  obtain ⟨-, hlen⟩ := burstPart_fits h1 h2
  rw [hlen] at h
  simp only [burstPart] at h ⊢
  rw [List.getD_eq_getElem?_getD, List.getElem?_take, if_pos (by omega), List.getElem?_drop, List.getD_eq_getElem?_getD]
  congr 2
  omega

/-- One more burst of the range. -/
theorem Wrote.writeBurst (hs : Wrote a d z done s) (he : z.hbm.errs = []) {b : Nat} (h1 : a < 32 * b + 32)
    (h2 : 32 * b < a + d.length) :
    ((writeBurst b (burstPart a d b).1 (burstPart a d b).2 req s).1 ≠ 0 ∧
        (writeBurst b (burstPart a d b).1 (burstPart a d b).2 req s).2 = s ∧ stackFor z (hbmStack (32 * b)) req ≠ 2) ∨
      ∃ t, writeBurst b (burstPart a d b).1 (burstPart a d b).2 req s = (0, t) ∧ Wrote a d z (b :: done) t := by
  have hes : s.hbm.errs = [] := by rw [hs.rest]; exact he
  have hst : stackFor s (hbmStack (32 * b)) req = stackFor z (hbmStack (32 * b)) req := by rw [hs.rest]; rfl
  obtain ⟨hfit, hlen⟩ := burstPart_fits h1 h2
  obtain ⟨hne, heq, hsf⟩ | ⟨l, hl, hl32, hget⟩ := writeBurst_cases (b := b) (req := req) hes hfit
  · exact .inl ⟨hne, heq, hst ▸ hsf⟩
  · refine .inr ⟨_, hl, memWf_memStore 0 _ _ _ hs.wf, by rw [hs.rest]; rfl, fun x => ?_⟩
    change memRead 0 (memStore 0 s.hbm.mem (32 * b) l) x = _
    obtain hin | hout := Classical.em (x / 32 = b)
    · have hx : x = 32 * b + x % 32 := by omega
      have hr : x % 32 < 32 := Nat.mod_lt _ (by decide)
      rw [memRead_memStore_mem 0 _ _ _ _ hs.wf (by omega) (by omega), show x - 32 * b = x % 32 by omega, hget _ hr, ← hx]
      by_cases hpart : (burstPart a d b).1 ≤ x % 32 ∧ x % 32 < (burstPart a d b).1 + (burstPart a d b).2.length
      · rw [if_pos hpart, getD_burstPart h1 h2 hpart, ← hx, if_pos]
        rw [hlen] at hpart
        simp only [burstPart] at hpart
        refine ⟨by omega, by omega, by simp [hin]⟩
      · rw [if_neg hpart, hs.read x]
        rw [hlen] at hpart
        simp only [burstPart] at hpart
        have hnot : ¬(a ≤ x ∧ x < a + d.length) := by omega
        rw [if_neg (by tauto), if_neg (by tauto)]
    · rw [memRead_memStore_other 0 _ _ _ _ (by omega), hs.read x]
      simp [hout]

/-- What `writeRange` does burst by burst. -/
def rangeStep (a : Nat) (d : List (BitVec 8)) (req : Nat) (x : Nat × Nat × State) (b : Nat) : Nat × Nat × State :=
  if x.2.1 ≠ 0 then x
  else
    let p := burstPart a d b
    let y := writeBurst b p.1 p.2 req x.2.2
    if y.1 = 0 then (x.1 + p.2.length, 0, y.2)
    else (x.1, if y.1 = 1 then 0x0511 else 0x0412, y.2)

theorem writeRange_eq (a : Nat) (d : List (BitVec 8)) (req : Nat) (s : State) :
    writeRange a d req s = (burstsOf a d.length).foldl (rangeStep a d req) (0, 0, s) := rfl

/-- The bursts of a range are written up to the first that stops it; with every stack in service none does. -/
theorem foldl_rangeStep (he : z.hbm.errs = []) {l : List Nat}
    (hl : ∀ b ∈ l, a < 32 * b + 32 ∧ 32 * b < a + d.length) {done : List Nat} {x : Nat × Nat × State}
    (hs : Wrote a d z done x.2.2) :
    ∃ done', Wrote a d z done' (l.foldl (rangeStep a d req) x).2.2 ∧
      (x.2.1 = 0 → (∀ b ∈ l, stackFor z (hbmStack (32 * b)) req = 2) → ∀ b, b ∈ l ∨ b ∈ done → b ∈ done') := by
  induction l generalizing done x with
  | nil => exact ⟨done, hs, fun _ _ b hb => by simpa using hb⟩
  | cons b l ih =>
    obtain ⟨h1, h2⟩ := hl b (by simp)
    have hl' : ∀ c ∈ l, a < 32 * c + 32 ∧ 32 * c < a + d.length := fun c hc => hl c (by simp [hc])
    rw [List.foldl_cons]
    by_cases hx : x.2.1 = 0
    · obtain ⟨hne, heq, hst⟩ | ⟨t, ht, hw⟩ := hs.writeBurst (req := req) he h1 h2
      · have hstep : (rangeStep a d req x b).2.2 = x.2.2 := by simp [rangeStep, hx, hne, heq]
        obtain ⟨done', hw', -⟩ := ih hl' (hstep ▸ hs)
        exact ⟨done', hw', fun _ hall => absurd (hall b (by simp)) hst⟩
      · have hstep : rangeStep a d req x b = (x.1 + (burstPart a d b).2.length, 0, t) := by simp [rangeStep, hx, ht]
        rw [hstep]
        obtain ⟨done', hw', hdone⟩ := ih (x := (x.1 + (burstPart a d b).2.length, 0, t)) hl' hw
        refine ⟨done', hw', fun _ hall c hc => hdone rfl (fun e he => hall e (by simp [he])) c ?_⟩
        obtain hc | hc := hc
        · obtain rfl | hc := List.mem_cons.mp hc
          · simp
          · exact .inl hc
        · simp [hc]
    · have hstep : rangeStep a d req x b = x := by simp [rangeStep, hx]
      rw [hstep]
      obtain ⟨done', hw', -⟩ := ih hl' hs
      exact ⟨done', hw', fun h => absurd h hx⟩

theorem mem_burstsOf {n b : Nat} : b ∈ burstsOf a n ↔ 0 < n ∧ a < 32 * b + 32 ∧ 32 * b < a + n := by
  unfold burstsOf
  split
  · simp; omega
  · simp only [List.mem_map, List.mem_range]
    constructor
    · rintro ⟨i, hi, rfl⟩; omega
    · intro h; exact ⟨b - a / 32, by omega, by omega⟩

/-- A write of a range from a state without stored errors. -/
theorem writeRange_wrote (he : z.hbm.errs = []) (hw : memWf 0 z.hbm.mem = true) :
    ∃ done, Wrote a d z done (writeRange a d req z).2.2 ∧
      ((∀ a, stackFor z (hbmStack a) req = 2) → ∀ b ∈ burstsOf a d.length, b ∈ done) := by
  rw [writeRange_eq]
  obtain ⟨done, hd, hall⟩ := foldl_rangeStep (req := req) he (l := burstsOf a d.length) (x := (0, 0, z))
    (fun b hb => (mem_burstsOf.mp hb).2) (Wrote.refl hw)
  exact ⟨done, hd, fun hst b hb => hall rfl (fun _ _ => hst _) b (.inl hb)⟩

end

/-! ### The command -/

theorem exec_memWrite_accepted {p : CmdPkt} {s : State} (h : Accepted 0x200 p s) :
    exec (.memWrite p []) s = .next (writeXfer p p.ref [] (p.payload.drop 8) (takePacket p s)) := by
  change Host.Outcome.next (runCmd p (p.opcode == 0x200) _ s) = _
  rw [runCmd_accepted h _ (by simp)]

theorem beginXfer_still (x : Xfer) (s : State) : Still false s (beginXfer x s) := by
  unfold beginXfer
  split <;> exact stopScrub_still _ ⟨rfl, rfl, rfl, rfl, rfl, rfl, rfl, nofun⟩

/-- A stack is one of 32 (R194). -/
theorem hbmStack_lt (a : Nat) : hbmStack a < 32 := by
  have h : ∀ lo, bits a lo 5 < 2 ^ 5 := fun lo => Nat.mod_lt _ (by decide)
  exact Nat.xor_lt_two_pow (Nat.xor_lt_two_pow (Nat.xor_lt_two_pow (Nat.xor_lt_two_pow (Nat.xor_lt_two_pow (h 11) (h 16))
    (h 21)) (h 26)) (h 31)) (h 36)

/-- A write without bit errors: what it leaves is that of a range written from the state as it was, or nothing. -/
theorem writeXfer_wrote (p : CmdPkt) (c : CmdRef) {d : List (BitVec 8)} {s : State} (he : s.hbm.errs = [])
    (hw : memWf 0 s.hbm.mem = true) : ∃ done u, Wrote (p.arg 0 8) d s done u ∧ Still false u (writeXfer p c [] d s) ∧
      (s.rst.blocks = [] → (∀ a, stackFor s (hbmStack a) (portRequester p) = 2) → ∀ b ∈ burstsOf (p.arg 0 8) d.length, b ∈ done) := by
  unfold writeXfer
  rw [List.foldl_nil]
  dsimp only
  split
  · next hbar =>
    refine ⟨[], s, .refl hw, beginXfer_still _ _, fun hb => ?_⟩
    simp [xferBarred, hb] at hbar
  · obtain ⟨done, hd, hall⟩ := writeRange_wrote (a := p.arg 0 8) (d := d) (req := portRequester p) he hw
    exact ⟨done, _, hd, beginXfer_still _ _, fun _ => hall⟩

/-- Settles O57: every byte that is not of the range reads as before, and with nothing to stop a burst every burst of the
range is written. -/
theorem memWriteWritesExactlyItsBytes : Obligations.MemWriteWritesExactlyItsBytes := by
  unfold Obligations.MemWriteWritesExactlyItsBytes
  refine ⟨fun p s t a hacc he hw h ha => ?_, fun p s t i hacc he hw hb hst h hi => ?_⟩ <;>
    (rw [exec_memWrite_accepted hacc] at h
     obtain rfl := Host.Outcome.next.inj h
     obtain ⟨done, u, hu, hstill, hall⟩ := writeXfer_wrote (s := takePacket p s) p p.ref (d := p.payload.drop 8) he hw
     have hlen : (p.payload.drop 8).length = p.payload.length - 8 := List.length_drop)
  · refine ⟨?_, ?_, ?_, ?_, ?_, ?_⟩
    · rw [hstill.mem, hu.read a, hlen, if_neg (by omega)]
      rfl
    · rw [hstill.localStore, hu.rest]; rfl
    · rw [hstill.crib, hu.rest]; rfl
    · rw [hstill.area, hu.rest]; rfl
    · rw [hstill.window, hu.rest]; rfl
    · rw [hstill.flash, hu.rest]; rfl
  · have hst' : ∀ a, stackFor (takePacket p s) (hbmStack a) (portRequester p) = 2 := fun a => by
      have hnone : (takePacket p s).rst.blocks = [] := hb
      rw [stackFor, hnone, List.any_nil, if_neg Bool.false_ne_true]
      exact hst _ (hbmStack_lt a)
    have hmem : (p.arg 0 8 + i) / 32 ∈ done := hall hb hst' _ (mem_burstsOf.mpr (by omega))
    rw [hstill.mem, hu.read, hlen, if_pos ⟨by omega, by omega, hmem⟩, Nat.add_sub_cancel_left]
    rw [List.getD_eq_getElem?_getD, List.getElem?_drop, List.getD_eq_getElem?_getD]

end Sys2Proof.Machine
end

section
/-! PROOFS. What a step does: it runs the command at the front of the queue, or with an empty queue lets one grain pass (R31,
R34, R420); and the values at reset. -/

namespace Sys2Proof.Machine

/-- Settles O1: the queue is the first thing that a step looks at. -/
theorem stepRunsFirstCommand : Obligations.StepRunsFirstCommand := by
  unfold Obligations.StepRunsFirstCommand
  exact fun c rest s => step_of_cons rfl

/-- Settles O3: every field of the reset state is the one that its declaration gives. -/
theorem resetStateValues : Obligations.ResetStateValues := by
  unfold Obligations.ResetStateValues
  exact ⟨rfl, rfl, rfl, rfl, rfl, rfl, rfl, rfl, rfl, rfl, rfl, rfl, fun _ _ => rfl, fun _ _ => rfl, rfl, rfl, rfl, rfl, rfl,
    rfl, rfl, rfl, rfl, rfl, rfl⟩

/-- Settles O4: a memory that lists nothing is in canonical form. -/
theorem resetMemoriesCanonical : Obligations.ResetMemoriesCanonical := by
  unfold Obligations.ResetMemoriesCanonical
  exact ⟨rfl, rfl, rfl, rfl, rfl, rfl⟩

/-! ### The lines of the rails and ports -/

/-- Between two states only the rails and the Yuley ports have changed. -/
def OnlyLines (s t : State) : Prop := ∃ r y, t = { s with rails := r, yuley := y }

namespace OnlyLines

theorem refl (s : State) : OnlyLines s s := ⟨_, _, rfl⟩

theorem trans {s t u : State} (h : OnlyLines s t) (k : OnlyLines t u) : OnlyLines s u := by
  obtain ⟨r, y, rfl⟩ := h
  obtain ⟨r', y', rfl⟩ := k
  exact ⟨r', y', rfl⟩

theorem foldl {α : Type} {g : State → α → State} (hg : ∀ s x, OnlyLines s (g s x)) (l : List α) (s : State) :
    OnlyLines s (l.foldl g s) := by
  induction l generalizing s with
  | nil => exact refl s
  | cons x l ih => exact (hg s x).trans (ih _)

theorem ite {s t u : State} {c : Prop} [Decidable c] (h : OnlyLines s t) (k : OnlyLines s u) :
    OnlyLines s (if c then t else u) := by split <;> assumption

end OnlyLines

theorem modPort_lines (s : State) (p : Nat) (f : RxPort → RxPort) : OnlyLines s (s.modPort p f) := ⟨_, _, rfl⟩

theorem joinSent_lines (s : State) : OnlyLines s (joinSent s) :=
  (OnlyLines.foldl (fun s _ => modPort_lines s _ _) _ s).trans ⟨_, _, rfl⟩

theorem fillLane_lines (p : Nat) (s : State) (l : Nat) : OnlyLines s (fillLane p s l) := by
  unfold fillLane
  dsimp only
  (repeat' split) <;> exact modPort_lines _ _ _

theorem fillPort_lines (s : State) (p : Nat) : OnlyLines s (fillPort s p) :=
  .ite (.foldl (fillLane_lines p) _ s) (.refl s)

theorem fillLines_lines (old : Nat) (s : State) : OnlyLines s (fillLines old s) := by
  unfold fillLines
  extract_lets fill t put
  have ht : OnlyLines s t :=
    .ite (.refl s) (.trans ⟨_, _, rfl⟩ ((joinSent_lines _).trans ((fillPort_lines _ 0).trans (fillPort_lines _ 1))))
  exact .ite ht (ht.trans ⟨_, _, rfl⟩)

/-! ### A grain with nothing in a crossing or on a ring and no stream under abort -/

/-- Nothing moves in the grain but the counter and the lines. -/
def Quiet (s : State) : Prop :=
  s.clk.crossings = [] ∧ s.railTop.bus = [] ∧ ∀ st ∈ s.sill.streams, st.abortAt = none

theorem pumpCrossings_of_quiet {s : State} (h : Quiet s) : pumpCrossings s = s := by
  obtain ⟨hc, -, -⟩ := h
  simp [pumpCrossings, hc]

theorem finishAborts_of_quiet {s : State} (h : Quiet s) : finishAborts s = s := by
  obtain ⟨-, -, ha⟩ := h
  have hnone : s.sill.streams.filter (fun st => st.abortAt.isSome && st.closed.isNone) = [] :=
    List.filter_eq_nil_iff.mpr fun st hst => by simp [ha st hst]
  rw [finishAborts, hnone, List.foldl_nil]

theorem pumpBus_of_quiet {s : State} (h : Quiet s) : pumpBus s = s := by
  obtain ⟨-, hb, -⟩ := h
  simp [pumpBus, hb]

/-- What remains of a grain. -/
theorem step_quiet {s : State} (hp : s.pending = []) (h : Quiet s) :
    ∃ r y d, step s = .next { countGrain s with rails := r, yuley := y, dbg := d } := by
  obtain ⟨r, y, hl⟩ := fillLines_lines s.now (countGrain s)
  rw [step_of_empty hp, tick, pumpCrossings_of_quiet h, finishAborts_of_quiet h, pumpBus_of_quiet h, hl]
  exact ⟨r, y, _, rfl⟩

/-- A counted grain changes the counter and the panels' view of it, and of the time base at most the phase of a retard. -/
theorem count1_spec (s : State) : ∃ t c, count1 s = { s with time := t, clk := c } ∧ t.now = s.time.now + 1 := ⟨_, _, rfl, rfl⟩

theorem countGrain_counts {s : State} (h3 : s.held3 = false)
    (h : s.time.retard = false ∨ s.runActive = true ∨ s.time.retardPhase < 16) :
    ∃ t c, countGrain s = { s with time := t, clk := c } ∧ t.now = s.time.now + 1 := by
  unfold countGrain
  rw [if_neg (by simp [h3])]
  split
  · next hr =>
    have hphase : s.time.retardPhase < 16 := by
      rw [Bool.and_eq_true, Bool.not_eq_true'] at hr
      simpa [hr] using h
    rw [if_neg (by omega)]
    exact ⟨_, _, rfl, rfl⟩
  · exact count1_spec s

theorem countGrain_holds {s : State} (h3 : s.held3 = false) (hr : s.time.retard = true) (ha : s.runActive = false)
    (hp : 16 ≤ s.time.retardPhase) :
    ∃ t, countGrain s = { s with time := t } ∧ t.now = s.time.now ∧ t.offset = s.time.offset - 64 ∧ t.retardPhase = 0 := by
  unfold countGrain
  rw [if_neg (by simp [h3]), if_pos (by simp [hr, ha]), if_pos hp]
  exact ⟨_, rfl, rfl, rfl, rfl⟩

theorem held3_eq_false {s : State} (h : ∀ ep, s.rst.episode = some ep → ep.level ≠ 3) : s.held3 = false := by
  unfold State.held3
  cases he : s.rst.episode with
  | none => rfl
  | some ep => simpa [he] using h ep he

/-- Settles O2: nothing but the counter and the lines moves in the grain, and the counter as its retard says. -/
theorem emptyQueueCountsOneGrain : Obligations.EmptyQueueCountsOneGrain := by
  unfold Obligations.EmptyQueueCountsOneGrain
  refine ⟨fun s hp hr h3 hc hb ha => ?_, fun s hp hr hrun hphase h3 hc hb ha => ?_, fun s ep hp he hl hc hb ha => ?_⟩
  · obtain ⟨r, y, d, hstep⟩ := step_quiet hp ⟨hc, hb, ha⟩
    obtain ⟨t, c, hcount, hnow⟩ := countGrain_counts (held3_eq_false h3) hr
    rw [hcount] at hstep
    exact ⟨_, hstep, hnow, hp, rfl, rfl, rfl, rfl, rfl, rfl⟩
  · obtain ⟨r, y, d, hstep⟩ := step_quiet hp ⟨hc, hb, ha⟩
    obtain ⟨t, hcount, hnow, hoff, hph⟩ := countGrain_holds (held3_eq_false h3) hr hrun hphase
    rw [hcount] at hstep
    exact ⟨_, hstep, hnow, hoff, hph, hp, rfl, rfl, rfl, rfl, rfl, rfl⟩
  · obtain ⟨r, y, d, hstep⟩ := step_quiet hp ⟨hc, hb, ha⟩
    have hheld : s.held3 = true := by simp [State.held3, he, hl]
    rw [countGrain, if_pos hheld] at hstep
    exact ⟨_, hstep, rfl⟩

end Sys2Proof.Machine
end

section
/-! PROOFS. Rows of units that the module does not have fault (R45, R398, log entry 2); the head of a queue issues (R42); a
run starts at its grain and idle sheaves are inserted (R37, R38, R367). -/

namespace Sys2Proof.Machine

/-! ### Absent units -/

/-- Settles O60: each of these rows looks first at whether its unit exists. -/
theorem rowsOfAbsentUnitsFault : Obligations.RowsOfAbsentUnitsFault := by
  unfold Obligations.RowsOfAbsentUnitsFault
  refine ⟨fun eng s h => ?engines, fun proc s h => ?procs, fun src dst s h => ?boxes, fun kind index s h => ?domain,
    fun panel s hi hp => ?panel⟩
  case engines =>
    have hno : ¬engValid eng.toNat = true := by simp [h]
    exact ⟨if_neg hno, if_neg hno, if_neg hno, if_neg hno, if_neg hno, if_neg hno, if_neg hno, if_neg hno, if_neg hno,
      if_neg hno, if_neg hno, fun _ _ => if_neg hno, fun _ => if_neg hno, fun _ => if_neg hno, fun _ => if_neg hno,
      fun _ _ _ => if_neg hno, fun _ _ => if_neg hno, fun _ => if_neg hno, fun _ => if_neg hno, fun _ => if_neg hno,
      fun _ => if_neg hno⟩
  case procs =>
    have hno : (!procPresent proc.val) = true := by simp [h]
    exact ⟨if_pos hno, if_pos hno, if_pos hno, if_pos hno, if_pos hno, fun _ _ _ => if_pos hno, fun _ => if_pos hno,
      fun _ _ _ => if_pos hno, fun _ _ => if_pos hno, fun _ => if_pos hno, fun _ => if_pos hno, fun _ => if_pos hno,
      fun _ => if_pos hno, fun _ => if_pos hno⟩
  case boxes =>
    have hno : (!procPresent src.val || !procPresent dst.val || src == dst) = true := by
      obtain h | h | h := h <;> simp [h]
    exact ⟨fun _ => if_pos hno, if_pos hno⟩
  case domain => exact if_neg (by simp [h])
  case panel =>
    refine ⟨fun need since => ?_, ?_, ?_⟩ <;>
      simp only [exec, execPanelMarginLow, execRegulatorLower, execBinSwitchUp, hp, hi, Bool.false_eq_true, if_false]

/-! ### The head of a queue -/

section
variable {s : State} {e : Nat} {q : QStep} {rest : List QStep} (hq : (s.engine e).queue = q :: rest)

include hq

/-- A head step of the opcode that may issue does. -/
theorem issueIf_issues {p : Nat → Bool} (hp : p (stOpcode q.word) = true) (hc : canIssue s e (s.engine e) q rest = true) :
    issueIf e p s = issueHead e q rest s := by
  simp only [issueIf, hq, hp, hc, Bool.and_self, if_true]

theorem issueIf_opcode {n : Nat} (ho : stOpcode q.word = n) (hc : canIssue s e (s.engine e) q rest = true) :
    issueIf e (fun op => op == n) s = issueHead e q rest s :=
  issueIf_issues hq (p := fun op => op == n) (by simp [ho]) hc

theorem issueIf_waits (p : Nat → Bool) (hc : canIssue s e (s.engine e) q rest = false) : issueIf e p s = s := by
  simp only [issueIf, hq, hc, Bool.and_false, Bool.false_eq_true, if_false]

end

/-- Settles O13: each of these rows is `issueIf` for its opcodes. -/
theorem queueHeadStepsComplete : Obligations.QueueHeadStepsComplete := by
  unfold Obligations.QueueHeadStepsComplete
  refine ⟨fun eng s q rest hv hq hc => ?issue, fun eng s q rest hv hq ho hc => ?waitg, fun eng s q rest hv hq ho hc => ?wait,
    fun eng s q rest hv hq ho hc => ?barrier, fun eng s q rest hv hk hq ho hc => ?select,
    fun eng s q rest hv hk hq ho hc => ?streamSelect, fun eng s q rest hv hq ho hc => ?ckpt,
    fun eng s q rest hv hq ho hc => ?endStep, fun eng s q rest hv hq hc => ?stays⟩
  case issue => simp only [exec, execStepIssue, hv, if_true, issueIf_issues (p := fun _ => true) hq rfl hc]
  case waitg => simp only [exec, execWaitg, hv, if_true, issueIf_opcode hq ho hc]
  case wait => simp only [exec, execWaitStep, hv, if_true, issueIf_opcode hq ho hc]
  case barrier => simp only [exec, execBarrier, hv, if_true, issueIf_opcode hq ho hc]
  case select => simp only [exec, execSelectStep, hv, hk, if_true, issueIf_opcode hq ho hc]
  case streamSelect => simp only [exec, execStreamSelect, hv, hk, if_true, issueIf_opcode hq ho hc]
  case ckpt => simp only [exec, execCkpt, hv, if_true, issueIf_opcode hq ho hc]
  case endStep => simp only [exec, execEndStep, hv, if_true, issueIf_opcode hq ho hc]
  case stays => simp only [exec, execStepIssue, hv, if_true, issueIf_waits hq _ hc]

/-! ### The start of a run -/

theorem checkTol_resumed (s : State) : (checkTol s).repro.resumed = s.repro.resumed := by
  unfold checkTol; split <;> rfl

theorem noteBins_spec (s : State) : ∃ p : Repro, noteBins s = { s with repro := p } ∧ p.resumed = s.repro.resumed := by
  unfold noteBins
  dsimp only
  split
  · exact ⟨_, rfl, rfl⟩
  · exact ⟨s.repro, rfl, rfl⟩

/-- What follows the start of a run leaves all but REPRO.RUN and the scrub alone. -/
theorem startTail_spec (s : State) : ∃ (p : Repro) (h : Hbm), noteBins (checkTol (stopScrub s)) = { s with repro := p, hbm := h } ∧
    h.mem = s.hbm.mem ∧ p.resumed = s.repro.resumed := by
  obtain ⟨q, hq⟩ := checkTol_spec (stopScrub s)
  obtain ⟨p, hp, hres⟩ := noteBins_spec (checkTol (stopScrub s))
  refine ⟨p, { s.hbm with scrub := false }, ?_, rfl, hres.trans (checkTol_resumed _)⟩
  rw [hp, hq]
  rfl

/-- At a strobed boundary the accumulator counts, or names the idle sheaf that is due; the schedule sheaf is that of the
boundary. -/
theorem accumulate_spec {s : State} (h : schedNow s = s.cut.sheaf) :
    ∃ (a : Nat) (d : Bool), accumulate s = { s with pwr := { s.pwr with acc := a }, cut := { s.cut with idleDue := d } } := by
  unfold accumulate
  dsimp only
  split
  · exact ⟨_, _, rfl⟩
  · exact ⟨_, s.cut.idleDue, by rw [h]⟩

/-- The state once a run has started at grain g, on schedule sheaf sr with i idle sheaves inserted before. -/
def runStarted (g sr i : Nat) (s : State) : State := { s with
  time := { s.time with retard := false },
  cut := { s.cut with state := .running, runBase := BitVec.ofNat 64 (wrap ((g : Int) - 4096 * (sr + i : Nat)) 64),
                      sheaf := sr, idleBase := i, idles := [], idleNow := false, startAt := none, resumeMark := none },
  pwr := { s.pwr with acc := 0 },
  repro := { s.repro with resumed := s.repro.resumed || s.cut.resumeMark.isSome } }

/-- Within the first sheaf of a run the boundary's schedule sheaf is the one that it starts on. -/
theorem schedNow_runStarted {g sr i : Nat} {s : State} (h1 : g ≤ s.now) (h2 : s.now < g + 4096) (h3 : sr + i < 2 ^ 52) :
    schedNow (runStarted g sr i s) = sr := by
  have hbase : ((BitVec.ofNat 64 (wrap ((g : Int) - 4096 * (sr + i : Nat)) 64)).toNat : Int) =
      ((g : Int) - 4096 * (sr + i : Nat)) % 2 ^ 64 := by
    rw [BitVec.toNat_ofNat, wrap]
    omega
  have hwrap : wrap ((s.now : Int) - ((BitVec.ofNat 64 (wrap ((g : Int) - 4096 * (sr + i : Nat)) 64)).toNat : Int)) 64 =
      s.now - g + 4096 * (sr + i) := by
    rw [hbase, wrap]
    omega
  change wrap ((s.now : Int) - ((BitVec.ofNat 64 (wrap ((g : Int) - 4096 * (sr + i : Nat)) 64)).toNat : Int)) 64 / 4096 -
    (i + 0) = sr
  rw [hwrap]
  omega

/-- RUN_START_GRAIN of an armed list whose grain has come. -/
theorem exec_runStartGrain {s : State} {g : Nat} (hst : s.cut.state = .armed) (hat : s.cut.startAt = some g) (hg : g ≤ s.now)
    {sr i : Nat} (hsr : sr = match s.cut.resumeMark with | some m => s.cut.marks.getD m 0 | none => 0)
    (hi : i = match s.cut.resumeMark with | some _ => s.cut.idle | none => 0) :
    exec .runStartGrain s = .next (noteBins (checkTol (stopScrub
      (if s.time.strobed = some s.now then accumulate (runStarted g sr i s) else runStarted g sr i s)))) := by
  change execRunStartGrain s = _
  rw [execRunStartGrain, hst, hat]
  dsimp only
  rw [if_neg (by omega), hsr, hi]
  rfl

/-- What the start of a run leaves. -/
theorem runStarted_next {s : State} {g sr i : Nat} (hg : g ≤ s.now)
    (hstrobe : s.time.strobed = some s.now → s.now < g + 4096 ∧ sr + i < 2 ^ 52) :
    ∃ d w p h, noteBins (checkTol (stopScrub
      (if s.time.strobed = some s.now then accumulate (runStarted g sr i s) else runStarted g sr i s))) =
        { runStarted g sr i s with cut := { (runStarted g sr i s).cut with idleDue := d }, pwr := w, repro := p, hbm := h } ∧
      h.mem = s.hbm.mem ∧ p.resumed = (s.repro.resumed || s.cut.resumeMark.isSome) := by
  by_cases hs : s.time.strobed = some s.now
  · obtain ⟨h2, h3⟩ := hstrobe hs
    obtain ⟨a, d, ha⟩ := accumulate_spec (s := runStarted g sr i s) (schedNow_runStarted hg h2 h3)
    rw [if_pos hs, ha]
    obtain ⟨p, h, ht, hm, hr⟩ := startTail_spec { runStarted g sr i s with
      pwr := { (runStarted g sr i s).pwr with acc := a }, cut := { (runStarted g sr i s).cut with idleDue := d } }
    exact ⟨d, _, p, h, ht, hm, hr⟩
  · rw [if_neg hs]
    obtain ⟨p, h, ht, hm, hr⟩ := startTail_spec (runStarted g sr i s)
    exact ⟨_, _, p, h, ht, hm, hr⟩

/-- Settles O12: a run starts as `runStarted` says, but for the idle sheaf that may be due. -/
theorem runStartsAtItsGrain : Obligations.RunStartsAtItsGrain := by
  unfold Obligations.RunStartsAtItsGrain
  refine ⟨fun s g hst hat hg hm hstrobe => ?fresh, fun s g m hst hat hg hm hstrobe => ?resumed, fun s g hst hat hg => ?early,
    fun s hst hdue hb => ?idle⟩
  case fresh =>
    obtain ⟨d, w, p, h, ht, hmem, -⟩ := runStarted_next (s := s) (sr := 0) (i := 0) hg fun hs => ⟨hstrobe hs, by decide⟩
    rw [exec_runStartGrain hst hat hg (sr := 0) (i := 0) (by rw [hm]) (by rw [hm]), ht]
    have hbase : BitVec.ofNat 64 (wrap ((g : Int) - 4096 * (0 + 0 : Nat)) 64) = BitVec.ofNat 64 g := by
      apply BitVec.eq_of_toNat_eq
      rw [BitVec.toNat_ofNat, BitVec.toNat_ofNat, wrap]
      omega
    exact ⟨_, rfl, rfl, rfl, rfl, hbase, rfl, rfl, rfl, rfl, rfl, rfl, hmem⟩
  case resumed =>
    obtain ⟨d, w, p, h, ht, hmem, hres⟩ := runStarted_next (s := s) (sr := s.cut.marks.getD m 0) (i := s.cut.idle) hg hstrobe
    rw [exec_runStartGrain hst hat hg (by rw [hm]) (by rw [hm]), ht]
    have hbase : ∀ z : Int, BitVec.ofNat 64 (wrap z 64) = BitVec.ofInt 64 z := fun z => by
      apply BitVec.eq_of_toNat_eq
      rw [BitVec.toNat_ofNat, BitVec.toNat_ofInt, wrap]
      omega
    exact ⟨_, rfl, rfl, rfl, rfl, hbase _, rfl, rfl, rfl, by simpa [hm] using hres, rfl, rfl, rfl, hmem⟩
  case early =>
    change execRunStartGrain s = _
    rw [execRunStartGrain, hst, hat]
    exact if_pos hg
  case idle => simp only [exec, execIdleSheafInsert, hst, hdue, hb, beq_self_eq_true, Bool.and_self, if_true]

end Sys2Proof.Machine
end

section
/-! PROOFS. The rows of the time base (R25, R28, R30 to R32, R517). -/

namespace Sys2Proof.Machine

/-- A measurement that is asked for changes the time base's records of measurements. -/
theorem addJob_spec (j : LockJob) (s : State) : ∃ l w, addJob j s = { s with time := { s.time with locks := l, jobs := w } } := by
  unfold addJob nextJob
  split
  · exact ⟨_, _, rfl⟩
  · exact ⟨_, _, rfl⟩

theorem modTport_time (s : State) (p : Nat) (f : TimePort → TimePort) : s.modTport p f = { s with time := (s.modTport p f).time } := by
  unfold State.modTport; split <;> rfl

theorem modTport_get (s : State) (p : Fin 2) (f : TimePort → TimePort) : (s.modTport p.val f).tport p.val = f (s.tport p.val) := by
  unfold State.modTport State.tport; split <;> rfl

/-- From unset, a port that recovers frequency begins locking, and is measured where it has not been. -/
theorem freqRecovered_fromUnset (port : Fin 2) {s : State} (hst : s.time.st = .unset) :
    ∃ t, exec (.timeFreqRecovered port) s = .next t ∧ t.time.st = .locking ∧ (t.tport port.val).freq = true ∧
      t.time.now = s.time.now ∧ t = { s with time := t.time } := by
  change ∃ t, execTimeFreqRecovered port s = .next t ∧ _
  unfold execTimeFreqRecovered
  extract_lets p new had u _ v
  have hu : u = { s with time := u.time } := modTport_time _ _ _
  have hfreq : (u.tport p).freq = true := by rw [show u.tport p = _ from modTport_get s port _]
  have hust : u.time.st = .unset := by
    simp only [u, State.modTport]
    split <;> exact hst
  have hunow : u.time.now = s.time.now := by
    simp only [u, State.modTport]
    split <;> rfl
  have hv : v = { u with time := { u.time with st := .locking } } := if_pos hust
  obtain ⟨l, w, hjob⟩ := addJob_spec { port := p } v
  have hif : ∃ l w, (if new && !had && !(v.tport p).valid then addJob { port := p } v else v) =
      { v with time := { v.time with locks := l, jobs := w } } := by
    split
    · exact ⟨l, w, hjob⟩
    · exact ⟨_, _, rfl⟩
  obtain ⟨l, w, hif⟩ := hif
  refine ⟨_, rfl, ?_, ?_, ?_, ?_⟩ <;> rw [hif, hv]
  · exact hfreq
  · exact hunow
  · rw [hu]

/-- Settles O9: row by row. -/
theorem timeBaseRowsComplete : Obligations.TimeBaseRowsComplete := by
  unfold Obligations.TimeBaseRowsComplete
  refine ⟨fun port msg frac s h => ?accepted, fun port msg frac s h => ?rejected, fun port s k hk hf hm => ?neverCame,
    fun port s k m hk hf hm hlt => ?missing, fun port msg frac s j q hj hq hc ht hr => ?response,
    fun port s hst hv => ?known, fun port s hst => ?fromUnset, fun s hst => ?lost, fun s hst => ?lostLocking,
    fun s hst he => ?drift, fun s hst => ?absent, fun s hst => ?absentElse, fun s => rfl, fun s hst ho => ?slew⟩
  case accepted => simp only [exec, execTimeMark, h, if_true]
  case rejected => simp only [exec, execTimeMark, h, Bool.false_eq_true, if_false]
  case neverCame =>
    have hf' : ((s.tport port.val).freq || (s.tport port.val).valid) = true := by simpa using hf
    simp only [exec, execTimeMarkMissing, hk, hf', hm, Bool.and_self, if_true]
  case missing =>
    have hf' : ((s.tport port.val).freq || (s.tport port.val).valid) = true := by simpa using hf
    simp only [exec, execTimeMarkMissing, hk, hf', hm, hlt, decide_true, Bool.and_self, if_true]
  case response =>
    refine ⟨{ j with
      isOpen := delFirst (fun x => x.1 == q.1) j.isOpen
      trips := j.trips ++ [((s.now * 64 + frac.val : Nat) : Int) - (q.2 : Int) - tmResidence msg] }, rfl, rfl, rfl, ?_⟩
    simp only [exec, execDelayResponse, hj, hq, hc, ht, hr, and_self, if_true]
    split <;> rfl
  case known =>
    have hv' : ((s.modTport port.val fun t => { t with freq := true }).tport port.val).valid = true := by
      rw [modTport_get]; exact hv
    have hst' : (s.modTport port.val fun t => { t with freq := true }).time.st ≠ .unset := by
      unfold State.modTport; split <;> exact hst
    simp only [exec, execTimeFreqRecovered, if_neg hst', hv', Bool.not_true, Bool.and_false, Bool.false_eq_true, if_false]
  case fromUnset => exact freqRecovered_fromUnset port hst
  case lost =>
    change execTimeFreqLost s = _
    rw [execTimeFreqLost, if_neg (by exact hst)]
    rfl
  case lostLocking =>
    change ∃ t, execTimeFreqLost s = .next t ∧ _
    rw [execTimeFreqLost, if_pos (by exact hst)]
    obtain ⟨p, hp⟩ := checkTol_spec { s with time := { s.time with
      p0 := { s.time.p0 with freq := false }, p1 := { s.time.p1 with freq := false }, st := .unset, locks := [], jobs := [],
      wait0 := none } }
    exact ⟨_, congrArg _ hp, rfl, rfl, rfl, rfl, rfl, rfl⟩
  case drift => exact congrArg _ (if_pos ⟨hst, he⟩)
  case absent => exact congrArg _ (if_pos hst)
  case absentElse => exact congrArg _ (if_neg hst)
  case slew => exact congrArg _ (if_pos ⟨hst, ho⟩)

end Sys2Proof.Machine
end

section
/-! PROOFS. Crib moves, write-backs, lane scans and dowel repairs (R78, R79, R113, R114, R118 to R121, R123). -/

namespace Sys2Proof.Machine

@[simp] theorem modGroup_group (key g : Nat) (f : Group → Group) (s : State) :
    ((s.modGroup key g f).part key).group g = f ((s.part key).group g) := by
  simp [State.modGroup, Partition.group]

@[simp] theorem declareLane_group (key g : Nat) (s : State) :
    ((declareLane key s).part key).group g = (s.part key).group g := by
  simp [declareLane, Partition.group]

/-- A lane found in error counts one fault more, and nothing but the partitions' record changes. -/
theorem faultLane_spec (key g lane : Nat) (s : State) :
    tabGet (((faultLane key g s lane).part key).group g).faults lane 0 = tabGet ((s.part key).group g).faults lane 0 + 1 ∧
      (((faultLane key g s lane).part key).group g).scans = ((s.part key).group g).scans ∧
      ∃ x, faultLane key g s lane = { s with parts := x } := by
  unfold faultLane
  extract_lets x t
  have hfaults : tabGet ((t.part key).group g).faults lane 0 = tabGet ((s.part key).group g).faults lane 0 + 1 := by
    simp [t, countFault]
  have hscans : ((t.part key).group g).scans = ((s.part key).group g).scans := by simp [t, countFault]
  split
  · refine ⟨?_, ?_, _, rfl⟩ <;> rw [declareLane_group, modGroup_group]
    exacts [hfaults, hscans]
  · exact ⟨hfaults, hscans, _, rfl⟩

/-- A scan of a single lane that it covers. -/
theorem scanned_single {l : Fin 2372} (h : l.val < 2336 ∨ 2340 ≤ l.val) : scanned [l] = [l.val] := by
  simp [scanned, h, setOf, setIns]

/-- LANE_SCAN of a group that owes a scan. -/
theorem exec_laneScan (t : TillerId) (group : Fin 8) (lanes : List (Fin 2372)) {s : State}
    (hs : 0 < ((s.part (tKey t)).group group.val).scans) (hr : partRuns s (tKey t) = true) :
    exec (.laneScan t group lanes) s = .next ((scanned lanes).foldl (faultLane (tKey t) group.val)
      (s.modGroup (tKey t) group.val (fun x => { x with scans := x.scans - 1 }))) := by
  have hgo : ¬(((s.part (tKey t)).group group.val).scans = 0 ∨ (!partRuns s (tKey t)) = true) := by
    simp [hr, Nat.ne_of_gt hs]
  exact congrArg Host.Outcome.next (if_neg hgo)

/-- CRIB_WRITEBACK of a row on the list. -/
theorem exec_cribWriteback (t : TillerId) (row : Fin 57344) {s : State} (hm : rowKey (tKey t) row.val ∈ s.writeback)
    (hr : partRuns s (tKey t) = true) :
    exec (.cribWriteback t row) s = .next { s with
      writeback := setDel s.writeback (rowKey (tKey t) row.val)
      cribErr := if (tabGet s.cribErr (rowKey (tKey t) row.val) {}).multi.isEmpty
        then tabDel s.cribErr (rowKey (tKey t) row.val)
        else tabPut s.cribErr (rowKey (tKey t) row.val) { tabGet s.cribErr (rowKey (tKey t) row.val) {} with single := [] } } :=
  congrArg Host.Outcome.next (if_pos (by simp [hm, hr]))

/-- Settles O18: row by row. -/
theorem cribStepsComplete : Obligations.CribStepsComplete := by
  unfold Obligations.CribStepsComplete
  refine ⟨fun t body noise s f hf hr => ?cload, fun t body noise s f hf hr => ?cstore, fun t row s hm hr he => ?writeback,
    fun t row s e hm hr he hne => ?writebackKept, fun t group lanes s hs hr => ⟨exec_laneScan t group lanes hs hr, exec_laneScan t group [] hs hr⟩,
    fun t group l s hs hr hl => ?oneLane, fun t body noise row group lanes s hr => ?stopped,
    fun t s hb => ?boundary, fun t s hb => ?elsewhere⟩
  case cload => exact congrArg Host.Outcome.next ((if_pos hr).trans (applyStep_inFlight (op := 0x30) hf _))
  case cstore => exact congrArg Host.Outcome.next ((if_pos hr).trans (applyStep_inFlight (op := 0x31) hf _))
  case writeback => simp only [exec_cribWriteback t row hm hr, he, List.isEmpty_nil, if_true]
  case writebackKept =>
    subst he
    have hkeep : (tabGet s.cribErr (rowKey (tKey t) row.val) {}).multi.isEmpty = false := by simpa using hne
    simp only [exec_cribWriteback t row hm hr, hkeep, Bool.false_eq_true, if_false]
  case oneLane =>
    refine ⟨_, exec_laneScan t group [l] hs hr, ?_⟩
    rw [scanned_single hl, List.foldl_cons, List.foldl_nil]
    obtain ⟨hfaults, hscans, x, hrest⟩ := faultLane_spec (tKey t) group.val l.val
      (s.modGroup (tKey t) group.val fun x => { x with scans := x.scans - 1 })
    rw [modGroup_group] at hfaults hscans
    refine ⟨hfaults, hscans, ?_⟩
    rw [hrest]
    rfl
  case stopped =>
    have hno : ¬partRuns s (tKey t) = true := by simp [hr]
    exact ⟨congrArg Host.Outcome.next (if_neg hno), congrArg Host.Outcome.next (if_neg hno), congrArg Host.Outcome.next (if_neg (by simp [hr])),
      congrArg Host.Outcome.next (if_pos (by simp [hr]))⟩
  case boundary => exact congrArg Host.Outcome.next (if_pos hb)
  case elsewhere => exact congrArg Host.Outcome.next (if_neg (by simp [hb]))

end Sys2Proof.Machine
end

section
/-! PROOFS. Ceilings, stretched periods, bins and alignment (R34, R125, R416, R417, R419, R423, R430, R439). -/

namespace Sys2Proof.Machine

/-- The guard of the ceilings: at a boundary, with a supervisor holding, once the grain of the decision allows it. -/
theorem ceilingGuard {s : State} {late : Prop} [Decidable late] (hb : s.atBoundary = true) (hl : late) (hh : s.sup.hold ≠ 0) :
    (s.atBoundary && decide late && s.sup.hold != 0) = true := by
  simp [hb, hl, hh]

/-- Settles O21: row by row. -/
theorem ceilingAndPanelRowsComplete : Obligations.CeilingAndPanelRowsComplete := by
  unfold Obligations.CeilingAndPanelRowsComplete
  refine ⟨fun die s g hd hb hg hh => ?stackLower, fun die s g hd hb hg hh => ?stackRaise,
    fun die s g hd hb hg hh hc => ?stretch, fun s g hd hb hg hh => ?moduleLower, fun s g hd hb hg hh => ?moduleRaise,
    fun s hc hh hp => ?cooldown, fun panel need since s u x win want took hx hr hn hwin hwant htook hu => ?margin,
    fun panel s x g hx hl hg => ?regulator, fun panel s x g hx hd hb hg hc hr => ?switch, fun s => rfl⟩
  case stackLower => simp only [exec, execStackCeilingLower, hd, ceilingGuard hb hg hh, if_true]
  case stackRaise =>
    simp only [exec, execStackCeilingRaise, hd, ceilingGuard hb hg hh, if_true]
    refine ⟨_, rfl, ?_, ?_, ?_, fun d hne => State.modStack_get_other _ _ _ _ hne, rfl⟩ <;> rw [State.modStack_get]
  case stretch =>
    have hrow : exec (.stretchCeilingLower die) s = .next (s.modStack die.val fun y =>
        { y with stretchDue := none, ceiling := y.ceiling - 1,
                 changed := if y.ceiling = 0 then y.changed else some s.fleetSheaf }) := by
      cases hch : (s.cstack die.val).changed with
      | none => simp only [exec, execStretchCeilingLower, hd, hch, Bool.and_true, ceilingGuard hb hg hh, if_true]
      | some f =>
        simp only [exec, execStretchCeilingLower, hd, hch, hc f hch, decide_true, Bool.and_true, ceilingGuard hb hg hh, if_true]
    refine ⟨_, hrow, ?_, ?_, fun d hne => State.modStack_get_other _ _ _ _ hne, rfl⟩ <;> rw [State.modStack_get]
  case moduleLower =>
    simp only [exec, execModuleCeilingLower, hd, ceilingGuard hb hg hh, if_true]
    split
    · exact ⟨_, rfl, rfl, rfl, rfl, rfl⟩
    · exact ⟨_, rfl, rfl, rfl, rfl, rfl⟩
  case moduleRaise =>
    simp only [exec, execModuleCeilingRaise, hd, ceilingGuard hb hg hh, if_true]
    exact ⟨_, rfl, rfl, rfl, rfl, rfl⟩
  case cooldown => exact congrArg Host.Outcome.next (if_pos ⟨hc, hh, hp⟩)
  case margin =>
    subst hwin hwant htook hu
    have hgo : ¬(need.val = 0 ∨ x.inReset = true) := by simp [hn, hr]
    simp only [exec, execPanelMarginLow, hx, hgo, if_false]
  case regulator => simp only [exec, execRegulatorLower, hx, hl, hg, if_true]
  case switch =>
    simp only [exec, execBinSwitchUp, hx, hd, hb, hg, hc, hr, decide_true, Bool.not_false, Bool.and_self, if_true]

end Sys2Proof.Machine
end

section
/-! PROOFS. Flits, credits and flips of the mesh (R80, R136, R141 to R149), and the peg plans (R163 to R167). -/

namespace Sys2Proof.Machine

/-! ### Granted flits -/

section
variable {d i : Nat} {p : Flit → Bool} {s : State} {f : Flit} (hf : (s.mesh d).flits[i]? = some f)
  (hgo : mayGo s d i f = true) (hp : p f = true)

include hf hgo hp

/-- A granted flit at its destination is consumed. -/
theorem serveFlit_arrives (hd : f.pos = f.dst) : serveFlit d i p s =
    consumeFlit d f (throughCross 1 (nodePlace d f.pos) 1
      ((noteGrant d f s).modMesh d (fun m => { m with flits := dropAt m.flits i }))) := by
  simp only [serveFlit, hf, hgo, hp, Bool.not_true, Bool.or_self, Bool.false_eq_true, if_false]
  rw [if_pos hd]

/-- Elsewhere it moves. -/
theorem serveFlit_moves (hd : f.pos ≠ f.dst) : serveFlit d i p s = moveFlit d i f (noteGrant d f s) := by
  simp only [serveFlit, hf, hgo, hp, Bool.not_true, Bool.or_self, Bool.false_eq_true, if_false, hd]

end

/-- A flit that leaves the staging buffer changes the count of staging slots and nothing else. -/
theorem leaveStaging_spec (d : Nat) (f : Flit) (s : State) : ∃ x, leaveStaging d f s = { s with meshes := x } ∧
    ((leaveStaging d f s).mesh d).flits = (s.mesh d).flits ∧ ((leaveStaging d f s).mesh d).divert = (s.mesh d).divert := by
  unfold leaveStaging
  split
  · refine ⟨_, rfl, ?_, ?_⟩ <;> rw [freeSlots, State.modMesh_get]
  · exact ⟨_, rfl, rfl, rfl⟩

/-- Settles O22: row by row. -/
theorem meshRowsComplete : Obligations.MeshRowsComplete := by
  unfold Obligations.MeshRowsComplete
  refine ⟨fun t body s f hf hone hms => ?msend,
    fun die flit s f hf hgo hk hd => ?control, fun die flit s f hf hgo hk hd => ?controlMoves,
    fun die flit s f hf hgo hk hd => ?data, fun die flit s f hf hgo hk hd => ?dataMoves,
    fun die node port channel s hlt => ?credit, fun die flit s f hf hh he hp hu => ?divert,
    fun die node s src rest hreq hu => ?staging, fun die s hno => ?request, fun die s g hr hb hg => ?flip,
    fun die s g hg hz => ?drained, fun die s g hg hz hlate ht => ?timeout⟩
  case msend =>
    have hms' : (msendMembers s t.die.val t.phys.val body).isEmpty = false := by simpa using hms
    simp only [exec, execMsend, hf, hone, hms', Option.isSome_some, Bool.not_false, Bool.and_self, if_true]
  case control => exact congrArg Host.Outcome.next (serveFlit_arrives hf hgo (by simpa using hk) hd)
  case controlMoves => exact congrArg Host.Outcome.next (serveFlit_moves hf hgo (by simpa using hk) hd)
  case data => exact congrArg Host.Outcome.next (serveFlit_arrives hf hgo (by simp [hk]) hd)
  case dataMoves => exact congrArg Host.Outcome.next (serveFlit_moves hf hgo (by simp [hk]) hd)
  case credit =>
    refine ⟨_, congrArg Host.Outcome.next (if_pos hlt), rfl, fun d hd => State.modMesh_get_other _ _ _ _ hd, ?_, ?_⟩ <;>
      rw [State.modMesh_get]
    rw [tabGet_tabPut_same]
    omega
  case divert =>
    have hgo : (!f.escape && decide (f.port < inFifo) && isHead (s.mesh die.val).flits flit &&
        decide (tabGet (s.mesh die.val).used (bufKey f.pos f.port 2) 0 < chanSlots 2)) = true := by
      simp [he, hp, hh, chanSlots, hu]
    simp only [exec, execFlitDivert, hf, hgo, if_true]
    obtain ⟨x, hx, hflits, hdivert⟩ := leaveStaging_spec die.val f (s.modMesh die.val fun m => { m with
      flits := dropAt m.flits flit ++ [{ f with escape := true }]
      used := tabPut m.used (bufKey f.pos f.port 2) (tabGet m.used (bufKey f.pos f.port 2) 0 + 1)
      divert := satAdd m.divert 1 0xFFFFFFFF })
    rw [State.modMesh_get] at hflits hdivert
    refine ⟨_, rfl, ?_, hflits, hdivert⟩
    rw [hx]
    rfl
  case staging =>
    have hroom : tabGet (s.mesh die.val).stagingUsed node.val 0 + 16 ≤ 32 := by omega
    simp only [exec, execStagingGrant, hreq, hroom, if_true]
  case request =>
    cases he : (s.mesh die.val).epoch <;>
      simp only [exec, execMeshFlipRequest, hno, Bool.false_eq_true, if_false] <;>
      refine ⟨_, rfl, rfl, ?_⟩ <;> rw [State.modMesh_get] <;> simp [he]
  case flip => simp only [exec, execMeshEpochFlip, hr, hb, hg, decide_true, Bool.and_self, if_true]
  case drained =>
    simp only [exec, execMeshDrainZero, hg, hz, Option.isSome_some, beq_self_eq_true, Bool.and_self, if_true]
  case timeout =>
    have hgo : (s.mesh die.val).drain ≠ 0 ∧ g + 100000 ≤ s.now ∧ (!(s.mesh die.val).timedOut) = true := by
      simp [hz, hlate, ht]
    simp only [exec, execMeshDrainTimeout, hg]
    rw [if_pos hgo]

/-! ### Peg plans -/

/-- The pegs and plans of the Sill once a fetched plan waits. -/
theorem exec_pegset {noise : List HbmUpset} {s u : State} {f : Flight} {b : List (BitVec 8)}
    (hf : flightOf (s.engine sillSeq) 4 (fun f => stOpcode f.step.word == 0x70 && !f.done) = some f)
    (hp : s.sill.pending = false)
    (hr : hbmRead (1024 * bits f.step.word.toNat 0 31) 1024 168 (noise.foldl (fun s u => upsetBurst u s) s) = (b, 0, u)) :
    ∃ late x e, exec (.pegset noise) s = .next { u with
      sill := { (if u.sill.epoch then { u.sill with plan0 := (planPegs b).1 } else { u.sill with plan1 := (planPegs b).1 }) with
        pending := true, pendingErr := (planPegs b).2, pendingAddr := bits f.step.word.toNat 0 31, late := late,
        latePlan := x }
      err := e } := by
  change ∃ late x e, execPegset noise s = _
  simp only [execPegset, hf, hp, Bool.false_eq_true, if_false, hr]
  cases passedBoundary u f.issued
  · exact ⟨false, _, u.err, rfl⟩
  · exact ⟨true, _, _, rfl⟩

/-- Settles O23: a clean fetch fills the free buffer; at a boundary the plan that waits takes effect. -/
theorem pegPlanRowsComplete : Obligations.PegPlanRowsComplete := by
  unfold Obligations.PegPlanRowsComplete
  refine ⟨fun noise s u f b hf hp hr => ?fetch, fun s hb hp => ?effect, fun s hb hp hd => ?settles, fun s hb => ?elsewhere⟩
  case fetch =>
    obtain ⟨late, x, e, hrow⟩ := exec_pegset hf hp hr
    refine ⟨_, hrow, ?_⟩
    cases he : u.sill.epoch <;> simp only [he, Bool.false_eq_true, if_false, if_true, and_self]
  case effect => simp only [exec, execPegPlanEffect, hb, hp, Bool.not_true, Bool.false_eq_true, if_false, if_true]
  case settles =>
    have hnot : (s.sill.deferred.isEmpty && s.sill.pegs == setOf (s.sill.plan s.sill.epoch)) = false := by
      obtain h | h := hd <;> simp [h]
    simp only [exec, execPegPlanEffect, hb, hp, hnot, Bool.not_true, Bool.false_eq_true, if_false]
  case elsewhere => simp only [exec, execPegPlanEffect, hb, Bool.not_false, if_true]

end Sys2Proof.Machine
end

section
/-! PROOFS. Stream steps and their opening (R43, R166, R173 to R177, R184, R186). -/

namespace Sys2Proof.Machine

/-! ### Opening -/

/-- The descriptors of a stream and of its peers (R174). -/
def openDescs (s : State) (st : Stream) (ps : List Stream) : List Desc := s.desc st.desc :: ps.map (fun x => s.desc x.desc)

/-- A waiting stream takes the cause of its wait since the last of its steps issued (R166). -/
def noteHold (s : State) (st : Stream) (ps : List Stream) : Stream :=
  { st with waitMask := st.waitMask ||| holdMask s (openDescs s st ps) ((ps.map (·.issued)).foldl max st.issued) }

section
variable {eng : BitVec 16} {s : State} {st : Stream} {ps : List Stream} (hv : engValid eng.toNat = true)
  (hs : streamOf s eng.toNat = some st) (ho : st.opened = none) (ha : st.abortAt = none) (h4 : st.kind ≠ 4)
  (hp : (if st.kind = 3 then matchPeers s st else some []) = some ps)

include hv hs ho ha h4 hp

/-- STREAM_OPEN of a waiting stream with its peers: the cause of its wait is noted, then a block under reset, unequal counts
and the pegs decide. -/
theorem exec_streamOpen : exec (.streamOpen eng) s = .next
    (match blockedBy s (openDescs s st ps) with
    | some k => abortStream k { noteHold s st ps with peers := ps.map (·.owner) } s
    | none =>
      if ps.any (fun x => x.total != st.total) then refuseStream (noteHold s st ps) (eng.toNat :: ps.map (·.owner)) s
      else if pegsReady s (openDescs s st ps) then openStream (noteHold s st ps) (ps.map (·.owner)) s
      else putStream (noteHold s st ps) s) := by
  have hwaits : (st.opened.isSome || st.kind == 4 || st.abortAt.isSome) = false := by simp [ho, ha, h4]
  simp only [exec, execStreamOpen, hv, if_true, hs, hwaits, Bool.false_eq_true, if_false, hp]
  rfl

theorem exec_streamOpen_blocked {k : Nat} (hb : blockedBy s (openDescs s st ps) = some k) :
    exec (.streamOpen eng) s = .next (abortStream k { noteHold s st ps with peers := ps.map (·.owner) } s) := by
  simp only [exec_streamOpen hv hs ho ha h4 hp, hb]

theorem exec_streamOpen_unequal (hb : blockedBy s (openDescs s st ps) = none)
    (ht : ps.any (fun x => x.total != st.total) = true) :
    exec (.streamOpen eng) s = .next (refuseStream (noteHold s st ps) (eng.toNat :: ps.map (·.owner)) s) := by
  simp only [exec_streamOpen hv hs ho ha h4 hp, hb, ht, if_true]

theorem exec_streamOpen_ready (hb : blockedBy s (openDescs s st ps) = none)
    (ht : ps.any (fun x => x.total != st.total) = false) (hr : pegsReady s (openDescs s st ps) = true) :
    exec (.streamOpen eng) s = .next (openStream (noteHold s st ps) (ps.map (·.owner)) s) := by
  simp only [exec_streamOpen hv hs ho ha h4 hp, hb, ht, hr, Bool.false_eq_true, if_false, if_true]

theorem exec_streamOpen_notReady (hb : blockedBy s (openDescs s st ps) = none)
    (ht : ps.any (fun x => x.total != st.total) = false) (hr : pegsReady s (openDescs s st ps) = false) :
    exec (.streamOpen eng) s = .next (putStream (noteHold s st ps) s) := by
  simp only [exec_streamOpen hv hs ho ha h4 hp, hb, ht, hr, Bool.false_eq_true, if_false]

end

/-- Settles O24: row by row. -/
theorem streamRowsComplete : Obligations.StreamRowsComplete := by
  unfold Obligations.StreamRowsComplete
  refine ⟨fun eng noise crib waited s hv hr => ?smread, fun eng crib waited s hv hr => ?smwrite,
    fun eng crib s hv hr => ?ssend, fun eng crib s hv hr => ?slout, fun eng crib s hv hr => ?slin,
    fun eng crib s st hv hs => ?srecv, fun eng s st hv hs ho ha h3 h4 hb hp => ?opens,
    fun eng s st hv hs ho ha h3 h4 hb hp => ?waits, fun eng s st k hv hs ho ha h3 h4 hb => ?blocked,
    fun eng s st ps hv hs ho ha h3 hm hb ht hp => ?sendOpens, fun eng s st ps hv hs ho ha h3 hm hb ht hp => ?sendWaits,
    fun eng s st ps k hv hs ho ha h3 hm hb => ?sendBlocked, fun eng s st ps hv hs ho ha h3 hm hb ht => ?refused,
    fun eng s st hv hs hk ho hl => ?unmatched, fun eng s st hv hs hl => ?early⟩
  case smread => simp only [exec, execSmread, hv, hr, if_true]
  case smwrite => simp only [exec, execSmwrite, hv, hr, if_true]
  case ssend => simp only [exec, execSsend, hv, hr, if_true]
  case slout => simp only [exec, execSlout, hv, hr, if_true]
  case slin => simp only [exec, execSlin, hv, hr, if_true]
  case srecv => simp only [exec, execSrecv, hv, hs, if_true]
  case opens => exact exec_streamOpen_ready (ps := []) hv hs ho ha h4 (if_neg h3) hb rfl hp
  case waits => exact exec_streamOpen_notReady (ps := []) hv hs ho ha h4 (if_neg h3) hb rfl hp
  case blocked => exact exec_streamOpen_blocked (ps := []) hv hs ho ha h4 (if_neg h3) hb
  case sendOpens => exact exec_streamOpen_ready hv hs ho ha (by simp [h3]) ((if_pos h3).trans hm) hb ht hp
  case sendWaits => exact exec_streamOpen_notReady hv hs ho ha (by simp [h3]) ((if_pos h3).trans hm) hb ht hp
  case sendBlocked => exact exec_streamOpen_blocked hv hs ho ha (by simp [h3]) ((if_pos h3).trans hm) hb
  case refused => exact exec_streamOpen_unequal hv hs ho ha (by simp [h3]) ((if_pos h3).trans hm) hb ht
  case unmatched =>
    simp only [exec, execStreamUnmatched, hv, if_true, hs]
    exact congrArg Host.Outcome.next (if_pos ⟨hk, by rw [ho]; rfl, hl⟩)
  case early =>
    simp only [exec, execStreamUnmatched, hv, if_true, hs]
    exact congrArg Host.Outcome.next (if_neg fun ⟨_, _, hlate⟩ => absurd hl (Nat.not_lt.mpr hlate))

end Sys2Proof.Machine
end

section
/-! PROOFS. Frames, retry requests and control words of the Sill (R159, R178 to R186, R292). -/

namespace Sys2Proof.Machine

/-! ### Words that arrive -/

/-- The receiver of a word that passes its check, the word counted good (R178, R179, R292, R420). -/
def hearWord (w : Word128) (s : State) : State :=
  countWord w false (if cwDst w = 0xFF then s else siteCross 5 (cwDst w) s)

@[simp] theorem siteCross_streams (kind site : Nat) (s : State) :
    (siteCross kind site s).sill.streams = s.sill.streams := by
  unfold siteCross
  split <;> rfl

@[simp] theorem hearWord_streams (w : Word128) (s : State) : (hearWord w s).sill.streams = s.sill.streams := by
  change (if cwDst w = 0xFF then s else siteCross 5 (cwDst w) s).sill.streams = _
  split
  · rfl
  · exact siteCross_streams ..

/-- A sound word that arrives in the light is heard and taken. -/
theorem takeWord_hears {w : Word128} {s : State} (f : State → State) (hl : wordUnlit s w = false) (hc : checkOk w = true)
    (hr : cwReservedOk w = true) : takeWord w f s = f (hearWord w s) := by
  simp only [takeWord, hl, hc, hr, Bool.false_eq_true, if_false, if_true]
  rfl

/-- One with a bad check is discarded. -/
theorem takeWord_discards {w : Word128} {s : State} (f : State → State) (hl : wordUnlit s w = false)
    (hc : checkOk w = false) : takeWord w f s = discardWord w s := by
  simp only [takeWord, hl, hc, Bool.false_eq_true, if_false]

theorem arriveWord_hears {w flip : Word128} {s : State} (f : State → State) (hl : wordUnlit s w = false)
    (hc : checkOk (w ^^^ flip) = true) : arriveWord w flip f s = f (countWord w false (siteCross 5 (cwDst w) s)) := by
  simp only [arriveWord, hl, hc, Bool.false_eq_true, if_false, if_true]

theorem arriveWord_discards {w flip : Word128} {s : State} (f : State → State) (hl : wordUnlit s w = false)
    (hc : checkOk (w ^^^ flip) = false) : arriveWord w flip f s = discardWord w s := by
  simp only [arriveWord, hl, hc, Bool.false_eq_true, if_false]

/-! ### Frames -/

/-- A site that receives an open stream counts the resends of the hop, checks the wl field, and takes the frame. -/
theorem exec_sillFrameReceive {site : BitVec 8} {port : Fin 25} {wl : Fin 45} {tag : BitVec 16} {seq : BitVec 24}
    {frame : BitVec 2240} {hops : Fin 4} {s : State} {st : Stream} {i : Nat}
    (hr : receivedBy s site.toNat tag.toNat = some (st, i)) :
    exec (.sillFrameReceive site port wl tag seq frame hops) s = .next
      (takeLaneFrame { st with retry := st.retry || decide (0 < hops.val) } i site.toNat port.val wl.val tag.toNat seq.toNat
        frame (wlCheck site.toNat port.val wl.val (bits frame.toNat 61 6 == wl.val)
          (putStream { st with retry := st.retry || decide (0 < hops.val) }
            { s with sill := { s.sill with retx := satAdd s.sill.retx hops.val 0xFFFFFFFF } }))) := by
  have hr' : receivedBy { s with sill := { s.sill with retx := satAdd s.sill.retx hops.val 0xFFFFFFFF } }
      site.toNat tag.toNat = some (st, i) := hr
  simp only [exec, execSillFrameReceive, hr']

/-- A data frame is no idle frame: its type is 1, that of an idle frame 2 (R159). -/
theorem frameIdle_of_frameOk {s : State} {d : Desc} {site port wl tag seq : Nat} {f : BitVec 2240}
    (h : frameOk s d site port wl tag seq f = true) : frameIdle f = false := by
  simp only [frameOk, Bool.and_eq_true, beq_iff_eq] at h
  simp [frameIdle, h]

/-- Settles O25: row by row. -/
theorem sillFrameRowsComplete : Obligations.SillFrameRowsComplete := by
  unfold Obligations.SillFrameRowsComplete
  refine ⟨fun site port wl tag seq frame hops s u st i hr hu hok => ?accepted,
    fun site port wl tag seq frame hops s u st i hr hu hidle hsound => ?idle,
    fun site port wl tag seq frame hops s u st i hr hu hbad hok => ?asked,
    fun site port wl tag seq flip w s st e hs he hw ha hl hc => ?retried,
    fun site port wl tag seq flip w s st e hs he hw ha hl hc => ?discarded,
    fun site port wl tag seq flip l s st hs => ?link,
    fun word s u st x hl hc hr hu ht hs hx => ?opened, fun word s u st hl hc hr hu ht hs => ?accept,
    fun word s u v st st1 hl hc hr hu ht hs h1 hv => ?closed, fun word s u st hl hc hr hu ht hs => ?aborted,
    fun word s hl hc => ⟨congrArg Host.Outcome.next (takeWord_discards _ hl hc),
      congrArg Host.Outcome.next (takeWord_discards _ hl hc), congrArg Host.Outcome.next (takeWord_discards _ hl hc)⟩,
    fun word s u hc hd hu => ?again⟩
  case accepted =>
    rw [exec_sillFrameReceive hr, ← hu, takeLaneFrame]
    simp only [frameIdle_of_frameOk hok, Bool.false_and, Bool.false_eq_true, if_false]
    exact congrArg Host.Outcome.next (if_pos hok)
  case idle =>
    rw [exec_sillFrameReceive hr, ← hu, takeLaneFrame]
    exact congrArg Host.Outcome.next (if_pos (by rw [hidle]; exact hsound))
  case asked =>
    have hnot : (frameIdle frame &&
        frameSound (laneSource (u.desc st.desc) site.toNat port.val wl.val) wl.val frame) = false := by
      rcases hbad with h | h <;> simp [h]
    rw [exec_sillFrameReceive hr, ← hu, takeLaneFrame]
    simp only [hnot, hok, Bool.false_eq_true, if_false]
  case retried =>
    subst hw
    simp only [exec, execSillRetryRequest, hs, he, ha, Bool.false_eq_true, if_false, arriveWord_hears _ hl hc]
  case discarded =>
    subst hw
    simp only [exec, execSillRetryRequest, hs, he, ha, Bool.false_eq_true, if_false, arriveWord_discards _ hl hc]
  case link => simp only [exec, execSillRetryRequest, hs]
  case opened =>
    have hu' : u = hearWord word s := hu
    subst hu'
    simp only [exec, execControlWordOpen, takeWord_hears _ hl hc hr, hearWord_streams, hs]
    rw [hearWord_streams] at hx
    simp only [ht, if_true, hx]
  case accept =>
    have hu' : u = hearWord word s := hu
    subst hu'
    simp only [exec, execControlWordOpen, takeWord_hears _ hl hc hr, hearWord_streams, hs]
    simp only [ht, if_true, Nat.reduceEqDiff, if_false]
  case closed =>
    have hu' : u = hearWord word s := hu
    subst hu' h1 hv
    simp only [exec, execControlWordClose, takeWord_hears _ hl hc hr, hearWord_streams, hs, ht, ne_eq, not_true_eq_false,
      if_false]
  case aborted =>
    have hu' : u = hearWord word s := hu
    subst hu'
    simp only [exec, execControlWordAbort, takeWord_hears _ hl hc hr, hearWord_streams, hs, ht, ne_eq, not_true_eq_false,
      if_false]
  case again =>
    subst hu
    simp only [exec, execControlWordRepeat, hc, hd, Bool.and_self, if_true]

end Sys2Proof.Machine
end

section
/-! PROOFS. Refresh, scrub and the loss of training (R31, R199 to R201, R205, R208); completions, barriers and paced events
(R46, R55 to R57, R89, R179, R224). -/

namespace Sys2Proof.Machine

/-- Settles O26: row by row. -/
theorem memoryStackRowsComplete : Obligations.MemoryStackRowsComplete := by
  unfold Obligations.MemoryStackRowsComplete
  refine ⟨fun stack pc s hst hsr hslot hlast => ?slot, fun stack pc s g hst hsr hslot hdue => ?caught,
    fun stack pc bank s r hf hn => ?ends, fun stack pc bank s r g hf hn => ?waited,
    fun stack s hb hst hm ht => ?enter, fun stack s hb hst hm ht => ?leave,
    fun noise s v u b st d hrun hx hbl hn hv hr => ?burst, fun noise s hrun hx hbl hn => ?passEnds,
    fun stack s hst => congrArg Host.Outcome.next (if_pos hst)⟩
  case slot =>
    have hdue : (isSlot (s.mstack stack.val).mode2x pc.val s.now &&
        tabFind s.hbm.lastSlot (channelKey stack.val pc.val) != some s.now) = true := by simp [hslot, hlast]
    simp only [exec, execRefreshSlot, hst, hsr, ne_eq, not_true_eq_false, Bool.false_eq_true, or_self, if_false, hdue,
      if_true, issueRefresh]
    generalize (refreshOrder stack.val pc.val).getD _ 0 = bank
    exact ⟨_, _, rfl, rfl, rfl, rfl, rfl, rfl, rfl, rfl, rfl⟩
  case caught =>
    simp only [exec, execRefreshSlot, hst, hsr, ne_eq, not_true_eq_false, Bool.false_eq_true, or_self, if_false, hslot,
      Bool.false_and, hdue]
  case ends => simp only [exec, execRefreshEnd, hf, hn]
  case waited => simp only [exec, execRefreshEnd, hf, hn]; rfl
  case enter =>
    have hgo : (!s.atBoundary || decide ((s.mstack stack.val).state ≠ 2)) = false := by simp [hb, hst]
    have hhot : (!(s.mstack stack.val).mode2x && decide (85 * 16 ≤ (s.mstack stack.val).temp16)) = true := by
      simp only [hm, ht, Bool.not_false, decide_true, Bool.and_self]
    simp only [exec, execRefreshModeChange, hgo, hhot, Bool.false_eq_true, if_false, if_true]
    refine ⟨_, _, rfl, ?_, rfl, rfl, Nat.mod_eq_of_lt (by omega), rfl⟩
    change (State.mstack (s.modMem stack.val _) stack.val).mode2x = true
    rw [State.modMem_get]
  case leave =>
    have hgo : (!s.atBoundary || decide ((s.mstack stack.val).state ≠ 2)) = false := by simp [hb, hst]
    have hhot : (!(s.mstack stack.val).mode2x && decide (85 * 16 ≤ (s.mstack stack.val).temp16)) = false := by simp [hm]
    have hcool : ((s.mstack stack.val).mode2x && decide ((s.mstack stack.val).temp16 ≤ 80 * 16)) = true := by
      simp only [hm, ht, decide_true, Bool.and_self]
    simp only [exec, execRefreshModeChange, hgo, hhot, hcool, Bool.false_eq_true, if_false, if_true]
  case burst =>
    have hgo : (s.runActive || !s.hbm.xfers.isEmpty || !s.rst.blocks.isEmpty) = false := by simp [hrun, hx, hbl]
    subst hv
    refine ⟨_, ?_, rfl⟩
    simp only [exec, execScrubBurst, hgo, Bool.false_eq_true, if_false, hn, hr]
  case passEnds =>
    have hgo : (s.runActive || !s.hbm.xfers.isEmpty || !s.rst.blocks.isEmpty) = false := by simp [hrun, hx, hbl]
    simp only [exec, execScrubBurst, hgo, Bool.false_eq_true, if_false, hn]

/-! ### Completions, barriers and paced events -/

/-- Away from the mesh, an arrival goes over the control waveguides, but that of a tiller at die scope. -/
theorem exec_barrierArrival {eng : BitVec 16} {flip : Word128} {s : State} {f : Flight} (hv : engValid eng.toNat = true)
    (hf : (s.engine eng.toNat).flight.find? (fun f => isBarrier f && !f.done && !f.moved) = some f)
    (hm : arrivalOnMesh s eng.toNat = false) (hw : engKind eng.toNat ≠ 1 ∨ barScope (stBody f.step.word) ≠ 0)
    (ha : awaitsRepeat s (barrierWord eng.toNat (stBody f.step.word)) = false) :
    exec (.barrierArrival eng flip) s = .next (arriveWord (barrierWord eng.toNat (stBody f.step.word)) flip
      (fun s => barArrive eng.toNat (stBody f.step.word)
        (modFlight eng.toNat 5 (fun f => isBarrier f && !f.done && !f.moved) (fun f => { f with moved := true }) s)) s) := by
  have hnot : ¬(engKind eng.toNat = 1 ∧ barScope (stBody f.step.word) = 0) := by tauto
  simp only [exec, execBarrierArrival, hv, if_true, hf, hm, Bool.false_eq_true, if_false, hnot, ha]

/-- Settles O27: row by row. -/
theorem runRowsComplete : Obligations.RunRowsComplete := by
  unfold Obligations.RunRowsComplete
  refine ⟨fun eng unit s f hv hu hf => ?completes, fun eng s f hv hf => ?stream,
    fun eng flip s f hv hf hm hk hs => ?direct, fun eng flip w s f hv hf hm hk hw ha hl hc => ?word,
    fun eng flip w s f hv hf hm hk hw ha hl hc => ?discarded, fun eng s f hv hf hsent => ?lateSent,
    fun eng s f hv hf hsent => ?late, fun s k hr hb hi he hk hn => ?overrun, fun s k hr hb hi he hk => ?flag⟩
  case completes => simp only [exec, execStepComplete, hv, if_true, hu, if_false, completeFlight, hf]
  case stream =>
    simp only [exec, execStepComplete, hv, if_true, completeFlight]
    rw [show flightOf (s.engine eng.toNat) (4 : Fin 6).val (fun f => f.done) = some f from hf]
    rfl
  case direct =>
    simp only [exec, execBarrierArrival, hv, if_true, hf, hm, Bool.false_eq_true, if_false, hk, hs, and_self]
  case word =>
    subst hw
    rw [exec_barrierArrival hv hf hm hk ha, arriveWord_hears _ hl hc]
  case discarded =>
    subst hw
    rw [exec_barrierArrival hv hf hm hk ha, arriveWord_discards _ hl hc]
  case lateSent =>
    change execBarrierTimeout eng s = _
    simp only [execBarrierTimeout, hv, if_true, hf, hsent]
  case late =>
    change execBarrierTimeout eng s = _
    simp only [execBarrierTimeout, hv, if_true, hf, hsent, Bool.false_eq_true, if_false]
  case overrun =>
    simp only [exec, execOverrunPaced, pacedNow, hr, hb, hi, he, hk, hn, beq_self_eq_true, Bool.not_false, decide_true,
      Bool.and_self, if_true]
  case flag =>
    simp only [exec, execTillerFlagPaced, pacedNow, hr, hb, hi, he, hk, beq_self_eq_true, Bool.not_false, decide_true,
      Bool.and_self, if_true]

end Sys2Proof.Machine
end

section
/-! PROOFS. Pause, end, refill and loading (R197, R229 to R237, R390). -/

namespace Sys2Proof.Machine

/-- A fetch is made for a queue of a running list with 8 or more entries free and steps left. -/
theorem mayRefill {s : State} {e n : Nat} (hs : s.cut.state = .running) (hp : (s.engine e).present = true)
    (hf : 8 ≤ freeEntries s e) (h0 : 0 < n) :
    (s.cut.state != .running || !(s.engine e).present || decide (freeEntries s e < 8) || n == 0) = false := by
  simp [hs, hp, hf]
  omega

/-- Where the sequencers' reads are good, the checks of R232 decide. -/
theorem judgeImage_read {base : Nat} {b : Img} {v x : State}
    (h : (if layoutBad b then (0, v) else seqReads base b v) = (0, x)) :
    judgeImage base b v = match imageFault x base b with
      | none => completeLoad b x
      | some r => rejectLoad r x := by
  unfold judgeImage
  rw [h]
  dsimp only
  cases imageFault x base b <;> rfl

/-- Settles O28: row by row. -/
theorem pauseEndAndLoadRowsComplete : Obligations.PauseEndAndLoadRowsComplete := by
  unfold Obligations.PauseEndAndLoadRowsComplete
  refine ⟨fun s m hm hs hp he => ?paused, fun s hs hp he => ?ended, fun eng noise s u b n hv hs hp hf hn h0 hr => ?refill,
    fun eng noise s u b n st hv hs hp hf hn h0 hr hst => ?halted,
    fun noise s u v x h b hs hr hh hl hb hq => ?judged, fun noise s u h hs hr hh => ?badHeader,
    fun noise s u h st hs hr hst => ?unread⟩
  case paused =>
    have hgo : (s.cut.state == .running && !postsInFlight s &&
        s.engines.all (fun p => !p.2.present || p.2.ckpts.any (fun c => c.1 == m))) = true := by simp only [hs, hp, he]; rfl
    obtain ⟨n, e, f, g, l, hflush⟩ := flushRun_spec s
    change ∃ t, execRunPause s = .next t ∧ _
    simp only [execRunPause, hm, hgo, if_true, hflush]
    rw [(finishes_spec s.cut.pauseCmds 0 (toBytes 8 m) _ (by decide)).choose_spec]
    exact ⟨_, rfl, rfl, rfl, rfl, rfl, rfl, rfl, rfl, rfl, rfl⟩
  case ended =>
    have hgo : (s.cut.state == .running && !postsInFlight s && s.engines.all (fun p => !p.2.present || p.2.ended)) = true := by
      simp only [hs, hp, he]; rfl
    obtain ⟨n, e, f, g, l, hflush⟩ := flushRun_spec s
    change ∃ t r, execRunEnd s = .next t ∧ _
    simp only [execRunEnd, hgo, if_true, hflush]
    rw [(endPauses_spec 0x0202 _ (by decide)).choose_spec]
    exact ⟨_, _, rfl, rfl, rfl, rfl, rfl, rfl, rfl, rfl, List.mem_append_right _ (List.mem_singleton.mpr rfl), rfl, rfl⟩
  case refill =>
    simp only [exec, execQueueRefill, hv, if_true, ← hn, mayRefill hs hp hf h0, Bool.false_eq_true, if_false, hr]
    exact ⟨_, rfl⟩
  case halted =>
    by_cases h1 : st = 1
    · subst h1
      simp only [exec, execQueueRefill, hv, if_true, ← hn, mayRefill hs hp hf h0, Bool.false_eq_true, if_false, hr]
    · obtain ⟨k, rfl⟩ : ∃ k, st = k + 2 := ⟨st - 2, by omega⟩
      simp only [exec, execQueueRefill, hv, if_true, ← hn, mayRefill hs hp hf h0, Bool.false_eq_true, if_false, hr, h1]
  case judged =>
    have hgo : (s.cut.state != .loading) = false := by simp [hs]
    simp only [exec, execLoadComplete, hgo, Bool.false_eq_true, if_false, hr, hh, hl, hb]
    refine (congrArg Host.Outcome.next (judgeImage_read hq)).trans ?_
    cases imageFault x s.cut.base (h ++ b) <;> rfl
  case badHeader =>
    have hgo : (s.cut.state != .loading) = false := by simp [hs]
    simp only [exec, execLoadComplete, hgo, Bool.false_eq_true, if_false, hr, hh, if_true]
  case unread =>
    have hgo : (s.cut.state != .loading) = false := by simp [hs]
    rcases hst with rfl | rfl <;>
      simp only [exec, execLoadComplete, hgo, Bool.false_eq_true, if_false, hr, if_true, Nat.reduceEqDiff]

end Sys2Proof.Machine
end

section
/-! PROOFS. Rail frames and link words (R246 to R266, R284, R288). -/

namespace Sys2Proof.Machine

/-- A rail in LOCK or later that is still up after its codewords are decoded: the control channel's receiver or that of a data
lane takes what they brought. -/
theorem exec_railFrameReceive {rail : Fin 26} {lane wave : Fin 34} {frame : BitVec 5140} {due : Option (BitVec 16)}
    {codes : List (Fin 545)} {s u : State} (h2 : 2 ≤ (s.rail rail.val).state) (h7 : (s.rail rail.val).state ≠ 7)
    (hu : u = hearCodes rail.val lane.val wave.val (codes.map (·.val)) s) (hup : 2 ≤ (u.rail rail.val).state) :
    exec (.railFrameReceive rail lane wave frame due codes) s = .next
      (if lane.val = 32 then hearControl rail.val wave.val frame u
      else hearFrame rail.val lane.val wave.val (frame.setWidth 4160) due u) := by
  have hgo : ¬((s.rail rail.val).state < 2 ∨ (s.rail rail.val).state = 7) := by omega
  subst hu
  simp only [exec, execRailFrameReceive, hgo, if_false, Nat.not_lt.mpr hup]

/-- A frame that passes: its receiver takes it, and one in superframe lock observes it and takes its data. -/
theorem hearFrame_passes {r lane wave : Nat} {f : BitVec 4160} {due : Option (BitVec 16)} {u : State}
    (hs : (tabGet (u.rail r).rx wave {}).sound = true) (hok : railFrameOk lane f = true) :
    hearFrame r lane wave f due u =
      let v := u.modRail r (fun y => { y with
        rx := tabMod y.rx wave {} (fun y => y.pass (bit f.toNat 8) (bits f.toNat 0 2 == 3)) })
      if (tabGet (u.rail r).rx wave {}).framed then
        let w := observe (2 * r + 1) wave (frameIdentity lane f) (railRing r 1 wave) v
        if bits f.toNat 0 2 = 1 ∧ ((w.rail r).state = 5 ∨ (w.rail r).state = 6) then
          takeFrame r (bits f.toNat 9 16) (frameSlots f) w
        else w
      else v := by
  simp only [hearFrame, hs, hok, Bool.not_true, Bool.or_self, Bool.false_eq_true, if_false]
  cases (tabGet (u.rail r).rx wave {}).framed <;> rfl

section
variable {rail : Fin 26} {word : BitVec 256} {s u : State} (hw : GoodWord rail.val 0x04 word s)
  (hu : u = (withoutWord rail.val word s).modRail rail.val (fun x => { x with trainRx := word }))

include hw hu

/-- A TRAIN word: what it asks is decided by the state of the rail. -/
theorem exec_railTrainWord : exec (.railTrainWord rail word) s = .next
    (if (s.rail rail.val).state = 3 then
      if ctl word 57 5 ≠ rail.val then
        evalReady (answerTrain rail.val (raise 0x0602 0 rail.val (ctl word 57 5) 0 0
          (u.modRail rail.val (fun x => { x with state := 7, stateSince := s.now }))))
      else if 3 ≤ ctl word 8 4 ∧ ctl word 8 4 ≤ 6 ∧ (trainLimits word).all (fun l => decide (64 ≤ l.2)) then
        enterLink rail.val 4 (u.modRail rail.val (fun x => { x with limits := trainLimits word }))
      else u
    else if (s.rail rail.val).state = 5 ∨ (s.rail rail.val).state = 6 then
      if ctl word 8 4 ≤ 3 then railDown rail.val 3 0 u
      else if ctl word 8 4 = 5 then
        u.modRail rail.val (fun x => { x with trainMask := BitVec.ofNat 32 (ctl word 12 32) &&& x.parked })
      else u
    else u) := by
  have hst : (u.rail rail.val).state = (s.rail rail.val).state := by
    subst hu
    simp only [State.modRail_get, withoutWord]
  subst hu
  change execRailTrainWord rail word s = _
  simp only [execRailTrainWord, linkWord_good hw, hst]
  rfl

end

/-- Settles O29: row by row. -/
theorem railReceiveRowsComplete : Obligations.RailReceiveRowsComplete := by
  unfold Obligations.RailReceiveRowsComplete
  refine ⟨fun rail lane wave frame due codes s u h2 h7 hu hup hl hbad => ?rejected,
    fun rail lane wave frame due codes s u v h2 h7 hu hup hl hs hok hv hf => ?unframed,
    fun rail lane wave frame due codes s u v w h2 h7 hu hup hl hs hok hv hf hw => ?framed,
    fun rail lane wave frame due codes s u h2 h7 hu hup hl hk hlost => ?control,
    fun rail s hs => congrArg Host.Outcome.next (if_pos hs), fun rail word s u hw hu => ?ack, fun rail word s hw => ?credit,
    fun rail word s u hw hu hs hp => ?miswired, fun rail word s u hw hu hs hp hlo hhi hlim => ?qualify,
    fun rail word s u hw hu hs hst => ?down, fun rail word s u hw hu hs hst => ?rejoin,
    fun rail channel s p g q hq ha hg hc => ?escape⟩
  case rejected =>
    rw [exec_railFrameReceive h2 h7 hu hup, if_neg hl]
    refine congrArg Host.Outcome.next (if_pos ?_)
    rcases hbad with h | h <;> simp [h]
  case unframed =>
    rw [exec_railFrameReceive h2 h7 hu hup, if_neg hl, hearFrame_passes hs hok]
    subst hv
    simp only [hf, Bool.false_eq_true, if_false]
  case framed =>
    rw [exec_railFrameReceive h2 h7 hu hup, if_neg hl, hearFrame_passes hs hok]
    subst hw hv
    simp only [hf, if_true]
  case control =>
    rw [exec_railFrameReceive h2 h7 hu hup, if_pos hl]
    refine congrArg Host.Outcome.next (if_neg ?_)
    simp [hk, hlost]
  case ack =>
    subst hu
    simp only [exec, execRailAck, linkWord_good hw]
  case credit => simp only [exec, execRailCredit, linkWord_good hw]
  case miswired =>
    rw [exec_railTrainWord hw hu, if_pos hs, if_pos hp]
  case qualify =>
    rw [exec_railTrainWord hw hu, if_pos hs, if_neg (not_not.mpr hp), if_pos ⟨hlo, hhi, hlim⟩]
  case down =>
    rw [exec_railTrainWord hw hu, if_neg (by omega), if_pos hs, if_pos hst]
  case rejoin =>
    rw [exec_railTrainWord hw hu, if_neg (by omega), if_pos hs, if_neg (by omega), if_pos hst]
  case escape => simp only [exec, execRailEscapeMove, hq, ha, hg, hc, and_self, if_true]

end Sys2Proof.Machine
end

section
/-! PROOFS. Rails and ports train, time out and are substituted (R244, R259 to R264, R268, R288, R373, R460). -/

namespace Sys2Proof.Machine

/-- Two updates that agree on the port as it stands are the same. -/
theorem modPort_congr {p : Nat} {f g : RxPort → RxPort} {s : State} (h : f (s.yport p) = g (s.yport p)) :
    s.modPort p f = s.modPort p g := by
  have hports : tabMod s.yuley.ports p {} f = tabMod s.yuley.ports p {} g := congrArg (tabPut s.yuley.ports p) h
  simp only [State.modPort, hports]

/-- Settles O30: state by state. -/
theorem railTrainingRowsComplete : Obligations.RailTrainingRowsComplete := by
  unfold Obligations.RailTrainingRowsComplete
  refine ⟨fun link tx rx cals s hl hs => ?optical, fun link tx rx cals s hl hs hd => ?lock,
    fun link tx rx cals s hl hs hm => ?qualify, fun link tx rx cals s hl hs => ?parked,
    fun link tx rx cals s hl hs hh hr he ht => ?starts, fun link tx rx cals s hl hs he hf ht => ?portStarts,
    fun link tx rx cals s hl hs => ?portOptical, fun link tx rx cals s hl hs hk => ?portLock,
    fun link tx rx cals s hl hs => ?portLink, fun link tx rx cals s hl hs hm => ?portQualify,
    fun link s hl ho => ?timeout, fun link s hl ho => ?portTimeout, fun s hb ha => ?substitute⟩
  case optical => simp only [exec, execRailTrainStepDone, hl, if_true, hs]
  case lock => simp only [exec, execRailTrainStepDone, hl, if_true, hs, hd]
  case qualify => simp only [exec, execRailTrainStepDone, hl, if_true, hs, hm]
  case parked => simp only [exec, execRailTrainStepDone, hl, if_true, hs]
  case starts =>
    simp only [exec, execRailTrainStepDone, hl, if_true, hs, hh, hr, he, ht, Bool.or_false, Bool.not_true]
  case portStarts =>
    simp only [exec, execRailTrainStepDone, Nat.not_lt.mpr hl, if_false, portStep, hs, he, hf, ht, Bool.or_self,
      Bool.not_true, Bool.false_eq_true, id_eq]
  case portOptical => simp only [exec, execRailTrainStepDone, Nat.not_lt.mpr hl, if_false, portStep, hs]
  case portLock => simp only [exec, execRailTrainStepDone, Nat.not_lt.mpr hl, if_false, portStep, hs, hk, if_true, id_eq]
  case portLink => simp only [exec, execRailTrainStepDone, Nat.not_lt.mpr hl, if_false, portStep, hs]
  case portQualify =>
    simp only [exec, execRailTrainStepDone, Nat.not_lt.mpr hl, if_false, portStep, hs, hm, Bool.not_true,
      Bool.false_eq_true]
    exact congrArg Host.Outcome.next (if_congr Iff.rfl rfl (congrArg evalReady (modPort_congr rfl)))
  case timeout => simp only [exec, execRailTrainTimeout, hl, if_true, ho]
  case portTimeout => simp only [exec, execRailTrainTimeout, Nat.not_lt.mpr hl, if_false, ho, if_true]
  case substitute => simp only [exec, execRailSubstitute, hb, ha, Bool.and_self, if_true]

/-! ### Epoch flips (R267, R268, R270) and combined words (R224, R258, R436) -/

/-- What a combined word leaves when it and its key are gone: the pending flip and the time are as before. -/
theorem forget_flip (kind key rail : Nat) (w : BitVec 256) (s : State) :
    (forget kind key (withoutWord rail w s)).railTop.flipPending = s.railTop.flipPending ∧
    (forget kind key (withoutWord rail w s)).railTop.flipSheaf = s.railTop.flipSheaf ∧
    (forget kind key (withoutWord rail w s)).fleetSheaf = s.fleetSheaf := ⟨rfl, rfl, rfl⟩

/-- Settles O31: row by row. -/
theorem railFlipRowsComplete : Obligations.RailFlipRowsComplete := by
  unfold Obligations.RailFlipRowsComplete
  refine ⟨fun p s v hw hp hf he => ?write, fun p s v i hw hi hv he ha => ?map, fun s hp ha hc hlo hhi => ?contribute,
    fun rail word s u hw hu hp hk hf => ?result, fun s hp ha hb hf hr => ?flips, fun s hp ha hb hf hr => ?failed,
    fun s g hg hz => ?drained, fun s g hg hl ht hz => ?timeout⟩
  case write =>
    have hgo : (s.railTop.flipPending || decide (bits v 0 52 < (takePacket p s).fleetSheaf + 64) ||
        bit v 52 == s.railTop.epoch) = false := by
      change (s.railTop.flipPending || decide (bits v 0 52 < s.fleetSheaf + 64) || bit v 52 == s.railTop.epoch) = false
      simp [hp, hf, he]
    simp only [exec, execRailFlipWrite]
    rw [runWrite_writes hw _ rfl]
    simp only [takePacket_railTop, hgo, Bool.false_eq_true, if_false]
  case map =>
    obtain ⟨-, hid, -⟩ := id hw
    have hplace : writeId p % 2 ^ 20 - 0x10000 = i := by omega
    have hother : (decide (4096 ≤ i) == s.railTop.epoch || s.railTop.flippedAt.isSome) = false := by simp [he, ha]
    have hrow : ((0x00A10000 + i) / 2 ^ 20 == 0x00A && decide (0x10000 ≤ (0x00A10000 + i) % 2 ^ 20)) = true := by
      simp only [Bool.and_eq_true, beq_iff_eq, decide_eq_true_eq]
      omega
    simp only [exec, execRailMapWrite]
    rw [runWrite_writes hw _ hrow]
    simp only [takePacket_railTop, hplace, Nat.not_lt.mpr hv, hother, Bool.false_eq_true, if_false]
  case contribute =>
    simp only [exec, execEpochContribute, hp, ha, hc, hlo, hhi, Option.isNone_none, Bool.not_false, decide_true,
      Bool.and_self, if_true]
  case result =>
    obtain ⟨hpend, hsheaf, htime⟩ := forget_flip 0x23 (ctl word 25 52) rail.val word s
    simp only [exec, execEpochResult, combined_good hw, ← hu] at hpend hsheaf htime ⊢
    simp only [hpend, hsheaf, htime, hp, hk, hf, beq_self_eq_true, decide_true, Bool.and_self, if_true]
  case flips =>
    simp only [exec, execRailEpochFlip, hp, ha, hb, hf, hr, Option.isNone_none, decide_true, Bool.and_self, if_true]
  case failed =>
    simp only [exec, execRailEpochFlip, hp, ha, hb, hf, hr, Option.isNone_none, decide_true, Bool.and_self, if_true, if_false]
  case drained =>
    simp only [exec, execRailDrainZero, hg, hz, Option.isSome_some, beq_self_eq_true, Bool.and_self, if_true]
  case timeout =>
    have hgo : g + 2 ^ 20 ≤ s.now ∧ (!s.railTop.timedOut) = true ∧ railDrain s ≠ 0 := ⟨hl, by simp [ht], hz⟩
    simp only [exec, execRailDrainTimeout, hg]
    rw [if_pos hgo]

/-- Settles O32: row by row. -/
theorem combinedWordRowsComplete : Obligations.CombinedWordRowsComplete := by
  unfold Obligations.CombinedWordRowsComplete
  refine ⟨fun rail word s u v hw hu hv => ?tally, fun rail word s u hw hu => ?timechk, fun rail word s u hw hu => ?barrier,
    fun rail word s hw hlo hhi hc => ?stray, fun s g f hg hf => ?miss⟩
  case tally =>
    subst hv hu
    simp only [exec, execTallyResult, combined_good hw]
  case timechk =>
    subst hu
    simp only [exec, execTimechkResult, combined_good hw]
  case barrier =>
    subst hu
    simp only [exec, execBarrierResult, combined_good hw]
  case stray =>
    have hc' : combinedOk (withoutWord rail.val word s) word = false := hc
    simp only [exec, execStrayCombinedWord, hlo, hhi, and_self, if_true, linkWord_good hw, hc', Bool.false_eq_true, if_false]
  case miss =>
    simp only [exec, execTallyMiss, hg, hf]
    cases hr : s.runActive
    · have hr' : State.runActive { s with
          pwr := { s.pwr with tallied := setDel s.pwr.tallied f, tallyMiss := true } } = false := hr
      simp only [hr', Bool.false_eq_true, if_false]
      exact ⟨_, _, rfl, rfl, rfl, fun h => h.elim, rfl, rfl, rfl, rfl⟩
    · have hr' : State.runActive { s with
          pwr := { s.pwr with tallied := setDel s.pwr.tallied f, tallyMiss := true } } = true := hr
      simp only [hr', if_true]
      exact ⟨_, _, rfl, rfl, rfl, fun _ => rfl, rfl, rfl, rfl, rfl⟩

end Sys2Proof.Machine
end

section
/-! PROOFS. Ring loops, locks and recoveries (R275 to R281, R290, R291), identity words and the rotating spare (R284 to R290,
R297). -/

namespace Sys2Proof.Machine

/-! ### The loop of a ring -/

/-- Two updates that agree on the ring as it stands are the same. -/
theorem modRing_congr {k : Nat} {f g : Ring → Ring} {s : State} (h : f (s.ring k) = g (s.ring k)) :
    s.modRing k f = s.modRing k g := by
  have hrings : tabMod s.opt.rings k {} f = tabMod s.opt.rings k {} g := congrArg (tabPut s.opt.rings k) h
  simp only [State.modRing, hrings]

/-- A ring after a loop period in which the free values fv and fr refine its slope and, for a comb's ring, move its trim (R279,
R280). -/
def ringTicked (ring : RingId) (off : Bool) (t : Int) (hi lo fv fr : Nat) (x : Ring) : Ring :=
  { x with
    trim := (loopTrim ring off x hi lo fr).1
    kff := if x.locked then refine x fv else x.kff
    heater := (max 0 (min 65535 (x.ff t + (loopTrim ring off x hi lo fr).1))).toNat
    power := max hi lo
    quiet := if (loopTrim ring off x hi lo fr).2.natAbs ≤ 4 then min (x.quiet + 1) 16 else 0
    weak := if x.locked ∧ off = false then weakCount x hi lo else 0 }

/-- RING_LOOP_TICK changes the ring and takes free values, and nothing else once the bank is read. -/
theorem exec_ringLoopTick {ring : RingId} {tbank : BitVec 16} {hi lo : BitVec 8} {s u : State}
    (hu : u = readBank ring.place tbank.toInt s) : ∃ fv fr w, exec (.ringLoopTick ring tbank hi lo) s =
      .next (State.modRing { u with free := w } (ringKey ring) (fun x =>
        ringTicked ring (ringOff u ring) tbank.toInt hi.toNat lo.toNat fv fr x)) := by
  change ∃ fv fr w, execRingLoopTick ring tbank hi lo s = _
  simp only [execRingLoopTick, ← hu]
  cases hl : (u.ring (ringKey ring)).locked <;> cases hc : combRing ring.place <;>
    simp only [Bool.false_eq_true, if_false, if_true]
  all_goals exact ⟨_, _, _, congrArg Host.Outcome.next (modRing_congr rfl)⟩

/-- A refinement of the slope moves it by at most 1 part in 4,096. -/
theorem refine_bound (x : Ring) (fv : Nat) : (refine x fv - x.kff).natAbs ≤ x.kff.natAbs / 4096 := by
  have h : fv % (2 * (x.kff.natAbs / 4096) + 1) < 2 * (x.kff.natAbs / 4096) + 1 := Nat.mod_lt _ (by omega)
  simp only [refine]
  omega

/-- Settles O33: row by row. -/
theorem ringRowsComplete : Obligations.RingRowsComplete := by
  unfold Obligations.RingRowsComplete
  refine ⟨fun ring tbank hi lo s u x hu hx => ?tick, fun ring s hl hf hs hq => ?locked, fun ring s hl hw => ?unlocked,
    fun ring trim power s hl hf hs ht => ?reacquired, fun ring s u g hs hf hp hu => ?undone,
    fun ring s u g q d hs hf hp hr hu => ?undoneFibre, fun ring s g hs hf ht hp => ?late,
    fun ring s g q d hs hf ht hp hr => ?lateFibre, fun comb s hc => congrArg Host.Outcome.next (if_pos hc)⟩
  case tick =>
    obtain ⟨fv, fr, w, hrow⟩ := exec_ringLoopTick (ring := ring) (tbank := tbank) (hi := hi) (lo := lo) hu
    have hring : (State.modRing { u with free := w } (ringKey ring) (fun x =>
        ringTicked ring (ringOff u ring) tbank.toInt hi.toNat lo.toNat fv fr x)).ring (ringKey ring) =
        ringTicked ring (ringOff u ring) tbank.toInt hi.toNat lo.toNat fv fr x := by
      rw [State.modRing_get, hx]
      rfl
    refine ⟨_, _, fr, hrow, rfl, ?_⟩
    rw [hring]
    refine ⟨rfl, rfl, rfl, rfl, rfl, rfl, fun hl => ?_, fun hl => ?_, rfl⟩
    · simp only [ringTicked, hl, Bool.false_eq_true, if_false]
    · simp only [ringTicked, hl, if_true]
      exact refine_bound x fv
  case locked =>
    simp only [exec, execRingLocked, hl, hf, hs, hq, Bool.not_false, Option.isNone_none, beq_self_eq_true, Bool.and_self,
      if_true]
  case unlocked => simp only [exec, execRingUnlocked, hl, hw, beq_self_eq_true, Bool.and_self, if_true]
  case reacquired =>
    simp only [exec, execRingReacquired, hl, hf, hs, ht, Bool.not_false, Option.isNone_none, decide_true, Bool.and_self,
      if_true]
  case undone =>
    simp only [exec, execRingSlipRecoveryDone, hs, hf, hp, Option.isSome_some, Bool.not_false, Bool.and_self, if_true]
    rw [hu]
    exact congrArg (fun t => Host.Outcome.next (yuleyLane ring true (noteSlip ring (s.ring (ringKey ring)).lines true t)))
      (modRing_congr rfl)
  case undoneFibre =>
    simp only [exec, execRingSlipRecoveryDone, hs, hf, hp, hr, Option.isSome_some, Bool.not_false, beq_self_eq_true,
      Bool.and_self, if_true]
    rw [hu]
    exact congrArg (fun t => Host.Outcome.next (nextRecovery q d (ringBack ring
      (yuleyLane ring true (noteSlip ring (s.ring (ringKey ring)).lines true t))))) (modRing_congr rfl)
  case late =>
    have hgo : (false || decide (s.now < g + 200000)) = false := by simp [ht]
    simp only [exec, execRingRecoveryTimeout, hs, hf, hgo, Bool.false_eq_true, if_false, hp]
  case lateFibre =>
    have hgo : (false || decide (s.now < g + 200000)) = false := by simp [ht]
    simp only [exec, execRingRecoveryTimeout, hs, hf, hgo, Bool.false_eq_true, if_false, hp, hr, if_true]

/-! ### Identity words and the rotation -/

/-- A slot of a fibre that rotates, moves nothing and recovers nothing ends: its ring and combs are measured, and the slot is
judged, or the next begins. -/
theorem exec_rotationSlotEnd {rail : Fin 26} {dir : Fin 2} {unc errs : BitVec 32} {cal : RingCal} {combs : BitVec 16}
    {s : State} {w : Nat} (hw : (s.fibre (2 * rail.val + dir.val)).spare = some w)
    (hs : (s.rail rail.val).state = 5 ∨ (s.rail rail.val).state = 6)
    (hr : (s.fibre (2 * rail.val + dir.val)).rotating = true) (hm : (s.fibre (2 * rail.val + dir.val)).moving = none)
    (hc : (s.fibre (2 * rail.val + dir.val)).recovering = none) :
    exec (.rotationSlotEnd rail dir unc errs cal combs) s = .next
      (let u := measureCombs (railEdge rail.val) combs
        (s.modRing (ringKey (railRing rail.val dir.val w)) (measureRing cal))
      if dir.val = 1 then if unc.toNat = 0 ∧ errs.toNat ≤ 356 then u else retireWave rail.val 1 w u
      else visit rail.val (some (s.fibre (2 * rail.val + dir.val)).slot) u) := by
  simp only [exec, execRotationSlotEnd, hw, hs, hr, hm, hc, Option.isNone_none, and_self, if_true]

/-- Settles O34: row by row. -/
theorem fibreRowsComplete : Obligations.FibreRowsComplete := by
  unfold Obligations.FibreRowsComplete
  refine ⟨fun rail s hlo hhi => ?send, fun rail word s u a hw hu hs ha => ?ident,
    fun rail unc errs cal combs s u w hw hs hr hm hc hu h0 he => ?keeps,
    fun rail unc errs cal combs s u w hw hs hr hm hc hu hbad => ?retires,
    fun rail unc errs cal combs s u w hw hs hr hm hc hu => ?visits⟩
  case send =>
    simp only [exec, execIdentSend, hlo, hhi, and_self, if_true]
    refine ⟨_, rfl, ?_, rfl⟩
    rw [State.modFibre_get]
  case ident =>
    have hst : (u.rail rail.val).state = 5 ∨ (u.rail rail.val).state = 6 := by
      rw [hu, withoutWord, State.modRail_get]
      exact hs
    simp only [exec, execIdentWord, linkWord_good hw, ← hu, hst, if_true, ← ha]
  case keeps =>
    have hgood : unc.toNat = 0 ∧ errs.toNat ≤ 356 := ⟨by rw [h0]; rfl, he⟩
    rw [exec_rotationSlotEnd (dir := 1) hw hs hr hm hc, hu]
    exact congrArg Host.Outcome.next (if_pos hgood)
  case retires =>
    have hnot : ¬(unc.toNat = 0 ∧ errs.toNat ≤ 356) := by
      rintro ⟨h0, he⟩
      rcases hbad with h | h
      · exact h (BitVec.eq_of_toNat_eq h0)
      · omega
    rw [exec_rotationSlotEnd (dir := 1) hw hs hr hm hc, hu]
    exact congrArg Host.Outcome.next (if_neg hnot)
  case visits =>
    rw [exec_rotationSlotEnd (dir := 0) hw hs hr hm hc, hu]
    rfl

end Sys2Proof.Machine
end

section
/-! PROOFS. The remote-access engines (R303 to R325, R450), the stream table and the line arbiters (R300, R309 to R324). -/

namespace Sys2Proof.Machine

/-! ### Batches and their records -/

/-- The next record of a batch that waits for no FENCE: what it is decides. -/
theorem exec_remoteRecordIssue {eng : Fin 64} {s : State} {b : Batch} {r m : Nat} {w : Way}
    (hb : (s.fabEng eng.val).batch = some b) (hn : b.next < b.count) (hf : b.fence = none)
    (hr : r = batchRecord s eng.val b.next) (hm : m = recAddr r / 2 ^ 52)
    (hw : w = (if m = s.fab.module then Way.rail 26 else chooseRail s s.railTop.epoch m (m + eng.val) none)) :
    exec (.remoteRecordIssue eng) s = .next
      (if !recordOk r (s.fabEng eng.val).spelt then recordStatus eng.val b.next 0x0161 false 0
        (s.modFab eng.val (fun x => { x with batch := x.batch.map (fun c => { c with next := b.next + 1 }) }))
      else if recOp r = 0x30 then s.modFab eng.val (fun x => { x with batch := x.batch.map (fun c => { c with
        next := b.next + 1, fence := some (fenceList (s.fabEng eng.val) r), fenceRec := b.next }) })
      else if s.railBlocked (fabSite eng.val) then recordStatus eng.val b.next 0x0464 false 0
        (s.modFab eng.val (fun x => { x with batch := x.batch.map (fun c => { c with next := b.next + 1 }) }))
      else if mayIssue s (s.fabEng eng.val) m && w != .wait && (!recSflag r || !storesOut (s.fabEng eng.val)) then
        issueRequest eng.val b.next r w s
      else s) := by
  have hgo : ¬(b.count ≤ b.next ∨ b.fence.isSome = true) := by simp [hf, hn]
  simp only [exec, execRemoteRecordIssue, hb, hgo, if_false, ← hr, ← hm, ← hw]

/-- A response of the arrival list that answers a request that is out notes its mark, and a final status ends the request. -/
theorem exec_remoteResponse_found {rail : Fin 27} {s u : State} {p : Packet} {o : Outreq}
    (ht : takeArrived rail.val (fun p => p.cls == 2) s = some (p, u)) (hp : p.flow < 64) (hok : responseOk p = true)
    (ho : (u.fabEng p.flow).outOf p.src p.seq = some o) (marked busy : Bool) (v : State)
    (hm : marked = (p.cmark || bit p.head 70)) (hb : busy = (p.fld 104 16 == 0x0461))
    (hv : v = (u.modDest p.flow p.src (windowAfter u.now marked)).modFab p.flow (fun x => { x with
      out := x.out.map (fun y => if y.dest = p.src ∧ y.seq = p.seq then
        { o with marked := o.marked || marked, resent := o.resent || p.late, busy := o.busy || busy,
                 busyAt := if busy then some u.now else o.busyAt, unsent := o.unsent && !busy } else y) })) :
    exec (.remoteResponse rail) s = .next (if busy then v
      else endRequest p.flow p.src p.seq (p.fld 104 16) (p.fld 128 64) (p.data (p.fld 72 8 + 1)) v) := by
  subst hv hm hb
  simp only [exec, execRemoteResponse, ht, hp, hok, and_self, if_true, ho]
  rfl

/-- Settles O35: row by row. -/
theorem remoteEngineRowsComplete : Obligations.RemoteEngineRowsComplete := by
  unfold Obligations.RemoteEngineRowsComplete
  refine ⟨fun eng s u q ha hb hu hp hlo hhi hz hl => ?begins, fun eng s u h ha hb hu hh hbad => ?rejects,
    fun eng s b hb hn hf hok => ?invalid, fun eng s b hb hn hf hok hop => ?fence,
    fun eng s b r hb hn hf hr hok hop hbl => ?blocked,
    fun eng s b r m w hb hn hf hr hok hop hbl hm hw hmay hway hs => ?issues,
    fun eng s b l hb hf hl => ?fenced, fun rail s u p ht hbad => ?discarded,
    fun rail s u v p o marked busy ht hp hok ho hm hb hv => exec_remoteResponse_found ht hp hok ho marked busy v hm hb hv,
    fun eng dest seq s => ⟨rfl, rfl, rfl⟩, fun eng dest seq s o ho hl => ?timeout⟩
  case begins =>
    have hgood : 1 ≤ bits (batchHeader u eng.val) 0 16 ∧ bits (batchHeader u eng.val) 0 16 ≤ 2046 ∧
        bits (batchHeader u eng.val) 39 473 = 0 ∧ layoutOk u eng.val (bits (batchHeader u eng.val) 0 16) = true :=
      ⟨hlo, hhi, hz, hl⟩
    simp only [exec, execBatchStart, ha, hb, Option.isNone_none, Bool.and_self, if_true, ← hu, hp]
    rw [if_pos hgood]
  case rejects =>
    simp only [exec, execBatchStart, ha, hb, Option.isNone_none, Bool.and_self, if_true, ← hu, ← hh]
    rcases hp : headerPost u h with _ | q
    · dsimp only
    · have hnot := hbad.resolve_left (by simp [hp])
      simp only [hnot, if_false]
  case invalid =>
    rw [exec_remoteRecordIssue hb hn hf rfl rfl rfl, if_pos (by rw [hok]; rfl)]
  case fence =>
    rw [exec_remoteRecordIssue hb hn hf rfl rfl rfl, if_neg (by rw [hok]; decide), if_pos hop]
  case blocked =>
    rw [exec_remoteRecordIssue hb hn hf hr rfl rfl, if_neg (by rw [hok]; decide), if_neg hop, if_pos hbl]
  case issues =>
    have hgo : (mayIssue s (s.fabEng eng.val) m && w != .wait && (!recSflag r || !storesOut (s.fabEng eng.val))) = true := by
      rcases hs with h | h <;> simp [hmay, hway, h]
    rw [exec_remoteRecordIssue hb hn hf hr hm hw, if_neg (by rw [hok]; decide), if_neg hop, if_neg (by rw [hbl]; decide),
      if_pos hgo]
  case fenced => simp only [exec, execFabFence, hb, hf, hl, if_true]
  case discarded =>
    have hnone : (if p.flow < 64 ∧ responseOk p = true then (u.fabEng p.flow).outOf p.src p.seq else none) = none := by
      rcases hbad with h | h | h
      · exact if_neg fun ⟨h', _⟩ => absurd h' (Nat.not_lt.mpr h)
      · exact if_neg (by simp [h])
      · rw [h, ite_self]
    simp only [exec, execRemoteResponse, ht, hnone]
  case timeout =>
    simp only [exec, execFabTimeout, ho]
    exact congrArg Host.Outcome.next (if_pos hl)

/-! ### Line arbiters and the stream table -/

/-- An entry of a row's operation that no earlier entry shares a line with is served. -/
theorem serveLine_serves {h i : Nat} {ops : List Nat} {noise : List HbmUpset} {f : LineReq → State → State} {s : State}
    {r : LineReq} (hq : (tabGet s.fab.ports h {}).queue[i]? = some r) (ho : ops.contains (r.pkt.fld 64 6) = true)
    (hl : ((tabGet s.fab.ports h {}).queue.take i).all (fun x => !shareLine x.pkt r.pkt) = true) :
    serveLine h i ops noise f s = .next (f r (servedLine h i noise s)) := by
  simp only [serveLine, hq, ho, hl, Bool.and_self, if_true]
  rfl

/-- Settles O36: the arbiter's rows are one operation; the rest row by row. -/
theorem lineArbiterRowsComplete : Obligations.LineArbiterRowsComplete := by
  unfold Obligations.LineArbiterRowsComplete
  refine ⟨fun stack entry noise s r hq ho hl => serveLine_serves hq ho hl,
    fun stack entry noise s r hq ho hl => serveLine_serves hq ho hl,
    fun stack entry noise s r hq ho hl => serveLine_serves hq ho hl,
    fun stack entry noise s r hq ho hl => serveLine_serves hq ho hl,
    fun stack entry noise s r hq ho hl => serveLine_serves hq ho hl,
    fun stack entry noise s r hq ho hl => serveLine_serves hq ho hl,
    fun stack entry noise s r hq ho hl => serveLine_serves hq ho hl,
    fun stack entry noise s r hq ho hl => serveLine_serves hq ho hl,
    fun stack entry noise s r hq ho hl => serveLine_serves hq ho hl,
    fun stack entry noise s r hq ho hl => serveLine_serves hq ho hl,
    fun rail s u p ht hok => ?invalid, fun rail s u v p ht hok hroom hv => ?taken,
    fun rail s u p ht hok hnone hfull => ?full, fun src flow s x hx hq hl => ?freed⟩
  case invalid => simp only [exec, execRemoteRequestAdmit, ht, hok, Bool.not_false, if_true]
  case taken =>
    have hgo : (!(tabFind u.fab.table (streamKey p.src p.flow)).isSome && decide (65536 ≤ u.fab.table.length)) = false := by
      rcases hroom with h | h <;> simp [h]
    subst hv
    simp only [exec, execRemoteRequestAdmit, ht, hok, Bool.not_true, Bool.false_eq_true, if_false, hgo]
  case full =>
    simp only [exec, execRemoteRequestAdmit, ht, hok, Bool.not_true, Bool.false_eq_true, if_false, hnone, hfull,
      Option.isSome_none, Bool.not_false, decide_true, Bool.and_self, if_true]
  case freed =>
    simp only [exec, execStreamRecordFree, hx, hq]
    exact congrArg Host.Outcome.next (if_pos (by simp only [List.isEmpty_nil, Bool.true_and]; exact decide_eq_true hl))

end Sys2Proof.Machine
end

section
/-! PROOFS. Collective steps (R334 to R345, R450), their packets and TOKEN words (R331, R339 to R346). -/

namespace Sys2Proof.Machine

/-! ### Steps -/

/-- The job of a collective step that begins (R337, R343). -/
def colJob (r op : Nat) (b : Body) (delayed : Bool) (s : State) : ColJob :=
  { op := op, body := b, uncorr := (readsUnits s op b).any (fun u => (s.colEng r).uncorrArea.contains u), delayed := delayed
    issued := ((flightOf (s.engine (colEngine r)) 4 (isStep op b)).map (·.issued)).getD s.now }

section
variable {r op : Nat} {b : Body} {delayed : Bool} {s : State} (hj : (s.colEng r).job = none)
  (hf : (s.engine (colEngine r)).flight.any (fun f => f.unit == 4 && isStep op b f) = true)

include hj hf

/-- A step in flight on a site without a step begins. -/
theorem beginCol_begins (hb : s.railBlocked r = false) : beginCol r op b delayed s = settleCol r
    (((s.colEng r).early.filter (fun x => pkTag x.1 == colTag b)).foldl (fun s x => applyData r x.2 x.1 s)
      (finishShare r (beginSend r (noteNarrow (s.modCol r (fun e => { e with
        job := some (colJob r op b delayed s), tag := colTag b
        early := e.early.filter (fun x => pkTag x.1 != colTag b) })))))) := by
  simp only [beginCol, hj, hf, hb, Option.isSome_none, Bool.not_true, Bool.or_self, Bool.false_eq_true, if_false]
  rfl

/-- Under a block reset of its site it ends aborted. -/
theorem beginCol_blocked (hb : s.railBlocked r = true) :
    beginCol r op b delayed s = endCol r (colJob r op b delayed s) false true s := by
  simp only [beginCol, hj, hf, hb, Option.isSome_none, Bool.not_true, Bool.or_self, Bool.false_eq_true, if_false, if_true]
  rfl

end

/-- Settles O37: the four steps begin alike; CPOST and COL_TIMEOUT are their own. -/
theorem collectiveStepRowsComplete : Obligations.CollectiveStepRowsComplete := by
  unfold Obligations.CollectiveStepRowsComplete
  refine ⟨fun site body delayed s j hj hf hb h => ?callred, fun site body delayed s j hj hf hb h => ?callredBlocked,
    fun site body delayed s j hj hf hb h => ?crscat, fun site body delayed s j hj hf hb h => ?crscatBlocked,
    fun site body delayed s j hj hf hb h => ?cagath, fun site body delayed s j hj hf hb h => ?cagathBlocked,
    fun site body delayed s j hj hf hb h => ?cbcast, fun site body delayed s j hj hf hb h => ?cbcastBlocked,
    fun site body s f hf => ?cpost, fun site s j hj hl => ?timeout⟩
  case callred => rw [h]; exact congrArg Host.Outcome.next (beginCol_begins hj hf hb)
  case callredBlocked => rw [h]; exact congrArg Host.Outcome.next (beginCol_blocked hj hf hb)
  case crscat => rw [h]; exact congrArg Host.Outcome.next (beginCol_begins hj hf hb)
  case crscatBlocked => rw [h]; exact congrArg Host.Outcome.next (beginCol_blocked hj hf hb)
  case cagath => rw [h]; exact congrArg Host.Outcome.next (beginCol_begins hj hf hb)
  case cagathBlocked => rw [h]; exact congrArg Host.Outcome.next (beginCol_blocked hj hf hb)
  case cbcast => rw [h]; exact congrArg Host.Outcome.next (beginCol_begins hj hf hb)
  case cbcastBlocked => rw [h]; exact congrArg Host.Outcome.next (beginCol_blocked hj hf hb)
  case cpost => simp only [exec, execCpost, hf]
  case timeout =>
    simp only [exec, execColTimeout, hj]
    exact congrArg Host.Outcome.next (if_pos hl)

/-! ### Packets and TOKEN words -/

/-- A collective packet of a kind that its rail site has delivered: its layout and its source are checked. -/
theorem receiveCol_takes {rail kind : Nat} {f : Nat → Packet → State → State} {s u : State} {p : Packet}
    (ht : takeArrived rail (fun p => p.cls == 3 && (pkKind p == kind || (kind == 1 && pkKind p != 2))) s = some (p, u)) :
    receiveCol rail kind f s =
      if !colPacketOk p then u.modRail rail (fun x => { x with badPacket := satAdd x.badPacket 1 0xFF })
      else if !fromPeer u p then countStray (pkEngine p) u
      else f (pkEngine p) p u := by
  simp only [receiveCol, ht]

/-- A data packet is one whose kind is not 2. -/
theorem dataPacket_iff : (fun p : Packet => p.cls == 3 && (pkKind p == 1 || ((1 : Nat) == 1 && pkKind p != 2))) =
    fun p => p.cls == 3 && pkKind p != 2 := by
  funext p
  by_cases h : pkKind p = 1
  · simp [h]
  · simp [beq_eq_false_iff_ne.mpr h]

/-- An ack is one whose kind is 2. -/
theorem ackPacket_iff : (fun p : Packet => p.cls == 3 && (pkKind p == 2 || ((2 : Nat) == 1 && pkKind p != 2))) =
    fun p => p.cls == 3 && pkKind p == 2 := by
  funext p
  simp

/-- What a TOKEN word forgets: the copies seen 8,192 grains ago or more (R346). -/
def forgetSeen (u : State) : State :=
  { u with col := { u.col with seen := u.col.seen.filter (fun x => decide (u.now < x.2.2.2 + 8192)) } }

/-- A TOKEN word for this module: a copy seen before does nothing more, and a first copy posts or is counted. -/
theorem exec_tokenWordReceive {rail : Fin 26} {word : BitVec 256} {s u : State} (hw : GoodWord rail.val 0x10 word s)
    (hu : u = withoutWord rail.val word s) (hm : ctl word 8 12 = u.fab.module) (hk : ctl word 58 3 ≤ 3) :
    exec (.tokenWordReceive rail word) s = .next
      (if (forgetSeen u).col.seen.any (fun x => x.1 == ctl word 20 12 && x.2.1 == ctl word 32 16 && x.2.2.1 == ctl word 48 6)
      then forgetSeen u
      else match physEngine u.cut.logMap (ctl word 32 16) with
        | none => countStray rail.val (forgetSeen u)
        | some e =>
          if !(u.engine e).present || u.cut.state == .empty || u.cut.state == .loading || u.cut.state == .ended
              || u.cut.state == .halted then countStray rail.val (forgetSeen u)
          else applyPost { dest := e, counter := ctl word 48 6, mask := ctl word 55 3, err := bit word.toNat 54 }
            { forgetSeen u with col := { (forgetSeen u).col with
              seen := (forgetSeen u).col.seen ++ [(ctl word 20 12, ctl word 32 16, ctl word 48 6, u.now)] } }) := by
  have hgo : ¬(ctl word 8 12 ≠ u.fab.module ∨ 3 < ctl word 58 3) := by omega
  simp only [exec, execTokenWordReceive, linkWord_good hw, ← hu, hgo, if_false]
  rfl

/-- A packet is due to be sent again, or to be sent to the rail that it waits for (R264, R342). -/
theorem resendDue {s : State} {c : ColPkt} (h : ((c.undelivered = true ∨ c.waits = true) ∧ s.atBoundary = true) ∨
    (c.undelivered = false ∧ c.waits = false ∧ c.last + 2 ^ 17 ≤ s.now)) :
    ((c.undelivered || c.waits) && s.atBoundary || !(c.undelivered || c.waits) && decide (c.last + 2 ^ 17 ≤ s.now)) = true := by
  rcases h with ⟨hh | hh, hb⟩ | ⟨hu, hw, hl⟩
  · simp [hh, hb]
  · simp [hh, hb]
  · simp only [hu, hw, Bool.or_self, Bool.false_and, Bool.not_false, Bool.true_and, Bool.false_or]
    exact decide_eq_true hl

/-- A packet that is due is tried: it counts as sent again where it went and had been sent before. -/
theorem exec_collectiveResend {site : Fin 26} {dest : Fin 1024} {phase : Fin 2} {share : Fin 1024} {index : BitVec 18}
    {s u v : State} {j : ColJob} {c d : ColPkt} (hj : (s.colEng site.val).job = some j)
    (hc : j.unacked.find? (fun c => c.dest == dest.val && c.phase == phase.val && c.share == share.val &&
      c.index == index.toNat) = some c)
    (hdue : ((c.undelivered = true ∨ c.waits = true) ∧ s.atBoundary = true) ∨
      (c.undelivered = false ∧ c.waits = false ∧ c.last + 2 ^ 17 ≤ s.now))
    (hs : sendData site.val j c s = (d, u))
    (hv : v = u.modJob site.val (fun j => { j with
      resent := j.resent || !c.waits || d.undelivered
      unacked := j.unacked.map (fun y => if (fun c => c.dest == dest.val && c.phase == phase.val && c.share == share.val &&
        c.index == index.toNat) y then d else y) })) :
    exec (.collectiveResend site dest phase share index) s = .next
      (if !d.undelivered && !d.waits && !c.waits then v.modCol site.val (fun e => { e with
        resent := satAdd e.resent 1 0xFFFF }) else v) := by
  rw [hv]
  simp only [exec, execCollectiveResend, hj, hc]
  rw [if_pos (resendDue hdue)]
  simp only [hs]

/-- Settles O38: row by row. -/
theorem collectivePacketRowsComplete : Obligations.CollectivePacketRowsComplete := by
  unfold Obligations.CollectivePacketRowsComplete
  refine ⟨fun rail s u p ht hok hp => ?data, fun rail s u p ht hok hp => ?dataStray, fun rail s u p ht hok => ?dataBad,
    fun rail s u p ht hok hp => ?ack, fun rail s u p ht hok hp => ?ackStray, fun rail s u p ht hok => ?ackBad,
    fun site srank phase share group s j g k hj hk hg hl => ?timer,
    fun site dest phase share index s u v j c d hj hc hdue hs hv h1 h2 h3 => ?resent,
    fun site dest phase share index s u v j c d hj hc hdue hs hv hnot => ?notCounted,
    fun rail word s u hw hu hbad => ?notMine, fun rail word s u v hw hu hm hk hv hseen => ?copy,
    fun rail word s u v e hw hu hm hk hv hseen he hp hst => ?posts, fun rail word s u v hw hu hm hk hv hseen hno => ?counted⟩
  case data =>
    simp only [exec, execCollectiveDataReceive, receiveCol_takes (dataPacket_iff ▸ ht), hok, hp, Bool.not_true,
      Bool.false_eq_true, if_false]
  case dataStray =>
    simp only [exec, execCollectiveDataReceive, receiveCol_takes (dataPacket_iff ▸ ht), hok, hp, Bool.not_true,
      Bool.not_false, Bool.false_eq_true, if_false, if_true]
  case dataBad =>
    simp only [exec, execCollectiveDataReceive, receiveCol_takes (dataPacket_iff ▸ ht), hok, Bool.not_false, if_true]
  case ack =>
    simp only [exec, execCollectiveAckReceive, receiveCol_takes (ackPacket_iff ▸ ht), hok, hp, Bool.not_true,
      Bool.false_eq_true, if_false]
  case ackStray =>
    simp only [exec, execCollectiveAckReceive, receiveCol_takes (ackPacket_iff ▸ ht), hok, hp, Bool.not_true,
      Bool.not_false, Bool.false_eq_true, if_false, if_true]
  case ackBad =>
    simp only [exec, execCollectiveAckReceive, receiveCol_takes (ackPacket_iff ▸ ht), hok, Bool.not_false, if_true]
  case timer => simp only [exec, execCollectiveGroupAckTimer, hj, ← hk, hg, hl, if_true]
  case resent => rw [exec_collectiveResend hj hc hdue hs hv, if_pos (by simp [h1, h2, h3])]
  case notCounted => rw [exec_collectiveResend hj hc hdue hs hv, if_neg (by rcases hnot with h | h | h <;> simp [h])]
  case notMine =>
    have hno : ctl word 8 12 ≠ u.fab.module ∨ 3 < ctl word 58 3 := hbad
    simp only [exec, execTokenWordReceive, linkWord_good hw, ← hu, hno, if_true]
  case copy =>
    have hv' : v = forgetSeen u := hv
    rw [exec_tokenWordReceive hw hu hm hk, if_pos (hv' ▸ hseen), hv']
  case posts =>
    have hv' : v = forgetSeen u := hv
    have hrun : (!(u.engine e).present || u.cut.state == .empty || u.cut.state == .loading || u.cut.state == .ended
        || u.cut.state == .halted) = false := by rcases hst with h | h | h | h <;> simp [hp, h]
    rw [exec_tokenWordReceive hw hu hm hk, ← hv', if_neg (Bool.eq_false_iff.mp hseen)]
    simp only [he, hrun, Bool.false_eq_true, if_false]
  case counted =>
    have hv' : v = forgetSeen u := hv
    rw [exec_tokenWordReceive hw hu hm hk, ← hv', if_neg (Bool.eq_false_iff.mp hseen)]
    rcases hno with hn | ⟨e, he, hno⟩
    · simp only [hn]
    · have hidle : (!(u.engine e).present || u.cut.state == .empty || u.cut.state == .loading || u.cut.state == .ended
          || u.cut.state == .halted) = true := by rcases hno with h | h | h | h | h <;> simp [h]
      simp only [he, hidle, if_true]

end Sys2Proof.Machine
end

section
/-! PROOFS. Packets, the session and parameters (R376 to R394), memory transfers (R174, R196, R205, R206, R388), and LOAD, START,
PAUSE and RESUME (R37, R229 to R235, R367, R389, R390). -/

namespace Sys2Proof.Machine

/-- A write of the holdover rate within its range is applied (R32). -/
theorem storeParam_holdRate {v : Nat} (s : State) (hlo : 1 ≤ v) (hhi : v ≤ 1000) :
    storeParam 0x00200004 v s = (0, { s with time := { s.time with holdRate := v } }) := by
  have hv : bits v 0 16 = v := by
    simp only [bits, Nat.shiftRight_zero]
    omega
  have hin : ¬(v < 1 ∨ 1000 < v) := by omega
  change (if bits v 0 16 < 1 ∨ 1000 < bits v 0 16 then _ else _) = _
  rw [hv, if_neg hin]

/-- Settles O39: row by row. -/
theorem sessionCommandsComplete : Obligations.SessionCommandsComplete := by
  unfold Obligations.SessionCommandsComplete
  refine ⟨fun p s hp ha hc => congrArg Host.Outcome.next (if_pos ⟨hp, ha, hc⟩), fun p s hs hl hst => ?unassigned,
    fun p s u h hu => ?hello, fun p s h => ?ping, fun p s r h hr => ?read, fun p s i v h ho => ?write,
    fun p s v h hlo hhi => ?holdRate, fun p s h => ?subscribe, fun p s h => ?query⟩
  case unassigned =>
    simp only [exec, execCommandUnassigned]
    rw [runCmd_refused p s _ _ (by rw [hl]; rfl) hs (by rw [hst]; decide), hst]
  case hello =>
    simp only [exec, execHello]
    rw [runCmd_accepted h _ beq_of_eq, hu]
  case ping =>
    simp only [exec, execPing]
    rw [runCmd_accepted h _ beq_of_eq]
    rfl
  case read =>
    simp only [exec, execParamRead]
    rw [runCmd_accepted h _ beq_of_eq, hr]
  case write =>
    obtain ⟨-, hid, -⟩ := id h
    simp only [exec, execParamWrite]
    rw [runWrite_writes h _ (by rw [ho]; rfl), hid]
  case holdRate =>
    obtain ⟨-, hid, -⟩ := id h
    simp only [exec, execParamWrite]
    rw [runWrite_writes h _ rfl, hid, storeParam_holdRate _ hlo hhi]
    rfl
  case subscribe =>
    simp only [exec, execEvtSubscribe]
    rw [runCmd_accepted h _ beq_of_eq]
    rfl
  case query =>
    simp only [exec, execEvtQuery]
    rw [runCmd_accepted h _ beq_of_eq]
    rfl

/-! ### Memory transfers -/

section
variable {p : CmdPkt} {c : CmdRef} {noise : List HbmUpset} {d : List (BitVec 8)} {s u : State} {x : Xfer}
  (hu : u = noise.foldl (fun s u => upsetBurst u s) s) (hx : x = openXfer p c false d.length)

include hu hx

/-- A write whose stream may pass applies its bytes and is under way. -/
theorem writeXfer_moves {r : Nat × Nat × State} (hb : xferBarred u x = false)
    (hr : r = writeRange (p.arg 0 8) d (portRequester p) u) :
    writeXfer p c noise d s = beginXfer { x with applied := r.1, status := r.2.1 } r.2.2 := by
  simp only [writeXfer, ← hu, ← hx, hb, Bool.false_eq_true, if_false, ← hr]

/-- One whose stream would pass a block under reset moves nothing. -/
theorem writeXfer_barred (hb : xferBarred u x = true) :
    writeXfer p c noise d s = beginXfer { x with status := 0x0412 } u := by
  simp only [writeXfer, ← hu, ← hx, hb, if_true]

end

/-- Settles O40: writes and fills share one operation; reads and replies are their own. -/
theorem memoryCommandsComplete : Obligations.MemoryCommandsComplete := by
  unfold Obligations.MemoryCommandsComplete
  refine ⟨fun p noise s u d x r h hd hu hx hb hr => ?write, fun p noise s u d x h hd hu hx hb => ?writeBarred,
    fun p noise s u d x r h hd hu hx hb hr => ?fill, fun p noise s u d x h hd hu hx hb => ?fillBarred,
    fun p noise s u x r h hu hx hb hr => ?read, fun p noise s u x h hu hx hb => ?readBarred,
    fun port channel s x hx => ?reply⟩
  case write =>
    simp only [exec, execMemWrite]
    rw [runCmd_accepted h _ beq_of_eq, ← hd, writeXfer_moves hu hx hb hr]
  case writeBarred =>
    simp only [exec, execMemWrite]
    rw [runCmd_accepted h _ beq_of_eq, ← hd, writeXfer_barred hu hx hb]
  case fill =>
    simp only [exec, execMemFill]
    rw [runCmd_accepted h _ beq_of_eq, ← hd, writeXfer_moves hu hx hb hr]
  case fillBarred =>
    simp only [exec, execMemFill]
    rw [runCmd_accepted h _ beq_of_eq, ← hd, writeXfer_barred hu hx hb]
  case read =>
    simp only [exec, execMemRead]
    rw [runCmd_accepted h _ beq_of_eq]
    simp only [← hu, ← hx, hb, Bool.false_eq_true, if_false, ← hr]
  case readBarred =>
    simp only [exec, execMemRead]
    rw [runCmd_accepted h _ beq_of_eq]
    simp only [← hu, ← hx, hb, if_true]
  case reply => simp only [exec, execMemTransferComplete, hx]

/-! ### Run control -/

/-- The ranks and peers of a START or RESUME are those of the state in which its packet stood. -/
@[simp] theorem grainOk_takePacket (p : CmdPkt) (s : State) (came g : Nat) :
    grainOk (takePacket p s) came g = grainOk s came g := rfl

/-- What CUT.LOAD shows of a LOAD refused for the state it meets (R233). -/
def showRefusedLoad (s : State) : State :=
  { s with cut := { s.cut with loadCode := 0x15, loadSegment := 0xFF, loadQueue := 0xFFFF, loadStep := 0 } }

@[simp] theorem canStart_showRefusedLoad (p : CmdPkt) (s : State) : canStart (showRefusedLoad s) p = canStart s p := rfl

@[simp] theorem cmdStatus_showRefusedLoad (p : CmdPkt) (s : State) : cmdStatus (showRefusedLoad s) p = cmdStatus s p := rfl

/-- Settles O41: row by row. -/
theorem runCommandsComplete : Obligations.RunCommandsComplete := by
  unfold Obligations.RunCommandsComplete
  refine ⟨fun p s h hst => ?load, fun p s hc hop hst => ?loadRefused, fun p s h hst hg => ?start,
    fun p s h hno => ?startRefused, fun p s h hst => ?pause, fun p s h ha hr => ?pauseRefused, fun p s h hst hg => ?resume,
    fun p s h hno => ?resumeRefused⟩
  case load =>
    obtain ⟨-, -, hpass⟩ := id h
    have hload : loadable s = true := by rcases hst with e | e | e | e <;> simp [loadable, e]
    have hnote : noteRefusedLoad p s = s := by simp [noteRefusedLoad, hpass, hload]
    have hload' : loadable (takePacket p s) = true := hload
    simp only [exec, execLoadList, hnote]
    rw [runCmd_accepted h _ beq_of_eq, if_pos hload']
  case loadRefused =>
    rcases hst with hst | ⟨hpass, hst⟩
    · have hnote : noteRefusedLoad p s = showRefusedLoad s := by simp [noteRefusedLoad, showRefusedLoad, hop, hc, hst]
      simp only [exec, execLoadList, hnote]
      rw [runCmd_refused p _ _ _ (by rw [hop]; rfl) (by rw [canStart_showRefusedLoad, hc])
        (by rw [cmdStatus_showRefusedLoad, hst]; decide), cmdStatus_showRefusedLoad, hst]
      rfl
    · have hload : loadable s = false := by rcases hst with e | e | e | e <;> simp [loadable, e]
      have hload' : loadable (takePacket p (showRefusedLoad s)) = false := hload
      have hnote : noteRefusedLoad p s = showRefusedLoad s := by
        simp [noteRefusedLoad, showRefusedLoad, hop, hc, hpass, hload]
      have hacc : Accepted 0x300 p (showRefusedLoad s) :=
        ⟨hop, by rw [canStart_showRefusedLoad, hc], by rw [cmdStatus_showRefusedLoad, hpass]⟩
      simp only [exec, execLoadList, hnote]
      rw [runCmd_accepted hacc _ beq_of_eq, if_neg (Bool.eq_false_iff.mp hload')]
      rfl
  case start =>
    simp only [exec, execStartRun]
    rw [runCmd_accepted h _ beq_of_eq]
    simp only [takePacket_cut, hst, grainOk_takePacket, hg, beq_self_eq_true, Bool.and_self, if_true]
  case startRefused =>
    have hgo : (s.cut.state == .loaded && grainOk s (arrivalOf p s) (p.arg 0 8)) = false := by
      rcases hno with e | e <;> simp [e]
    simp only [exec, execStartRun]
    rw [runCmd_accepted h _ beq_of_eq]
    simp only [takePacket_cut, grainOk_takePacket, hgo, Bool.false_eq_true, if_false]
  case pause =>
    have hgo : (s.cut.state == .armed || s.cut.state == .running) = true := by rcases hst with e | e <;> simp [e]
    simp only [exec, execPauseRun]
    rw [runCmd_accepted h _ beq_of_eq]
    simp only [takePacket_cut, hgo, if_true]
  case pauseRefused =>
    have hgo : (s.cut.state == .armed || s.cut.state == .running) = false := by simp [ha, hr]
    simp only [exec, execPauseRun]
    rw [runCmd_accepted h _ beq_of_eq]
    simp only [takePacket_cut, hgo, Bool.false_eq_true, if_false]
  case resume =>
    simp only [exec, execResumeRun]
    rw [runCmd_accepted h _ beq_of_eq]
    simp only [takePacket_cut, hst, grainOk_takePacket, hg, beq_self_eq_true, Bool.and_self, if_true]
  case resumeRefused =>
    have hgo : (s.cut.state == .paused && grainOk s (arrivalOf p s) (p.arg 0 8)) = false := by
      rcases hno with e | e <;> simp [e]
    simp only [exec, execResumeRun]
    rw [runCmd_accepted h _ beq_of_eq]
    simp only [takePacket_cut, grainOk_takePacket, hgo, Bool.false_eq_true, if_false]

end Sys2Proof.Machine
end

section
/-! PROOFS. SAVE and RESTORE (R363 to R366). -/

namespace Sys2Proof.Machine

section
variable {noise : List HbmUpset} {s u v : State} {j : SaveJob} {h : List (BitVec 8)} {e : Nat}
  (hj : s.cut.restore = some j) (hst : s.cut.state = .loaded)
  (hu : u = noise.foldl (fun s u => upsetBurst u s) { s with cut := { s.cut with restore := none } })
  (hr : readRange j.addr (min 256 (hbmTop - j.addr)) 171 u = (h, e, v))

include hj hst hu hr

/-- RESTORE_COMPLETE: the first test of R366 that the image fails decides. -/
theorem exec_restoreComplete : exec (.restoreComplete noise) s = .next
    (if e = 0x0412 then finish j.cmd 0x0412 [] v
    else if !imgHeaderOk h then finish j.cmd 0x0171 [] v
    else if hbmTop < j.addr + ihdr h 320 64 ∨ overlaps j.addr (ihdr h 320 64) v.cut.base v.cut.len then
      finish j.cmd 0x0172 [] v
    else if imgIdentity v h ≠ 0 then finish j.cmd (imgIdentity v h) [] v
    else
      let r := readRange (j.addr + 256) (ihdr h 320 64 - 256) 171 v
      if r.2.1 = 0x0412 then finish j.cmd 0x0412 [] r.2.2
      else if imgDigest (h ++ r.1) ≠ ihdr h 1152 512 then finish j.cmd 0x0321 [] r.2.2
      else if e ≠ 0 ∨ r.2.1 ≠ 0 then finish j.cmd 0x0521 [] r.2.2
      else finish j.cmd 0 [] (restoreAll j.addr h r.2.2)) := by
  have hgo : (s.cut.state != .loaded) = false := by simp [hst]
  simp only [exec, execRestoreComplete, hj, hgo, Bool.false_eq_true, if_false, ← hu, hr]

end

/-- Settles O42: row by row. -/
theorem saveRestoreRowsComplete : Obligations.SaveRestoreRowsComplete := by
  unfold Obligations.SaveRestoreRowsComplete
  refine ⟨fun p s n h hst hn htop hclear hsaves => ?save, fun p s n h hst hn hbad => ?saveRegion, fun p s h hst => ?saveState,
    fun port channel noise s u j r hj hst hu hr => ?saved, fun port channel noise s j hj hst => ?saveLate,
    fun p s h hst hno => ?restore, fun p s h hbad => ?restoreState, fun noise s j hj hst => ?restoreLate,
    fun noise s u v j h e hj hst hu hr he => ?inReset, fun noise s u v j h e hj hst hu hr he hh => ?fields,
    fun noise s u v j h e hj hst hu hr he hh hp => ?place, fun noise s u v j h e hj hst hu hr he hh htop ho hi => ?identity,
    fun noise s u v j h e r hj hst hu hr he hh htop ho hi hrest => ?rest⟩
  case save =>
    have hgo : (s.cut.state != .paused) = false := by simp [hst]
    have hclean : ¬(hbmTop < p.arg 0 8 + n ∨ overlaps (p.arg 0 8) n s.cut.base s.cut.len = true ∨
        s.cut.saves.any (fun j => overlaps (p.arg 0 8) n j.addr j.len) = true) := by
      simpa [hclear, hsaves] using htop
    simp only [exec, execSaveImage]
    rw [runCmd_accepted h _ beq_of_eq]
    simp only [takePacket_cut, hgo, ← hn, hclean, Bool.false_eq_true, if_false]
  case saveRegion =>
    have hgo : (s.cut.state != .paused) = false := by simp [hst]
    simp only [exec, execSaveImage]
    rw [runCmd_accepted h _ beq_of_eq]
    simp only [takePacket_cut, hgo, ← hn, hbad, Bool.false_eq_true, if_false, if_true]
  case saveState =>
    have hgo : (s.cut.state != .paused) = true := by simp [hst]
    simp only [exec, execSaveImage]
    rw [runCmd_accepted h _ beq_of_eq]
    simp only [takePacket_cut, hgo, if_true]
  case saved =>
    have hgo : (s.cut.state != .paused) = false := by simp [hst]
    simp only [exec, execSaveComplete, hj, hgo, Bool.false_eq_true, if_false, ← hu, ← hr]
  case saveLate =>
    have hgo : (s.cut.state != .paused) = true := by simp [hst]
    simp only [exec, execSaveComplete, hj, hgo, if_true]
  case restore =>
    have hgo : (s.cut.state != .loaded || s.cut.restore.isSome) = false := by simp [hst, hno]
    simp only [exec, execRestoreImage]
    rw [runCmd_accepted h _ beq_of_eq]
    simp only [takePacket_cut, hgo, Bool.false_eq_true, if_false]
  case restoreState =>
    have hgo : (s.cut.state != .loaded || s.cut.restore.isSome) = true := by rcases hbad with e | e <;> simp [e]
    simp only [exec, execRestoreImage]
    rw [runCmd_accepted h _ beq_of_eq]
    simp only [takePacket_cut, hgo, if_true]
  case restoreLate =>
    have hgo : (s.cut.state != .loaded) = true := by simp [hst]
    simp only [exec, execRestoreComplete, hj, hgo, if_true]
  case inReset => rw [exec_restoreComplete hj hst hu hr, if_pos he]
  case fields => rw [exec_restoreComplete hj hst hu hr, if_neg he, if_pos (by rw [hh]; rfl)]
  case place => rw [exec_restoreComplete hj hst hu hr, if_neg he, if_neg (by rw [hh]; decide), if_pos hp]
  case identity =>
    rw [exec_restoreComplete hj hst hu hr, if_neg he, if_neg (by rw [hh]; decide),
      if_neg (not_or_intro (Nat.not_lt.mpr htop) (Bool.eq_false_iff.mp ho)), if_pos hi]
  case rest =>
    rw [exec_restoreComplete hj hst hu hr, if_neg he, if_neg (by rw [hh]; decide),
      if_neg (not_or_intro (Nat.not_lt.mpr htop) (Bool.eq_false_iff.mp ho)), if_neg (not_not.mpr hi), ← hrest]

/-! ### Block resets (R128, R199, R295, R391, R450 to R452) -/

/-- A BLOCK_RESET begins its quiesce where none is under way for the block. -/
theorem runBlock_begins {kind : Nat} {p : CmdPkt} {s : State} (h : Accepted 0x500 p s) (hk : p.arg 0 1 = kind)
    (hn : s.rst.blocks.any (fun b => b.kind == kind && b.index == p.arg 1 1) = false) :
    runBlock kind p s = stopScrub { takePacket p s with rst := { s.rst with blocks := s.rst.blocks ++
      [{ kind := kind, index := p.arg 1 1, start := s.now
         limit := 1000 * (if p.arg 2 4 = 0 then 100 else p.arg 2 4), cmds := [p.ref] }] } } := by
  rw [runBlock, runCmd_accepted h _ fun ho => by simp [ho, hk]]
  simp only [takePacket_rst, hn, Bool.false_eq_true, if_false, takePacket_now]

/-- With one under way it joins that one. -/
theorem runBlock_joins {kind : Nat} {p : CmdPkt} {s : State} (h : Accepted 0x500 p s) (hk : p.arg 0 1 = kind)
    (hn : s.rst.blocks.any (fun b => b.kind == kind && b.index == p.arg 1 1) = true) :
    runBlock kind p s = stopScrub { takePacket p s with rst := { s.rst with blocks := s.rst.blocks.map (fun b =>
      if (b.kind == kind && b.index == p.arg 1 1) = true then { b with cmds := b.cmds ++ [p.ref] } else b) } } := by
  rw [runBlock, runCmd_accepted h _ fun ho => by simp [ho, hk]]
  simp only [takePacket_rst, hn, if_true]

/-- The row of a compute stack takes its own kind. -/
theorem exec_blockResetComputeStack {p : CmdPkt} {s : State} (hk : p.arg 0 1 = 1) :
    exec (.blockResetComputeStack p) s = .next (runBlock 1 p s) :=
  congrArg Host.Outcome.next (if_neg (by omega))

/-- Settles O43: the five kinds begin and join alike; the rest row by row. -/
theorem blockResetRowsComplete : Obligations.BlockResetRowsComplete := by
  unfold Obligations.BlockResetRowsComplete
  refine ⟨fun p s h hk hn => ?stack, fun p s h hk hn => ?stackJoins,
    fun p s h hk hn => congrArg Host.Outcome.next (runBlock_begins h hk hn),
    fun p s h hk hn => congrArg Host.Outcome.next (runBlock_joins h hk hn),
    fun p s h hk hn => congrArg Host.Outcome.next (runBlock_begins h hk hn),
    fun p s h hk hn => congrArg Host.Outcome.next (runBlock_joins h hk hn),
    fun p s h hk hn => congrArg Host.Outcome.next (runBlock_begins h hk hn),
    fun p s h hk hn => congrArg Host.Outcome.next (runBlock_joins h hk hn),
    fun p s h hk hn => congrArg Host.Outcome.next (runBlock_begins h hk hn),
    fun p s h hk hn => congrArg Host.Outcome.next (runBlock_joins h hk hn),
    fun p s hc hop hk hst => ?crib, fun kind index s b hb hi => ?idle, fun kind index s b hb hl => ?late,
    fun kind index fixed cals s u b hb hs hr hu => ?ready, fun kind index s b hb hl => ?fails⟩
  case stack => rw [exec_blockResetComputeStack hk, runBlock_begins h hk hn]
  case stackJoins => rw [exec_blockResetComputeStack hk, runBlock_joins h hk hn]
  case crib =>
    simp only [exec, execBlockResetCrib]
    rw [runCmd_refused p s _ _ (by simp [hop, hk]) hc (by rw [hst]; decide), hst]
  case idle => simp only [exec, execBlockIdle, hb, hi, if_true]
  case late => simp only [exec, execBlockQuiesceTimeout, hb, hl, if_true]
  case ready =>
    have hgo : b.since ≤ s.now ∧ (kind.val ≠ 4 ∨ railSettled s index.val = true) := ⟨hs, by tauto⟩
    rw [hu]
    simp only [exec, execBlockReady, hb]
    rw [if_pos hgo]
  case fails => simp only [exec, execBlockReadyTimeout, hb, hl, if_true]

end Sys2Proof.Machine
end

section
/-! PROOFS. CALIBRATE and RECOVER (R28, R182, R259, R262, R277, R392, R463, R470). -/

namespace Sys2Proof.Machine

/-- A CALIBRATE row takes the packets of its own action. -/
theorem calibrate_mine {p : CmdPkt} {a : Nat} (h : p.arg 0 1 = a) (ho : p.opcode = 0x501) :
    (p.opcode == 0x501 && p.arg 0 1 == a) = true := by
  simp [ho, h]

/-- Settles O44: row by row. -/
theorem calibrationCommandsComplete : Obligations.CalibrationCommandsComplete := by
  unfold Obligations.CalibrationCommandsComplete
  refine ⟨fun p s h ha h1 h2 => ?lanes, fun p s h ha hst => ?lanesRefused, fun failing cals s u hon hu => ?lanesDone,
    fun p s h ha h0 h7 => ?noRetrain, fun p s u h ha hst hu => ?retrain, fun p s u h ha hu => ?hold, fun p s h ha => ?delay,
    fun p s u v w x l h h1 h2 h3 hr hu hv hl hw hx => ?recover, fun p s h hst => ?recoverRefused,
    fun test s u hst hr hd hh hu => ?recovered⟩
  case lanes =>
    have hgo : (s.cut.state == .armed || s.cut.state == .running) = false := by simp [h1, h2]
    simp only [exec, execCalibrateSillLanes]
    rw [runCmd_accepted h _ fun ho => by simp [ho, ha]]
    simp only [takePacket_cut, takePacket_sill, hgo, Bool.false_eq_true, if_false]
  case lanesRefused =>
    have hgo : (s.cut.state == .armed || s.cut.state == .running) = true := by rcases hst with e | e <;> simp [e]
    simp only [exec, execCalibrateSillLanes]
    rw [runCmd_accepted h _ fun ho => by simp [ho, ha]]
    simp only [takePacket_cut, hgo, if_true]
  case lanesDone => simp only [exec, execSillLaneCalibrationDone, hon, if_true, ← hu]
  case noRetrain =>
    have hno : ¬(((takePacket p s).rail (p.arg 1 1)).state = 0 ∨ ((takePacket p s).rail (p.arg 1 1)).state = 7) :=
      not_or_intro h0 h7
    simp only [exec, execCalibrateRetrainRail]
    rw [runCmd_accepted h _ (calibrate_mine ha), if_neg hno]
  case retrain =>
    have hyes : ((takePacket p s).rail (p.arg 1 1)).state = 0 ∨ ((takePacket p s).rail (p.arg 1 1)).state = 7 := hst
    simp only [exec, execCalibrateRetrainRail]
    rw [runCmd_accepted h _ (calibrate_mine ha), if_pos hyes, ← hu]
  case hold =>
    simp only [exec, execCalibrateHoldDown]
    rw [runCmd_accepted h _ (calibrate_mine ha), hu]
  case delay =>
    simp only [exec, execCalibrateRemeasureDelay]
    rw [runCmd_accepted h _ (calibrate_mine ha)]
  case recover =>
    have hgo : (s.cut.state == .loading || s.cut.state == .armed || s.cut.state == .running || s.rst.recovering) = false := by
      simp [h1, h2, h3, hr]
    simp only [exec, execRecover]
    rw [runCmd_accepted h _ beq_of_eq]
    simp only [takePacket_cut, takePacket_rst, hgo, Bool.false_eq_true, if_false, ← hu, ← hv, ← hl, ← hw, ← hx]
  case recoverRefused =>
    have hgo : (s.cut.state == .loading || s.cut.state == .armed || s.cut.state == .running || s.rst.recovering) = true := by
      rcases hst with e | e | e | e <;> simp [e]
    simp only [exec, execRecover]
    rw [runCmd_accepted h _ beq_of_eq]
    simp only [takePacket_cut, takePacket_rst, hgo, if_true]
  case recovered =>
    simp only [exec, execRecoveryComplete, hst, hr, hd, hh, ne_eq, not_false_eq_true, and_self, if_true, ← hu]

end Sys2Proof.Machine
end

section
/-! PROOFS. Firmware, attestation and debug tokens (R403, R478, R481 to R486). -/

namespace Sys2Proof.Machine

section
variable {op : Nat} {p : CmdPkt} {s : State} (h : Accepted op p s) (f : CmdRef → State → State)

include h

/-- Without Square its commands are answered 0x0501 (R403). -/
theorem runSquare_down (hq : s.procUp 0 = false) : runSquare p op f s = finish p.ref 0x0501 [] (takePacket p s) := by
  rw [runSquare, runCmd_accepted h _ beq_of_eq]
  simp only [takePacket_procUp, hq, Bool.false_eq_true, if_false]

/-- With Square they have their effect. -/
theorem runSquare_up (hq : s.procUp 0 = true) : runSquare p op f s = f p.ref (takePacket p s) := by
  rw [runSquare, runCmd_accepted h _ beq_of_eq]
  simp only [takePacket_procUp, hq, if_true]

end

/-- Settles O45: without Square and with it, row by row. -/
theorem securityCommandsComplete : Obligations.SecurityCommandsComplete := by
  unfold Obligations.SecurityCommandsComplete
  refine ⟨fun p s h hq => congrArg Host.Outcome.next (runSquare_down h _ hq),
    fun p s h hq => congrArg Host.Outcome.next (runSquare_down h _ hq),
    fun p s h hq => congrArg Host.Outcome.next (runSquare_down h _ hq),
    fun p s h hq => congrArg Host.Outcome.next (runSquare_down h _ hq),
    fun p s h hq => congrArg Host.Outcome.next (runSquare_down h _ hq),
    fun p s h hq => congrArg Host.Outcome.next (runSquare_down h _ hq),
    fun p s h hq hi => ?attestClosed, fun p s h hq hi => ?identityClosed, fun p s h hq hbad => ?stageRange,
    fun p s h hq hok hc => ?stageBusy, fun p s h hq hc => ?commitBusy, fun p s h hq hi => ?attest, fun p s h hq hi => ?identity,
    fun p s h hq h0 hc => ?stageFirst, fun p s h hq h0 ha hd ht hc => ?stage, fun p s h hq hc => ?commit,
    fun s u c f hc hf hu => ?committed, fun p s u h hq hu => ?unlock, fun p s h hq => ?lock, fun s hl he => ?expire⟩
  case attestClosed =>
    simp only [exec, execAttest, runSquare_up h _ hq, takePacket_sec, hi, Bool.not_false, if_true]
  case identityClosed =>
    simp only [exec, execIdentity, runSquare_up h _ hq, takePacket_sec, hi, Bool.not_false, if_true]
  case stageRange =>
    simp only [exec, execFwStage, runSquare_up h _ hq]
    rw [if_pos hbad]
  case stageBusy =>
    simp only [exec, execFwStage, runSquare_up h _ hq, takePacket_sec, hc, if_true]
    rw [if_neg hok]
  case commitBusy =>
    simp only [exec, execFwCommit, runSquare_up h _ hq, takePacket_sec, hc, if_true]
  case attest =>
    simp only [exec, execAttest, runSquare_up h _ hq, takePacket_sec, hi, takePacket_free, Bool.not_true, Bool.false_eq_true,
      if_false]
  case identity =>
    simp only [exec, execIdentity, runSquare_up h _ hq, takePacket_sec, hi, Bool.not_true, Bool.false_eq_true, if_false]
  case stageFirst =>
    have hok : ¬(p.arg 0 4 ≠ 0 ∧ (p.arg 0 4 % 64 ≠ 0 ∨ (p.payload.drop 8).length % 64 ≠ 0 ∨
        0xBFFFC0 < p.arg 0 4 + (p.payload.drop 8).length)) := fun hbad => hbad.1 h0
    simp only [exec, execFwStage, runSquare_up h _ hq]
    rw [if_neg hok, takePacket_sec, hc, h0, if_neg (by decide), if_pos rfl, Nat.add_zero]
  case stage =>
    have hok : ¬(p.arg 0 4 ≠ 0 ∧ (p.arg 0 4 % 64 ≠ 0 ∨ (p.payload.drop 8).length % 64 ≠ 0 ∨
        0xBFFFC0 < p.arg 0 4 + (p.payload.drop 8).length)) := by omega
    simp only [exec, execFwStage, runSquare_up h _ hq]
    rw [if_neg hok]
    simp only [takePacket_sec, hc, Option.isSome_none, Bool.false_eq_true, h0, if_false]
  case commit =>
    simp only [exec, execFwCommit, runSquare_up h _ hq, takePacket_sec, hc, Option.isSome_none, Bool.false_eq_true, if_false]
  case committed =>
    simp only [exec, execFwCommitComplete, hc, ← hf, ← hu]
    rw [hu]
  case unlock =>
    simp only [exec, execDebugUnlock, runSquare_up h _ hq, ← hu]
    cases tokenOk (takePacket p s) p.payload <;> rfl
  case lock => simp only [exec, execDebugLock, runSquare_up h _ hq]
  case expire => simp only [exec, execDebugExpire, hl, he, decide_true, Bool.and_self, if_true]

end Sys2Proof.Machine
end

section
/-! PROOFS. Diagnostics, configuration commits and the mirror of the fault table (R5, R459, R473, R505 to R507, R531 to R535). -/

namespace Sys2Proof.Machine

/-- The row of ERR.FAULT and ERR.PREV takes writes to either. -/
theorem faultAck_row {k : Nat} (h : k < 64) (base : Nat) (hb : base = 0x01620000 ∨ base = 0x01630000) :
    ((base + k) / 2 ^ 16 == 0x0162 || (base + k) / 2 ^ 16 == 0x0163) = true := by
  simp only [Bool.or_eq_true, beq_iff_eq]
  omega

/-- A write of 1 to pending of an entry of ERR.FAULT (R533). -/
theorem exec_faultAck_fault {p : CmdPkt} {s : State} {v k : Nat} {r : Record} (h : Writes (0x01620000 + k) v p s)
    (hk : k < 64) (hr : r = tabGet s.err.fault k {}) : exec (.faultAck p) s = .next
      (if bit v 19 && (r.pend && r.grain != s.now) then finish p.ref 0 [] { takePacket p s with
        err := { s.err with fault := tabPut s.err.fault k { r with pend := false }
                            dirty := s.err.dirty.orElse (fun _ => some s.now) } }
      else finish p.ref 0 [] (takePacket p s)) := by
  obtain ⟨-, hid, -⟩ := id h
  have hplace : writeId p % 2 ^ 16 = k := by omega
  have htable : writeId p / 2 ^ 16 = 0x0162 := by omega
  simp only [exec, execFaultAck]
  rw [runWrite_writes h _ (faultAck_row hk _ (Or.inl rfl))]
  simp only [hplace, htable, takePacket_err, takePacket_now, ← hr, if_true]
  cases bit v 19 <;> cases r.pend && r.grain != s.now <;> rfl

/-- A write of 1 to pending of an entry of ERR.PREV (R533). -/
theorem exec_faultAck_prev {p : CmdPkt} {s : State} {v k : Nat} {r : Record} (h : Writes (0x01630000 + k) v p s)
    (hk : k < 64) (hr : r = tabGet s.err.prev k {}) : exec (.faultAck p) s = .next
      (if bit v 19 && (r.pend && r.grain != s.now) then finish p.ref 0 [] { takePacket p s with
        err := { s.err with prev := tabPut s.err.prev k { r with pend := false } } }
      else finish p.ref 0 [] (takePacket p s)) := by
  obtain ⟨-, hid, -⟩ := id h
  have hplace : writeId p % 2 ^ 16 = k := by omega
  have htable : writeId p / 2 ^ 16 ≠ 0x0162 := by omega
  simp only [exec, execFaultAck]
  rw [runWrite_writes h _ (faultAck_row hk _ (Or.inr rfl))]
  simp only [hplace, htable, takePacket_err, takePacket_now, ← hr, if_false]
  cases bit v 19 <;> cases r.pend && r.grain != s.now <;> rfl

/-- A write that sets no pending bit of 1, or meets an entry that is not pending or of this grain. -/
theorem ackNothing {v : Nat} {r : Record} {now : Nat} (h : bit v 19 = false ∨ r.pend = false ∨ r.grain = now) :
    ¬(bit v 19 && (r.pend && r.grain != now)) = true := by
  rcases h with e | e | e <;> simp [e]

/-- Settles O46: row by row. -/
theorem diagnosticCommandsComplete : Obligations.DiagnosticCommandsComplete := by
  unfold Obligations.DiagnosticCommandsComplete
  refine ⟨fun p s h => ?catalog, fun p s h => ?trace, fun p s v n o h hn ho => ?counter, fun p s v n h hn hm hsc => ?capture,
    fun p s v n h hn hbad => ?captureRefused, fun p s u v h hb hbusy hu => ?commit, fun p s v h hno => ?noCommit,
    fun s u k seq b hc hu => ?committed, fun s k seq b hc => ?failed, fun s g last k seq b hd hp hl hk hq hb => ?mirror,
    fun p s v k r h hk hr hb hp hg => ?ackFault, fun p s v k r h hk hr hno => ?noAckFault,
    fun p s v k r h hk hr hb hp hg => ?ackPrev, fun p s v k r h hk hr hno => ?noAckPrev,
    fun s hw => congrArg Host.Outcome.next (if_pos hw)⟩
  case catalog =>
    simp only [exec, execDiagCatalog]
    rw [runCmd_accepted h _ beq_of_eq]
  case trace =>
    simp only [exec, execTraceRead]
    rw [runCmd_accepted h _ beq_of_eq, takePacket_dbg]
  case counter =>
    obtain ⟨-, hid, -⟩ := id h
    have hplace : writeId p - 0x01500020 = n := by omega
    simp only [exec, execDbgCntWrite]
    rw [runWrite_writes h _ (decide_eq_true (by omega))]
    simp only [hplace, takePacket_dbg, ← ho]
  case capture =>
    obtain ⟨-, hid, -⟩ := id h
    have hplace : writeId p - 0x01500040 = n := by omega
    simp only [exec, execDbgTraceWrite]
    rw [runWrite_writes h _ (by simp; omega)]
    simp only [hplace, hm, takePacket_scopesNow, hsc, takePacket_dbg, if_false, Bool.not_true, Bool.false_eq_true]
  case captureRefused =>
    simp only [exec, execDbgTraceWrite]
    rw [runWrite_writes h _ (by simp; omega)]
    by_cases hm : bits v 0 2 = 3
    · simp only [hm, if_true]
    · have hsc := hbad.resolve_left hm
      simp only [hm, takePacket_scopesNow, hsc, if_false, Bool.not_false, if_true]
  case commit =>
    simp only [exec, execCfgCommit]
    rw [runWrite_writes h _ rfl]
    simp only [hb, takePacket_rst, hbusy, Bool.not_true, Bool.false_eq_true, if_false, ← hu]
    refine ⟨_, rfl, rfl, rfl, rfl, ?_, ?_⟩ <;> rw [hu] <;> rfl
  case noCommit =>
    simp only [exec, execCfgCommit]
    rw [runWrite_writes h _ rfl]
    rcases hno with e | e
    · simp only [e, Bool.not_false, if_true]
    · cases hv : bit v 0 <;> simp only [takePacket_rst, e, Bool.not_true, Bool.not_false, Bool.false_eq_true, if_true, if_false,
        Bool.true_eq_false]
  case committed =>
    simp only [exec, execCfgCommitDone, hc, if_true]
    rw [hu]
    by_cases hk : k = 0 <;> simp only [hk, if_true, if_false] <;> exact ⟨_, rfl, rfl, rfl, rfl, rfl, rfl, rfl⟩
  case failed => simp only [exec, execCfgCommitDone, hc, Bool.false_eq_true, if_false]
  case mirror =>
    have hgo : (s.err.dirty.isSome && s.err.prevCopied) = true := by rw [hd, hp]; rfl
    rw [hb, hq, hk, hl]
    refine congrArg Host.Outcome.next ((if_pos hgo).trans ?_)
    cases mirrorNewest s <;> rfl
  case ackFault =>
    rw [exec_faultAck_fault h hk hr, if_pos (by simp [hb, hp, hg])]
    refine ⟨_, rfl, rfl, rfl, ?_⟩
    cases hd : s.err.dirty <;> rfl
  case noAckFault => rw [exec_faultAck_fault h hk hr, if_neg (ackNothing hno)]
  case ackPrev => rw [exec_faultAck_prev h hk hr, if_pos (by simp [hb, hp, hg])]
  case noAckPrev => rw [exec_faultAck_prev h hk hr, if_neg (ackNothing hno)]

end Sys2Proof.Machine
end

section
/-! PROOFS. The rows of the processors: mailboxes, faults, restarts, interrupts and sleep (R400 to R412). -/

namespace Sys2Proof.Machine

/-- A row of a processor that the module has goes past the guard of log entry 2. -/
theorem row_of_present {p : Nat} (hp : procPresent p = true) (a b : Host.Outcome State Fault Refusal) :
    (if !procPresent p then a else b) = b := by
  rw [hp]; rfl

/-- A mailbox row between two processors that the module has. -/
theorem row_of_mailbox {src dst : Fin 16} (hs : procPresent src.val = true) (hd : procPresent dst.val = true)
    (hne : src ≠ dst) (a b : Host.Outcome State Fault Refusal) :
    (if !procPresent src.val || !procPresent dst.val || src == dst then a else b) = b := by
  rw [hs, hd, beq_false_of_ne hne]; rfl

/-- A processor that executes sends its message. -/
theorem exec_mailboxSend {src dst : Fin 16} (msg : BitVec 512) {s : State} (hs : procPresent src.val = true)
    (hd : procPresent dst.val = true) (hne : src ≠ dst) (hr : procRuns s src.val = true) :
    exec (.mailboxSend src dst msg) s = .next (boxSend src.val dst.val { data := toBytes 64 msg.toNat } s) :=
  (row_of_mailbox hs hd hne _ _).trans (congrArg Host.Outcome.next (if_pos hr))

section
variable {s : State} {dst : Nat} (src : Nat) (m : Msg)

theorem boxSend_rejected (h : boxRejects s dst = true) : boxSend src dst m s = s := if_pos h

theorem boxSend_taken (h : boxRejects s dst = false) (hl : (tabGet s.boxes (boxKey src dst) []).length < 16) :
    boxSend src dst m s = boxPut src dst m s :=
  (if_neg (by simp [h])).trans (if_pos hl)

theorem boxSend_full (h : boxRejects s dst = false) (hl : 16 ≤ (tabGet s.boxes (boxKey src dst) []).length) :
    boxSend src dst m s = { s with resend := s.resend ++ [(boxKey src dst, s.now, m)] } :=
  (if_neg (by simp [h])).trans (if_neg (Nat.not_lt.mpr hl))

end

/-- Settles O47: each row of a processor that the module has, by the guard of the row that the statement's premises meet. -/
theorem processorRowsComplete : Obligations.ProcessorRowsComplete := by
  unfold Obligations.ProcessorRowsComplete
  refine ⟨fun src dst msg s hs hd hne hr hb => ?rejected, fun src dst msg s hs hd hne hr hb hl => ?taken,
    fun src dst msg s hs hd hne hr hb hl => ?full, fun src dst s g m hs hd hne hm hdue hr => ?retry,
    fun proc cause address data s hp hr => ?fault, fun proc address s hp hst hw => ?expire,
    fun proc s hp hst hw hn => ?warning, fun proc s u hp hst h1 h2 hh hu => ?restart⟩
  case rejected => rw [exec_mailboxSend msg hs hd hne hr, boxSend_rejected _ _ hb]
  case taken => rw [exec_mailboxSend msg hs hd hne hr, boxSend_taken _ _ hb hl]
  case full => rw [exec_mailboxSend msg hs hd hne hr, boxSend_full _ _ hb hl]
  case retry =>
    refine (row_of_mailbox hs hd hne _ _).trans (congrArg Host.Outcome.next ?_)
    simp only [hm]
    refine if_pos ?_
    rw [hr, Bool.and_true]
    obtain hlong | ⟨d, hd, hgd⟩ := hdue
    · rw [decide_eq_true hlong, Bool.true_or]
    · simp only [hd, decide_eq_true hgd, Bool.or_true]
  case fault => exact (row_of_present hp _ _).trans (congrArg Host.Outcome.next (if_pos (decide_eq_true hr)))
  case expire => exact (row_of_present hp _ _).trans (congrArg Host.Outcome.next (if_pos ⟨hst, hw⟩))
  case warning =>
    exact (row_of_present hp _ _).trans (congrArg Host.Outcome.next (if_pos ⟨hst, hw, by rw [hn]; rfl⟩))
  case restart =>
    refine (row_of_present hp _ _).trans (congrArg Host.Outcome.next ((if_pos ⟨hst, h1, h2, hh⟩).trans ?_))
    rw [hu]

/-- An idle processor that may sleep: a supervisor with leave to, Scribe without a session (R410). -/
theorem mayRetain {proc : Fin 16} {s : State} (hst : (s.proc proc.val).state = 3)
    (hok : proc.val = 1 ∨ proc.val = 2 → (s.proc proc.val).sleepOk = true)
    (hopen : proc.val = 3 → s.yuley.isOpen = false) :
    ((s.proc proc.val).state = 3 ∧
      (if proc.val = 1 ∨ proc.val = 2 then (s.proc proc.val).sleepOk else proc.val ≠ 3 || !s.yuley.isOpen) = true) := by
  refine ⟨hst, ?_⟩
  by_cases h12 : proc.val = 1 ∨ proc.val = 2
  · rw [if_pos h12]; exact hok h12
  · rw [if_neg h12]
    by_cases h3 : proc.val = 3
    · rw [hopen h3]; simp
    · simp [h3]

/-- Settles O49: each row of an interrupt controller, by the guard of the row that the statement's premises meet. -/
theorem interruptRowsComplete : Obligations.InterruptRowsComplete := by
  unfold Obligations.InterruptRowsComplete
  refine ⟨fun proc source edges high s hp hi h0 hb => exec_irqSourceEdge edges high hp hi h0 hb,
    fun proc s hp hst hpre hd hmay => ?deliver, fun proc bits act s hp hst => ?acknowledge,
    fun proc bits s hp hst => exec_irqOverrunClear bits hp hst, fun proc bits s hp hst => ?stuckClear,
    fun proc source s g hp hth hc hg hline hep h4 => ?stuck, fun proc source s hp hep => ?episodeEnd,
    fun proc s g hp ht hg => ?timer, fun proc s hp hst hok hopen => ?sleep, fun proc ordered s r hp hst hr hdue => ?wake⟩
  case deliver =>
    exact (row_of_present hp _ _).trans (congrArg Host.Outcome.next (if_pos ⟨hst, hpre, hd, hmay⟩))
  case acknowledge => exact (row_of_present hp _ _).trans (congrArg Host.Outcome.next (if_pos hst))
  case stuckClear => exact (row_of_present hp _ _).trans (congrArg Host.Outcome.next (if_pos hst))
  case stuck =>
    refine (row_of_present hp _ _).trans (congrArg Host.Outcome.next ?_)
    simp only [hc]
    exact if_pos (by simp [hth, hg, hline, hep, h4])
  case episodeEnd => exact (row_of_present hp _ _).trans (congrArg Host.Outcome.next (if_pos hep))
  case timer =>
    refine (row_of_present hp _ _).trans (congrArg Host.Outcome.next ?_)
    simp only [ht, if_pos hg]
  case sleep =>
    exact (row_of_present hp _ _).trans (congrArg Host.Outcome.next (if_pos (mayRetain hst hok hopen)))
  case wake =>
    refine (row_of_present hp _ _).trans (congrArg Host.Outcome.next ?_)
    have hgo : (ordered || (s.proc proc.val).latch.any (fun c => c.2 != 0 && (bit r.enable.toNat c.1 || c.1 == 49))) = true := by
      rcases hdue with h | h <;> simp only [h, Bool.true_or, Bool.or_true]
    simp only [hst, hr, beq_self_eq_true, hgo, if_true]

end Sys2Proof.Machine
end

section
/-! PROOFS. The rows of a Yuley port: frames received, events sent and held replies released (R371 to R377, R393, R529). -/

namespace Sys2Proof.Machine

section
variable {port : Fin 2} {lane : Fin 4} {f : BitVec 4160} {codes : List (Fin 545)} {s u : State}

/-- In the states that receive, the row hands the frame to its lane's receiver, its codewords counted. -/
theorem exec_yuleyFrameReceive (due : Option (BitVec 16)) (h2 : 2 ≤ (s.yport port.val).state)
    (h5 : (s.yport port.val).state ≤ 5)
    (hu : u = missCodewords (60 + 2 * port.val + 1) (10 + lane.val) (codes.map (·.val)) (yuleyRing port.val lane.val)
      (s.modPort port.val (fun y => { y with
        rx := tabMod y.rx (10 + lane.val) {} (fun x => (x.codes (codes.map (·.val))).1) }))) :
    exec (.yuleyFrameReceive port lane f due codes) s = .next (hearYuley port.val lane.val f due u) := by
  rw [hu]
  exact congrArg Host.Outcome.next (if_neg (by omega))

end

section
variable {p l : Nat} {f : BitVec 4160} {u : State}

theorem hearYuley_rejects (due : Option (BitVec 16))
    (hbad : (tabGet (u.yport p).rx (10 + l) {}).sound = false ∨ bits f.toNat 4128 32 ≠ railCrc f ∨ bits f.toNat 0 2 = 0 ∨
      bits f.toNat 25 7 ≠ 0) :
    hearYuley p l f due u =
      rejectYuley p due (u.modPort p (fun y => { y with rx := tabMod y.rx (10 + l) {} LaneRx.skip })) := by
  refine if_pos ?_
  rcases hbad with h | h | h | h <;> simp [h]

variable {v : State} (hsound : (tabGet (u.yport p).rx (10 + l) {}).sound = true)
  (hcrc : bits f.toNat 4128 32 = railCrc f) (htype : bits f.toNat 0 2 ≠ 0) (hres : bits f.toNat 25 7 = 0)
  (hv : v = u.modPort p (fun y => { y with
    rx := tabMod y.rx (10 + l) {} (fun y => y.pass (bit f.toNat 8) (bits f.toNat 0 2 == 3)) }))

include hsound hcrc htype hres hv

theorem hearYuley_unframed (due : Option (BitVec 16)) (hf : (tabGet (u.yport p).rx (10 + l) {}).framed = false) :
    hearYuley p l f due u = v := by
  rw [hv]
  refine (if_neg ?_).trans (if_pos ?_)
  · simp [hsound, hcrc, htype, hres]
  · rw [hf]; rfl

/-- With superframe lock the frame is an observation, and what it brings depends on its lane and its port. -/
theorem hearYuley_framed (due : Option (BitVec 16)) {w : State} (hf : (tabGet (u.yport p).rx (10 + l) {}).framed = true)
    (hw : w = observe (60 + 2 * p + 1) (10 + l) (yuleyIdentity f) (yuleyRing p l)
      (v.modFibre (60 + 2 * p + 1) (fun g => { g with map := tabPut g.map (10 + l) l }))) :
    hearYuley p l f due u =
      if bits f.toNat 2 6 ≠ l then rejectYuley p due w
      else if (w.yport p).state ≠ 5 ∨ !bit (w.yport p).lanes l then w
      else if bits f.toNat 0 2 = 1 then takeYuley p (bits f.toNat 9 16) (frameSlots f) w
      else if bits f.toNat 0 2 = 2 then linkYuley p f w
      else w := by
  rw [hw, hv]
  refine (if_neg ?_).trans (if_neg ?_)
  · simp [hsound, hcrc, htype, hres]
  · rw [hf]; decide

end

/-- Settles O48: frames by the receiver of their lane (hearYuley), events and held replies by the port that carries them. -/
theorem portRowsComplete : Obligations.PortRowsComplete := by
  unfold Obligations.PortRowsComplete
  refine ⟨fun port lane f due codes s u h2 h5 hu hbad => ?rejected,
    fun port lane f due codes s u v h2 h5 hu hs hcrc ht hr hv hf => ?unframed,
    fun port lane f due codes s u v w h2 h5 hu hs hcrc ht hr hv hf hw hl => ?otherLane,
    fun port lane f due codes s u v w h2 h5 hu hs hcrc ht hr hv hf hw hl hidle => ?unused,
    fun port lane f due codes s u v w h2 h5 hu hs hcrc ht hr hv hf hw hl ha hlane => ?taken,
    fun raiser s r hr hup => ?record, fun s r rest q he hq hsub => ?sent, fun s r rest q he hq hsub => ?dropped,
    fun port channel s q hq => ?release⟩
  case rejected => rw [exec_yuleyFrameReceive due h2 h5 hu, hearYuley_rejects due hbad]
  case unframed => rw [exec_yuleyFrameReceive due h2 h5 hu, hearYuley_unframed hs hcrc ht hr hv due hf]
  case otherLane =>
    rw [exec_yuleyFrameReceive due h2 h5 hu, hearYuley_framed hs hcrc ht hr hv due hf hw, if_pos hl]
  case unused =>
    rw [exec_yuleyFrameReceive due h2 h5 hu, hearYuley_framed hs hcrc ht hr hv due hf hw, if_neg (not_not.mpr hl),
      if_pos (hidle.imp_right fun h => by rw [h]; rfl)]
  case taken =>
    have huse : ¬((w.yport port.val).state ≠ 5 ∨ (!bit (w.yport port.val).lanes lane.val) = true) := by simp [ha, hlane]
    rw [exec_yuleyFrameReceive due h2 h5 hu, hearYuley_framed hs hcrc ht hr hv due hf hw, if_neg (not_not.mpr hl),
      if_neg huse]
  case record =>
    refine congrArg Host.Outcome.next ?_
    simp only [hr, hup, Bool.not_true, Bool.false_eq_true, if_false]
  case sent =>
    refine ⟨{ port := q, channel := (tabGet s.yuley.subs (r.code / 256) {}).channel, ptype := 2, opcode := 0x710,
              overflow := decide (0 < s.yuley.dropped), payload := eventPayload r s.yuley.dropped },
      congrArg Host.Outcome.next ?_, rfl, rfl, rfl, rfl, rfl, rfl⟩
    simp only [he, hq, hsub, if_true]
  case dropped =>
    refine congrArg Host.Outcome.next ?_
    simp only [he, hq, hsub, Bool.false_eq_true, if_false]
  case release =>
    refine congrArg Host.Outcome.next ?_
    simp only [hq]

end Sys2Proof.Machine
end

section
/-! PROOFS. Supply events, regulator faults and the thermal trip (R429, R430, R432, R440, R514). -/

namespace Sys2Proof.Machine

/-- A voltage within a band of marginal operation, in 0.05 V (R429). -/
theorem marginal_of {v : Nat} (h : 1240 ≤ v ∧ v < 1320 ∨ 1560 < v ∧ v ≤ 1600) :
    (decide (1240 ≤ v ∧ v < 1320) || decide (1560 < v ∧ v ≤ 1600)) = true := by
  rw [← Bool.decide_or]; exact decide_eq_true h

section
variable {volts : BitVec 12} {s : State}

/-- In a band the row begins an episode, unless one is under way. -/
theorem exec_pwrInputRange_marginal
    (h : 1240 ≤ volts.toNat ∧ volts.toNat < 1320 ∨ 1560 < volts.toNat ∧ volts.toNat ≤ 1600) {u : State}
    (hu : u = { s with pwr := { s.pwr with range := true, rangeEpisode := true } }) :
    exec (.pwrInputRange volts) s =
      .next (if s.pwr.rangeEpisode then s else raise 0x0A01 0 (pwrInput u) 0 0 0 u) := by
  rw [hu]
  exact congrArg Host.Outcome.next (if_pos (marginal_of h))

end

/-- Settles O50: the input by its band and episode, a domain by whether it stands, the trip by its latch and the supply. -/
theorem powerRowsComplete : Obligations.PowerRowsComplete := by
  unfold Obligations.PowerRowsComplete
  refine ⟨fun s => ⟨rfl, rfl, rfl, rfl, rfl⟩, fun volts s u hv he hu => ?begins, fun volts s hv he => ?under,
    fun volts s hlo hhi => ?outside, fun kind index s u hd hoff hno hu => ?fault, fun kind index s hd hgone => ?gone,
    fun s h => ?latched, fun s ht hoff => ?trip⟩
  case begins => rw [exec_pwrInputRange_marginal hv hu, he, if_neg Bool.false_ne_true]
  case under => rw [exec_pwrInputRange_marginal hv rfl, he, if_pos rfl]
  case outside =>
    exact congrArg Host.Outcome.next (if_neg (by rw [decide_eq_false hlo, decide_eq_false hhi]; decide))
  case fault =>
    have hgo : ¬(s.pwr.domainsOff || s.pwr.regFaults.contains (kind.val, index.toNat)) = true := by rw [hoff, hno]; decide
    refine (if_pos hd).trans (congrArg Host.Outcome.next ((if_neg hgo).trans ?_))
    rw [hu]
  case gone =>
    refine (if_pos hd).trans (congrArg Host.Outcome.next (if_pos ?_))
    rcases hgone with h | h
    · rw [h, Bool.true_or]
    · rw [h, Bool.or_true]
  case latched =>
    refine congrArg Host.Outcome.next (if_pos ?_)
    rcases h with h | h
    · rw [h, Bool.true_or]
    · rw [h, Bool.or_true]
  case trip =>
    have hgo : ¬(s.pwr.trip || s.pwr.stagesOff) = true := by rw [ht, hoff]; decide
    exact ⟨_, congrArg Host.Outcome.next (if_neg hgo), rfl, rfl, rfl, rfl⟩

end Sys2Proof.Machine
end

section
/-! PROOFS. Reset sources and episodes, bring-up and warm bring-up (R446, R447, R460, R461, R469, R480). -/

namespace Sys2Proof.Machine

/-- What the cause of a power-on detection notes before it asserts: the lockout of the input, or PWR_OK low. -/
theorem notedCause (cause : Fin 3) (s : State) :
    (let s := if cause.val = 2 then { s with rst := { s.rst with pwrOk := false } } else s
     if cause.val = 1 then { s with pwr := { s.pwr with lockout := true } } else s) =
      { s with
        rst := { s.rst with pwrOk := s.rst.pwrOk && decide (cause.val ≠ 2) }
        pwr := { s.pwr with lockout := s.pwr.lockout || decide (cause.val = 1) } } := by
  match cause with
  | 0 => simp
  | 1 => simp
  | 2 => simp

section
variable {test : BringTest} {s : State} (hc : coldRuns s = true)

include hc

/-- A cold bring-up that goes on handles its step. -/
theorem exec_bringupStepDone : exec (.bringupStepDone test) s = .next
    (if s.rst.step = 1 then
      if s.sec.nextJudge ≠ 0 then s
      else if (secureBoot s).sec.booted then endStep 1 test (secureBoot s) else secureBoot s
    else if s.rst.step = 12 then (if s.time.st = .locked then endStep 12 test s else s)
    else endStep s.rst.step test s) :=
  congrArg Host.Outcome.next (if_neg (by rw [hc]; decide))

/-- A step of a cold bring-up past its limit. -/
theorem exec_bringupStepTimeout (hlate : s.rst.stepSince + stepLimit s.rst.step < s.now) (hn : s.rst.step ≠ 13) :
    exec (.bringupStepTimeout test) s = .next
      (if 2 ≤ s.rst.step ∧ s.rst.step ≤ 5 then
        let v := failBringup s.rst.step s
        let u := { v with rst := { v.rst with state := 6, step := 0 } }
        raise 0x0B05 0 (cfgState v) (cfgState u) 0 0 u
      else if s.rst.step = 6 ∨ s.rst.step = 8 ∨ s.rst.step = 9 ∨ 11 ≤ s.rst.step then
        endStep s.rst.step test (failBringup s.rst.step s)
      else failBringup s.rst.step s) := by
  have hgo : (coldRuns s && decide (s.rst.stepSince + stepLimit s.rst.step < s.now) && s.rst.step != 13) = true := by
    rw [hc, decide_eq_true hlate, bne_iff_ne.mpr hn]; rfl
  exact congrArg Host.Outcome.next (if_pos hgo)

end

/-- Settles O51: sources by the pin and by power-on detection, the end of an episode by its level, and each step of
bring-up by the lemma of its row (exec_bringupStepDone, exec_bringupStepTimeout). -/
theorem resetRowsComplete : Obligations.ResetRowsComplete := by
  unfold Obligations.ResetRowsComplete
  refine ⟨fun s h => congrArg Host.Outcome.next (if_pos h), fun s h => ?release, fun cause s u hu => ?detect,
    fun s ep he hp => ?detectRelease, fun s u v ep level he hpin hpor hl hu hv => ?episodeEnd,
    fun test s hc h1 h12 => ?stepDone, fun test s hc h1 hj => ?bootDone, fun test s u hc hlate h2 h5 hu => ?failed,
    fun test s hc hlate hn => ?ends, fun test s hc hlate hn => ?noted, fun s hc h1 hj hdue => ?rejudge,
    fun s u h2 hw hh hu => ?warm⟩
  case release => exact congrArg Host.Outcome.next (if_neg (by rw [h]; decide))
  case detect =>
    rw [hu, ← notedCause]
    rfl
  case detectRelease =>
    refine congrArg Host.Outcome.next ?_
    simp only [he, hp, if_true]
  case episodeEnd =>
    have hlevel : (if ep.level = 2 ∧ (!s.rst.built) = true then 3 else ep.level) = level := by
      rw [hl]; simp only [Bool.not_eq_true']
    refine congrArg Host.Outcome.next ?_
    simp only [he, hpin, hpor, Bool.or_self, Bool.false_eq_true, if_false, hlevel, ← hu, ← hv]
  case stepDone =>
    rw [exec_bringupStepDone hc, if_neg h1]
    by_cases hn : s.rst.step = 12
    · rw [if_pos hn, if_pos (h12 hn), hn]
    · rw [if_neg hn]
  case bootDone => rw [exec_bringupStepDone hc, if_pos h1, if_neg (not_not.mpr hj)]
  case failed =>
    rw [exec_bringupStepTimeout hc hlate (by omega), if_pos ⟨h2, h5⟩, hu]
  case ends =>
    rw [exec_bringupStepTimeout hc hlate (by omega), if_neg (by omega), if_pos (by omega)]
  case noted =>
    rw [exec_bringupStepTimeout hc hlate (by omega), if_neg (by omega), if_neg (by omega)]
  case rejudge =>
    have hgo : (coldRuns s && s.rst.step == 1 && s.sec.nextJudge != 0 && decide (s.sec.nextJudge ≤ s.now)) = true := by
      rw [hc, h1, bne_iff_ne.mpr hj, decide_eq_true hdue]; rfl
    exact congrArg Host.Outcome.next (if_pos hgo)
  case warm =>
    rw [hu]
    exact congrArg Host.Outcome.next (if_pos ⟨h2, hw, hh⟩)

end Sys2Proof.Machine
end

section
/-! PROOFS. The interlock, failover, the headless module and saved records (R490, R493 to R497). -/

namespace Sys2Proof.Machine

section
variable {s : State} (hdue : s.sup.headlessDue = none)

include hdue

/-- SUP_HEADLESS with no decision waiting: only a headless module has something left to stop. -/
theorem exec_supHeadless (hp : s.sup.phase = 2) : exec .supHeadless s = .next
    (if s.cut.state ≠ .running then
      (if s.cut.safeDue then ceilingsZero { s with cut := { s.cut with safeDue := false } } else s)
    else if s.cut.safeDue ∧ s.schedBoundary then
      ceilingsZero { s with cut := { s.cut with safeDue := false, safeStop := true } }
    else if s.cut.safeStop ∧ drained s then haltRun 9 0 s
    else s) := by
  refine congrArg Host.Outcome.next ?_
  simp only [hdue]
  exact if_neg (not_not.mpr hp)

end

/-- A level-3 episode is what bars a failover; with no episode nothing does (R497). -/
theorem mayTakeHold {s : State} {g : Nat} (hp : s.sup.phase = 1) (hh : s.sup.hold = 0) (ha : s.sup.aReleased = true)
    (hd : s.sup.headlessDue = none) (hb : s.sup.bBooted = true) (hr : s.sup.released = some g)
    (hg : s.now ≤ g + 500000000) (hrun : procRuns s 2 = true) (he : s.rst.episode = none) :
    s.sup.phase = 1 ∧ s.sup.hold = 0 ∧ s.sup.aReleased = true ∧ s.sup.headlessDue.isNone = true ∧ s.sup.bBooted = true ∧
      s.now ≤ s.sup.released.getD 0 + 500000000 ∧ procRuns s 2 = true ∧
      s.rst.episode.all (fun ep => ep.level != 3) = true :=
  ⟨hp, hh, ha, by rw [hd]; rfl, hb, by rw [hr]; exact hg, hrun, by rw [he]; rfl⟩

/-- Settles O52: the interlock by its times, failover by its conditions (mayTakeHold), the safe stop by the state of the
run (exec_supHeadless). -/
theorem supervisorRowsComplete : Obligations.SupervisorRowsComplete := by
  unfold Obligations.SupervisorRowsComplete
  refine ⟨fun s h => congrArg Host.Outcome.next (if_pos h), fun s u hh hlate hu => ?released,
    fun s u g hp hh ha hd hb hr hg hrun he hu => ?failover, fun s g hr hp hh hd hlate => ?timeout,
    fun s g hd hb hg => ?headless, fun s hd hp hrun hdue hb => ?stops, fun s hd hp hrun hdue => ?noRun,
    fun s hd hp hrun hdue hstop hdr => ?halts, fun s hrun hb hst hat => ?written, fun ok s hrun hat => ?flash⟩
  case released =>
    have hgo : ¬(s.sup.hold = 0 ∨ s.now < s.sup.beat + 10 ^ 7) := not_or.mpr ⟨hh, Nat.not_lt.mpr hlate⟩
    rw [hu]
    exact congrArg Host.Outcome.next (if_neg hgo)
  case failover =>
    rw [hu]
    refine congrArg Host.Outcome.next ((if_pos (mayTakeHold hp hh ha hd hb hr hg hrun he)).trans ?_)
    simp only [hr, Option.getD_some]
  case timeout =>
    refine congrArg Host.Outcome.next ?_
    simp only [hr]
    exact if_pos ⟨hp, hh, by rw [hd]; rfl, hlate⟩
  case headless =>
    refine congrArg Host.Outcome.next ?_
    simp only [hd, hb, decide_eq_true hg, Bool.and_self, if_true]
  case stops => rw [exec_supHeadless hd hp, if_neg (not_not.mpr hrun), if_pos ⟨hdue, hb⟩]
  case noRun => rw [exec_supHeadless hd hp, if_pos hrun, if_pos hdue]
  case halts =>
    have hno : ¬(s.cut.safeDue = true ∧ s.schedBoundary = true) := by rw [hdue]; simp
    rw [exec_supHeadless hd hp, if_neg (not_not.mpr hrun), if_neg hno, if_pos ⟨hstop, hdr⟩]
  case written =>
    refine ⟨savedOf s ((s.sup.retained.map (·.seq)).headD 0 + 1), congrArg Host.Outcome.next (if_pos ?_), rfl⟩
    rw [hrun, hb, hst, decide_eq_true hat, Bool.true_or, Bool.true_or]
    rfl
  case flash =>
    refine congrArg Host.Outcome.next (if_pos ?_)
    rw [hrun, decide_eq_true hat]
    rfl

end Sys2Proof.Machine
end

section
/-! PROOFS. The TAP, the scan and the I3C target (R499 to R503, R508). -/

namespace Sys2Proof.Machine

/-- A code outside a list differs, as a number, from each that the list names. -/
theorem toNat_ne_of_notMem {n : Nat} {l : List (BitVec n)} {c b : BitVec n} (h : c ∉ l) (hb : b ∈ l) : c.toNat ≠ b.toNat :=
  fun e => h (BitVec.eq_of_toNat_eq e ▸ hb)

/-- A code that R501 does not list. -/
theorem exec_jtagBypass_unlisted {code : BitVec 8} (s : State) (h : code ∉ [0, 1, 2, 0x10, 0x11, 0xFF]) :
    exec (.jtagBypass code) s = .next (jtagRefuse s) := by
  have hne : ∀ b ∈ ([0, 1, 2, 0x10, 0x11, 0xFF] : List (BitVec 8)), code.toNat ≠ b.toNat := fun b => toNat_ne_of_notMem h
  have hbypass : ¬code.toNat = 0xFF := hne 0xFF (by decide)
  have hlisted : ¬(code.toNat = 0 ∨ code.toNat = 1 ∨ code.toNat = 2 ∨ code.toNat = 0x10 ∨ code.toNat = 0x11) := by
    rintro (e | e | e | e | e)
    · exact hne 0 (by decide) e
    · exact hne 1 (by decide) e
    · exact hne 2 (by decide) e
    · exact hne 0x10 (by decide) e
    · exact hne 0x11 (by decide) e
  exact congrArg Host.Outcome.next ((if_neg hbypass).trans (if_neg hlisted))

/-- The command of a FLASH instruction, while the slots are open (R502). -/
theorem exec_jtagFlash_open (a : BitVec 24) (command : BitVec 8) (data : BitVec 64) {s : State} (h : flashOpen s = true) :
    exec (.jtagFlash a command data) s = .next (match command.toNat with
      | 1 => jtagTake 0x10 (a.toNat + command.toNat * 2 ^ 24 +
          ofBytes (((List.range 8).map (a.toNat + ·)).map fun i => if inSlots i then (flashBytes s i 1).headD 0 else 0) *
            2 ^ 32) s
      | 2 => jtagTake 0x10 (a.toNat + command.toNat * 2 ^ 24 + data.toNat * 2 ^ 32)
          ((((List.range 8).map (a.toNat + ·)).zip (toBytes 8 data.toNat)).foldl
            (fun s x => if inSlots x.1 then flashStore x.1 [x.2] s else s) s)
      | 3 => jtagTake 0x10 (a.toNat + command.toNat * 2 ^ 24 + data.toNat * 2 ^ 32)
          (if inSlots a.toNat then flashErase (a.toNat / 4096 * 4096) 4096 s else s)
      | _ => jtagTake 0x10 (a.toNat + command.toNat * 2 ^ 24 + data.toNat * 2 ^ 32) s) := by
  refine congrArg Host.Outcome.next ((if_neg (by rw [h]; decide)).trans ?_)
  rfl

/-- INTSCAN is refused without scope scan, in a run, and for a panel off the dies (R500, R502). -/
theorem scanBarred {s : State} {k : Nat} (h : bit s.scopesNow 2 = false ∨ s.cut.state = .armed ∨ s.cut.state = .running ∨
      s.cut.state = .paused ∨ 0x1000 ≤ k ∨ 288 < k % 512) :
    (!bit s.scopesNow 2 || s.cut.state == .armed || s.cut.state == .running || s.cut.state == .paused ||
      !decide (k < 0x1000 ∧ k % 512 ≤ 288)) = true := by
  have hpanel : 0x1000 ≤ k ∨ 288 < k % 512 → (!decide (k < 0x1000 ∧ k % 512 ≤ 288)) = true := fun h => by
    rw [decide_eq_false (by omega)]; rfl
  rcases h with h | h | h | h | h
  · simp only [h, Bool.not_false, Bool.true_or]
  · simp only [h, beq_self_eq_true, Bool.or_true, Bool.true_or]
  · simp only [h, beq_self_eq_true, Bool.or_true, Bool.true_or]
  · simp only [h, beq_self_eq_true, Bool.or_true, Bool.true_or]
  · rw [hpanel h, Bool.or_true]

theorem scanAllowed {s : State} {k : Nat} (hs : bit s.scopesNow 2 = true) (ha : s.cut.state ≠ .armed)
    (hr : s.cut.state ≠ .running) (hp : s.cut.state ≠ .paused) (hk : k < 0x1000) (hm : k % 512 ≤ 288) :
    ¬(!bit s.scopesNow 2 || s.cut.state == .armed || s.cut.state == .running || s.cut.state == .paused ||
      !decide (k < 0x1000 ∧ k % 512 ≤ 288)) = true := by
  rw [hs, beq_false_of_ne ha, beq_false_of_ne hr, beq_false_of_ne hp, decide_eq_true ⟨hk, hm⟩]
  decide

/-- Settles O53: the TAP by its instruction and by what R500 has open, the scan by the conditions of R502, I3C by its bytes. -/
theorem debugPortRowsComplete : Obligations.DebugPortRowsComplete := by
  unfold Obligations.DebugPortRowsComplete
  refine ⟨fun s => ⟨rfl, rfl, fun _ => rfl, fun _ => rfl, rfl, fun _ => rfl, fun _ => rfl⟩,
    fun code s h => exec_jtagBypass_unlisted s h, fun a data s h => ?flashRead, fun a data s h => ?flashWrite,
    fun a data s h hin => ?flashErase, fun a data s h hout => ?noErase, fun a command data s h hc => ?otherCommand,
    fun a command data s h => ?shut, fun panel s u n hs ha hr hp hk hm hn hu => ?scans, fun panel s h => ?refused,
    fun _ _ => rfl, fun _ _ _ _ => rfl, fun count s snap hsnap => ?reads⟩
  case flashRead =>
    rw [exec_jtagFlash_open a 1 data h]
    exact congrArg Host.Outcome.next (congrArg (fun d => jtagTake 0x10 d s) (by simp))
  case flashWrite => rw [exec_jtagFlash_open a 2 data h]; rfl
  case flashErase =>
    rw [exec_jtagFlash_open a 3 data h, hin]; rfl
  case noErase =>
    rw [exec_jtagFlash_open a 3 data h, hout]; rfl
  case otherCommand =>
    have hne : ∀ b ∈ ([1, 2, 3] : List (BitVec 8)), command.toNat ≠ b.toNat := fun b => toNat_ne_of_notMem hc
    have h1 : command.toNat ≠ 1 := hne 1 (by decide)
    have h2 : command.toNat ≠ 2 := hne 2 (by decide)
    have h3 : command.toNat ≠ 3 := hne 3 (by decide)
    rw [exec_jtagFlash_open a command data h]
    split
    · next e => exact absurd e h1
    · next e => exact absurd e h2
    · next e => exact absurd e h3
    · rfl
  case shut => exact congrArg Host.Outcome.next (if_pos (by rw [h]; rfl))
  case scans =>
    rw [hu, hn]
    exact congrArg Host.Outcome.next (if_neg (scanAllowed hs ha hr hp hk hm))
  case refused => exact congrArg Host.Outcome.next (if_pos (scanBarred h))
  case reads =>
    rw [hsnap]
    rfl

end Sys2Proof.Machine
end
